-- ==== Sys2Proof/Word.lean ====
section
/-! DEFINITION. The widths of the hardware's words, and the sparse map every array of the state is held in. -/
namespace Sys2Proof

abbrev Byte := BitVec 8
abbrev Half := BitVec 16
abbrev Word := BitVec 32
abbrev DWord := BitVec 64

/-- A sparse array: (index, value) pairs, indices strictly rising, no entry equal to the array's default. -/
abbrev Store (α : Type) := List (Nat × α)

end Sys2Proof
end

