-- ==== Sys2Proof/Syntax.lean ====
section
/-! DEFINITION. The commands of the block: one constructor of Instr per row of spec/opcode_table.json. An operand is what the
command brings from outside: where it acts, what was received, what was measured, what a test found. -/
namespace Sys2Proof

/-- Who writes or reads a register (Table of R56: OWNER codes 1, 2, 3). -/
inductive Origin where
  | host | stairwell | mgmt
  deriving DecidableEq, Repr

abbrev Port := Fin 48
abbrev Str := Fin 48
/-- Contactor channel c = 64 × link + 8 × address + k (R271). -/
abbrev Chan := Fin 128
/-- QD-8 n = 8 × link + address. -/
abbrev Qd := Fin 16
abbrev CanIx := Fin 4
abbrev BufIx := Fin 64
abbrev Phase := Fin 6
/-- Safety input SI0–SI15: channel A of pair p is SI2p, channel B SI2p+1 (Table 12.1). -/
abbrev SafetyIn := Fin 16
abbrev BanPair := Fin 8
/-- Engines as CODE.ENGSEL numbers them: 0–11 port sequencer g, 12 limit engine, 13 wake checker. -/
abbrev Engine := Fin 14
abbrev RegIx := Fin 16

/-- A frame on a chain line (Tables 03.2, 03.3). -/
structure ChainFrame where
  typ : Byte
  dir : BitVec 2
  hop : BitVec 6
  term : Byte
  flags : Byte
  seq : Half
  len : Byte
  payload : List Byte
  hcrc : Byte
  pcrc : Word
  deriving DecidableEq, Repr

/-- A CAN frame (R386, R392). `id` holds a standard identifier in its low 11 bits when `xtd` is false. -/
structure CanFrame where
  id : BitVec 29
  xtd : Bool
  fdf : Bool
  brs : Bool
  dlc : BitVec 4
  data : List Byte
  deriving DecidableEq, Repr

/-- The operand of an ALU instruction, MOV, LD, ST, LDC or EMIT (Table 08.3). -/
inductive Opnd where
  | reg (a : RegIx)
  | imm (a : RegIx)
  | ext (w : Half)
  | extHi (w : Half)
  deriving DecidableEq, Repr

/-- Conditions of BR and BRU (R208). -/
inductive Cond where
  | eq | ne | lt | ge
  deriving DecidableEq, Repr

/-- What a current channel presents at a sample instant (R142, R143): the sum of 2b − 1 over the modulator bits taken into A and the
bit periods since the last snapshot (the corrections of R148 and R149 come on top), and the sinc3 output centred on t_N as 2d − 1
in units of 2^-31. -/
structure CurIn where
  ch : Str
  dA : Int
  dB : Nat
  inst : Int
  deriving DecidableEq, Repr

/-- The modulator a status frame comes from (R140, R285). -/
inductive ModSrc where
  | string (c : Str) | phase (k : Phase) | voa | vob | vi
  deriving DecidableEq, Repr

inductive Mode where
  | start | dormant | commission | ready | joining | online | lockout
  deriving DecidableEq, Repr

inductive Role where
  | starting | active | standby | passive | unavailable | singleOp
  deriving DecidableEq, Repr

inductive SyncSt where
  | none | syncing | synced | degraded
  deriving DecidableEq, Repr

/-- A partner HEARTBEAT frame (Table 14.2). -/
structure Heartbeat where
  role : Role
  term : Byte
  epoch : Word
  mode : Mode
  sync : SyncSt
  eligible : Bool
  primary : Bool
  deriving DecidableEq, Repr

inductive JoinSec where
  | idle | feed | forming | first | sweep | run
  deriving DecidableEq, Repr

inductive ConvSt where
  | off | starting | regulating | stopping | retryWait | latched | handover
  deriving DecidableEq, Repr

inductive JoinSt where
  | opened | armed | negClosing | probe | posClosing | closed | opening | blocked
  deriving DecidableEq, Repr

/-- The items a STATE message carries (Tables 14.2, 14.4). -/
structure StateMsg where
  mode : Mode
  causes : BitVec 5
  firstCause : Byte
  join : JoinSec
  joinFirst : BitVec 6
  strings : List (Nat × JoinSt)
  closes : List (Nat × Half)
  conv : ConvSt
  convOut : BitVec 6
  convSenseLost : BitVec 6
  convRetries : Nat
  convFault : Word
  genId : Word
  switchEpoch : Word
  nextSeq : List (Nat × Half)
  wear : List (Nat × Nat × Nat × Nat)
  deriving DecidableEq, Repr

/-- The Banister state of the partner (R327): per pair and per source (tones as a mask, SAFE sources), and whether a LOCKOUT of
cause BANISTER is in force there. -/
structure BanPeer where
  demand : BitVec 8
  latched : BitVec 8
  fault : BitVec 8
  tones : BitVec 48
  safe : BitVec 4
  lockout : Bool
  deriving DecidableEq, Repr

/-- One shuttle of a plan: module (40 × port + hop − 1), cell, signed current in 20 mA units (+ cell to stack). -/
structure Shuttle where
  module : Nat
  cell : Nat
  cur : Int
  deriving DecidableEq, Repr

/-- The items of the join sequence of R363. -/
inductive SyncItem where
  /-- Step 1: strap and firmware version (VERSION, COMPAT_MIN, COMPAT_MAX) of the partner. -/
  | hello (primary : Bool) (version compatMin compatMax : Word)
  /-- Step 2: generation ID in force there. -/
  | generation (id : Word)
  /-- Step 3: device time, epoch number, t_base. -/
  | time (now : Nat) (epoch : Word) (tBase : Nat)
  /-- Step 4: term, mode, LOCKOUT causes, Banister latches, wear counts. -/
  | status (term : Byte) (mode : Mode) (causes : BitVec 5) (first : Byte) (latched : BitVec 8)
      (wear : List (Nat × Nat × Nat × Nat))
  /-- Step 5: one context image. -/
  | image (bytes : List Byte)
  | plan (p : List Shuttle)
  | join (sec : JoinSec) (strings : List (Nat × JoinSt)) (closes : List (Nat × Half))
  | converter (st : ConvSt) (fault : Word)
  | gallerySeq (n : Word)
  /-- A verified CODE image mirrored to the partner (R232). -/
  | code (bytes : List Byte)
  /-- The last item of step 5 has been received. -/
  | complete
  deriving DecidableEq, Repr

/-- What the swap drill found (R378 steps 2–4). -/
structure DrillResult where
  echoFailed : List Nat
  qdFailed : Byte
  canFailed : Bool
  deriving DecidableEq, Repr

/-- Lanes of a host transaction (Table 16.4). -/
inductive Lanes where
  | one | two | four
  deriving DecidableEq, Repr

/-- Detected CAN error (CANx.ERRS.LASTERR codes 1–6). -/
inductive CanErr where
  | bitRec | bitDom | stuff | form | crc | ack
  deriving DecidableEq, Repr

/-- A string's contactors or the FEED contactor. -/
inductive Leg where
  | string (s : Str) | feed
  deriving DecidableEq, Repr

/-- Stairwell access levels (R467, STW.STAT.LEVEL). -/
inductive Level where
  | out | view | service | factory
  deriving DecidableEq, Repr

/-- Result of Table 13.5 for one core. -/
abbrev CorePass := Bool

/-- THE COMMANDS, one per row of the table and in its order. -/
inductive Instr where
  | powerOn
  | vinUndervoltage
  | resetN (lowNs : Nat)
  | startupSupplySettled
  | startupStrapsRead (pairRoleHigh bootSelHigh : Bool)
  | firmwareImageChecked
  | generationSelected
  | startupSelftestPassed (bistOk : Bool) (failedPattern : Option Nat) (walkFail : Option Nat)
  | roleWaitTimeout
  | portsStarted
  | modulesAuthenticated
  | restoreWaitEnd
  | sampleInstant (cur : List CurIn)
  | sampleLaunch (p : Port)
  | epochComputation
  | dataTrigger
  | epochCommit (busyUs lateUs : Nat)
  | dataStall
  | dataStallOpenAll
  | grading
  | protFrameRepeat
  | disconnectDeadline (s : Str) (i : Int)
  | breakSafeOpen (s : Str) (i1 i2 : Int)
  | brkWaitOpen (s : Str) (i : Int)
  | insulationStatus (f : CanFrame)
  | insTimeout
  | restReq (s : Str)
  | capDrift
  | hopcalPeriodic (p : Port)
  | hopcalDone (p : Port) (rtts : List (List Nat))
  | wrlearnPeriodic
  | chainFrame (p : Port) (f : ChainFrame)
  | tone (p : Port) (f : ChainFrame)
  | staleTerm (p : Port) (f : ChainFrame)
  | responseTimeout (p : Port) (seq : Half)
  | chainSilent (p : Port)
  | recoveryProbe (p : Port)
  | reenumeration (p : Port)
  | wakeTone (p : Port)
  | wakePatternMask (p : Port) (durationMs : Nat)
  | modStatusFrame (src : ModSrc) (bytes : List Byte)
  | tempStale (c : Str)
  | streamLost (c : Str) (bit : Bool)
  | streamRecovered (c : Str)
  | ocTrip (c : Str) (outputs : List Int)
  | ocClear (c : Str) (outputs : List Int)
  | brkHoldClear (c : Str) (outputs : List Int)
  | clkTaken (n : Phase) (stretchNs : Nat) (ones : List Nat) (byPartner : Bool)
  | offsetWindowStart (s : Str)
  | offsetLearned (s : Str)
  | engineTimer (e : Engine)
  | txdone (p : Port) (buf : Fin 4)
  | waitTimeout (e : Engine)
  | budgetOut (e : Engine)
  | mov (e : Engine) (d : RegIx) (op : Opnd)
  | add (e : Engine) (d : RegIx) (op : Opnd)
  | sub (e : Engine) (d : RegIx) (op : Opnd)
  | mul (e : Engine) (d : RegIx) (op : Opnd)
  | mulq (e : Engine) (d : RegIx) (op : Opnd)
  | div (e : Engine) (d : RegIx) (op : Opnd)
  | and (e : Engine) (d : RegIx) (op : Opnd)
  | or (e : Engine) (d : RegIx) (op : Opnd)
  | xor (e : Engine) (d : RegIx) (op : Opnd)
  | shl (e : Engine) (d : RegIx) (op : Opnd)
  | shr (e : Engine) (d : RegIx) (op : Opnd)
  | sra (e : Engine) (d : RegIx) (op : Opnd)
  | min (e : Engine) (d : RegIx) (op : Opnd)
  | max (e : Engine) (d : RegIx) (op : Opnd)
  | clamp (e : Engine) (d a : RegIx)
  | ld (e : Engine) (d a : RegIx) (off : Option Half)
  | st (e : Engine) (d a : RegIx) (off : Option Half)
  | ldc (e : Engine) (d a : RegIx) (off : Option Half)
  | br (e : Engine) (d a : RegIx) (c : Cond) (target : Half)
  | bru (e : Engine) (d a : RegIx) (c : Cond) (target : Half)
  | call (e : Engine) (target : Half)
  | ret (e : Engine)
  | tlerp (e : Engine) (d a : RegIx) (table : Half)
  | send (e : Engine) (d a : RegIx)
  | recv (e : Engine) (d a : RegIx)
  | wait (e : Engine) (d : RegIx) (mask : Half)
  | emit (e : Engine) (d : RegIx) (slot : Opnd)
  | halt (e : Engine)
  | codeData (o : Origin) (v : Word)
  | load (o : Origin)
  | codeAbort (o : Origin)
  | protClear (o : Origin)
  | actuatorRefresh
  | qdResponse (link : Fin 2) (bytes : List Byte)
  | qdLost (n : Qd)
  | auxDebounced (c : Chan) (closed : Bool)
  | closeFail (c : Chan)
  | openFail (c : Chan)
  | weldCheck (leg : Leg)
  | weldClr (o : Origin) (sel : BitVec 6)
  | joinCtrlStart (o : Origin)
  | joinCtrlAbort (o : Origin)
  | joinOpen (o : Origin) (high : Bool) (mask : Word)
  | probeEnd (s : Str)
  | joinTmo
  | runClose (s : Str)
  | voltageLoop (voaMv vobMv viMv : Int)
  | currentLoop (phaseMa : List Int)
  | phaseOc (k : Phase) (i1 i2 : Int)
  | failedOpen (k : Phase)
  | senseLost (k : Phase)
  | shortDetect (clampMs : Nat) (riseMv : Int)
  | retryWaitEnd
  | sag
  | lineLost (lineB : Bool)
  | lineRecovered (lineB : Bool)
  | viLost
  | stopRampEnd
  | converterOff
  | bfcSyncEdge (intervalNs : Nat)
  | bfcSyncLost (lastIntervalNs : Nat)
  | netsFree (waitUs : Nat)
  | bfcClear (o : Origin) (v : Word)
  | peakRead (o : Origin) (q : Fin 16)
  | bvlSet (frame : DWord) (edges minPeriodNs : Nat)
  | bvlPoll (frame : DWord) (edges minPeriodNs : Nat)
  | bvlSilent (sinceMs : Nat)
  | channelDemand (ch : SafetyIn)
  | channelRelease (ch : SafetyIn)
  | discrep (p : BanPair) (diffUs : Nat)
  | testPulse (k : Fin 4)
  | testPulseCheck (ch : SafetyIn) (lowUs : Nat)
  | tpLost (k : Fin 4)
  | permitTimeout
  | peerDisagree (p : BanPair)
  | safeFrameTx
  | safeFrame (netB : Bool) (f : CanFrame)
  | safeSingle (r : Fin 4)
  | safeTimeout (r : Fin 4)
  | soTestPulse (k : Fin 4)
  | soFault (k : Fin 5) (read : Bool)
  | walk (o : Origin)
  | walkEnd (failedNode : Option Nat)
  | thSel (o : Origin) (v : Word)
  | windowTick (mainClosed checkerClosed : Bool) (sigMain sigChecker : DWord) (differing : List (Nat × Word × Word))
  | gateTimeout
  | coreFault (checker : Bool)
  | coreSelftestEnd (mainPass checkerPass : CorePass)
  | singleSelftest (pass : CorePass)
  | singleExpired
  | split (o : Origin)
  | rejoin (o : Origin)
  | heartbeat (h : Heartbeat)
  | heartbeatTx
  | time (sentAt echoOf echoRx received : Nat)
  | timeTx
  /-- The cause 0–4 in the order of the HANDOVER record: the new active device records it and runs the drill of a swap. -/
  | handoverRequest (instant cause : Nat)
  | handoverAccept (at_ : Nat)
  | handoverRefuse
  | handoverInstant
  | pairBanister (b : BanPeer)
  | banisterTx
  | state (m : StateMsg)
  | stateTx
  | block (epoch : Word) (blocks : List (Nat × Half × Half))
  | plan (epoch : Word) (p : List Shuttle)
  | context (kind : Byte) (applyEpoch : Word) (image : List Byte)
  | gseq (n : Word)
  | sync (item : SyncItem)
  | segmentTimeout (typ : Byte)
  | laneDown (k : Fin 2)
  | pathSilent (alive : Bool)
  | termProbe
  | baseIdResume
  | revert
  | swap (o : Origin)
  | drillCheck (r : DrillResult)
  | restart (o : Origin)
  | genSwitchPropose
  | dormantRoleTimeout
  | canFrameRx (x : CanIx) (f : CanFrame) (stamp : Nat)
  | canTxSent (x : CanIx) (b : BufIx)
  | canError (x : CanIx) (err : CanErr) (transmitting : Bool)
  | busOffWaitEnd (x : CanIx)
  | canRecovered (x : CanIx)
  | txLaunch (x : CanIx) (b : BufIx) (sofAt : Nat)
  | txExpire (x : CanIx) (b : BufIx)
  | queue (o : Origin) (x : CanIx) (b : BufIx)
  | withdraw (o : Origin) (x : CanIx) (b : BufIx)
  | canWake (x : CanIx) (frame : Option CanFrame)
  | wakeMasked (x : CanIx) (durationUs : Nat)
  | wakeRearm (o : Origin) (x : CanIx) (recessiveMs : Nat)
  | syncInEdge (at_ : Nat)
  | syncInMiss
  | syncOutPulse
  | refMessageTx
  | refMessageRx (x : CanIx) (f : CanFrame) (stamp : Nat)
  | masterCandidateStart
  | read (lanes : Lanes) (addr : Word) (len hcrc : Half)
  | write (lanes : Lanes) (addr : Word) (words : List Word) (hcrc dcrc : Half) (csEarly : Bool)
  | fifoRead (lanes : Lanes) (addr : Word) (len hcrc : Half)
  | hostCmdError (cmd : Byte)
  | hallOpen (o : Origin)
  | hallClose (o : Origin)
  | fifoFlush (o : Origin)
  | wakeClr (o : Origin)
  | restoreSlotWrite (addr : Word) (v : Word)
  | rsubmit (o : Origin) (v : Word)
  | imageValidated
  | lowWordRead (o : Origin) (addr : Word)
  | ctxWord0Read (o : Origin)
  | unlock (o : Origin) (page : BitVec 7) (key : Word)
  | lock (o : Origin) (page : BitVec 7)
  | evtClear (o : Origin) (page : BitVec 7) (mask : Word)
  | registerWrite (o : Origin) (addr v : Word)
  | hopcal (o : Origin) (p : Port)
  | reenum (o : Origin) (p : Port)
  | wrlearn (o : Origin)
  | wbclr (o : Origin) (high : Bool) (mask : Word)
  | offlearn (o : Origin)
  | imgNow (o : Origin)
  | restoreDone (o : Origin)
  | reqDormant (o : Origin) (portsWithoutEcho : List Nat)
  | reqCommission (o : Origin)
  | reqReady (o : Origin)
  | rrGo (o : Origin) (causes : BitVec 5)
  | canRemoteReset (f : CanFrame)
  | wakeIn
  | wakeSequenceDone
  | landingExit
  | wmaskRearm (o : Origin) (high : Bool) (mask quiet : Word)
  | fwOpen (o : Origin)
  | fwEraseDone
  | fwData (o : Origin) (v : Word)
  | fwVerify (o : Origin)
  | fwVerifyDone
  | fwPrefer (o : Origin)
  | galleryStore
  | galOpen (o : Origin)
  | galFirst (o : Origin)
  | galNext (o : Origin)
  | galSeek (o : Origin) (target : Word)
  | galNewest (o : Origin)
  | galClose (o : Origin)
  | galClearlog (o : Origin) (entry : Word)
  | galClear (o : Origin)
  | galClearDone
  | stwHelp
  | stwLogin (level : Level) (password : List Byte)
  | stwLogout
  | baud (r : Nat)
  | baudSwitch
  | peek (addr : Word) (n : Nat)
  | stwHall (off : Word) (n : Nat)
  | poke (addr v : Word)
  | trace (p : Port) (n : Nat) (tones : Bool)
  | coreHalt
  | coreStep (n : Nat)
  | coreRegs
  | coreMem (addr : Word) (n : Nat)
  | coreWrite (addr v : Word)
  | coreResume
  | otpStage (image : List Byte)
  | stwIdleTimeout
  | stwBreak
  | loginHoldEnd
  | kick (o : Origin)
  | mgmtWatchdogMiss
  | mgmtRestartDone
  | shed (loadPct : Nat)
  | stageClr (o : Origin)
  | stgData (o : Origin) (v : Word)
  | otpVerify (o : Origin)
  | commit (o : Origin)
  | commitDone (readBackOk : Bool)
  | switch (o : Origin)
  | abandon (o : Origin)
  | keysetWr (o : Origin)
  | round (o : Origin)
  | authChallengeDue
  | vinSurge (peak10mV durationMs : Nat)
  | vauxFault (currentMa : Nat)
  | vauxRetry (overload : Bool)
  | tjHigh (tj : Int)
  | tjHighClear (tj : Int)
  | mailboxServe
  | plAliveEdge (halfPeriodUs : Nat)
  | tpDrive (k : Fin 4)
  | vinSurgeEnd (durationMs : Nat)
  | revertRequest
  | partnerVerify (ok : Bool)
  deriving DecidableEq, Repr

end Sys2Proof
end

