-- ==== Sys2Proof/Config.lean ====
section
/-! DEFINITION. What an implementation fixes and the manual leaves open: the FREE VALUES (constants without a body),
and the constants of the product that the manual gives. -/
namespace Sys2Proof.Config

/-- Free value number n of a two-way choice (R504, R319, R323): the state's counter `fresh` picks n. -/
opaque freeBool : Nat → Bool
/-- Free value number n of a word the manual does not state. -/
opaque freeWord : Nat → Word

/-- Data word a of the ROM program of engine e, whose content the manual does not give, at sample instant n. -/
opaque romData : Nat → Nat → Nat → Word

/-- Which neighbour a real result takes when it is not a whole number of the register's units; the manual states no
rounding (log 5). -/
opaque roundUp : Rat → Bool
/-- The last unit, 10^-9, of a square root or a logarithm; the manual states no precision (log 4). -/
opaque lastUnit : Rat → Bool

/-- The answer of the ECDSA P-256 check of R441 under the Holtior public key, which the manual does not give (log 10):
a function of the signed bytes and the signature. -/
opaque ecdsaOk : List Byte → List Byte → Bool

/-- The initial diagonal of the covariance P of R167 (R179 names it and gives no value). -/
opaque rlsDiagonal : Rat

/-- The current-loop gain K_C of R290: the manual states where it places the crossover (f_sw / 5) and not its value. Arguments:
f_sw in Hz, phase inductance in H, V_in and V_out in V. -/
opaque currentGain : Rat → Rat → Rat → Rat → Rat

/-- The converter's rated input current, A (Table 09.2 names it; the manual gives neither its value nor a field for it). -/
opaque convRatedInput : Rat

/-- VERSION (0), COMPAT_MIN (1), COMPAT_MAX (2) and SVN (3) of the factory image in region A, which the manual does not give. -/
opaque factoryImage : Nat → Word

/-- Bytes 0–3 of the BODY_HASH of the factory generation G0; the manual says that they are not 0. -/
opaque g0Id : Word
/-- The other words 0–63 of G0's header (Table 19.2). -/
opaque g0Header : Nat → Word
/-- The grade of the module that DEV.CAP.GRADE tells: CYM-4800-AX, else CYM-4800-AL (R9). -/
opaque gradeIsAX : Bool

/-- Content of the generation blocks of Table 19.3 whose byte layout the manual does not give (log 8): block identifier and
block bytes give the value of each field, by the field's address, and of each numbered item of plant data. -/
opaque blockField : Nat → List Byte → Nat → Word
opaque blockPlant : Nat → List Byte → Nat → Int
opaque blockOpt : Nat → List Byte → Nat → Option Int
/-- Staging rule check of Table 19.4 step 5 on the items held in those blocks. -/
opaque blockRulesOk : Nat → List Byte → Bool
/-- Worst-case busy time in µs of a configuration at the slow corner, normal form and catch-up form (R495): the manual gives
the rule and not the figures. -/
opaque busyNormal : List Byte → Nat
opaque busyCatchup : List Byte → Nat

/-- Section capacity, Table 00.1. -/
def stringsMax : Nat := 48
def portsMax : Nat := 48
def hopsMax : Nat := 40
def cellsMax : Nat := 16
def sensorsMax : Nat := 8
def channelsMax : Nat := 128

/-- Capacities of R21, R26, R201, R392, R417, R419, R465. -/
def mailboxMax : Nat := 32
def appendMax : Nat := 64
def canFifoMax : Nat := 32
def hostFifoMax : Nat := 4096
def clearLogMax : Nat := 256

end Sys2Proof.Config
end

