-- ==== Sys2Proof/Machine/State.lean ====
section
/-! DEFINITION. The state of the block: every register, buffer, counter, mode and latch the manual names, as plain data, and
State.reset. Arrays are sparse (`Store`): an entry that is not listed has the record's default fields. -/
namespace Sys2Proof.Machine

/-- A byte memory: staging buffers, image regions, OTP slots. An unlisted byte reads 0 (log 14). -/
abbrev Memory := List Host.Cell

/-- The canonical form of a memory: addresses strictly rising, no listed byte equal to 0. -/
def Memory.wf : Memory → Bool
  | [] => true
  | [c] => c.2 != 0
  | c :: d :: t => c.2 != 0 && decide (c.1 < d.1) && Memory.wf (d :: t)

/-- Fault reasons. -/
inductive Fault where
  /-- Raised by VIN_SURGE (R507): VIN above 100 V, or above 65 V for longer than 400 ms; the manual says the behaviour is not
  defined. Safe: the model stops where the hardware does something unknown. -/
  | supplyBeyondRating
  deriving DecidableEq, Repr

/-- Refusal reasons. -/
inductive Refusal where
  /-- Raised by a dispatch arm of a command without a meaning. Safe: nothing is claimed of it. -/
  | notModelled (mnemonic : String)
  deriving DecidableEq, Repr

/-- What the block drives outside (model's own field `out`, newest first, log 16). -/
inductive Out where
  /-- A chain frame on SPp_TX (R73). -/
  | chain (p : Nat) (f : ChainFrame)
  /-- A wake pulse on SPp_TX (Table 03.1). -/
  | wakePulse (p : Nat)
  /-- A frame of CAN controller x (R386). -/
  | can (x : Nat) (f : CanFrame)
  /-- A command frame to QD-8 n on its actuator link (R263): SEQ, action nibble word of its eight channels. -/
  | qd (n : Nat) (bytes : List Byte)
  /-- Text of the Stairwell (R467), without the prompt. -/
  | text (line : String)
  | textWords (ws : List Word)
  /-- Answer of the host port: STATUS, COUNT and data words (R412, Table 16.5). -/
  | host (status count : Nat) (ws : List Word)
  /-- A BVL acknowledgement (R305). -/
  | bvl (frame : DWord)
  /-- A pair-link message (Table 14.2): type, LSEQ of its first frame, MSG, words. -/
  | pair (typ : Nat) (lseq msg : Half) (ws : List Word)
  /-- A flow emission to the host FIFO, CAN or pair link (R421). -/
  | flow (f : Nat) (ws : List Word)
  /-- A pulse on a pad: name, index, width in µs. -/
  | pulse (pad : String) (i widthUs : Nat)
  deriving DecidableEq, Repr

/-! ### Time base, start-up, supply (01, 17, 21) -/

/-- The source device time or t_base is locked to (R394). -/
inductive SyncSrc where
  | none | syncIn | ntm | pair
  deriving DecidableEq, Repr

structure TimeSt where
  /-- Device time, ns (R41). -/
  now : Nat := 0
  /-- Which of the six oscillator periods of a 125 ns group comes next (log 2). -/
  oscPhase : Fin 6 := 0
  /-- Epoch number of the latest sampled epoch, 0 before the first (R28). -/
  epoch : Word := 0
  /-- t_N = tBase + N × tEpoch (R27), ns; tBase may be below 0. -/
  tBase : Int := 0
  /-- T_epoch in force, ms (R27). -/
  tEpochMs : Nat := 10
  /-- Sample instants are scheduled. -/
  sampling : Bool := false
  /-- Offset being slewed at 50 ppm, ns, the device time at which that began, and the total corrected before (R42). -/
  slew : Int := 0
  slewAt : Nat := 0
  slewn : Int := 0
  /-- Time in operation since the start, ns (R457). -/
  opNs : Nat := 0
  deriving DecidableEq, Repr

structure LoadSt where
  load : Nat := 0
  max : Nat := 0
  catchup : Bool := false
  catchups : Nat := 0
  overruns : Nat := 0
  /-- LOAD of the latest 16 epochs, newest first (R448). -/
  last16 : List Nat := []
  deriving DecidableEq, Repr

structure StartSt where
  powered : Bool := false
  /-- Start-up step in progress, 0 after start-up (MODE.STAT.STEP). -/
  step : Nat := 0
  bootHold : Bool := false
  /-- End times of the steps, ms, oldest first (record STARTUP). -/
  ends : List Nat := []
  poweredAt : Nat := 0
  /-- PAIR_ROLE strap: primary (R503). -/
  primary : Bool := true
  bootSel : Bool := false
  /-- Start-up runs on only G0 (Table 17.7). -/
  onlyG0 : Bool := true
  /-- The term has been set by R90 or taken from the partner. -/
  termSet : Bool := false
  /-- This start has completed (R441, R443). -/
  completed : Bool := false
  /-- LOCKOUT causes that this restart clears once its self-tests pass (R433). -/
  leaving : BitVec 5 := 0
  deriving DecidableEq, Repr

structure SupplySt where
  /-- VIN, 10 mV units. -/
  vin : Nat := 0
  tj : Int := 0
  tjMax : Int := 0
  tjHigh : Bool := false
  vauxFault : Bool := false
  vinSurge : Bool := false
  surgePeak : Nat := 0
  deriving DecidableEq, Repr

/-! ### Register pages and mailbox (02) -/

structure PageSt where
  evt : Word := 0
  evten : Word := 0
  /-- Origin that unlocked: 0 none, 1 host, 2 Stairwell, 3 management firmware (R56). -/
  owner : Nat := 0
  cfgseq : Word := 0
  deriving DecidableEq, Repr

/-- A mailbox entry (R21). -/
structure MbxEntry where
  origin : Origin
  page : Nat
  offset : Nat
  value : Word
  level : Level
  deriving DecidableEq, Repr

/-- An accepted data-plane or time-base write that waits for the sample instant (R52, R526). -/
structure ShadowWrite where
  origin : Origin
  page : Nat
  offset : Nat
  value : Word
  deriving DecidableEq, Repr

structure DevSt where
  clipped : Bool := false
  lockFail : Bool := false
  mbxstat : Word := 0
  /-- HOST_IRQ is derived; WAKE_OUT asserted (R418). -/
  wakeOut : Bool := false
  deriving DecidableEq, Repr

/-- Latched high words of 64-bit reads (R55), per origin. -/
structure LatchSt where
  high : Word := 0
  /-- Register address whose high word is latched, 0 none. -/
  highOf : Nat := 0
  ctx : List Word := []
  deriving DecidableEq, Repr

/-! ### Gallery, Stairwell, management plane (18) -/

/-- A record on its way to the ring (R457): header fields are those of the event. -/
structure GalEntry where
  typ : Nat
  /-- 1 control, 2 data, 3 management (FLAGS bits [2:1]). -/
  plane : Nat
  payload : List Word
  opHours : Nat
  opSec : Nat
  pcc : Nat
  primary : Bool
  deriving DecidableEq, Repr

/-- A stored record. -/
structure GalRec where
  seq : Nat
  e : GalEntry
  lastSec : Nat := 0
  repeats : Nat := 0
  /-- CRC word. -/
  crc : Word := 0
  deriving DecidableEq, Repr

/-- A read session (R462). -/
structure GalSession where
  /-- RD_STAT.STATE: 0 closed, 1 open, 3 loaded, 4 END, 5 NOT_FOUND. -/
  state : Nat := 0
  cursor : Nat := 0
  lo : Nat := 0
  hi : Nat := 0
  openRec : Bool := false
  lapped : Bool := false
  crcBad : Bool := false
  window : List Word := []
  /-- RD_SEQ as written. -/
  target : Word := 0
  deriving DecidableEq, Repr

structure GalSt where
  fifo : List GalEntry := []
  /-- Lost entries since the last lost-records record: count, first and last TYPE (R26). -/
  lost : Nat := 0
  lostFirst : Nat := 0
  lostLast : Nat := 0
  lostTotal : Nat := 0
  ring : List GalRec := []
  /-- SEQ of the next record stored (R458). -/
  nextSeq : Nat := 1
  /-- Repeat journal: SEQ, word 4, CRC (R460). -/
  journal : Option (Nat × Word × Word) := none
  clearLog : List GalRec := []
  /-- CLR_SEQ of the latest clear. -/
  lastClr : Nat := 0
  clearing : Option (Origin × Nat) := none
  sessions : Store GalSession := []
  /-- Operating time up to this start, s (R457). -/
  opTime : Nat := 0
  pcc : Nat := 0
  deriving DecidableEq, Repr

structure StwSt where
  level : Level := .out
  fails : Nat := 0
  /-- End of the login hold, ns. -/
  hold : Option Nat := none
  baud : Nat := 115200
  /-- Rate scheduled by baud and its instant. -/
  newBaud : Option (Nat × Nat) := none
  halted : Bool := false
  /-- Device time of the latest command. -/
  lastCmd : Nat := 0
  /-- Running trace: port, frames left, fault tones as well. -/
  trace : Option (Nat × Nat × Bool) := none
  deriving DecidableEq, Repr

structure MgmtSt where
  restarting : Bool := false
  shed : Nat := 0
  deriving DecidableEq, Repr

/-! ### Settings generations, keys, authentication (19) -/

structure Slot where
  prog : Bool := false
  committed : Bool := false
  switched : Bool := false
  void : Bool := false
  /-- The 32 KiB of the slot, markers apart. -/
  mem : Memory := []
  deriving DecidableEq, Repr

/-- Staging state: OTP.STAT.STAGE. -/
inductive Stage where
  | empty | loading | verifying | verified | refused | programming
  deriving DecidableEq, Repr

/-- A key set (R472): plant, reset and challenge key, 32 bytes each. -/
structure KeySet where
  plant : List Byte
  reset : List Byte
  challenge : List Byte
  deriving DecidableEq, Repr

/-- The settings generation in force (R473, Table 19.3). -/
structure GenSt where
  slot : Nat := 0
  /-- First four bytes of BODY_HASH (R476); G0 takes 0 (log 9). -/
  id : Word := 0
  sectionId : DWord := 0
  keyset : Nat := 0
  single : Bool := false
  /-- SHA-256 of header bytes 0–183, which PREV_HASH of the successor names. -/
  hdrHash : List Byte := []
  /-- Values of the "gen" fields, by register address; the walls of R50. -/
  regs : Store Word := []
  /-- Plant data of the blocks TOPOLOGY, CHANNELS, CELL_TABLES, FLOWS, CAN, by item number (log 8). -/
  plant : Store Int := []
  /-- Stair-code images of the PROGRAMS block, by engine (R231). -/
  progs : Store (List Byte) := []
  /-- View, service and safety entries: salt and result; none where all zero (R474). -/
  view : Option (List Byte × List Byte) := none
  service : Option (List Byte × List Byte) := none
  safety : Option (List Byte × List Byte) := none
  deriving DecidableEq, Repr

structure OtpSt where
  stage : Stage := .empty
  reason : Nat := 0
  buf : Memory := []
  origin : Origin := .mgmt
  slots : Store Slot := []
  /-- Factory entry of G0 (R480). -/
  factory : Option (List Byte × List Byte) := none
  inForce : Nat := 0
  fallback : Bool := false
  keys : Store (Option KeySet) := []
  /-- OTP.PW0–PW7 and OTP.KEYw as written. -/
  pw : Store Word := []
  keyw : Store Word := []
  /-- OTP.SVN minimum (R443). -/
  svnMin : Nat := 0
  deriving DecidableEq, Repr

/-- The generation switch in progress (R35). -/
structure SwitchSt where
  /-- SWITCH has been accepted for this slot. -/
  asked : Option Nat := none
  /-- Proposed epoch, not yet confirmed. -/
  proposed : Option Word := none
  /-- The confirmed switch epoch and the slot. -/
  confirmed : Option Word := none
  /-- Generation ID the partner has committed and accepted. -/
  partnerHas : Option Word := none
  deriving DecidableEq, Repr

structure AuthSt where
  /-- Modules still to be challenged in the running round. -/
  round : List Nat := []
  roundOn : Bool := false
  /-- Rotation cursor. -/
  cursor : Nat := 0
  /-- Modules challenged in the epoch in progress and the one before: (module, epoch, t_E, term). -/
  sent : List (Nat × Word × Nat × Byte) := []
  deferredSince : Option Nat := none
  deriving DecidableEq, Repr

/-! ### Modes, landings, firmware (17) -/

/-- A transition accepted and not yet in effect (R428). -/
structure Transition where
  target : Mode
  /-- Origin code of the request, 0 for a request raised inside the device. -/
  origin : Nat
  /-- Openings must complete first (R431). -/
  afterOpenings : Bool := false
  deriving DecidableEq, Repr

structure ModeSt where
  mode : Mode := .start
  causes : BitVec 5 := 0
  first : Nat := 0
  /-- LOCKOUT causes requested and not yet in force. -/
  reqCauses : BitVec 5 := 0
  reqFirst : Nat := 0
  lockoutNow : Bool := false
  trans : Option Transition := none
  guardReq : Nat := 0
  guardFailed : BitVec 12 := 0
  rrEpoch : Word := 0
  rrMac0 : Word := 0
  rrMac1 : Word := 0
  rrCauses : BitVec 5 := 0
  rrLast : Word := 0
  deriving DecidableEq, Repr

structure LandSt where
  landing : Nat := 0
  wakeSrc : Nat := 0
  wakePort : Nat := 0
  mask : BitVec 48 := 0
  /-- Pending wake sources: ports; CANA–CAND and WAKE_IN (Table 08.7). -/
  pendPorts : BitVec 48 := 0
  pendOther : BitVec 5 := 0
  /-- Last instant a wake pattern was seen per port, ns. -/
  patternAt : Store Nat := []
  next : Nat := 0
  /-- Residence per landing, ns, and the instant the present one began. -/
  residence : Store Nat := []
  since : Nat := 0
  /-- Exit scheduled at this device time. -/
  exitAt : Option Nat := none
  waking : Bool := false
  /-- Device was ACTIVE at dormant entry (R454). -/
  wasActive : Bool := true
  wakePayload : Word := 0
  /-- The WAKE record of the wake in progress is still to be written; its source and port. -/
  wakeRec : Bool := false
  deriving DecidableEq, Repr

/-- What a firmware region holds (log 9: the factory image A is not given byte by byte). -/
inductive FwImage where
  | empty
  | factory
  | written (mem : Memory)
  deriving DecidableEq, Repr

inductive FwState where
  | empty | erasing | writing | verifying | valid | invalid | bad
  deriving DecidableEq, Repr

structure FwSt where
  /-- Region running and region preferred: false A, true B. -/
  runningB : Bool := false
  preferredB : Bool := false
  badA : Bool := false
  badB : Bool := false
  /-- Consecutive starts that did not complete, and that completed, per region. -/
  failA : Nat := 0
  failB : Nat := 0
  goodRuns : Nat := 0
  imageA : FwImage := .factory
  imageB : FwImage := .empty
  state : FwState := .empty
  /-- OPEN has erased the region (FW_DATA then accepted). -/
  opened : Bool := false
  reason : Nat := 0
  deriving DecidableEq, Repr

/-! ### Stack ports, cell sensing, string current (03, 04, 05) -/

/-- PSEQg.STAT.STATE. -/
inductive PortState where
  | off | enumerating | running | silent | broken | recovering | refused
  deriving DecidableEq, Repr

/-- An addressed command that awaits its response (R88). -/
structure InFlight where
  frame : ChainFrame
  hop : Nat
  resends : Nat := 0
  deriving DecidableEq, Repr

structure PortSt where
  state : PortState := .off
  hFound : Nat := 0
  breakHop : Nat := 0
  /-- t_u and t_hop,cal in 1/16 ns (R95). -/
  tU : Nat := 0
  tHop : Nat := 0
  calibrated : Bool := false
  /-- A calibration waiting for the sample instant (R96). -/
  newCal : Option (Nat × Nat) := none
  resid : Nat := 0
  budget : Nat := 0
  alignWide : Bool := false
  nextSeq : Half := 0
  /-- SEQ block of the epoch: S, m, used (R87). -/
  blockS : Half := 0
  blockM : Nat := 0
  blockUsed : Nat := 0
  toneHeld : Bool := false
  toneBits : BitVec 4 := 0
  setRun : Nat := 0
  clearRun : Nat := 0
  chainSilent : Bool := false
  /-- Start of the interruption (R105), ns. -/
  downSince : Nat := 0
  /-- Return to RUNNING at the next sample instant (R105). -/
  toRunning : Bool := false
  echoFound : Bool := false
  cleanTone : Bool := false
  silenceSleep : Bool := true
  enumAt : Nat := 0
  /-- SEQ of the ENUM whose responses are being collected. -/
  enumSeq : Option Half := none
  /-- Its responses have been collected; the port waits for its configuration. -/
  enumGot : Bool := false
  /-- Wire under test before the port first enters RUNNING (R123). -/
  testWire : Option Nat := none
  /-- Enumerated under the generation in force at this start. -/
  enumerated : Bool := false
  /-- Its modules are to be challenged once it runs (R485). -/
  authOwed : Bool := false
  /-- First epoch sampled since enumeration still to come (R116). -/
  firstSample : Bool := true
  /-- Epoch of the latest full temperature conversion (R116). -/
  tempEpoch : Option Word := none
  inFlight : List InFlight := []
  resends : Nat := 0
  rxDrop : Nat := 0
  emitMismatch : Nat := 0
  staleIgnored : Nat := 0
  /-- Payload prepared for the SAMPLE in TX buffer 0 has been launched for the epoch. -/
  sampleSent : Bool := false
  /-- Wire-resistance learning (R134): module, step and epoch of the step that the next conversion carries; none where idle. -/
  learn : Option (Nat × Nat × Nat) := none
  /-- The BAL_SET of that conversion has been sent. -/
  learnCmd : Bool := false
  wbOut : Bool := false
  /-- Confirmed wire breaks of the string: (module, wire). -/
  breaks : List (Nat × Nat) := []
  /-- Start of the wire-break outage (R128), ns. -/
  wbSince : Option Nat := none
  deriving DecidableEq, Repr

/-- What ENUM reported of a monitor (Table 03.6), and its authentication (19). -/
structure Monitor where
  answered : Bool := false
  serial : DWord := 0
  version : Half := 0
  cells : Nat := 0
  temps : Nat := 0
  termValid : Bool := false
  term : Byte := 0
  /-- Context serial (R182). -/
  ctxSerial : DWord := 0
  /-- Another serial has answered: it and the epoch at which the contexts restart. -/
  swap : Option (DWord × Word) := none
  verified : Bool := false
  unverified : Bool := false
  authTries : Nat := 0
  /-- OP_HOURS of Table 06.7: hours at device time `opFrom`. -/
  opHours : Nat := 0
  opFrom : Nat := 0
  /-- ADDR_HIGH of a dual-ended chain. -/
  high : Nat := 0
  deriving DecidableEq, Repr

/-- One temperature input (R116–R120). -/
structure Temp where
  value : Int := 0
  /-- Any reading since start. -/
  seen : Bool := false
  /-- A valid reading since start (R160). -/
  good : Bool := false
  open_ : Bool := false
  short : Bool := false
  range : Bool := false
  /-- NOT_CONVERTED flag; set until the first reading. -/
  notConv : Bool := true
  notConvRun : Nat := 0
  broken : Bool := false
  goodRun : Nat := 0
  epoch : Word := 0
  deriving DecidableEq, Repr

/-- Sensing state of a module (index 40 × port + hop − 1). -/
structure Module where
  near : Bool := false
  nearRun : Nat := 0
  refMv : Int := 0
  refSuspect : Bool := false
  refFault : Bool := false
  stack : Word := 0
  stackValid : Bool := false
  /-- A stack reading has been given since the port's latest enumeration (R239). -/
  stackSeen : Bool := false
  stackMismatch : Bool := false
  /-- Cell values and D of earlier epochs, newest first: cells by number (none where UNMEASURED or HELD), V_stack − Σ V. -/
  hist : List (List (Option Int) × Option Int) := []
  /-- OPENWIRE asked for by suspicion: wires. -/
  suspect : List Nat := []
  tableValid : Bool := false
  wireRecorded : Bool := false
  /-- Learning: on and off cell values of the running step. -/
  learnOn : List Int := []
  learnSum : List Int := []
  learnPairs : Nat := 0
  /-- String current of the on epoch, mA. -/
  learnI : Int := 0
  /-- A suspicion of the present pattern has been recorded. -/
  patterned : List Nat := []
  deriving DecidableEq, Repr

/-- Wire w of a module (index 17 × module + w). -/
structure Wire where
  /-- Learned resistance, 10 µΩ. -/
  res : Nat := 0
  valid : Bool := false
  highr : Bool := false
  brokenRun : Nat := 0
  inconclusive : Nat := 0
  intactRun : Nat := 0
  broken : Bool := false
  shift0 : Int := 0
  shift1 : Int := 0
  deriving DecidableEq, Repr

/-- Sensing state of a cell (index 640 × port + 16 × (hop − 1) + cell). -/
structure Cell where
  /-- Latest own reading, 100 µV; 0xFFFF none. -/
  raw : Nat := 0xFFFF
  /-- Voltage of the latest epoch computed and of the one before, in the Hall form (R136). -/
  v : Nat := 0xFFFF
  vPrev : Nat := 0xFFFF
  /-- Flag word of R136: sensing bits [7:0], estimator bits [15:8]. -/
  flags : BitVec 16 := 0
  heldRun : Nat := 0
  /-- Epochs left of DEVIANT. -/
  deviantLeft : Nat := 0
  /-- Last unaffected value. -/
  lastGood : Nat := 0xFFFF
  pairSum : Bool := false
  stackDerived : Bool := false
  /-- Epochs without a valid own reading (level grading of UNMEASURED). -/
  unmeasRun : Nat := 0
  deriving DecidableEq, Repr

/-- Snapshot of a channel at a sample instant (R143). -/
structure Snap where
  a : Int := 0
  b : Nat := 0
  g : Nat := 0
  /-- Sinc3 output as 2d − 1 in 2^-31, none where the channel is LOST. -/
  inst : Option Int := none
  /-- Flags of R143 as at the instant, GAP apart. -/
  flags : Nat := 0
  /-- T_shunt in 0.1 °C and OFFSET in 2^-31 counts per bit as at the instant (R145). -/
  dieT : Int := 0
  off : Int := 0
  deriving DecidableEq, Repr

/-- An offset learning window (R146). -/
structure OffWin where
  a : Int
  b : Nat
  endAt : Nat
  deriving DecidableEq, Repr

structure ChanSt where
  a : Int := 0
  b : Nat := 0
  g : Nat := 0
  snap : Snap := {}
  /-- Snapshot of the last epoch computed; none before the first. -/
  prev : Option Snap := none
  iNow : Int := 0
  lost : Bool := false
  /-- G when the loss began; device time up to which G has counted it; instant of the last recovery. -/
  lostG : Nat := 0
  lostFrom : Nat := 0
  recovered : Option Nat := none
  statusRun : Nat := 0
  statusBad : Bool := false
  statusBadAt : Nat := 0
  tempStale : Bool := false
  dieT : Int := 0
  statusCount : Byte := 0
  overrange : Bool := false
  interp : Bool := false
  gap : Bool := false
  offsetSuspect : Bool := false
  oc : Bool := false
  ocDis : Bool := false
  brkHold : Bool := false
  /-- OC was set or cleared while the hold was set: the open request is owed. -/
  owed : Bool := false
  peak : Int := 0
  /-- Learned OFFSET, 2^-31 counts per bit; none while the generation value applies. -/
  offset : Option Int := none
  newOffset : Option Int := none
  window : Option OffWin := none
  /-- OFFLEARN has asked for a window. -/
  learnReq : Bool := false
  lastLearn : Option Nat := none
  /-- Instant the second contactor reported open. -/
  openedAt : Option Nat := none
  deriving DecidableEq, Repr

/-! ### Limits, protection, contactors, join, converter (09, 10, 11) -/

/-- A limit slot 4s + j of R220 (s = 48 section; j: CHG A, DIS A, CHG W, DIS W). -/
structure SlotSt where
  /-- Value emitted in the window, mA or W. -/
  value : Int := 0
  emitted : Bool := false
  stale : Bool := false
  clipped : Bool := false
  /-- Value of stage 1 in the previous epoch (R215, R238). -/
  prev : Int := 0
  deriving DecidableEq, Repr

/-- Grading of one quantity (R241–R243): index 16 × string + q, string 48 the section. -/
structure LevelSt where
  /-- Levels entered and not left: bit k − 1 is level k. -/
  entered : BitVec 5 := 0
  /-- Consecutive epochs beyond threshold k, k = 1–5. -/
  outw : List Nat := [0, 0, 0, 0, 0]
  /-- Consecutive epochs inward of threshold k by the hysteresis, k = 1–3. -/
  inward : List Nat := [0, 0, 0]
  /-- Start of the time inward of the level-2 threshold (REARM_T), ns. -/
  rearmSince : Option Nat := none
  /-- Consecutive epochs of a loss (CHAIN, SENSE, CUR_LOST). -/
  lossRun : Nat := 0
  value : Int := 0
  deriving DecidableEq, Repr

/-- Origin of an opening (Table 09.10). -/
inductive DiscOrigin where
  | graded (q level : Nat)
  | dataStall | wireBreak | site | fastOc | banister | joinAbort | lockout | contactor | core
  deriving DecidableEq, Repr

/-- A soft disconnect wait of a string (R254). -/
structure WaitSt where
  waiting : Bool := false
  deadline : Nat := 0
  since : Nat := 0
  origin : DiscOrigin := .site
  brkWait : Bool := false
  deriving DecidableEq, Repr

structure ProtSt where
  insKohm : Nat := 0
  insSeen : Bool := false
  insCounter : Option Byte := none
  /-- Instant of the last good frame. -/
  insAt : Nat := 0
  insStale : Bool := false
  dataStall : Bool := false
  stallLevel : Nat := 0
  stallSince : Nat := 0
  lastCommit : Nat := 0
  lastCommitEpoch : Word := 0
  /-- Request fields of the last frame sent: flags and strings (R251). -/
  frameFlags : Nat := 0
  frameStrings : BitVec 48 := 0
  frameEpoch : Word := 0
  deriving DecidableEq, Repr

/-- Join and contactor state of a string. -/
structure StrSt where
  st : JoinSt := .opened
  openByProt : Bool := false
  weldNeg : Bool := false
  weldPos : Bool := false
  discUnproven : Bool := false
  /-- Weld check pending: instant of the open command; epochs counted, any |ΔV| ≥ WELD_DV seen, any current above. -/
  openCmdAt : Option Nat := none
  weldRun : Nat := 0
  weldHot : Nat := 0
  weldDv : Bool := false
  probeEnd : Nat := 0
  probeHot : Bool := false
  /-- Epochs within ΔV_join in RUN (J_DEB). -/
  jdeb : Nat := 0
  closedAt : Nat := 0
  /-- V_str − V_bus at the decision of the POS close. -/
  posDv : Option Rat := none
  /-- Site request waiting (JOIN.OPEN0/1 reads 1). -/
  siteOpen : Bool := false
  share : Rat := 0
  deriving DecidableEq, Repr

/-- A contactor channel c (R271, R272). -/
structure CoilSt where
  /-- Refresh SEQ from which CLOSE is sent; none: not assigned (R270). -/
  closeSeq : Option Nat := none
  coil : Bool := false
  icoil : Nat := 0
  econ : Bool := false
  cfault : Bool := false
  auxRaw : Bool := false
  auxRun : Nat := 0
  /-- Debounced auxiliary, type corrected. -/
  aux : Bool := false
  auxSuspended : Bool := false
  stuck : Bool := false
  openedAt : Option Nat := none
  closedAt : Option Nat := none
  openFail : Bool := false
  ops : Nat := 0
  underLoad : Nat := 0
  iInt : Nat := 0
  deriving DecidableEq, Repr

structure QdSt where
  term : Byte := 0
  dieT : Int := 0
  timeoutSeen : Bool := false
  safeOff : Bool := false
  supplyOk : Bool := false
  missed : Nat := 0
  good : Nat := 0
  lost : Bool := false
  deriving DecidableEq, Repr

structure JoinState where
  sec : JoinSec := .idle
  first : Nat := 0
  tries : Nat := 0
  startedAt : Nat := 0
  /-- FEED weld check passed in this join. -/
  feedProven : Bool := false
  feedWeld : Bool := false
  feedOpenAt : Option Nat := none
  /-- V_bus of the latest committed epoch, V, none while invalid (R273). -/
  vBus : Option Rat := none
  thSel : Nat := 0
  thValid : Bool := false
  deriving DecidableEq, Repr

/-- 1 ms, 100 ms and 1 s averages and the present value of a converter quantity (R295). -/
structure TelSt where
  now : Rat := 0
  avg1 : Rat := 0
  avg100 : Rat := 0
  avg1s : Rat := 0
  /-- Peak since the previous sample instant. -/
  peak : Rat := 0
  /-- Held peaks by origin code 1–3. -/
  held : Store Rat := []
  /-- Values of the latest second, 10 µs apart, newest first. -/
  hist : List Rat := []
  deriving DecidableEq, Repr

structure BfcSt where
  st : ConvSt := .off
  failedOpen : BitVec 6 := 0
  senseLost : BitVec 6 := 0
  driving : Bool := false
  /-- Reference r, V. -/
  r : Rat := 0
  integral : Rat := 0
  iRef : Rat := 0
  clamped : Bool := false
  reached : Bool := false
  duty : Store Rat := []
  iPhase : Store Rat := []
  tPhase : Store Int := []
  vOut : Rat := 0
  vIn : Rat := 0
  tel : Store TelSt := []
  fseq : Nat := 0
  cause : Nat := 0
  also : Nat := 0
  detail : Nat := 0
  retriesUsed : Nat := 0
  retryEnd : Nat := 0
  stopEnd : Nat := 0
  stopFrom : Rat := 0
  voaLost : Bool := false
  vobLost : Bool := false
  viLost : Bool := false
  voa : Rat := 0
  vob : Rat := 0
  syncLock : Bool := false
  syncEdges : Nat := 0
  /-- PWM frequency in force, Hz. -/
  fNow : Nat := 50000
  badRun : Store Nat := []
  /-- The mirrored state from which HANDOVER was entered (R303). -/
  handFrom : ConvSt := .off
  deriving DecidableEq, Repr

structure BvlSt where
  seq : Byte := 0
  any : Bool := false
  /-- 0 none, 1 ACCEPT, 2 REFUSE, 3 REACHED. -/
  ack : Nat := 0
  reason : Nat := 0
  target : Nat := 0
  targetValid : Bool := false
  slew : Nat := 0
  /-- Effective target EFF, V (R293, Table 11.8). -/
  eff : Rat := 0
  silent : Bool := false
  rejCrc : Nat := 0
  rejFrame : Nat := 0
  lastFrame : Nat := 0
  deriving DecidableEq, Repr

/-! ### Banister (12) -/

/-- A safety input SI0–SI15. -/
structure SafeCh where
  demand : Bool := true
  stuck : Bool := false
  misses : Nat := 0
  passes : Nat := 0
  /-- Instants of the latest state changes, newest first (R322). -/
  changes : List Nat := []
  /-- Since when at its no-demand level, for the release of CHATTER. -/
  quietSince : Option Nat := none
  tpHeld : Bool := false
  deriving DecidableEq, Repr

structure BanPairSt where
  latched : Bool := false
  /-- Function in demand at the last evaluation. -/
  dem : Bool := true
  discrep : Bool := false
  /-- A change of one channel waits for the other (R319): instant, entering demand. -/
  waiting : Option (Nat × Bool) := none
  chatter : Bool := false
  /-- Channels have been cycled since DISCREP: entered demand within T_d, then left within T_d. -/
  cycIn : Bool := false
  cycled : Bool := false
  peer : Bool := false
  peerSince : Option Nat := none
  deriving DecidableEq, Repr

structure SafeSrc where
  demand : Bool := false
  latched : Bool := false
  timeout : Bool := false
  single : Bool := false
  mismatch : Bool := false
  seqA : Option Half := none
  seqB : Option Half := none
  lastAt : Nat := 0
  /-- First copy of a frame whose twin may come, of the identifier and of identifier + 1: SEQ, network B, instant, DEMAND byte. -/
  copy : Option (Half × Bool × Nat × Byte) := none
  copyP : Option (Half × Bool × Nat × Byte) := none
  deriving DecidableEq, Repr

structure ToneSrc where
  acting : Bool := false
  latched : Bool := false
  deriving DecidableEq, Repr

structure TpSt where
  drive : Bool := false
  lost : Bool := false
  lastSeen : Nat := 0
  seenRun : Nat := 0
  deriving DecidableEq, Repr

structure BanSt where
  so : BitVec 4 := 0
  bfcEn : Bool := false
  soFault : Bool := false
  walkPassed : Bool := false
  walking : Bool := false
  /-- PERMIT source acting (R326), PARTNER source acting (R327), PARTNER latched. -/
  permitActing : Bool := false
  partnerActing : Bool := false
  thOn : Bool := false
  thSince : Nat := 0
  /-- Both hands released since the last ON (R323); first hand's actuation instant. -/
  thArmed : Bool := false
  thFirst : Option Nat := none
  resetAt : Option Nat := none
  resetBad : Bool := false
  safeSeq : Half := 0
  /-- After L3 or L4 the outputs stay low until here (R309), ns. -/
  riseAt : Nat := 0
  peer : BanPeer := ⟨0, 0, 0, 0, 0, false⟩
  peerValid : Bool := false
  deriving DecidableEq, Repr

/-! ### Safety cores, device pair (13, 14) -/

/-- Cause of a mismatch (R341, R340, R346, R348). -/
inductive MisCause where
  | sig | lag | gate | input | coreFault
  deriving DecidableEq, Repr

/-- State of the core pair (SCOR.STAT.STATE, by name). -/
inductive CoreState where
  | dual | selftest | singleMain | singleChecker | noCore | split | rejoining | halted
  deriving DecidableEq, Repr

structure ScorSt where
  st : CoreState := .dual
  compOk : Bool := false
  permit : Bool := false
  /-- Since when the permit is withdrawn, ns. -/
  withdrawnAt : Nat := 0
  mainIso : Bool := false
  chkIso : Bool := false
  /-- Latest mismatch: SCOR.MISM.CAUSE, DETAIL (core of a fault 0 main, 1 checker; failed pattern of the comparator test) and WINDOW. -/
  cause : Option MisCause := none
  detail : Nat := 0
  misWindow : Nat := 0
  unresolved : Bool := false
  sigMain : DWord := 0
  sigChk : DWord := 0
  /-- Number of the last window tick: tick k opens window k and ends window k - 1 (R341). -/
  window : Nat := 0
  /-- Rejoin window 1–3, 0 none (R353); rejoin ends a TRANSIENT or a split. -/
  rejoin : Nat := 0
  rejoinOfSplit : Bool := false
  mismatches : Nat := 0
  disagreements : Nat := 0
  /-- Consecutive windows with a difference, by input (R346). -/
  disRun : Store Nat := []
  /-- Instants of TRANSIENT outcomes, newest first. -/
  transAt : List Nat := []
  /-- LOCKOUT is to be requested once every string is open (R352). -/
  expiring : Bool := false
  selftestEnd : Nat := 0
  /-- A single core's repeated self-test runs until here (R351). -/
  holdUntil : Nat := 0
  /-- SINGLE clock, ns of operation since isolation; its start. -/
  singleSince : Option Nat := none
  singleExpired : Bool := false
  /-- Debug: actions replayed in the session; resume pending. -/
  actions : Nat := 0
  resuming : Bool := false
  /-- Debugger steps executed (model: the cores' program is not given). -/
  steps : Nat := 0
  /-- Data memory of the cores as debug writes have left it (R354). -/
  mem : Store Word := []
  deriving DecidableEq, Repr

structure Handover where
  instant : Nat
  /-- 0 MISMATCH, 1 LOCKOUT, 2 REVERT, 3 SWAP, 4 RESTART (the order of the HANDOVER record). -/
  cause : Nat
  tries : Nat
  accepted : Bool
  deriving DecidableEq, Repr

structure PairSt where
  role : Role := .starting
  partnerRole : Option Role := none
  sync : SyncSt := .none
  term : Byte := 0
  partnerTerm : Byte := 0
  partnerMode : Mode := .start
  partnerEligible : Bool := false
  partnerSynced : Bool := false
  /-- The partner joins this device: SYNCING. -/
  partnerSyncing : Bool := false
  fault : Bool := false
  compatFault : Bool := false
  genMismatch : Bool := false
  lane0Down : Bool := true
  lane1Down : Bool := true
  aliveLost : Bool := true
  linkDown : Bool := true
  /-- Role shown by PL_ALIVE_IN's half-period, µs; 0 none. -/
  alivePeriod : Nat := 0
  hasPartner : Bool := false
  handover : Option Handover := none
  /-- A swap drill is running; 0 none, 1 exchanging, 2 checking, 3 handing back. -/
  drill : Nat := 0
  drillResult : Nat := 0
  drillFailed : Nat := 0
  drillQd : Byte := 0
  drillCan : Bool := false
  lseq : Half := 0
  msgNo : Store Half := []
  /-- LOCKOUT of a device cause (4, 5) that waits for the end of a handover; 0 none. -/
  lockCause : Nat := 0
  /-- Step of the join sequence completed, 0–6 (R363). -/
  joinStep : Nat := 0
  /-- The join sequence is running: its hello has been sent; since when (R363). -/
  joining : Bool := false
  joinAt : Nat := 0
  baseHold : Option Nat := none
  takeovers : Nat := 0
  handovers : Nat := 0
  lastEpoch : Word := 0
  revertSince : Option Nat := none
  /-- Offset to the active's device time and link delay, ns (PAIR.SKEW). -/
  skew : Int := 0
  delay : Nat := 0
  /-- Partner's time in its last TIME frame, and own time at its receipt. -/
  timeSent : Nat := 0
  timeRx : Nat := 0
  /-- Start of the data-link outage, and length of the last one, ms. -/
  downAt : Nat := 0
  lastOutage : Nat := 0
  /-- LOCKOUT causes of the partner's last STATE. -/
  partnerCauses : BitVec 5 := 0
  /-- NEXT_SEQ mirrored, by port. -/
  nextSeq : Store Half := []
  /-- Epoch and blocks of the latest BLOCK frame: port, S, m. -/
  blockEpoch : Word := 0
  blocks : List (Nat × Half × Half) := []
  partnerGen : Word := 0
  stopRefresh : Bool := false
  waitUntil : Option Nat := none
  changed : Bool := false
  /-- Partly assembled message by TYPE: its MSG (R358). -/
  asm : Store Nat := []
  /-- No heartbeat path has returned since the partner was lost (R373). -/
  partnerLost : Bool := false
  deriving DecidableEq, Repr

/-! ### CAN, network time, Hall, flows, host (15, 16) -/

inductive CanMode where
  | off | active | listen | sleep
  deriving DecidableEq, Repr

inductive BufState where
  | idle | queued | sending | sent | withdrawn | expired
  deriving DecidableEq, Repr

/-- A transmit buffer (Table 15.2), index 64 × controller + buffer. -/
structure TxBuf where
  words : List Word := List.replicate 22 0
  st : BufState := .idle
  late : Bool := false
  eligible : Bool := false
  /-- LAUNCH lay in the past when the buffer was queued (R393). -/
  past : Bool := false
  /-- Withdrawal or expiry asked for during an attempt (R388). -/
  doomed : Option BufState := none
  /-- Rewrite held until the attempt ends. -/
  rewrite : Option (List Word) := none
  /-- Identifier of the attempt on the bus (R389). -/
  att : Option Nat := none
  flow : Option Nat := none
  deriving DecidableEq, Repr

structure RxEntry where
  f : CanFrame
  stamp : Nat
  deriving DecidableEq, Repr

structure CanSt where
  mode : CanMode := .off
  asleep : Bool := false
  tec : Nat := 0
  rxErr : Nat := 0
  lastErr : Nat := 0
  loop : Nat := 0
  busOff : Bool := false
  recovering : Bool := false
  busOffAt : Nat := 0
  wakeMasked : Bool := false
  fifo0 : List RxEntry := []
  fifo1 : List RxEntry := []
  lost0 : Nat := 0
  lost1 : Nat := 0
  deriving DecidableEq, Repr

structure SyncTime where
  src : SyncSrc := .none
  /-- SYNC_IN: lock, misses, qualifying edges, last edge. -/
  lock : Bool := false
  misses : Nat := 0
  edges : Nat := 0
  lastEdge : Nat := 0
  offset : Int := 0
  ntmLock : Bool := false
  /-- Highest priority heard and when. -/
  heard : Option (Nat × Nat) := none
  sending : Bool := false
  count : Byte := 0
  lastCount : Option Byte := none
  /-- Own stamp of the last reference message and the total slewed by then. -/
  lastStamp : Nat := 0
  slewnThen : Int := 0
  conflict : Bool := false
  lastTx : Option Nat := none
  deriving DecidableEq, Repr

/-- The control-plane status vector (R20). -/
structure StatusVec where
  mode : Mode := .start
  role : Role := .starting
  term : Byte := 0
  cause : Nat := 0
  close : BitVec 128 := 0
  aux : BitVec 128 := 0
  closed : BitVec 48 := 0
  conv : ConvSt := .off
  nAct : Nat := 0
  fcause : Nat := 0
  sec : JoinSec := .idle
  vOut : Int := 0
  vIn : Int := 0
  iOut : Int := 0
  power : Int := 0
  peakV : Int := 0
  peakI : Int := 0
  so : BitVec 4 := 0
  bfcEn : Bool := false
  tone : Bool := false
  demand : BitVec 8 := 0
  latched : BitVec 8 := 0
  vBus : Option Rat := none
  /-- Levels by 16 × string + q, zero and stall bits (R235 stage 4, R250). -/
  levels : Store Nat := []
  zero : Nat := 0
  insKohm : Nat := 0
  /-- Level words in the form of PROT.LVLs, s = 0–48, zero words not listed. -/
  lvlWords : Store Word := []
  /-- Join states by string. -/
  joins : Store JoinSt := []
  deriving DecidableEq, Repr

/-- An acquired epoch (R493). -/
structure RawEpoch where
  epoch : Word
  t : Nat
  sv : StatusVec
  snaps : Store Snap
  /-- Readings by cell, stack readings by module. -/
  volts : Store Nat := []
  stackVs : Store Nat := []
  shuttle : Store Half := []
  tempsRead : List Nat := []
  /-- READ_AUX responses received while an older epoch is not yet committed, with their modules: taken in at this epoch's computation. -/
  aux : List (Nat × ChainFrame) := []
  /-- Cells whose conversion fell within a test or a learning step. -/
  heldCells : List Nat := []
  /-- Learning phases the conversion carried: port, module, step, epoch of the step. -/
  learn : List (Nat × Nat × Nat × Nat) := []
  overrun : Bool := false
  catchup : Bool := false
  gapBefore : Bool := false
  /-- DATA has triggered the limit engine (R216). -/
  ready : Bool := false
  deriving DecidableEq, Repr

/-- A Hall bank (Table 16.1): the words are those of the committed epoch, by word index; unlisted words read 0, cell voltages
0xFFFF. -/
structure Bank where
  epoch : Word := 0
  words : Store Word := []
  deriving DecidableEq, Repr

structure Pin where
  owner : Origin
  bank : Option Nat
  age : Nat
  released : Bool
  deriving DecidableEq, Repr

structure HallSt where
  banks : Store Bank := []
  newest : Option Nat := none
  writing : Nat := 0
  former : Option Nat := none
  pin : Option Pin := none
  /-- Former holders of a released pin, whose reads are STALE. -/
  stale : List Origin := []
  deriving DecidableEq, Repr

structure FlowSt where
  desc : List Word := [0, 0, 0, 0]
  emitted : Nat := 0
  late : Nat := 0
  lastEpoch : Word := 0
  /-- Elements as last emitted, by element index. -/
  lastElems : Store Word := []
  /-- CAN frames that wait for a buffer of the flow: port of the image (48 where none), buffer words. -/
  queue : List (Nat × List Word) := []
  deriving DecidableEq, Repr

structure HostSt where
  fifo : List Word := []
  lossPending : Nat := 0
  deriving DecidableEq, Repr

inductive SlotState where
  | empty | submitted | validating | applied | refused
  deriving DecidableEq, Repr

structure RestoreSlot where
  mem : Memory := []
  written : Bool := false
  st : SlotState := .empty
  step : Nat := 0
  reason : Nat := 0
  apply : Half := 0
  deriving DecidableEq, Repr

/-! ### Estimation, charge shuttling, stair code (06, 07, 08) -/

/-- A rest point (R165): SOC_ocv, σ_ocv, its instant, and the charge counted since, C. -/
structure RestPt where
  soc : Rat
  sigma : Rat
  at_ : Nat
  q : Rat
  /-- Σ |q_sh| since (R187). -/
  qsh : Rat
  void : Bool
  deriving DecidableEq, Repr

/-- A cell context (Table 06.1), index 16 × module + cell. -/
structure Ctx where
  /-- The context has been started by R176; a cell without one is UNKNOWN. -/
  started : Bool := false
  soc : Rat := 50
  sigR : Rat := 50
  acc : Rat := 0
  /-- σ_int of the latest epoch. -/
  sig : Rat := 50
  d : Rat := 50
  cap : Rat := 0
  epsC : Rat := 0
  h : Rat := 1/2
  r0 : Rat := 0
  r1 : Rat := 0
  tau1 : Rat := 0
  r2 : Rat := 0
  tau2 : Rat := 0
  v1 : Rat := 0
  v2 : Rat := 0
  /-- θ and P of R167; the last two y and Ī; sums of the running period: V, Q, epochs. -/
  theta : List Rat := [0, 0, 0, 0, 0, 0]
  p : List (List Rat) := []
  y1 : Rat := 0
  y2 : Rat := 0
  i1 : Rat := 0
  i2 : Rat := 0
  sumV : Rat := 0
  sumQ : Rat := 0
  nSum : Nat := 0
  /-- Model periods whose update is deferred (R494), oldest first: Σ V, Q, epochs, epochs with a voltage, U. -/
  periods : List (List Rat) := []
  /-- Epochs of the period with a voltage; U of the latest period, mV. -/
  nV : Nat := 0
  u : Rat := 0
  /-- Weighted mean and mean square deviation of Ī, and weighted mean square of e (R168). -/
  excMean : Rat := 0
  excVar : Rat := 0
  eSq : Rat := 0
  eocv : Rat := 0
  /-- Since when the conditions of R168 hold. -/
  modelSince : Option Nat := none
  modelValid : Bool := false
  rest : Option RestPt := none
  thru : Rat := 0
  sLo : Rat := 0
  sHi : Rat := 100
  atRest : Bool := false
  restored : Bool := false
  unknown : Bool := true
  new_ : Bool := false
  forcedZero : Bool := false
  emptyHold : Bool := false
  /-- D takes its target at once in the next report (R164). -/
  fresh : Bool := true
  /-- The corrections of R162 for a started context still to be made in its first epoch (R179 step 7). -/
  correctFirst : Bool := false
  /-- |Δ SOC_int| counted since the last rest correction (A_ref), and charge counted in since a hold began (%). -/
  aRef : Rat := 0
  counted : Rat := 0
  shutRun : Nat := 0
  lastRest : Option Nat := none
  /-- The rest correction of the running rest period has been tried (R162). -/
  restTried : Bool := false
  /-- Voltages of the latest 60 s: (instant, 100 µV), newest first; kept until the restore wait has ended (R176). -/
  relax : List (Nat × Nat) := []
  deriving DecidableEq, Repr

/-- A string context. -/
structure SCtx where
  /-- Rest clock and no-rest clock, ns. -/
  rest : Nat := 0
  noRest : Nat := 0
  restReq : Bool := false
  /-- I_MEAN of the last epoch without GAP, mA (R157). -/
  iHold : Int := 0
  /-- Sample instant of the latest epoch since the port's enumeration without |I_MEAN| < I_REST (R176). -/
  noisyAt : Option Nat := none
  deriving DecidableEq, Repr

/-- A context image or mirror on its way to its apply epoch (R36). -/
structure StagedImage where
  port : Nat
  bytes : List Byte
  apply : Option Word
  fromPartner : Bool
  slot : Option Nat := none
  /-- The image came after the restore wait: only UNKNOWN cells take it (R177). -/
  late : Bool := false
  deriving DecidableEq, Repr

structure EstSt where
  /-- EST.STAT.RESTORE. -/
  restore : Nat := 0
  restoreFrom : Nat := 0
  restoreEnd : Nat := 0
  restWindow : Nat := 0
  imgNow : Bool := false
  staged : List StagedImage := []
  mirrored : Nat := 0
  restored : Nat := 0
  /-- Ports restored or mirrored at this start. -/
  portsDone : BitVec 48 := 0
  portsMirrored : BitVec 48 := 0
  /-- Captured images by port (R180). -/
  images : Store (List Byte) := []
  /-- Captures deferred by an epoch in catch-up form (R494). -/
  capOwed : BitVec 48 := 0
  /-- Sample instant of the last epoch computed. -/
  lastT : Option Nat := none
  /-- Operation counted toward CAP_DRIFT (R166), ns. -/
  drift : Nat := 0
  deriving DecidableEq, Repr

/-- Shuttle of a cell (index as Ctx): planned and commanded current, 20 mA units. -/
structure Shut where
  plan : Int := 0
  cmd : Int := 0
  /-- Runs of the shuttle, newest first: from, until (R194, R195), current. -/
  segs : List (Nat × Nat × Int) := []
  missRun : Nat := 0
  deriving DecidableEq, Repr

/-- Shuttling of a module: loss per 15 min bin (bin number, Wh), newest first. -/
structure ShutMod where
  bins : List (Nat × Rat) := []
  spent : Bool := false
  /-- A shuttle was planned in the previous epoch; a zero BAL_SET is owed. -/
  had : Bool := false
  zeroNext : Bool := false
  /-- The last BAL_SET has not been answered (R197). -/
  unanswered : Bool := false
  spreadDay : Option Nat := none
  /-- OPENWIRE tests of the module, newest first: from, until (R196). -/
  pauses : List (Nat × Nat) := []
  deriving DecidableEq, Repr

structure BalSt where
  stale : Bool := false
  /-- A plan deferred by an epoch in catch-up form (R494). -/
  planOwed : Bool := false
  /-- Plan mirrored by the active, with its epoch. -/
  mirrored : Option (Word × List Shuttle) := none
  deriving DecidableEq, Repr

/-- A WAIT in progress (R212). -/
structure EngWait where
  mask : Nat
  deadline : Option Nat
  d : RegIx
  deriving DecidableEq, Repr

/-- What an engine runs (CODE.ENGSTAT.SOURCE). -/
inductive EngSource where
  | rom | romExt | genImage | codeImage
  deriving DecidableEq, Repr

structure Eng where
  /-- s1–s15; s0 is never listed. -/
  regs : Store Word := []
  pc : Nat := 0
  prog : Store Half := []
  consts : Store Word := []
  data : Store Word := []
  /-- Return addresses, top first. -/
  stack : List Nat := []
  running : Bool := false
  wait : Option EngWait := none
  /-- Pending trigger bits (Table 08.5). -/
  trig : BitVec 6 := 0
  timer : Option Nat := none
  div0 : Bool := false
  epochLate : Bool := false
  merged : Nat := 0
  units : Nat := 0
  lastUnits : Nat := 0
  /-- Stopped for the rest of the window (R215, R225); consecutive windows that ended in BUDGET_OUT. -/
  stopped : Bool := false
  outRun : Nat := 0
  out : Bool := false
  source : EngSource := .rom
  fallback : Bool := false
  faults : Nat := 0
  timeHi : Word := 0
  imgCrc : Word := 0
  /-- Image in the idle bank, installed at its instant (R233); source `rom` returns the engine to its ROM program. -/
  next : Option (List Byte × EngSource) := none
  /-- The program came through the CODE page. -/
  fromCode : Bool := false
  /-- Port of the group whose extension call runs, 4 none; next port to be called in this epoch; registers the ROM has saved. -/
  ext : Nat := 4
  extNext : Nat := 4
  saved : Store Word := []
  /-- Data memory as the PSEQ window shows it: as at the latest sample instant; the ROM's part of it then (2 all, 1 words below
  0x100), and the number of the free values that part reads. -/
  shown : Store Word := []
  shownRom : Nat := 2
  shownFree : Nat := 0
  /-- RESERVEk (R224). -/
  reserve : Store Word := []
  /-- An EPOCH or DATA trigger has arrived while the previous activation still ran (R214). -/
  late : Bool := false
  /-- The fallback condition of R215 is met: ROM from the next window. -/
  falling : Bool := false
  deriving DecidableEq, Repr

structure TxChain where
  words : Store Word := []
  queued : Bool := false
  /-- Written since the previous SAMPLE (R223). -/
  fresh : Bool := false
  seq : Half := 0
  deriving DecidableEq, Repr

/-- RX buffers of a port: contents by buffer, unread ones oldest first, the one RECV returned last. -/
structure RxPort where
  bufs : Store (List Word) := []
  unread : List Nat := []
  held : Option Nat := none
  deriving DecidableEq, Repr

structure CodeSt where
  buf : Memory := []
  result : Nat := 0
  reason : Nat := 0
  errWord : Nat := 0
  /-- Verified image that waits for the partner's verification (R232). -/
  waiting : Option (List Byte) := none
  /-- Accepted image, installed at the next sample instant (R233). -/
  ready : Option (List Byte) := none
  deriving DecidableEq, Repr

/-- What the limit engine, grading and the join read of a string in one epoch (09, 10). Voltages in 100 µV, temperatures in
0.1 °C, currents in mA, SOC and σ in %. -/
structure StrEp where
  vStr : Option Nat := none
  vMax : Option Int := none
  vMin : Option Int := none
  tMax : Option Int := none
  tMin : Option Int := none
  /-- A module has no valid sensor; a sensor was read in this epoch. -/
  noSensor : Bool := false
  tRead : Bool := false
  dMin : Rat := 0
  dMax : Rat := 0
  dMean : Rat := 0
  sigMax : Rat := 0
  capMin : Rat := 0
  capSum : Rat := 0
  unknown : Bool := false
  /-- A cell is UNMEASURED other than as PAIR_SUM or STACK_DERIVED; a cell is PAIR_SUM or STACK_DERIVED; FORCED_ZERO. -/
  unmeas : Bool := false
  pairSum : Bool := false
  derived : Bool := false
  forced : Bool := false
  chainLost : Bool := false
  senseLost : Bool := false
  curLost : Bool := false
  iMean : Option Int := none
  iInst : Option Int := none
  q : Option Int := none
  gap : Bool := false
  deriving DecidableEq, Repr

/-! ### The state -/

structure State where
  /-- Commands waiting, first in first out. -/
  pending : List Instr := []
  /-- MODEL's own field: index of the next free value (log 15). -/
  fresh : Nat := 0
  /-- MODEL's own field: what the block has driven, newest first (log 16). -/
  out : List Out := []
  time : TimeSt := {}
  load : LoadSt := {}
  start : StartSt := {}
  supply : SupplySt := {}
  dev : DevSt := {}
  /-- Per page: EVT, EVTEN, LOCK owner, CFGSEQ. -/
  pages : Store PageSt := []
  /-- Values written to registers, by address (page × 0x1000 + offset), where they differ from the generation's or reset. -/
  regs : Store Word := []
  mbx : List MbxEntry := []
  shadow : List ShadowWrite := []
  /-- Latches per origin code (1 host, 2 Stairwell, 3 management firmware). -/
  latch : Store LatchSt := []
  gal : GalSt := {}
  stw : StwSt := {}
  mgmt : MgmtSt := {}
  gen : GenSt := {}
  otp : OtpSt := {}
  sw : SwitchSt := {}
  auth : AuthSt := {}
  mode : ModeSt := {}
  land : LandSt := {}
  fw : FwSt := {}
  ports : Store PortSt := []
  /-- By 40 × port + hop − 1. -/
  mons : Store Monitor := []
  mods : Store Module := []
  /-- By 8 × module + input. -/
  temps : Store Temp := []
  /-- By 17 × module + wire. -/
  wires : Store Wire := []
  /-- By 16 × module + cell. -/
  cells : Store Cell := []
  chans : Store ChanSt := []
  /-- CICLKn present at the pad, and driven by this device (R139). -/
  clkPresent : BitVec 6 := 0
  clkDrive : BitVec 6 := 0
  slots : Store SlotSt := []
  /-- Limits in force of the latest published epoch, by slot. -/
  limits : Store Int := []
  levels : Store LevelSt := []
  prot : ProtSt := {}
  waits : Store WaitSt := []
  strs : Store StrSt := []
  coils : Store CoilSt := []
  qds : Store QdSt := []
  /-- Refresh sequence number (R264). -/
  acSeq : Nat := 0
  join : JoinState := {}
  bfc : BfcSt := {}
  bvl : BvlSt := {}
  safeCh : Store SafeCh := []
  banPair : Store BanPairSt := []
  safeSrc : Store SafeSrc := []
  tones : Store ToneSrc := []
  tp : Store TpSt := []
  ban : BanSt := {}
  scor : ScorSt := {}
  pair : PairSt := {}
  cans : Store CanSt := []
  bufs : Store TxBuf := []
  syncT : SyncTime := {}
  /-- Epochs acquired and not yet started, oldest first, at most three (R493). -/
  acq : List RawEpoch := []
  /-- The epoch being computed; its results are in `slots`, `ctx` and the views. -/
  computing : Option RawEpoch := none
  sv : StatusVec := {}
  hall : HallSt := {}
  flows : Store FlowSt := []
  host : HostSt := {}
  rslots : Store RestoreSlot := []
  rqueue : List Nat := []
  /-- By 16 × module + cell. -/
  ctxs : Store Ctx := []
  sctxs : Store SCtx := []
  /-- Cell contexts as at the latest committed epoch. -/
  hCtx : Store Ctx := []
  est : EstSt := {}
  shuts : Store Shut := []
  shutMods : Store ShutMod := []
  bal : BalSt := {}
  engs : Store Eng := []
  /-- By 4 × port + buffer. -/
  txs : Store TxChain := []
  rxs : Store RxPort := []
  code : CodeSt := {}
  /-- String values of the epoch being computed, and of the latest committed epoch. -/
  sEp : Store StrEp := []
  hEp : Store StrEp := []
  deriving DecidableEq, Repr

/-- The machine right after reset: nothing powered, START shown, every register at its stated reset value and every field the
manual gives none at the value of log 3; the commands' queue empty. -/
def State.reset : State := {}

end Sys2Proof.Machine
end

