-- ==== Sys2Proof/Machine/Clock.lean ====
section
/-! DEFINITION. Device time (R41, R42). -/
namespace Sys2Proof.Machine

/-- Length of the oscillator period number k of a group of six (R41). -/
def oscStep (k : Fin 6) : Nat := if k = 5 then 20 else 21

/-- One period of the reference oscillator. Before power is applied the oscillator does not run. -/
def oscTick (s : State) : State :=
  if s.start.powered then
    { s with time := { s.time with now := s.time.now + oscStep s.time.oscPhase, opNs := s.time.opNs + oscStep s.time.oscPhase, oscPhase := s.time.oscPhase + 1 } }
  else s

end Sys2Proof.Machine
end

