-- ==== Sys2Proof/Machine/Access.lean ====
section
/-! DEFINITION. Reading and writing the arrays of the state: an entry that is not listed has the default fields, and an entry that
takes the default fields is not listed. -/
namespace Sys2Proof.Machine

/-- Entry k of a sparse array, d where it is not listed. -/
def sget {α : Type} (d : α) : Store α → Nat → α
  | [], _ => d
  | (i, x) :: t, k => if i = k then x else sget d t k

/-- Entry k, none where it is not listed. -/
def slook {α : Type} : Store α → Nat → Option α
  | [], _ => none
  | (i, x) :: t, k => if i = k then some x else slook t k

/-- The array without entry k. -/
def serase {α : Type} : Store α → Nat → Store α
  | [], _ => []
  | (i, x) :: t, k => if i = k then serase t k else (i, x) :: serase t k

/-- Inserts an entry in the place of its index. -/
def sins {α : Type} (k : Nat) (v : α) : Store α → Store α
  | [] => [(k, v)]
  | (i, x) :: t => if k < i then (k, v) :: (i, x) :: t else (i, x) :: sins k v t

/-- Writes entry k whatever its value. -/
def sput {α : Type} (st : Store α) (k : Nat) (v : α) : Store α := sins k v (serase st k)

/-- Writes entry k of an array whose unlisted entries are d. -/
def sset {α : Type} [DecidableEq α] (d : α) (st : Store α) (k : Nat) (v : α) : Store α :=
  if v = d then serase st k else sput st k v

def supd {α : Type} [DecidableEq α] (d : α) (st : Store α) (k : Nat) (f : α → α) : Store α := sset d st k (f (sget d st k))

/-- A byte of a memory, 0 where nothing is listed (log 14). -/
def Memory.get (m : Memory) (a : Nat) : Byte := sget 0#8 m a
def Memory.set (m : Memory) (a : Nat) (b : Byte) : Memory := sset 0#8 m a b
/-- Bytes a to a + n − 1. -/
def Memory.read (m : Memory) (a : Nat) : Nat → List Byte
  | 0 => []
  | n + 1 => m.get a :: Memory.read m (a + 1) n
def Memory.write (m : Memory) (a : Nat) : List Byte → Memory
  | [] => m
  | b :: t => Memory.write (m.set a b) (a + 1) t
/-- A little-endian word. -/
def Memory.readWord (m : Memory) (a : Nat) : Word := word4 (m.read a 4)
where word4 (l : List Byte) : Word := l.foldr (fun b w => (w <<< 8) ||| b.setWidth 32) 0#32
def Memory.writeWord (m : Memory) (a : Nat) (w : Word) : Memory :=
  m.write a [w.setWidth 8, (w >>> 8).setWidth 8, (w >>> 16).setWidth 8, (w >>> 24).setWidth 8]

def State.page (s : State) (k : Nat) : PageSt := sget {} s.pages k
def State.setPage (s : State) (k : Nat) (x : PageSt) : State := { s with pages := sset {} s.pages k x }
def State.updPage (s : State) (k : Nat) (f : PageSt → PageSt) : State := s.setPage k (f (s.page k))
def State.latchOf (s : State) (k : Nat) : LatchSt := sget {} s.latch k
def State.setLatchOf (s : State) (k : Nat) (x : LatchSt) : State := { s with latch := sset {} s.latch k x }
def State.updLatchOf (s : State) (k : Nat) (f : LatchSt → LatchSt) : State := s.setLatchOf k (f (s.latchOf k))
def State.port (s : State) (k : Nat) : PortSt := sget {} s.ports k
def State.setPort (s : State) (k : Nat) (x : PortSt) : State := { s with ports := sset {} s.ports k x }
def State.updPort (s : State) (k : Nat) (f : PortSt → PortSt) : State := s.setPort k (f (s.port k))
def State.mon (s : State) (k : Nat) : Monitor := sget {} s.mons k
def State.setMon (s : State) (k : Nat) (x : Monitor) : State := { s with mons := sset {} s.mons k x }
def State.updMon (s : State) (k : Nat) (f : Monitor → Monitor) : State := s.setMon k (f (s.mon k))
def State.mod (s : State) (k : Nat) : Module := sget {} s.mods k
def State.setMod (s : State) (k : Nat) (x : Module) : State := { s with mods := sset {} s.mods k x }
def State.updMod (s : State) (k : Nat) (f : Module → Module) : State := s.setMod k (f (s.mod k))
def State.temp (s : State) (k : Nat) : Temp := sget {} s.temps k
def State.setTemp (s : State) (k : Nat) (x : Temp) : State := { s with temps := sset {} s.temps k x }
def State.updTemp (s : State) (k : Nat) (f : Temp → Temp) : State := s.setTemp k (f (s.temp k))
def State.wire (s : State) (k : Nat) : Wire := sget {} s.wires k
def State.setWire (s : State) (k : Nat) (x : Wire) : State := { s with wires := sset {} s.wires k x }
def State.updWire (s : State) (k : Nat) (f : Wire → Wire) : State := s.setWire k (f (s.wire k))
def State.cell (s : State) (k : Nat) : Cell := sget {} s.cells k
def State.setCell (s : State) (k : Nat) (x : Cell) : State := { s with cells := sset {} s.cells k x }
def State.updCell (s : State) (k : Nat) (f : Cell → Cell) : State := s.setCell k (f (s.cell k))
def State.chan (s : State) (k : Nat) : ChanSt := sget {} s.chans k
def State.setChan (s : State) (k : Nat) (x : ChanSt) : State := { s with chans := sset {} s.chans k x }
def State.updChan (s : State) (k : Nat) (f : ChanSt → ChanSt) : State := s.setChan k (f (s.chan k))
def State.slotOf (s : State) (k : Nat) : SlotSt := sget {} s.slots k
def State.setSlotOf (s : State) (k : Nat) (x : SlotSt) : State := { s with slots := sset {} s.slots k x }
def State.updSlotOf (s : State) (k : Nat) (f : SlotSt → SlotSt) : State := s.setSlotOf k (f (s.slotOf k))
def State.level (s : State) (k : Nat) : LevelSt := sget {} s.levels k
def State.setLevel (s : State) (k : Nat) (x : LevelSt) : State := { s with levels := sset {} s.levels k x }
def State.updLevel (s : State) (k : Nat) (f : LevelSt → LevelSt) : State := s.setLevel k (f (s.level k))
def State.waitOf (s : State) (k : Nat) : WaitSt := sget {} s.waits k
def State.setWaitOf (s : State) (k : Nat) (x : WaitSt) : State := { s with waits := sset {} s.waits k x }
def State.updWaitOf (s : State) (k : Nat) (f : WaitSt → WaitSt) : State := s.setWaitOf k (f (s.waitOf k))
def State.str (s : State) (k : Nat) : StrSt := sget {} s.strs k
def State.setStr (s : State) (k : Nat) (x : StrSt) : State := { s with strs := sset {} s.strs k x }
def State.updStr (s : State) (k : Nat) (f : StrSt → StrSt) : State := s.setStr k (f (s.str k))
def State.coil (s : State) (k : Nat) : CoilSt := sget {} s.coils k
def State.setCoil (s : State) (k : Nat) (x : CoilSt) : State := { s with coils := sset {} s.coils k x }
def State.updCoil (s : State) (k : Nat) (f : CoilSt → CoilSt) : State := s.setCoil k (f (s.coil k))
def State.qd (s : State) (k : Nat) : QdSt := sget {} s.qds k
def State.setQd (s : State) (k : Nat) (x : QdSt) : State := { s with qds := sset {} s.qds k x }
def State.updQd (s : State) (k : Nat) (f : QdSt → QdSt) : State := s.setQd k (f (s.qd k))
def State.safe (s : State) (k : Nat) : SafeCh := sget {} s.safeCh k
def State.setSafe (s : State) (k : Nat) (x : SafeCh) : State := { s with safeCh := sset {} s.safeCh k x }
def State.updSafe (s : State) (k : Nat) (f : SafeCh → SafeCh) : State := s.setSafe k (f (s.safe k))
def State.bpair (s : State) (k : Nat) : BanPairSt := sget {} s.banPair k
def State.setBpair (s : State) (k : Nat) (x : BanPairSt) : State := { s with banPair := sset {} s.banPair k x }
def State.updBpair (s : State) (k : Nat) (f : BanPairSt → BanPairSt) : State := s.setBpair k (f (s.bpair k))
def State.src (s : State) (k : Nat) : SafeSrc := sget {} s.safeSrc k
def State.setSrc (s : State) (k : Nat) (x : SafeSrc) : State := { s with safeSrc := sset {} s.safeSrc k x }
def State.updSrc (s : State) (k : Nat) (f : SafeSrc → SafeSrc) : State := s.setSrc k (f (s.src k))
def State.toneOf (s : State) (k : Nat) : ToneSrc := sget {} s.tones k
def State.setToneOf (s : State) (k : Nat) (x : ToneSrc) : State := { s with tones := sset {} s.tones k x }
def State.updToneOf (s : State) (k : Nat) (f : ToneSrc → ToneSrc) : State := s.setToneOf k (f (s.toneOf k))
def State.tpOf (s : State) (k : Nat) : TpSt := sget {} s.tp k
def State.setTpOf (s : State) (k : Nat) (x : TpSt) : State := { s with tp := sset {} s.tp k x }
def State.updTpOf (s : State) (k : Nat) (f : TpSt → TpSt) : State := s.setTpOf k (f (s.tpOf k))
def State.can (s : State) (k : Nat) : CanSt := sget {} s.cans k
def State.setCan (s : State) (k : Nat) (x : CanSt) : State := { s with cans := sset {} s.cans k x }
def State.updCan (s : State) (k : Nat) (f : CanSt → CanSt) : State := s.setCan k (f (s.can k))
def State.buf (s : State) (k : Nat) : TxBuf := sget {} s.bufs k
def State.setBuf (s : State) (k : Nat) (x : TxBuf) : State := { s with bufs := sset {} s.bufs k x }
def State.updBuf (s : State) (k : Nat) (f : TxBuf → TxBuf) : State := s.setBuf k (f (s.buf k))
def State.flow (s : State) (k : Nat) : FlowSt := sget {} s.flows k
def State.setFlow (s : State) (k : Nat) (x : FlowSt) : State := { s with flows := sset {} s.flows k x }
def State.updFlow (s : State) (k : Nat) (f : FlowSt → FlowSt) : State := s.setFlow k (f (s.flow k))
def State.rslot (s : State) (k : Nat) : RestoreSlot := sget {} s.rslots k
def State.setRslot (s : State) (k : Nat) (x : RestoreSlot) : State := { s with rslots := sset {} s.rslots k x }
def State.updRslot (s : State) (k : Nat) (f : RestoreSlot → RestoreSlot) : State := s.setRslot k (f (s.rslot k))
def State.ctx (s : State) (k : Nat) : Ctx := sget {} s.ctxs k
def State.setCtx (s : State) (k : Nat) (x : Ctx) : State := { s with ctxs := sset {} s.ctxs k x }
def State.updCtx (s : State) (k : Nat) (f : Ctx → Ctx) : State := s.setCtx k (f (s.ctx k))
def State.sctx (s : State) (k : Nat) : SCtx := sget {} s.sctxs k
def State.setSctx (s : State) (k : Nat) (x : SCtx) : State := { s with sctxs := sset {} s.sctxs k x }
def State.updSctx (s : State) (k : Nat) (f : SCtx → SCtx) : State := s.setSctx k (f (s.sctx k))
def State.shut (s : State) (k : Nat) : Shut := sget {} s.shuts k
def State.setShut (s : State) (k : Nat) (x : Shut) : State := { s with shuts := sset {} s.shuts k x }
def State.updShut (s : State) (k : Nat) (f : Shut → Shut) : State := s.setShut k (f (s.shut k))
def State.shutMod (s : State) (k : Nat) : ShutMod := sget {} s.shutMods k
def State.setShutMod (s : State) (k : Nat) (x : ShutMod) : State := { s with shutMods := sset {} s.shutMods k x }
def State.updShutMod (s : State) (k : Nat) (f : ShutMod → ShutMod) : State := s.setShutMod k (f (s.shutMod k))
def State.eng (s : State) (k : Nat) : Eng := sget {} s.engs k
def State.setEng (s : State) (k : Nat) (x : Eng) : State := { s with engs := sset {} s.engs k x }
def State.updEng (s : State) (k : Nat) (f : Eng → Eng) : State := s.setEng k (f (s.eng k))
def State.txb (s : State) (k : Nat) : TxChain := sget {} s.txs k
def State.setTxb (s : State) (k : Nat) (x : TxChain) : State := { s with txs := sset {} s.txs k x }
def State.updTxb (s : State) (k : Nat) (f : TxChain → TxChain) : State := s.setTxb k (f (s.txb k))
def State.rxp (s : State) (k : Nat) : RxPort := sget {} s.rxs k
def State.setRxp (s : State) (k : Nat) (x : RxPort) : State := { s with rxs := sset {} s.rxs k x }
def State.updRxp (s : State) (k : Nat) (f : RxPort → RxPort) : State := s.setRxp k (f (s.rxp k))
def State.ep (s : State) (k : Nat) : StrEp := sget {} s.sEp k
def State.setEp (s : State) (k : Nat) (x : StrEp) : State := { s with sEp := sset {} s.sEp k x }
def State.updEp (s : State) (k : Nat) (f : StrEp → StrEp) : State := s.setEp k (f (s.ep k))
def State.hep (s : State) (k : Nat) : StrEp := sget {} s.hEp k
def State.setHep (s : State) (k : Nat) (x : StrEp) : State := { s with hEp := sset {} s.hEp k x }
def State.updHep (s : State) (k : Nat) (f : StrEp → StrEp) : State := s.setHep k (f (s.hep k))

end Sys2Proof.Machine
end

