-- ==== Sys2Proof/Machine/Codes.lean ====
section
/-! DEFINITION. The codes the manual gives to origins, levels, modes, join, converter and pair states. -/
namespace Sys2Proof

/-- LOCK.OWNER codes (R56). -/
def Origin.code : Origin → Nat
  | .host => 1
  | .stairwell => 2
  | .mgmt => 3

/-- STW.STAT.LEVEL. -/
def Level.code : Level → Nat
  | .out => 0
  | .view => 1
  | .service => 2
  | .factory => 3

/-- Table 17.1. -/
def Mode.code : Mode → Nat
  | .start => 0
  | .dormant => 1
  | .commission => 2
  | .ready => 3
  | .joining => 4
  | .online => 5
  | .lockout => 6

/-- READY, JOINING or ONLINE. -/
def Mode.running : Mode → Bool
  | .ready => true
  | .joining => true
  | .online => true
  | _ => false

def Mode.joinOrOnline : Mode → Bool
  | .joining => true
  | .online => true
  | _ => false

/-- Table 11.2. -/
def ConvSt.code : ConvSt → Nat
  | .off => 0
  | .starting => 1
  | .regulating => 2
  | .stopping => 3
  | .retryWait => 4
  | .latched => 5
  | .handover => 6

/-- States in which the converter drives or ramps. -/
def ConvSt.running : ConvSt → Bool
  | .starting => true
  | .regulating => true
  | .stopping => true
  | _ => false

/-- JOIN.STAT.STATE. -/
def JoinSec.code : JoinSec → Nat
  | .idle => 0
  | .feed => 1
  | .forming => 2
  | .first => 3
  | .sweep => 4
  | .run => 5

/-- Table 10.5. -/
def JoinSt.code : JoinSt → Nat
  | .opened => 0
  | .armed => 1
  | .negClosing => 2
  | .probe => 3
  | .posClosing => 4
  | .closed => 5
  | .opening => 6
  | .blocked => 7

/-- A string that is closing. -/
def JoinSt.closing : JoinSt → Bool
  | .negClosing => true
  | .probe => true
  | .posClosing => true
  | _ => false

/-- Table 14.3. -/
def Role.code : Role → Nat
  | .starting => 0
  | .active => 1
  | .standby => 2
  | .passive => 3
  | .unavailable => 4
  | .singleOp => 5

/-- PAIR.STAT.SYNC. -/
def SyncSt.code : SyncSt → Nat
  | .none => 0
  | .syncing => 1
  | .synced => 2
  | .degraded => 3

end Sys2Proof
end

