-- ==== Sys2Proof/Machine/Num.lean ====
section
/-! DEFINITION. Numbers and checks: bit fields, byte order, saturation, rounding to register units, square root and logarithm
on exact rationals, the CRCs of R74, R140 and the CAN-independent checks, SHA-256, HMAC and PBKDF2 (R434, R480, R482). -/
namespace Sys2Proof.Machine

/-- Bits [hi:lo] of a word, as a number. -/
def field (w : Word) (hi lo : Nat) : Nat := (w.toNat / 2 ^ lo) % 2 ^ (hi + 1 - lo)

/-- The word with bits [hi:lo] replaced by v (cut to the width). -/
def setField (w : Word) (hi lo v : Nat) : Word :=
  let n := 2 ^ (hi + 1 - lo)
  BitVec.ofNat 32 (w.toNat - (field w hi lo) * 2 ^ lo + (v % n) * 2 ^ lo)

/-- A field value placed at bit lo. -/
def at_ (lo v : Nat) : Nat := v * 2 ^ lo

def b2n (b : Bool) : Nat := if b then 1 else 0

/-- Two's complement value of an n-bit number. -/
def toSigned (n v : Nat) : Int := if v < 2 ^ (n - 1) then (v : Int) else (v : Int) - 2 ^ n

/-- n-bit two's complement code of an integer (wrapping). -/
def ofSigned (n : Nat) (i : Int) : Nat := (i % (2 ^ n : Int)).toNat

def word (n : Nat) : Word := BitVec.ofNat 32 n
def wordI (i : Int) : Word := BitVec.ofInt 32 i

def satU (n v : Nat) : Nat := if v < 2 ^ n then v else 2 ^ n - 1
def satI32 (i : Int) : Int := if i < -2147483648 then -2147483648 else if 2147483647 < i then 2147483647 else i
def clampI (lo hi x : Int) : Int := if x < lo then lo else if hi < x then hi else x
def clampR (lo hi x : Rat) : Rat := if x < lo then lo else if hi < x then hi else x
def minR (a b : Rat) : Rat := if a ≤ b then a else b
def maxR (a b : Rat) : Rat := if a ≤ b then b else a
def absR (a : Rat) : Rat := if a < 0 then -a else a

/-- Serial order of epoch numbers and terms (R28, R85): a is newer than b within a window of half the range. -/
def newer32 (a b : Word) : Bool := let d := (a - b).toNat; 0 < d && d < 2 ^ 31
def newer8 (a b : Byte) : Bool := let d := (a - b).toNat; 0 < d && d < 128
/-- The next epoch number: 0xFFFF_FFFF is followed by 1 (R28). -/
def nextEpoch (e : Word) : Word := if e = 0xFFFFFFFF#32 then 1#32 else e + 1#32

/-- A real in register units: exact where whole, else one of its two neighbours (log 5). -/
def toUnits (x : Rat) : Int :=
  if x.den = 1 then x.num else if Config.roundUp x then x.floor + 1 else x.floor

/-- Nearest whole number; the manual states no rule for a tie (log 5). -/
def roundR (x : Rat) : Int :=
  let f := x.floor
  if x - f < 1/2 then f else if 1/2 < x - f then f + 1 else if Config.roundUp x then f + 1 else f

def sqrtStep (n : Nat) : Nat → Nat → Nat
  | 0, r => r
  | k + 1, r => if r = 0 then 0 else let r' := (r + n / r) / 2; if r' < r then sqrtStep n k r' else r

/-- Integer square root by Newton's steps. -/
def isqrt (n : Nat) : Nat := if n < 2 then n else sqrtStep n 200 (2 ^ (n.log2 / 2 + 1))

/-- Square root to 10^-9, the last unit free (log 4); 0 below 0. -/
def sqrtR (x : Rat) : Rat :=
  if x ≤ 0 then 0 else
    let n := (x * 1000000000000000000).floor.toNat
    let r := isqrt n
    if r * r = n ∧ (x * 1000000000000000000).den = 1 then mkRat r 1000000000
    else if Config.lastUnit x then mkRat (r + 1) 1000000000 else mkRat r 1000000000

def lnSeries (y2 : Rat) : Nat → Nat → Rat → Rat
  | 0, _, _ => 0
  | k + 1, n, p => p / (n : Rat) + lnSeries y2 k (n + 2) (p * y2)

def cut9 (x : Rat) : Rat := mkRat (x * 1000000000).floor 1000000000

/-- Natural logarithm to 10^-9, the last unit free (log 4): 2^k × m with m in [1, 2), ln m by the artanh series. -/
def lnR (x : Rat) : Rat :=
  if x ≤ 0 then 0 else
    let k : Int := (x.num.toNat.log2 : Int) - (x.den.log2 : Int)
    let m : Rat := if 0 ≤ k then x / (2 ^ k.toNat : Nat) else x * ((2 ^ (-k).toNat : Nat) : Rat)
    let y := (m - 1) / (m + 1)
    let ln2 : Rat := mkRat 693147180559945309 1000000000000000000
    let v := cut9 (2 * lnSeries (y * y) 24 1 y + (k : Rat) * ln2)
    if Config.lastUnit x then v + mkRat 1 1000000000 else v

def expSeries (x : Rat) : Nat → Nat → Rat → Rat
  | 0, _, p => p
  | n + 1, k, p => p + expSeries x n (k + 1) (-p * x / (k : Rat))

def sqTimes : Nat → Rat → Rat
  | 0, y => y
  | n + 1, y => sqTimes n (mkRat (y * y * 1000000000000000).floor 1000000000000000)

/-- e^-x for x ≥ 0 to 10^-9, the last unit free (log 4). -/
def expNeg (x : Rat) : Rat :=
  if x ≤ 0 then 1 else if 40 < x then 0 else
    let v := cut9 (sqTimes 6 (mkRat (expSeries (x / 64) 12 1 1 * 1000000000000000).floor 1000000000000000))
    if Config.lastUnit x then v + mkRat 1 1000000000 else v

/-! ### Bytes -/

/-- n bytes of a number, least significant first. -/
def leBytes : Nat → Nat → List Byte
  | 0, _ => []
  | n + 1, v => BitVec.ofNat 8 v :: leBytes n (v / 256)

/-- The number of a byte list, least significant first. -/
def ofLe : List Byte → Nat
  | [] => 0
  | b :: t => b.toNat + 256 * ofLe t

/-- n bytes, most significant first. -/
def beBytes (n v : Nat) : List Byte := (leBytes n v).reverse
def ofBe (l : List Byte) : Nat := ofLe l.reverse

/-- len bytes from offset off, as a number, least significant first. -/
def leAt (l : List Byte) (off len : Nat) : Nat := ofLe ((l.drop off).take len)

def wordsOf : List Byte → List Word
  | a :: b :: c :: d :: t => word (ofLe [a, b, c, d]) :: wordsOf t
  | [] => []
  | t => [word (ofLe t)]

def bytesOf (ws : List Word) : List Byte := ws.flatMap (fun w => leBytes 4 w.toNat)

/-! ### CRCs -/

def xorN (a b : Nat) : Nat := Nat.xor a b

def crcMsbBit (n poly : Nat) (c : Nat) : Nat :=
  if c / 2 ^ (n - 1) % 2 = 1 then xorN (c * 2 % 2 ^ n) poly else c * 2 % 2 ^ n

def iter (f : Nat → Nat) : Nat → Nat → Nat
  | 0, x => x
  | k + 1, x => iter f k (f x)

/-- A CRC that takes the most significant bit of each byte first. -/
def crcMsb (n poly init : Nat) (l : List Byte) : Nat :=
  l.foldl (fun c b => iter (crcMsbBit n poly) 8 (xorN c (b.toNat * 2 ^ (n - 8)))) init

def crcLsbBit (poly : Nat) (c : Nat) : Nat := if c % 2 = 1 then xorN (c / 2) poly else c / 2

/-- HCRC of R74. -/
def crc8 (l : List Byte) : Byte := BitVec.ofNat 8 (xorN (crcMsb 8 0x2F 0xFF l) 0xFF)
/-- CRC-32C of R74: reflected, polynomial 0x1EDC6F41. -/
def crc32c (l : List Byte) : Word :=
  word (xorN (l.foldl (fun c b => iter (crcLsbBit 0x82F63B78) 8 (xorN c b.toNat)) 0xFFFFFFFF) 0xFFFFFFFF)
/-- CRC-16/CCITT of R140. -/
def crc16 (l : List Byte) : Half := BitVec.ofNat 16 (crcMsb 16 0x1021 0xFFFF l)

/-! ### SHA-256, HMAC, PBKDF2 (standards the manual names; log 10) -/

def shaK : List Word :=
  [0x428a2f98#32, 0x71374491#32, 0xb5c0fbcf#32, 0xe9b5dba5#32, 0x3956c25b#32, 0x59f111f1#32, 0x923f82a4#32, 0xab1c5ed5#32] ++
  [0xd807aa98#32, 0x12835b01#32, 0x243185be#32, 0x550c7dc3#32, 0x72be5d74#32, 0x80deb1fe#32, 0x9bdc06a7#32, 0xc19bf174#32] ++
  [0xe49b69c1#32, 0xefbe4786#32, 0x0fc19dc6#32, 0x240ca1cc#32, 0x2de92c6f#32, 0x4a7484aa#32, 0x5cb0a9dc#32, 0x76f988da#32] ++
  [0x983e5152#32, 0xa831c66d#32, 0xb00327c8#32, 0xbf597fc7#32, 0xc6e00bf3#32, 0xd5a79147#32, 0x06ca6351#32, 0x14292967#32] ++
  [0x27b70a85#32, 0x2e1b2138#32, 0x4d2c6dfc#32, 0x53380d13#32, 0x650a7354#32, 0x766a0abb#32, 0x81c2c92e#32, 0x92722c85#32] ++
  [0xa2bfe8a1#32, 0xa81a664b#32, 0xc24b8b70#32, 0xc76c51a3#32, 0xd192e819#32, 0xd6990624#32, 0xf40e3585#32, 0x106aa070#32] ++
  [0x19a4c116#32, 0x1e376c08#32, 0x2748774c#32, 0x34b0bcb5#32, 0x391c0cb3#32, 0x4ed8aa4a#32, 0x5b9cca4f#32, 0x682e6ff3#32] ++
  [0x748f82ee#32, 0x78a5636f#32, 0x84c87814#32, 0x8cc70208#32, 0x90befffa#32, 0xa4506ceb#32, 0xbef9a3f7#32, 0xc67178f2#32]

def shaInit : List Word :=
  [0x6a09e667#32, 0xbb67ae85#32, 0x3c6ef372#32, 0xa54ff53a#32, 0x510e527f#32, 0x9b05688c#32, 0x1f83d9ab#32, 0x5be0cd19#32]

/-- The schedule: `ws` holds the latest 16 words, newest first. -/
def shaExpand : Nat → List Word → List Word
  | 0, ws => ws
  | n + 1, ws =>
    let g := fun i => ws.getD i 0#32
    let s0 := (g 14).rotateRight 7 ^^^ (g 14).rotateRight 18 ^^^ ((g 14) >>> 3)
    let s1 := (g 1).rotateRight 17 ^^^ (g 1).rotateRight 19 ^^^ ((g 1) >>> 10)
    shaExpand n ((g 15 + s0 + g 6 + s1) :: ws)

def shaRound (st : List Word) (kw : Word × Word) : List Word :=
  match st with
  | [a, b, c, d, e, f, g, h] =>
    let s1 := e.rotateRight 6 ^^^ e.rotateRight 11 ^^^ e.rotateRight 25
    let ch := (e &&& f) ^^^ ((~~~e) &&& g)
    let t1 := h + s1 + ch + kw.1 + kw.2
    let s0 := a.rotateRight 2 ^^^ a.rotateRight 13 ^^^ a.rotateRight 22
    let mj := (a &&& b) ^^^ (a &&& c) ^^^ (b &&& c)
    [t1 + s0 + mj, a, b, c, d + t1, e, f, g]
  | l => l

def beWords : List Byte → List Word
  | a :: b :: c :: d :: t => word (ofLe [d, c, b, a]) :: beWords t
  | _ => []

def shaBlock (st : List Word) (blk : List Byte) : List Word :=
  let ws := (shaExpand 48 (beWords blk).reverse).reverse
  List.zipWith (· + ·) st ((shaK.zip ws).foldl shaRound st)

def shaBlocks : Nat → List Word → List Byte → List Word
  | 0, st, _ => st
  | n + 1, st, l => shaBlocks n (shaBlock st (l.take 64)) (l.drop 64)

def sha256 (m : List Byte) : List Byte :=
  let n := m.length
  let pad := m ++ [0x80#8] ++ List.replicate ((119 - n % 64) % 64) 0#8 ++ beBytes 8 (8 * n)
  (shaBlocks (pad.length / 64) shaInit pad).flatMap (fun w => beBytes 4 w.toNat)

def hmacKey (key : List Byte) : List Byte :=
  let k := if 64 < key.length then sha256 key else key
  k ++ List.replicate (64 - k.length) 0#8

def hmac (key msg : List Byte) : List Byte :=
  let k := hmacKey key
  sha256 (k.map (· ^^^ 0x5C#8) ++ sha256 (k.map (· ^^^ 0x36#8) ++ msg))

def pbkdfLoop (pw : List Byte) : Nat → List Byte → List Byte → List Byte
  | 0, _, acc => acc
  | n + 1, u, acc =>
    let u' := hmac pw u
    pbkdfLoop pw n u' (List.zipWith (· ^^^ ·) acc u')

/-- First 32 bytes of PBKDF2-HMAC-SHA-256 with 4,096 iterations (R480). -/
def pbkdf2 (pw salt : List Byte) : List Byte :=
  let u := hmac pw (salt ++ [0#8, 0#8, 0#8, 1#8])
  pbkdfLoop pw 4095 u u

end Sys2Proof.Machine
end

