-- ==== Sys2Proof/Machine/RegTable.lean ====
section
/-! DEFINITION. The register maps of the manual as a table: one row per register of a page, with its writable fields and its
"gen" fields. The fields' default is the value the manual states for a generation that omits them (R520), else 0 (log 3).
Fields that are RO and not "gen" are views of the state (Machine/Views.lean) and are not listed. -/
namespace Sys2Proof.Machine

/-- Access codes of Table 02.4. -/
inductive Acc where
  | ro | rw | wo | w1c | w1s | rww | rwx
  deriving DecidableEq, Repr

/-- Direction of a wall (R50): upper and lower on the number, signed where the field is signed; `clear`: bits may only be
cleared; `thq`: a protection threshold, by R245. -/
inductive Wall where
  | none | upper | lower | upperS | lowerS | clear | thq
  deriving DecidableEq, Repr

structure Fld where
  hi : Nat
  lo : Nat
  acc : Acc
  gen : Bool
  dflt : Nat
  wall : Wall
  /-- Values or codes the description states (R523); empty: any value. -/
  ranges : List (Nat × Nat)
  deriving DecidableEq, Repr

structure RegRow where
  page : Nat
  insts : Nat
  off : Nat
  /-- (stride, count) of each index. -/
  dims : List (Nat × Nat)
  flds : List Fld
  deriving DecidableEq, Repr

def regRows0 : List RegRow := [
  ⟨0x00, 1, 0x004, [], []⟩,
  ⟨0x00, 1, 0x00C, [], []⟩,
  ⟨0x00, 1, 0x010, [], [⟨31, 31, .w1c, false, 0, .none, []⟩, ⟨2, 2, .w1c, false, 0, .none, []⟩, ⟨1, 1, .w1c, false, 0, .none, []⟩, ⟨0, 0, .w1c, false, 0, .none, []⟩]⟩,
  ⟨0x00, 1, 0x020, [], []⟩,
  ⟨0x00, 1, 0x024, [], []⟩,
  ⟨0x00, 1, 0x028, [], []⟩,
  ⟨0x08, 12, 0x008, [], [⟨23, 20, .w1s, false, 0, .none, []⟩, ⟨19, 16, .w1s, false, 0, .none, []⟩, ⟨9, 9, .ro, true, 0, .none, []⟩, ⟨8, 8, .ro, true, 0, .none, []⟩, ⟨3, 0, .ro, true, 0, .none, []⟩]⟩,
  ⟨0x08, 12, 0x00C, [], []⟩,
  ⟨0x08, 12, 0x010, [], [⟨31, 31, .w1c, false, 0, .none, []⟩, ⟨27, 24, .w1c, false, 0, .none, []⟩, ⟨23, 20, .w1c, false, 0, .none, []⟩, ⟨19, 16, .w1c, false, 0, .none, []⟩, ⟨15, 12, .w1c, false, 0, .none, []⟩, ⟨11, 8, .w1c, false, 0, .none, []⟩, ⟨7, 4, .w1c, false, 0, .none, []⟩, ⟨3, 0, .w1c, false, 0, .none, []⟩]⟩,
  ⟨0x08, 12, 0x040, [(16, 4)], [⟨5, 0, .ro, true, 0, .none, []⟩]⟩,
  ⟨0x08, 12, 0x044, [(16, 4)], []⟩,
  ⟨0x08, 12, 0x048, [(16, 4)], []⟩,
  ⟨0x08, 12, 0x800, [(4, 512)], []⟩]

def regRows1 : List RegRow := [
  ⟨0x08, 12, 0x100, [], [⟨15, 0, .rwx, true, 250, .none, [(200, 2000)]⟩]⟩,
  ⟨0x14, 1, 0x008, [], [⟨0, 0, .w1s, false, 0, .none, []⟩]⟩,
  ⟨0x14, 1, 0x00C, [], []⟩,
  ⟨0x14, 1, 0x010, [], [⟨31, 31, .w1c, false, 0, .none, []⟩, ⟨7, 7, .w1c, false, 0, .none, []⟩, ⟨6, 6, .w1c, false, 0, .none, []⟩, ⟨5, 5, .w1c, false, 0, .none, []⟩, ⟨4, 4, .w1c, false, 0, .none, []⟩, ⟨3, 3, .w1c, false, 0, .none, []⟩, ⟨2, 2, .w1c, false, 0, .none, []⟩, ⟨1, 1, .w1c, false, 0, .none, []⟩, ⟨0, 0, .w1c, false, 0, .none, []⟩]⟩,
  ⟨0x14, 1, 0x020, [], [⟨31, 0, .w1c, false, 0, .none, []⟩]⟩,
  ⟨0x14, 1, 0x024, [], [⟨15, 0, .w1c, false, 0, .none, []⟩]⟩,
  ⟨0x14, 1, 0x028, [], [⟨31, 24, .rww, true, 20, .upper, [(5, 100)]⟩, ⟨23, 16, .rww, true, 10, .upper, [(2, 50)]⟩, ⟨15, 8, .rw, true, 10, .none, [(5, 50)]⟩, ⟨7, 0, .rww, true, 60, .upper, [(10, 240)]⟩]⟩,
  ⟨0x14, 1, 0x02C, [], [⟨31, 16, .rww, true, 0, .lowerS, []⟩, ⟨15, 8, .rww, true, 5, .lower, [(1, 20)]⟩, ⟨7, 0, .rww, true, 100, .upper, [(10, 100)]⟩]⟩,
  ⟨0x14, 1, 0x030, [], [⟨31, 16, .rww, true, 1000, .lower, []⟩, ⟨15, 0, .rww, true, 500, .lower, []⟩]⟩,
  ⟨0x14, 1, 0x034, [], [⟨21, 16, .rw, false, 0, .none, [(0, 47)]⟩, ⟨5, 0, .rw, false, 1, .none, [(1, 40)]⟩]⟩,
  ⟨0x14, 1, 0x100, [], [⟨31, 0, .rww, true, 0, .clear, []⟩]⟩,
  ⟨0x14, 1, 0x104, [], [⟨15, 0, .rww, true, 0, .clear, []⟩]⟩]

def regRows2 : List RegRow := [
  ⟨0x14, 1, 0x108, [], [⟨0, 0, .rww, true, 0, .clear, []⟩]⟩,
  ⟨0x14, 1, 0x800, [(4, 48)], []⟩,
  ⟨0x14, 1, 0xC00, [(4, 17)], []⟩,
  ⟨0x16, 1, 0x008, [], [⟨0, 0, .w1s, false, 0, .none, []⟩]⟩,
  ⟨0x16, 1, 0x00C, [], []⟩,
  ⟨0x16, 1, 0x010, [], [⟨31, 31, .w1c, false, 0, .none, []⟩, ⟨7, 7, .w1c, false, 0, .none, []⟩, ⟨6, 6, .w1c, false, 0, .none, []⟩, ⟨5, 5, .w1c, false, 0, .none, []⟩, ⟨4, 4, .w1c, false, 0, .none, []⟩, ⟨3, 3, .w1c, false, 0, .none, []⟩, ⟨2, 2, .w1c, false, 0, .none, []⟩, ⟨1, 1, .w1c, false, 0, .none, []⟩, ⟨0, 0, .w1c, false, 0, .none, []⟩]⟩,
  ⟨0x16, 1, 0x020, [], [⟨31, 16, .rw, true, 10, .none, [(2, 60)]⟩, ⟨15, 0, .ro, true, 180, .none, []⟩]⟩,
  ⟨0x16, 1, 0x800, [(32, 48)], []⟩,
  ⟨0x16, 1, 0x804, [(32, 48)], []⟩,
  ⟨0x16, 1, 0x808, [(32, 48)], []⟩,
  ⟨0x16, 1, 0x80C, [(32, 48)], []⟩,
  ⟨0x16, 1, 0x810, [(32, 48)], []⟩]

def regRows3 : List RegRow := [
  ⟨0x16, 1, 0x814, [(32, 48)], []⟩,
  ⟨0x16, 1, 0x818, [(32, 48)], [⟨31, 16, .rww, true, 0, .upper, []⟩, ⟨15, 0, .rww, true, 0, .upper, []⟩]⟩,
  ⟨0x16, 1, 0x81C, [(32, 48)], [⟨31, 16, .ro, true, 0, .none, []⟩, ⟨15, 0, .ro, true, 0, .none, []⟩]⟩,
  ⟨0x16, 1, 0xE00, [(4, 48)], []⟩,
  ⟨0x16, 1, 0xF00, [(4, 48)], [⟨31, 0, .ro, true, 0, .none, []⟩]⟩,
  ⟨0x17, 1, 0x008, [], [⟨1, 1, .w1s, false, 0, .none, []⟩, ⟨0, 0, .w1s, false, 0, .none, []⟩]⟩,
  ⟨0x17, 1, 0x00C, [], []⟩,
  ⟨0x17, 1, 0x010, [], [⟨31, 31, .w1c, false, 0, .none, []⟩, ⟨8, 8, .w1c, false, 0, .none, []⟩, ⟨7, 7, .w1c, false, 0, .none, []⟩, ⟨6, 6, .w1c, false, 0, .none, []⟩, ⟨5, 5, .w1c, false, 0, .none, []⟩, ⟨4, 4, .w1c, false, 0, .none, []⟩, ⟨3, 3, .w1c, false, 0, .none, []⟩, ⟨2, 2, .w1c, false, 0, .none, []⟩, ⟨1, 1, .w1c, false, 0, .none, []⟩, ⟨0, 0, .w1c, false, 0, .none, []⟩]⟩,
  ⟨0x17, 1, 0x020, [], [⟨31, 16, .rww, true, 65535, .upper, []⟩, ⟨15, 0, .rw, true, 0, .none, []⟩]⟩,
  ⟨0x17, 1, 0x024, [], [⟨31, 16, .rww, true, 36500, .upper, []⟩, ⟨15, 0, .rww, true, 28000, .lower, []⟩]⟩,
  ⟨0x17, 1, 0x028, [], [⟨31, 16, .rw, true, 500, .none, []⟩, ⟨15, 0, .rw, true, 50, .none, []⟩]⟩,
  ⟨0x17, 1, 0x02C, [], [⟨15, 0, .rww, true, 50, .upper, [(5, 50)]⟩]⟩]

def regRows4 : List RegRow := [
  ⟨0x17, 1, 0x030, [], [⟨31, 22, .rww, true, 0, .lower, []⟩, ⟨21, 12, .rww, true, 0, .lower, []⟩, ⟨11, 0, .rww, true, 0, .lower, []⟩]⟩,
  ⟨0x17, 1, 0x034, [], [⟨31, 24, .rww, true, 40, .lower, [(20, 80)]⟩, ⟨23, 16, .rw, true, 14, .none, [(1, 60)]⟩, ⟨15, 0, .rw, true, 50, .none, []⟩]⟩,
  ⟨0x17, 1, 0x038, [], [⟨31, 16, .rw, true, 10, .none, []⟩, ⟨15, 0, .rww, true, 150, .lower, []⟩]⟩,
  ⟨0x17, 1, 0x03C, [], [⟨15, 0, .rw, true, 72, .none, [(0, 0), (6, 720)]⟩]⟩,
  ⟨0x17, 1, 0x040, [], [⟨31, 16, .rw, true, 60, .none, [(10, 600)]⟩, ⟨15, 8, .rw, true, 10, .none, [(1, 60)]⟩, ⟨7, 0, .rw, true, 30, .none, []⟩]⟩,
  ⟨0x17, 1, 0x044, [], [⟨21, 16, .rw, false, 0, .none, [(0, 47)]⟩, ⟨13, 8, .rw, false, 1, .none, [(1, 40)]⟩, ⟨3, 0, .rw, false, 0, .none, []⟩]⟩,
  ⟨0x17, 1, 0x100, [], [⟨31, 16, .rwx, true, 100, .none, [(10, 1000)]⟩, ⟨15, 0, .rwx, true, 100, .none, [(10, 1000)]⟩]⟩,
  ⟨0x17, 1, 0x104, [], [⟨31, 24, .rwx, true, 25, .none, [(5, 100)]⟩, ⟨23, 16, .rwx, true, 60, .none, [(10, 240)]⟩, ⟨15, 8, .rwx, true, 10, .none, []⟩, ⟨7, 0, .rwx, true, 5, .none, []⟩]⟩,
  ⟨0x17, 1, 0x108, [], [⟨31, 16, .rwx, true, 300, .none, []⟩, ⟨15, 0, .rwx, true, 30, .none, [(5, 240)]⟩]⟩,
  ⟨0x17, 1, 0x800, [(4, 8)], []⟩,
  ⟨0x15, 1, 0x008, [], [⟨0, 0, .rww, true, 0, .clear, []⟩]⟩,
  ⟨0x15, 1, 0x00C, [], []⟩]

def regRows5 : List RegRow := [
  ⟨0x15, 1, 0x010, [], [⟨31, 31, .w1c, false, 0, .none, []⟩, ⟨2, 2, .w1c, false, 0, .none, []⟩, ⟨1, 1, .w1c, false, 0, .none, []⟩, ⟨0, 0, .w1c, false, 0, .none, []⟩]⟩,
  ⟨0x15, 1, 0x020, [], [⟨31, 24, .rw, true, 100, .none, [(1, 250)]⟩, ⟨23, 16, .rw, true, 30, .none, [(5, 200)]⟩, ⟨15, 8, .rww, true, 50, .upper, [(5, 200)]⟩, ⟨1, 0, .rw, true, 0, .none, []⟩]⟩,
  ⟨0x15, 1, 0x024, [], [⟨7, 0, .rww, true, 100, .upper, [(10, 100)]⟩]⟩,
  ⟨0x15, 1, 0x028, [], [⟨31, 16, .rww, true, 2000, .upper, []⟩, ⟨15, 0, .rww, true, 1500, .upper, []⟩]⟩,
  ⟨0x15, 1, 0x02C, [], [⟨31, 16, .rww, true, 550, .upperS, []⟩, ⟨15, 0, .rww, true, 450, .upperS, []⟩]⟩,
  ⟨0x15, 1, 0x100, [], [⟨15, 0, .rwx, true, 920, .none, [(500, 1000)]⟩]⟩,
  ⟨0x2B, 1, 0x008, [], [⟨1, 1, .w1s, false, 0, .none, []⟩, ⟨0, 0, .w1s, false, 0, .none, []⟩]⟩,
  ⟨0x2B, 1, 0x00C, [], []⟩,
  ⟨0x2B, 1, 0x010, [], [⟨31, 31, .w1c, false, 0, .none, []⟩, ⟨4, 4, .w1c, false, 0, .none, []⟩, ⟨3, 3, .w1c, false, 0, .none, []⟩, ⟨2, 2, .w1c, false, 0, .none, []⟩, ⟨1, 1, .w1c, false, 0, .none, []⟩, ⟨0, 0, .w1c, false, 0, .none, []⟩]⟩,
  ⟨0x2B, 1, 0x020, [], [⟨15, 0, .rw, false, 0, .none, []⟩]⟩,
  ⟨0x2B, 1, 0x024, [], [⟨31, 0, .wo, false, 0, .none, []⟩]⟩,
  ⟨0x2B, 1, 0x028, [], [⟨3, 0, .rw, false, 0, .none, [(0, 13)]⟩]⟩]

def regRows6 : List RegRow := [
  ⟨0x2B, 1, 0x02C, [], []⟩,
  ⟨0x2B, 1, 0x030, [], []⟩,
  ⟨0x18, 1, 0x00C, [], []⟩,
  ⟨0x18, 1, 0x010, [], [⟨31, 31, .w1c, false, 0, .none, []⟩, ⟨1, 1, .w1c, false, 0, .none, []⟩, ⟨0, 0, .w1c, false, 0, .none, []⟩]⟩,
  ⟨0x18, 1, 0x020, [], [⟨31, 16, .rww, true, 36600, .upper, []⟩, ⟨15, 0, .rww, true, 1000, .lower, []⟩]⟩,
  ⟨0x18, 1, 0x024, [], [⟨15, 0, .rww, true, 1500, .lower, []⟩]⟩,
  ⟨0x18, 1, 0x028, [], [⟨31, 24, .rww, true, 20, .lower, []⟩, ⟨23, 8, .rww, true, 1000, .lower, []⟩, ⟨7, 0, .rww, true, 25, .upper, []⟩]⟩,
  ⟨0x18, 1, 0x02C, [], [⟨31, 16, .rw, true, 10, .none, [(1, 600)]⟩, ⟨15, 0, .rw, true, 20, .none, []⟩]⟩,
  ⟨0x18, 1, 0x800, [(8, 49)], [⟨31, 16, .ro, true, 0, .none, []⟩, ⟨15, 0, .ro, true, 0, .none, []⟩]⟩,
  ⟨0x18, 1, 0x804, [(8, 49)], [⟨31, 16, .ro, true, 0, .none, []⟩, ⟨15, 0, .ro, true, 0, .none, []⟩]⟩,
  ⟨0x18, 1, 0xA00, [(4, 48)], []⟩,
  ⟨0x19, 1, 0x008, [], [⟨0, 0, .w1s, false, 0, .none, []⟩]⟩]

def regRows7 : List RegRow := [
  ⟨0x19, 1, 0x00C, [], []⟩,
  ⟨0x19, 1, 0x010, [], [⟨31, 31, .w1c, false, 0, .none, []⟩, ⟨9, 9, .w1c, false, 0, .none, []⟩, ⟨8, 8, .w1c, false, 0, .none, []⟩, ⟨7, 7, .w1c, false, 0, .none, []⟩, ⟨6, 6, .w1c, false, 0, .none, []⟩, ⟨5, 5, .w1c, false, 0, .none, []⟩, ⟨4, 0, .w1c, false, 0, .none, []⟩]⟩,
  ⟨0x19, 1, 0x020, [], [⟨31, 16, .rww, true, 60, .lower, [(10, 3600)]⟩, ⟨15, 0, .rww, true, 2000, .upper, [(100, 10000)]⟩]⟩,
  ⟨0x19, 1, 0x024, [], [⟨7, 0, .rww, true, 50, .upper, [(0, 100)]⟩]⟩,
  ⟨0x19, 1, 0x028, [], [⟨31, 16, .rww, true, 5000, .upper, [(500, 60000)]⟩, ⟨2, 0, .rww, true, 2, .lower, [(1, 5)]⟩]⟩,
  ⟨0x19, 1, 0x800, [(32, 10), (4, 5)], [⟨15, 0, .rww, true, 0, .thq, []⟩]⟩,
  ⟨0x19, 1, 0x814, [(32, 10)], [⟨31, 24, .rww, true, 0, .upper, [(1, 255)]⟩, ⟨23, 16, .rww, true, 0, .upper, [(1, 255)]⟩, ⟨15, 8, .rw, true, 0, .none, [(1, 255)]⟩, ⟨1, 1, .ro, true, 0, .none, []⟩, ⟨0, 0, .ro, true, 0, .none, []⟩]⟩,
  ⟨0x19, 1, 0xA00, [(4, 48)], [⟨15, 0, .ro, true, 0, .none, []⟩]⟩,
  ⟨0x19, 1, 0xC00, [(4, 48)], []⟩,
  ⟨0x1A, 1, 0x008, [], [⟨13, 8, .rw, false, 0, .none, [(0, 47), (63, 63)]⟩, ⟨0, 0, .w1s, false, 0, .none, []⟩]⟩,
  ⟨0x1A, 1, 0x00C, [], []⟩,
  ⟨0x1A, 1, 0x010, [], [⟨31, 31, .w1c, false, 0, .none, []⟩, ⟨9, 9, .w1c, false, 0, .none, []⟩, ⟨8, 8, .w1c, false, 0, .none, []⟩, ⟨7, 7, .w1c, false, 0, .none, []⟩, ⟨6, 6, .w1c, false, 0, .none, []⟩, ⟨5, 5, .w1c, false, 0, .none, []⟩, ⟨4, 4, .w1c, false, 0, .none, []⟩, ⟨3, 3, .w1c, false, 0, .none, []⟩, ⟨2, 2, .w1c, false, 0, .none, []⟩, ⟨1, 1, .w1c, false, 0, .none, []⟩, ⟨0, 0, .w1c, false, 0, .none, []⟩]⟩]

def regRows8 : List RegRow := [
  ⟨0x1A, 1, 0x020, [], [⟨31, 24, .rww, true, 100, .upper, [(40, 255)]⟩, ⟨23, 16, .rww, true, 100, .upper, [(40, 255)]⟩, ⟨15, 8, .rww, true, 10, .upper, []⟩, ⟨7, 0, .rw, true, 50, .none, []⟩]⟩,
  ⟨0x1A, 1, 0x024, [], [⟨6, 0, .rw, false, 0, .none, []⟩]⟩,
  ⟨0x1A, 1, 0x028, [], []⟩,
  ⟨0x1A, 1, 0x02C, [], []⟩,
  ⟨0x1A, 1, 0x030, [], []⟩,
  ⟨0x1A, 1, 0x034, [], [⟨31, 16, .ro, true, 0, .none, []⟩, ⟨15, 0, .ro, true, 0, .none, []⟩]⟩,
  ⟨0x1A, 1, 0x800, [(4, 128)], [⟨31, 30, .ro, true, 0, .none, []⟩, ⟨29, 24, .ro, true, 0, .none, []⟩, ⟨23, 23, .ro, true, 0, .none, []⟩, ⟨15, 8, .ro, true, 0, .none, []⟩, ⟨7, 0, .ro, true, 0, .none, []⟩]⟩,
  ⟨0x1A, 1, 0xC00, [(4, 16)], [⟨0, 0, .ro, true, 0, .none, []⟩]⟩,
  ⟨0x1A, 1, 0xA00, [(4, 128)], []⟩,
  ⟨0x1B, 1, 0x008, [], [⟨1, 1, .w1s, false, 0, .none, []⟩, ⟨0, 0, .w1s, false, 0, .none, []⟩]⟩,
  ⟨0x1B, 1, 0x00C, [], []⟩,
  ⟨0x1B, 1, 0x010, [], [⟨31, 31, .w1c, false, 0, .none, []⟩, ⟨3, 3, .w1c, false, 0, .none, []⟩, ⟨2, 2, .w1c, false, 0, .none, []⟩, ⟨1, 1, .w1c, false, 0, .none, []⟩, ⟨0, 0, .w1c, false, 0, .none, []⟩]⟩]

def regRows9 : List RegRow := [
  ⟨0x1B, 1, 0x020, [], [⟨31, 16, .rww, true, 200, .upper, [(50, 1000)]⟩, ⟨15, 8, .rw, true, 3, .none, [(1, 50)]⟩, ⟨7, 4, .rww, true, 4, .upper, [(1, 8)]⟩, ⟨0, 0, .rw, true, 0, .none, []⟩]⟩,
  ⟨0x1B, 1, 0x024, [], [⟨31, 16, .rw, true, 120, .none, [(10, 600)]⟩, ⟨15, 8, .rw, true, 2, .none, [(1, 4)]⟩, ⟨7, 0, .rw, true, 20, .none, [(10, 100)]⟩]⟩,
  ⟨0x1B, 1, 0x028, [], [⟨31, 0, .rw, true, 0, .none, []⟩]⟩,
  ⟨0x1B, 1, 0x02C, [], [⟨15, 0, .rw, true, 0, .none, []⟩]⟩,
  ⟨0x1B, 1, 0x030, [], [⟨31, 0, .w1s, false, 0, .none, []⟩]⟩,
  ⟨0x1B, 1, 0x034, [], [⟨15, 0, .w1s, false, 0, .none, []⟩]⟩,
  ⟨0x1B, 1, 0x800, [(4, 48)], []⟩,
  ⟨0x1C, 1, 0x008, [], [⟨0, 0, .rw, true, 0, .none, []⟩]⟩,
  ⟨0x1C, 1, 0x00C, [], []⟩,
  ⟨0x1C, 1, 0x010, [], [⟨31, 31, .w1c, false, 0, .none, []⟩, ⟨7, 7, .w1c, false, 0, .none, []⟩, ⟨6, 6, .w1c, false, 0, .none, []⟩, ⟨5, 5, .w1c, false, 0, .none, []⟩, ⟨4, 4, .w1c, false, 0, .none, []⟩, ⟨3, 3, .w1c, false, 0, .none, []⟩, ⟨2, 2, .w1c, false, 0, .none, []⟩, ⟨1, 1, .w1c, false, 0, .none, []⟩, ⟨0, 0, .w1c, false, 0, .none, []⟩]⟩,
  ⟨0x1C, 1, 0x020, [], []⟩,
  ⟨0x1C, 1, 0x024, [], [⟨31, 24, .wo, false, 0, .none, []⟩, ⟨23, 16, .wo, false, 0, .none, []⟩, ⟨15, 0, .wo, false, 0, .none, []⟩]⟩]

def regRows10 : List RegRow := [
  ⟨0x1C, 1, 0x028, [], [⟨31, 29, .ro, true, 0, .none, []⟩, ⟨28, 28, .ro, true, 0, .none, []⟩, ⟨27, 25, .rww, true, 4, .lower, [(1, 6)]⟩, ⟨15, 0, .rw, true, 500, .none, [(200, 1500)]⟩]⟩,
  ⟨0x1C, 1, 0x02C, [], [⟨31, 16, .rww, true, 0, .upper, []⟩, ⟨15, 0, .rww, true, 0, .upper, []⟩]⟩,
  ⟨0x1C, 1, 0x030, [], [⟨31, 20, .rww, true, 500, .upper, [(1, 500)]⟩, ⟨19, 8, .rww, true, 0, .upper, []⟩, ⟨7, 0, .rw, true, 10, .none, [(2, 50)]⟩]⟩,
  ⟨0x1C, 1, 0x034, [], [⟨15, 8, .rw, true, 20, .none, [(5, 100)]⟩]⟩,
  ⟨0x1C, 1, 0x100, [], [⟨31, 24, .rwx, true, 20, .none, [(5, 50)]⟩, ⟨23, 16, .rwx, true, 12, .none, [(5, 96)]⟩, ⟨15, 8, .rwx, true, 30, .none, [(5, 100)]⟩, ⟨1, 0, .rww, true, 0, .upper, []⟩]⟩,
  ⟨0x1C, 1, 0x800, [(16, 16), (4, 4)], []⟩,
  ⟨0x1D, 1, 0x00C, [], []⟩,
  ⟨0x1D, 1, 0x010, [], [⟨31, 31, .w1c, false, 0, .none, []⟩, ⟨3, 3, .w1c, false, 0, .none, []⟩, ⟨2, 2, .w1c, false, 0, .none, []⟩, ⟨1, 1, .w1c, false, 0, .none, []⟩, ⟨0, 0, .w1c, false, 0, .none, []⟩]⟩,
  ⟨0x1D, 1, 0x020, [], [⟨31, 16, .rw, true, 100, .none, [(10, 10000)]⟩]⟩,
  ⟨0x1D, 1, 0x024, [], [⟨31, 16, .ro, true, 0, .none, []⟩, ⟨15, 0, .ro, true, 0, .none, []⟩]⟩,
  ⟨0x1D, 1, 0x028, [], []⟩,
  ⟨0x24, 1, 0x008, [], [⟨0, 0, .w1s, false, 0, .none, []⟩]⟩]

def regRows11 : List RegRow := [
  ⟨0x24, 1, 0x00C, [], []⟩,
  ⟨0x24, 1, 0x010, [], [⟨31, 31, .w1c, false, 0, .none, []⟩, ⟨8, 8, .w1c, false, 0, .none, []⟩, ⟨7, 7, .w1c, false, 0, .none, []⟩, ⟨6, 6, .w1c, false, 0, .none, []⟩, ⟨5, 5, .w1c, false, 0, .none, []⟩, ⟨4, 4, .w1c, false, 0, .none, []⟩, ⟨3, 3, .w1c, false, 0, .none, []⟩, ⟨2, 2, .w1c, false, 0, .none, []⟩, ⟨1, 1, .w1c, false, 0, .none, []⟩, ⟨0, 0, .w1c, false, 0, .none, []⟩]⟩,
  ⟨0x24, 1, 0x020, [], [⟨3, 0, .ro, true, 15, .none, []⟩]⟩,
  ⟨0x24, 1, 0x024, [], [⟨31, 0, .ro, true, 0, .none, []⟩]⟩,
  ⟨0x24, 1, 0x028, [], [⟨31, 28, .ro, true, 15, .none, []⟩, ⟨27, 27, .ro, true, 1, .none, []⟩, ⟨23, 20, .ro, true, 0, .none, []⟩, ⟨19, 19, .ro, true, 0, .none, []⟩]⟩,
  ⟨0x24, 1, 0x02C, [], [⟨31, 16, .ro, true, 100, .none, []⟩, ⟨15, 8, .ro, true, 10, .none, []⟩]⟩,
  ⟨0x24, 1, 0x030, [], [⟨31, 31, .ro, true, 0, .none, []⟩, ⟨28, 0, .ro, true, 0, .none, []⟩]⟩,
  ⟨0x24, 1, 0x034, [], [⟨6, 0, .rw, false, 0, .none, []⟩]⟩,
  ⟨0x24, 1, 0x800, [(16, 8)], [⟨31, 29, .ro, true, 0, .none, []⟩, ⟨28, 28, .ro, true, 0, .none, []⟩, ⟨27, 27, .ro, true, 0, .none, []⟩, ⟨26, 26, .ro, true, 0, .none, []⟩, ⟨25, 25, .ro, true, 0, .none, []⟩, ⟨24, 24, .ro, true, 0, .none, []⟩, ⟨23, 20, .ro, true, 0, .none, []⟩, ⟨19, 19, .ro, true, 0, .none, []⟩, ⟨18, 17, .ro, true, 0, .none, []⟩, ⟨16, 16, .ro, true, 0, .none, []⟩, ⟨15, 14, .ro, true, 0, .none, []⟩]⟩,
  ⟨0x24, 1, 0x804, [(16, 8)], [⟨31, 16, .ro, true, 50, .none, []⟩, ⟨15, 0, .ro, true, 10, .none, []⟩]⟩,
  ⟨0x24, 1, 0x808, [(16, 8)], []⟩,
  ⟨0x24, 1, 0x900, [(4, 48)], [⟨6, 6, .ro, true, 1, .none, []⟩, ⟨4, 4, .ro, true, 1, .none, []⟩, ⟨3, 0, .ro, true, 15, .none, []⟩]⟩]

def regRows12 : List RegRow := [
  ⟨0x24, 1, 0xA00, [(16, 4)], [⟨31, 31, .ro, true, 0, .none, []⟩, ⟨30, 30, .ro, true, 0, .none, []⟩, ⟨29, 29, .ro, true, 0, .none, []⟩, ⟨28, 0, .ro, true, 0, .none, []⟩]⟩,
  ⟨0x24, 1, 0xA04, [(16, 4)], [⟨7, 7, .ro, true, 1, .none, []⟩, ⟨6, 6, .ro, true, 0, .none, []⟩, ⟨5, 5, .ro, true, 1, .none, []⟩, ⟨3, 0, .ro, true, 15, .none, []⟩]⟩,
  ⟨0x24, 1, 0xA08, [(16, 4)], []⟩,
  ⟨0x25, 1, 0x008, [], [⟨1, 1, .w1s, false, 0, .none, []⟩, ⟨0, 0, .w1s, false, 0, .none, []⟩]⟩,
  ⟨0x25, 1, 0x00C, [], []⟩,
  ⟨0x25, 1, 0x010, [], [⟨31, 31, .w1c, false, 0, .none, []⟩, ⟨7, 7, .w1c, false, 0, .none, []⟩, ⟨6, 6, .w1c, false, 0, .none, []⟩, ⟨5, 5, .w1c, false, 0, .none, []⟩, ⟨4, 4, .w1c, false, 0, .none, []⟩, ⟨3, 3, .w1c, false, 0, .none, []⟩, ⟨2, 2, .w1c, false, 0, .none, []⟩, ⟨1, 1, .w1c, false, 0, .none, []⟩, ⟨0, 0, .w1c, false, 0, .none, []⟩]⟩,
  ⟨0x25, 1, 0x020, [], [⟨31, 24, .ro, true, 4, .none, []⟩, ⟨23, 23, .ro, true, 0, .none, []⟩, ⟨9, 0, .rww, true, 72, .upper, [(0, 720)]⟩]⟩,
  ⟨0x25, 1, 0x024, [], []⟩,
  ⟨0x25, 1, 0x028, [], []⟩,
  ⟨0x25, 1, 0x02C, [], []⟩,
  ⟨0x25, 1, 0x030, [], []⟩,
  ⟨0x25, 1, 0x034, [], []⟩]

def regRows13 : List RegRow := [
  ⟨0x25, 1, 0x038, [], []⟩,
  ⟨0x25, 1, 0x03C, [], []⟩,
  ⟨0x26, 1, 0x008, [], [⟨1, 1, .w1s, false, 0, .none, []⟩, ⟨0, 0, .w1s, false, 0, .none, []⟩]⟩,
  ⟨0x26, 1, 0x00C, [], []⟩,
  ⟨0x26, 1, 0x010, [], [⟨31, 31, .w1c, false, 0, .none, []⟩, ⟨10, 10, .w1c, false, 0, .none, []⟩, ⟨9, 9, .w1c, false, 0, .none, []⟩, ⟨8, 8, .w1c, false, 0, .none, []⟩, ⟨7, 7, .w1c, false, 0, .none, []⟩, ⟨6, 6, .w1c, false, 0, .none, []⟩, ⟨5, 5, .w1c, false, 0, .none, []⟩, ⟨4, 4, .w1c, false, 0, .none, []⟩, ⟨3, 3, .w1c, false, 0, .none, []⟩, ⟨2, 2, .w1c, false, 0, .none, []⟩, ⟨1, 1, .w1c, false, 0, .none, []⟩, ⟨0, 0, .w1c, false, 0, .none, []⟩]⟩,
  ⟨0x26, 1, 0x020, [], [⟨31, 20, .rw, true, 60, .none, [(5, 3600)]⟩, ⟨19, 19, .rw, true, 1, .none, []⟩]⟩,
  ⟨0x26, 1, 0x024, [], []⟩,
  ⟨0x26, 1, 0x028, [], []⟩,
  ⟨0x26, 1, 0x02C, [], []⟩,
  ⟨0x26, 1, 0x030, [], []⟩,
  ⟨0x20, 4, 0x008, [], [⟨31, 16, .rw, true, 100, .none, [(0, 10000)]⟩, ⟨6, 6, .w1s, false, 0, .none, []⟩, ⟨5, 4, .rw, true, 0, .none, [(0, 2)]⟩, ⟨3, 3, .rw, true, 1, .none, []⟩, ⟨2, 2, .ro, true, 0, .none, []⟩, ⟨1, 0, .rw, true, 0, .none, []⟩]⟩,
  ⟨0x20, 4, 0x00C, [], []⟩]

def regRows14 : List RegRow := [
  ⟨0x20, 4, 0x010, [], [⟨31, 31, .w1c, false, 0, .none, []⟩, ⟨8, 8, .w1c, false, 0, .none, []⟩, ⟨7, 7, .w1c, false, 0, .none, []⟩, ⟨6, 6, .w1c, false, 0, .none, []⟩, ⟨5, 5, .w1c, false, 0, .none, []⟩, ⟨4, 4, .w1c, false, 0, .none, []⟩, ⟨3, 3, .w1c, false, 0, .none, []⟩, ⟨2, 2, .w1c, false, 0, .none, []⟩, ⟨1, 1, .w1c, false, 0, .none, []⟩, ⟨0, 0, .w1c, false, 0, .none, []⟩]⟩,
  ⟨0x20, 4, 0x020, [], [⟨31, 24, .rw, true, 0, .none, [(1, 255)]⟩, ⟨23, 17, .rw, true, 0, .none, [(1, 127)]⟩, ⟨16, 10, .rw, true, 0, .none, []⟩, ⟨4, 0, .rw, true, 0, .none, []⟩]⟩,
  ⟨0x20, 4, 0x024, [], [⟨31, 27, .rw, true, 0, .none, []⟩, ⟨26, 23, .rw, true, 0, .none, []⟩, ⟨22, 19, .rw, true, 0, .none, []⟩, ⟨17, 13, .rw, true, 0, .none, []⟩, ⟨7, 7, .rw, true, 0, .none, []⟩, ⟨6, 0, .rw, true, 0, .none, []⟩]⟩,
  ⟨0x20, 4, 0x028, [], []⟩,
  ⟨0x20, 4, 0x02C, [], [⟨27, 25, .ro, true, 0, .none, []⟩, ⟨5, 0, .rw, false, 0, .none, []⟩]⟩,
  ⟨0x20, 4, 0x030, [], [⟨31, 8, .wo, false, 0, .none, []⟩, ⟨7, 6, .wo, false, 0, .none, [(1, 2)]⟩, ⟨5, 0, .wo, false, 0, .none, []⟩]⟩,
  ⟨0x20, 4, 0x034, [], [⟨29, 29, .rw, true, 0, .none, []⟩, ⟨28, 0, .rw, true, 0, .none, []⟩]⟩,
  ⟨0x20, 4, 0x038, [(4, 5)], [⟨31, 0, .rw, true, 0, .none, []⟩]⟩,
  ⟨0x20, 4, 0x800, [(4, 22)], [⟨31, 0, .rw, false, 0, .none, []⟩]⟩,
  ⟨0x20, 4, 0xA00, [(8, 32)], [⟨31, 31, .ro, true, 0, .none, []⟩, ⟨30, 30, .ro, true, 0, .none, []⟩, ⟨29, 29, .ro, true, 0, .none, []⟩, ⟨28, 0, .ro, true, 0, .none, []⟩]⟩,
  ⟨0x20, 4, 0xA04, [(8, 32)], [⟨28, 0, .ro, true, 0, .none, []⟩]⟩,
  ⟨0x03, 1, 0x030, [], [⟨31, 30, .rw, true, 0, .none, [(0, 2)]⟩, ⟨29, 28, .rw, true, 0, .none, [(0, 2)]⟩, ⟨27, 21, .rw, true, 0, .none, [(1, 100)]⟩]⟩]

def regRows15 : List RegRow := [
  ⟨0x03, 1, 0x034, [], []⟩,
  ⟨0x03, 1, 0x038, [], [⟨31, 30, .rw, true, 0, .none, [(0, 2)]⟩, ⟨29, 27, .rw, true, 0, .none, []⟩, ⟨26, 25, .rw, true, 0, .none, []⟩, ⟨15, 0, .rw, true, 250, .none, [(10, 1000)]⟩]⟩,
  ⟨0x03, 1, 0x03C, [], [⟨29, 29, .rw, true, 0, .none, []⟩, ⟨28, 0, .rw, true, 0, .none, []⟩]⟩,
  ⟨0x04, 1, 0x008, [], [⟨1, 1, .w1s, false, 0, .none, []⟩, ⟨0, 0, .w1s, false, 0, .none, []⟩]⟩,
  ⟨0x04, 1, 0x00C, [], []⟩,
  ⟨0x04, 1, 0x010, [], [⟨31, 31, .w1c, false, 0, .none, []⟩, ⟨1, 1, .w1c, false, 0, .none, []⟩, ⟨0, 0, .w1c, false, 0, .none, []⟩]⟩,
  ⟨0x04, 1, 0x020, [], []⟩,
  ⟨0x04, 1, 0x024, [], []⟩,
  ⟨0x05, 1, 0x010, [], [⟨31, 31, .w1c, false, 0, .none, []⟩, ⟨0, 0, .w1c, false, 0, .none, []⟩]⟩,
  ⟨0x05, 1, 0x020, [], [⟨8, 0, .rw, false, 0, .none, []⟩]⟩,
  ⟨0x05, 1, 0x024, [], []⟩,
  ⟨0x05, 1, 0x800, [(4, 4)], [⟨31, 0, .rw, true, 0, .none, []⟩]⟩]

def regRows16 : List RegRow := [
  ⟨0x06, 1, 0x008, [], [⟨1, 1, .w1s, false, 0, .none, []⟩, ⟨0, 0, .w1s, false, 0, .none, []⟩]⟩,
  ⟨0x06, 1, 0x00C, [], []⟩,
  ⟨0x06, 1, 0x010, [], [⟨31, 31, .w1c, false, 0, .none, []⟩, ⟨5, 5, .w1c, false, 0, .none, []⟩, ⟨4, 4, .w1c, false, 0, .none, []⟩, ⟨3, 3, .w1c, false, 0, .none, []⟩, ⟨2, 2, .w1c, false, 0, .none, []⟩, ⟨1, 1, .w1c, false, 0, .none, []⟩, ⟨0, 0, .w1c, false, 0, .none, []⟩]⟩,
  ⟨0x06, 1, 0x020, [], [⟨12, 0, .rw, false, 3072, .none, [(1, 4096)]⟩]⟩,
  ⟨0x06, 1, 0x024, [], [⟨31, 4, .wo, false, 0, .none, []⟩, ⟨3, 0, .wo, false, 0, .none, []⟩]⟩,
  ⟨0x06, 1, 0x800, [(4, 16)], []⟩,
  ⟨0x01, 1, 0x008, [], [⟨2, 0, .wo, false, 0, .none, [(1, 3)]⟩]⟩,
  ⟨0x01, 1, 0x00C, [], []⟩,
  ⟨0x01, 1, 0x010, [], [⟨31, 31, .w1c, false, 0, .none, []⟩, ⟨4, 4, .w1c, false, 0, .none, []⟩, ⟨3, 3, .w1c, false, 0, .none, []⟩, ⟨2, 2, .w1c, false, 0, .none, []⟩, ⟨1, 1, .w1c, false, 0, .none, []⟩, ⟨0, 0, .w1c, false, 0, .none, []⟩]⟩,
  ⟨0x01, 1, 0x020, [], []⟩,
  ⟨0x01, 1, 0x024, [], [⟨31, 31, .w1s, false, 0, .none, []⟩, ⟨4, 0, .rw, false, 0, .none, []⟩]⟩,
  ⟨0x01, 1, 0x028, [], [⟨31, 0, .rw, false, 0, .none, []⟩]⟩]

def regRows17 : List RegRow := [
  ⟨0x01, 1, 0x02C, [], [⟨31, 0, .wo, false, 0, .none, []⟩]⟩,
  ⟨0x01, 1, 0x030, [], [⟨31, 0, .wo, false, 0, .none, []⟩]⟩,
  ⟨0x01, 1, 0x034, [], []⟩,
  ⟨0x02, 1, 0x008, [], [⟨15, 8, .rw, true, 50, .none, [(0, 100)]⟩, ⟨2, 0, .rw, true, 0, .none, [(0, 4)]⟩]⟩,
  ⟨0x02, 1, 0x00C, [], []⟩,
  ⟨0x02, 1, 0x010, [], [⟨31, 31, .w1c, false, 0, .none, []⟩, ⟨1, 1, .w1c, false, 0, .none, []⟩, ⟨0, 0, .w1c, false, 0, .none, []⟩]⟩,
  ⟨0x02, 1, 0x020, [], [⟨31, 0, .w1c, false, 0, .none, []⟩]⟩,
  ⟨0x02, 1, 0x024, [], [⟨15, 0, .w1c, false, 0, .none, []⟩]⟩,
  ⟨0x02, 1, 0x028, [], []⟩,
  ⟨0x02, 1, 0x800, [(4, 5)], []⟩,
  ⟨0x00, 1, 0x040, [], [⟨2, 2, .w1s, false, 0, .none, []⟩, ⟨1, 1, .w1s, false, 0, .none, []⟩, ⟨0, 0, .w1s, false, 0, .none, []⟩]⟩,
  ⟨0x00, 1, 0x044, [], []⟩]

def regRows18 : List RegRow := [
  ⟨0x00, 1, 0x048, [], [⟨20, 0, .rw, false, 0, .none, []⟩]⟩,
  ⟨0x00, 1, 0x04C, [], [⟨31, 0, .wo, false, 0, .none, []⟩]⟩,
  ⟨0x27, 1, 0x008, [], [⟨0, 0, .w1s, false, 0, .none, []⟩]⟩,
  ⟨0x27, 1, 0x00C, [], [⟨31, 31, .ro, true, 0, .none, []⟩]⟩,
  ⟨0x27, 1, 0x010, [], [⟨31, 31, .w1c, false, 0, .none, []⟩, ⟨3, 3, .w1c, false, 0, .none, []⟩, ⟨2, 2, .w1c, false, 0, .none, []⟩, ⟨1, 1, .w1c, false, 0, .none, []⟩, ⟨0, 0, .w1c, false, 0, .none, []⟩]⟩,
  ⟨0x27, 1, 0x020, [], []⟩,
  ⟨0x27, 1, 0x024, [], []⟩,
  ⟨0x27, 1, 0x028, [], []⟩,
  ⟨0x27, 1, 0x030, [], [⟨31, 3, .wo, false, 0, .none, []⟩, ⟨2, 0, .wo, false, 0, .none, [(1, 7)]⟩]⟩,
  ⟨0x27, 1, 0x034, [], [⟨31, 0, .rw, false, 0, .none, []⟩]⟩,
  ⟨0x27, 1, 0x038, [], []⟩,
  ⟨0x27, 1, 0x03C, [], []⟩]

def regRows19 : List RegRow := [
  ⟨0x27, 1, 0x040, [], []⟩,
  ⟨0x27, 1, 0x044, [], [⟨31, 0, .rw, false, 0, .none, []⟩]⟩,
  ⟨0x27, 1, 0x048, [], [⟨31, 0, .wo, false, 0, .none, []⟩]⟩,
  ⟨0x27, 1, 0x04C, [], [⟨31, 0, .wo, false, 0, .none, []⟩]⟩,
  ⟨0x27, 1, 0x800, [(4, 66)], []⟩,
  ⟨0x2A, 1, 0x008, [], [⟨0, 0, .w1s, false, 0, .none, []⟩]⟩,
  ⟨0x2A, 1, 0x00C, [], []⟩,
  ⟨0x2A, 1, 0x010, [], [⟨31, 31, .w1c, false, 0, .none, []⟩, ⟨3, 3, .w1c, false, 0, .none, []⟩, ⟨2, 2, .w1c, false, 0, .none, []⟩, ⟨1, 1, .w1c, false, 0, .none, []⟩, ⟨0, 0, .w1c, false, 0, .none, []⟩]⟩,
  ⟨0x28, 1, 0x008, [], [⟨5, 5, .w1s, false, 0, .none, []⟩, ⟨4, 4, .w1s, false, 0, .none, []⟩, ⟨3, 3, .w1s, false, 0, .none, []⟩, ⟨2, 2, .w1s, false, 0, .none, []⟩, ⟨1, 1, .w1s, false, 0, .none, []⟩, ⟨0, 0, .w1s, false, 0, .none, []⟩]⟩,
  ⟨0x28, 1, 0x00C, [], []⟩,
  ⟨0x28, 1, 0x010, [], [⟨31, 31, .w1c, false, 0, .none, []⟩, ⟨3, 3, .w1c, false, 0, .none, []⟩, ⟨2, 2, .w1c, false, 0, .none, []⟩, ⟨1, 1, .w1c, false, 0, .none, []⟩, ⟨0, 0, .w1c, false, 0, .none, []⟩]⟩,
  ⟨0x28, 1, 0x020, [], [⟨14, 0, .rw, false, 0, .none, []⟩]⟩]

def regRows20 : List RegRow := [
  ⟨0x28, 1, 0x024, [], [⟨31, 0, .wo, false, 0, .none, []⟩]⟩,
  ⟨0x28, 1, 0x028, [], [⟨4, 2, .rw, false, 0, .none, [(0, 3)]⟩]⟩,
  ⟨0x28, 1, 0x02C, [], [⟨2, 0, .rw, false, 0, .none, [(0, 6)]⟩]⟩,
  ⟨0x28, 1, 0x040, [(4, 8)], [⟨31, 0, .wo, false, 0, .none, []⟩]⟩,
  ⟨0x28, 1, 0x100, [(4, 24)], [⟨31, 0, .rwx, false, 0, .none, []⟩]⟩,
  ⟨0x28, 1, 0x800, [(4, 64)], []⟩,
  ⟨0x29, 1, 0x008, [], [⟨0, 0, .w1s, false, 0, .none, []⟩]⟩,
  ⟨0x29, 1, 0x00C, [], []⟩,
  ⟨0x29, 1, 0x010, [], [⟨31, 31, .w1c, false, 0, .none, []⟩, ⟨2, 2, .w1c, false, 0, .none, []⟩, ⟨1, 1, .w1c, false, 0, .none, []⟩, ⟨0, 0, .w1c, false, 0, .none, []⟩]⟩,
  ⟨0x29, 1, 0x020, [], [⟨31, 30, .rww, true, 1, .lower, [(0, 2)]⟩, ⟨15, 0, .rww, true, 24, .upper, [(1, 168)]⟩]⟩,
  ⟨0x29, 1, 0x800, [(8, 48)], []⟩,
  ⟨0x29, 1, 0x804, [(8, 48)], []⟩]

def regRows21 : List RegRow := [
  ⟨0x03, 1, 0x010, [], [⟨31, 31, .w1c, false, 0, .none, []⟩, ⟨3, 3, .w1c, false, 0, .none, []⟩, ⟨2, 2, .w1c, false, 0, .none, []⟩, ⟨1, 1, .w1c, false, 0, .none, []⟩, ⟨0, 0, .w1c, false, 0, .none, []⟩]⟩,
  ⟨0x03, 1, 0x040, [], []⟩,
  ⟨0x03, 1, 0x044, [], []⟩,
  ⟨0x07, 1, 0x00C, [], []⟩,
  ⟨0x07, 1, 0x010, [], [⟨31, 31, .w1c, false, 0, .none, []⟩, ⟨2, 2, .w1c, false, 0, .none, []⟩, ⟨1, 1, .w1c, false, 0, .none, []⟩, ⟨0, 0, .w1c, false, 0, .none, []⟩]⟩,
  ⟨0x07, 1, 0x020, [], []⟩,
  ⟨0x07, 1, 0x024, [], []⟩]

def regRows : List RegRow :=
  regRows0 ++ regRows1 ++ regRows2 ++ regRows3 ++ regRows4 ++ regRows5 ++ regRows6 ++ regRows7 ++ regRows8 ++ regRows9 ++ regRows10 ++ regRows11 ++ regRows12 ++ regRows13 ++ regRows14 ++ regRows15 ++ regRows16 ++ regRows17 ++ regRows18 ++ regRows19 ++ regRows20 ++ regRows21

/-- Is offset o (relative to the base) a position of the array with these dimensions? -/
def inDims : List (Nat × Nat) → Nat → Bool
  | [], o => o == 0
  | [(st, n)], o => o % st == 0 && decide (o / st < n)
  | (st, n) :: t, o => decide (o / st < n) && inDims t (o % st)

/-- The common registers of Table 02.3 that have no row of their own on a page: EVTEN and LOCK are writable, ID, CAP and
CFGSEQ are not; CTRL, STAT and EVT are present on every page. -/
def commonFlds (off : Nat) : List Fld :=
  if off = 0x010 then [⟨31, 31, .w1c, false, 0, .none, []⟩]
  else if off = 0x014 then [⟨31, 0, .rw, false, 0, .none, []⟩]
  else if off = 0x018 then [⟨31, 0, .wo, false, 0, .none, []⟩]
  else []

def pagePresent (pg : Nat) : Bool := decide (pg ≤ 0x2B) && pg != 0x1E && pg != 0x1F

/-- Row of a register, by page number and offset. -/
def regRow (pg off : Nat) : Option RegRow :=
  regRows.find? (fun r => decide (r.page ≤ pg) && decide (pg < r.page + r.insts) && decide (r.off ≤ off) &&
    inDims r.dims (off - r.off))

/-- Fields of a register: none where the offset is reserved (R45). -/
def regFlds (pg off : Nat) : Option (List Fld) :=
  if pagePresent pg then
    match regRow pg off with
    | some r => some r.flds
    | none => if off < 0x020 ∧ off % 4 = 0 then some (commonFlds off) else none
  else none

/-- Thresholds of Table 09.4 by quantity and level, in the quantity's unit; the disabled level as R245 codes it. -/
def thTable : List (List Int) :=
  [[36600, 36700, 36800, 37000, 37500], [27500, 26500, 25500, 25000, 23000], [450, 500, 550, 600, 650],
   [50, 0, -100, -200, -300], [100, 105, 110, 125, 65535], [100, 105, 110, 125, 65535], [1, 50, 200, 1000, 65535],
   [1, 1000, 5000, 10000, 65535], [1, 20, 100, 5000, 65535], [500, 300, 150, 0, 100]]

/-- DEB, DEB45, CLR, LOCK5 and AUTO of Table 09.4, R243 and R244. -/
def debTable : List (Nat × Nat × Nat × Nat × Nat) :=
  [(2, 2, 10, 1, 0), (3, 5, 10, 0, 0), (2, 3, 10, 1, 0), (2, 3, 10, 0, 1), (3, 3, 10, 0, 0), (3, 3, 10, 0, 0), (1, 1, 10, 0, 1),
   (1, 1, 10, 0, 1), (1, 1, 10, 0, 1), (2, 2, 10, 1, 0)]

/-- Defaults that depend on the index: PROT.THq_k and PROT.DEBq. -/
def indexDefault (pg off : Nat) : Option Word :=
  if pg = 0x19 ∧ 0x800 ≤ off ∧ off < 0x940 then
    let q := (off - 0x800) / 0x20
    let k := (off - 0x800) % 0x20 / 4
    if k < 5 then some (word (ofSigned 16 ((thTable.getD q []).getD k 0)))
    else if k = 5 then
      let d := debTable.getD q (0, 0, 0, 0, 0)
      some (word (at_ 24 d.1 + at_ 16 d.2.1 + at_ 8 d.2.2.1 + at_ 1 d.2.2.2.1 + d.2.2.2.2))
    else none
  else none

/-- Value a register takes where neither a write nor the generation has given one: its stated defaults (R520) and numeric reset
values, 0 where the manual states none (log 3). -/
def regDefault (pg off : Nat) : Word :=
  match indexDefault pg off with
  | some w => w
  | none =>
    match regFlds pg off with
    | some fs => fs.foldl (fun w f => setField w f.hi f.lo f.dflt) 0#32
    | none => 0#32

end Sys2Proof.Machine
end

