-- ==== Sys2Proof/Machine/Ops.lean ====
section
/-! DEFINITION. The named operations every meaning is written over: settings in force, records, events, outputs, free values,
time. -/
namespace Sys2Proof.Machine

/-! ### Pages (Table 02.2) -/

abbrev pDEV : Nat := 0x00
abbrev pMODE : Nat := 0x01
abbrev pLAND : Nat := 0x02
abbrev pTIME : Nat := 0x03
abbrev pHALL : Nat := 0x04
abbrev pFLOW : Nat := 0x05
abbrev pHOST : Nat := 0x06
abbrev pTHERM : Nat := 0x07
abbrev pPSEQ : Nat := 0x08
abbrev pCELL : Nat := 0x14
abbrev pBAL : Nat := 0x15
abbrev pCUR : Nat := 0x16
abbrev pEST : Nat := 0x17
abbrev pLIM : Nat := 0x18
abbrev pPROT : Nat := 0x19
abbrev pACT : Nat := 0x1A
abbrev pJOIN : Nat := 0x1B
abbrev pBFC : Nat := 0x1C
abbrev pBVL : Nat := 0x1D
abbrev pCAN : Nat := 0x20
abbrev pBAN : Nat := 0x24
abbrev pSCOR : Nat := 0x25
abbrev pPAIR : Nat := 0x26
abbrev pGAL : Nat := 0x27
abbrev pOTP : Nat := 0x28
abbrev pAUTH : Nat := 0x29
abbrev pSTW : Nat := 0x2A
abbrev pCODE : Nat := 0x2B

/-- Classes of Table 02.5. -/
inductive PageClass where
  | control | data | timeBase | can | mgmt
  deriving DecidableEq, Repr

/-- Class of a page (Tables 01.1, 02.2). -/
def pageClass (pg : Nat) : PageClass :=
  if pg = pMODE ∨ (pPROT ≤ pg ∧ pg ≤ pBVL) ∨ (pBAN ≤ pg ∧ pg ≤ pPAIR) then .control
  else if pg = pHALL ∨ pg = pFLOW ∨ (pPSEQ ≤ pg ∧ pg ≤ pLIM) then .data
  else if pg = pTIME ∨ pg = pTHERM then .timeBase
  else if pCAN ≤ pg ∧ pg ≤ 0x23 then .can
  else .mgmt

/-! ### Settings in force -/

def regAddr (pg off : Nat) : Nat := pg * 0x1000 + off

def State.genWord (s : State) (pg off : Nat) : Word :=
  match slook s.gen.regs (regAddr pg off) with
  | some w => w
  | none => regDefault pg off

/-- Value in force of a stored register: the last accepted write, else the generation's value, else its default (R46, R520). -/
def State.reg (s : State) (pg off : Nat) : Word :=
  match slook s.regs (regAddr pg off) with
  | some w => w
  | none => s.genWord pg off

def State.fld (s : State) (pg off hi lo : Nat) : Nat := field (s.reg pg off) hi lo
def State.sfld (s : State) (pg off hi lo : Nat) : Int := toSigned (hi + 1 - lo) (s.fld pg off hi lo)
def State.bit (s : State) (pg off n : Nat) : Bool := s.fld pg off n n == 1
/-- Stores a register word. -/
def State.setReg (s : State) (pg off : Nat) (w : Word) : State := { s with regs := sput s.regs (regAddr pg off) w }
def State.setFld (s : State) (pg off hi lo v : Nat) : State := s.setReg pg off (setField (s.reg pg off) hi lo v)

/-- Items of plant data of the generation's blocks (log 8): kind × 2^20 + index. -/
def State.item (s : State) (kind i : Nat) : Int := (slook s.gen.plant (kind * 1048576 + i)).getD 0

/-- An item with a stated default, which a generation may omit (R520). -/
def State.itemOr (s : State) (kind i : Nat) (d : Int) : Int := (slook s.gen.plant (kind * 1048576 + i)).getD d

/-- Ports in use: PSEQg.CTRL.EN (TOPOLOGY). -/
def State.portEn (s : State) (p : Nat) : Bool := decide (p < 48) && s.bit (pPSEQ + p / 4) 0x008 (p % 4)
/-- The upper port of a dual-ended chain (PAIR01, PAIR23). -/
def State.dualUpper (s : State) (p : Nat) : Bool := p % 2 == 1 && s.bit (pPSEQ + p / 4) 0x008 (8 + p % 4 / 2)
def State.dualLower (s : State) (p : Nat) : Bool := p % 2 == 0 && s.bit (pPSEQ + p / 4) 0x008 (8 + p % 4 / 2)
/-- Strings in use: one per port in use, a dual-ended chain counts as the string of its lower port (R1, R138). -/
def State.strUse (s : State) (x : Nat) : Bool := s.portEn x && !s.dualUpper x
def State.hExpect (s : State) (p : Nat) : Nat := s.fld (pPSEQ + p / 4) (0x040 + 16 * (p % 4)) 5 0
def range48 : List Nat := List.range 48
def State.strings (s : State) : List Nat := range48.filter s.strUse
def State.portsUsed (s : State) : List Nat := range48.filter s.portEn

/-- C_NOM of a string, 0.01 Ah (TOPOLOGY). -/
def State.cNom (s : State) (x : Nat) : Rat := (s.item 1 x : Rat) / 100
/-- Section identifier and generation ID (R476). -/
def State.genId (s : State) : Word := s.gen.id

/-! ### Device time -/

def State.now (s : State) : Nat := s.time.now
def State.tEpoch (s : State) : Nat := s.time.tEpochMs * 1000000
/-- Moves device time on to t where it is earlier (log 1). -/
def State.reach (s : State) (t : Nat) : State :=
  { s with time := { s.time with now := Nat.max s.time.now t, opNs := s.time.opNs + (t - s.time.now) } }
/-- Operating time, s (R457). -/
def State.opSecs (s : State) : Nat := s.gal.opTime + s.time.opNs / 1000000000
/-- t_N (R27). -/
def State.tOf (s : State) (n : Word) : Nat := (s.time.tBase + (n.toNat : Int) * (s.tEpoch : Int)).toNat
/-- Number and instant of the next sample instant. -/
def State.nextN (s : State) : Word := nextEpoch s.time.epoch
def State.nextT (s : State) : Nat :=
  -- at the wrap the number after 0xFFFF_FFFF is 1, one period later
  if s.time.epoch = 0xFFFFFFFF#32 then s.tOf s.time.epoch + s.tEpoch else s.tOf s.nextN
def msNs (n : Nat) : Nat := n * 1000000
def usNs (n : Nat) : Nat := n * 1000
def sNs (n : Nat) : Nat := n * 1000000000

/-! ### Free values, outputs -/

/-- The next free two-way choice and the state that has used it. -/
def State.freeBool (s : State) : Bool × State := (Config.freeBool s.fresh, { s with fresh := s.fresh + 1 })
def State.freeWord (s : State) : Word × State := (Config.freeWord s.fresh, { s with fresh := s.fresh + 1 })
def State.emit (s : State) (o : Out) : State := { s with out := o :: s.out }

/-- Segments of a pair-link message of n words (R358): one frame for the types that are not segmented. -/
def pairFrames (typ n : Nat) : Nat :=
  if typ = 0x05 ∨ typ = 0x11 ∨ typ = 0x12 ∨ typ = 0x21 then (4 * n + 1015) / 1016 else 1
/-- Sends a pair-link message on both lanes: the next LSEQ for each frame, the next MSG of its TYPE (R357, R358). In single operation
the link is not used (R8). -/
def State.sendPair (s : State) (typ : Nat) (ws : List Word) : State :=
  if s.pair.role = .singleOp then s
  else
    let m := sget 0#16 s.pair.msgNo typ
    { s with pair := { s.pair with lseq := s.pair.lseq + BitVec.ofNat 16 (pairFrames typ ws.length),
                                   msgNo := sset 0#16 s.pair.msgNo typ (m + 1#16) } }.emit (.pair typ s.pair.lseq m ws)

/-! ### Events (R60–R62) -/

/-- Sets bit n of the page's EVT. -/
def State.raise (s : State) (pg n : Nat) : State := s.updPage pg (fun p => { p with evt := p.evt ||| (1#32 <<< n) })
/-- Clears the bits of a mask (W1C). -/
def State.evtClear (s : State) (pg : Nat) (m : Word) : State := s.updPage pg (fun p => { p with evt := p.evt &&& ~~~m })
def State.evtBit (s : State) (pg n : Nat) : Bool := (s.page pg).evt.getLsbD n
/-- Page pg has an enabled event pending (R62). -/
def State.irqBit (s : State) (pg : Nat) : Bool := pagePresent pg && ((s.page pg).evt &&& (s.page pg).evten) != 0#32
def bitsOf (f : Nat → Bool) (n : Nat) : Nat := (List.range n).foldl (fun a i => a + if f i then 2 ^ i else 0) 0
/-- HOST_IRQ (R62). -/
def State.hostIrq (s : State) : Bool := (List.range 0x2C).any s.irqBit
def State.bumpCfg (s : State) (pg : Nat) : State := s.updPage pg (fun p => { p with cfgseq := p.cfgseq + 1#32 })

/-! ### Records (R25, R26, R457) -/

/-- Plane of a record's source, FLAGS bits [2:1] (log 17). -/
def planeOf (typ : Nat) : Nat :=
  let r := typ / 256
  if r ≤ 4 then 2 else if r = 0x0B ∨ 0x0D ≤ r then 3 else 1

def State.galEntry (s : State) (typ : Nat) (pl : List Word) : GalEntry :=
  { typ := typ, plane := planeOf typ, payload := pl.take 60, opHours := s.opSecs / 3600, opSec := s.opSecs % 3600,
    pcc := s.gal.pcc % 2 ^ 24, primary := s.start.primary }

/-- Writes one record through the append port: a full FIFO counts it as lost (R26). -/
def State.log (s : State) (typ : Nat) (pl : List Word) : State :=
  if s.gal.fifo.length < Config.appendMax then
    { s with gal := { s.gal with fifo := s.gal.fifo ++ [s.galEntry typ pl] } }
  else
    { s with gal := { s.gal with lost := s.gal.lost + 1, lostTotal := s.gal.lostTotal + 1,
                                 lostFirst := if s.gal.lost = 0 then typ else s.gal.lostFirst, lostLast := typ } }.raise pGAL 2

def State.logN (s : State) (typ : Nat) (pl : List Nat) : State := s.log typ (pl.map word)
def lo32 (n : Nat) : Word := word n
def hi32 (n : Nat) : Word := word (n / 2 ^ 32)
/-- A 64-bit quantity as two words, low first. -/
def two (n : Nat) : List Word := [lo32 n, hi32 n]
/-- A 48-bit mask as two words, low first. -/
def mask48 (m : BitVec 48) : List Word := two m.toNat

/-! ### Origins -/

/-- Level of the Stairwell session: it starts at view where the generation in force holds no view password (R468). -/
def State.stwLevel (s : State) : Level := if s.stw.level = .out ∧ s.gen.view.isNone = true then .view else s.stw.level
/-- Access level of an origin: the host counts as service level (R56); management firmware is not limited. -/
def State.levelOf (s : State) : Origin → Level
  | .host => .service
  | .stairwell => s.stwLevel
  | .mgmt => .factory

/-- Refusals (Tables 01.2, 16.5). -/
inductive Refuse where
  | format | lock | wall | mode | auth
  deriving DecidableEq, Repr

def Refuse.code : Refuse → Nat
  | .format => 1
  | .lock => 2
  | .wall => 3
  | .mode => 4
  | .auth => 5

/-! ### Modes and roles -/

def State.md (s : State) : Mode := s.mode.mode
def State.active (s : State) : Bool := s.pair.role == .active || s.pair.role == .singleOp
def State.standby (s : State) : Bool := s.pair.role == .standby
def State.term (s : State) : Byte := s.pair.term

def foldS {α : Type} (l : List α) (f : State → α → State) (s : State) : State := l.foldl f s
/-- Applies f where c holds. -/
def State.when (s : State) (c : Bool) (f : State → State) : State := if c then f s else s

end Sys2Proof.Machine
end

