-- ==== Sys2Proof/Machine/Section.lean ====
section
/-! DEFINITION. Operations on the section that several commands share: mode requests, openings, closings, converter stop and latch,
join abort, LOCKOUT requests (09, 10, 11, 17). -/
namespace Sys2Proof.Machine

/-! ### Unlocking and modes -/

/-- Ends a Gallery session whose authorisation has lapsed (R464). -/
def State.lapseSession (s : State) (o : Origin) (allowed : Bool) : State :=
  if s.bit pGAL 0x00C 31 && !allowed then { s with gal := { s.gal with sessions := serase s.gal.sessions o.code } } else s

/-- The page returns to locked (R57). -/
def State.lockPage (s : State) (pg : Nat) : State :=
  let s := s.updPage pg (fun p => { p with owner := 0 })
  if pg = pGAL then s.lapseSession .host false else s

def State.lockAll (s : State) : State := foldS (List.range 0x2C) (fun s pg => s.lockPage pg) s
/-- Locks every page the origin had unlocked. -/
def State.lockOwned (s : State) (o : Origin) : State :=
  foldS (List.range 0x2C) (fun s pg => if (s.page pg).owner = o.code then s.lockPage pg else s) s

/-- A synchronised standby counts REVERT_T from now (R377). -/
def State.revertRestart (s : State) : State :=
  if s.standby && s.pair.sync == .synced then { s with pair := { s.pair with revertSince := some s.now } } else s

/-- A mode takes effect: recorded, and every unlocked page locks (R57, R428). The end of LOCKOUT restarts REVERT_T; DORMANT keeps
whether the device was ACTIVE (R454). -/
def State.setMode (s : State) (m : Mode) (origin : Nat) : State :=
  ((({ s with mode := { s.mode with mode := m }, land := { s.land with wasActive := if m = Mode.dormant then s.active else s.land.wasActive } }.when (s.md == Mode.lockout) State.revertRestart).logN 0x0C01 [s.md.code, m.code, origin]).raise pMODE 0).lockAll

/-- A request raised inside the device: no guards (R428). A transition in progress other than one into JOINING or ONLINE goes
on. -/
def State.askReady (s : State) : State :=
  match s.mode.trans with
  | none => { s with mode := { s.mode with trans := some { target := .ready, origin := 0, afterOpenings := true } } }
  | some t =>
    if t.target.joinOrOnline then
      { s with mode := { s.mode with trans := some { target := .ready, origin := 0, afterOpenings := true } } }
    else s

/-! ### Channels -/

/-- ACT.MAPc fields: role 1 NEG, 2 POS, 3 FEED. -/
def State.chRole (s : State) (c : Nat) : Nat := s.fld pACT (0x800 + 4 * c) 31 30
def State.chStr (s : State) (c : Nat) : Nat := s.fld pACT (0x800 + 4 * c) 29 24
def State.negOf (s : State) (x : Nat) : Option Nat := (List.range 128).find? (fun c => s.chRole c == 1 && s.chStr c == x)
def State.posOf (s : State) (x : Nat) : Option Nat := (List.range 128).find? (fun c => s.chRole c == 2 && s.chStr c == x)
def State.feedCh (s : State) : Option Nat := (List.range 128).find? (fun c => s.chRole c == 3)
/-- The string whose terminals feed the converter, none for an external source. -/
def State.feedStr (s : State) : Option Nat := s.feedCh.bind (fun c => if s.chStr c < 48 then some (s.chStr c) else none)
def optL (o : Option Nat) : List Nat := match o with | some c => [c] | none => []
/-- NEG and POS of a string. -/
def State.chansOf (s : State) (x : Nat) : List Nat := optL (s.negOf x) ++ optL (s.posOf x)
/-- QD-8 n is named by the channel map. -/
def State.qdPresent (s : State) (n : Nat) : Bool := (List.range 8).any (fun k => s.chRole (8 * n + k) != 0)

/-- CLOSE is commanded (assigned), or has been. -/
def State.closeCmd (s : State) (c : Nat) : Bool := (s.coil c).closeSeq.isSome
/-- Every contactor of the map has its auxiliary open and no CLOSE is assigned. -/
def State.allOpen (s : State) : Bool := (List.range 128).all (fun c => s.chRole c == 0 || (!s.closeCmd c && !(s.coil c).aux))
/-- Both contactors of a string are open. -/
def State.strOpen (s : State) (x : Nat) : Bool := (s.chansOf x).all (fun c => !s.closeCmd c && !(s.coil c).aux)

/-- Command frame of QD-8 n (Table 10.1). -/
def qdFrame (n : Nat) (term : Byte) (seq req : Nat) : List Byte :=
  let body := [BitVec.ofNat 8 (n % 8), term] ++ leBytes 2 seq ++ leBytes 2 req ++ [0#8, 0#8, 0#8]
  [0xA7#8] ++ body ++ leBytes 2 (crc16 body).toNat

/-- The device sends nothing on the actuator links: in a role that sends none (Table 14.3), while SYNCING (R363), after R375, with
no core running (R431), in BOOT_HOLD (R441). -/
def State.alSilent (s : State) : Bool :=
  s.pair.stopRefresh || s.start.bootHold || s.mode.lockoutNow || s.pair.sync == .syncing ||
    !(s.active || s.standby)

/-- Urgent OPEN for channels (R265): one frame per QD-8 concerned, SEQ of the latest refresh. -/
def State.urgent (s : State) (cs : List Nat) : State :=
  if s.alSilent then s else
    foldS ((List.range 16).filter (fun n => cs.any (fun c => c / 8 == n)))
      (fun s n => s.emit (.qd n (qdFrame n s.term s.acSeq
        ((cs.filter (fun c => c / 8 == n)).foldl (fun a c => a + 2 * 4 ^ (c % 8)) 0)))) s

/-- Opens channels: OPEN is sent at once and no CLOSE is sent any more. -/
def State.openChans (s : State) (cs : List Nat) : State :=
  foldS cs (fun s c => s.updCoil c (fun k =>
    { k with closeSeq := none, openedAt := some s.now, closedAt := none, openFail := false, auxSuspended := false })) (s.urgent cs)

/-- The active device assigns a close: CLOSE is sent from the fourth refresh on (R270). -/
def State.closeChan (s : State) (c : Nat) : State :=
  if s.active then
    (s.updCoil c (fun k => { k with closeSeq := some ((s.acSeq + 4) % 65536), openedAt := none, closedAt := none })).sendPair 5 [word c, word ((s.acSeq + 4) % 65536)]
  else s

/-! ### Wear (R257, R274) -/

/-- One WEAR_LIMIT record when a count reaches a non-zero limit. OPS_LIM in tens (items 2), UL_LIM (items 3). -/
def State.wearCheck (s : State) (c : Nat) (ops : Bool) : State :=
  let k := s.coil c
  let lim : Nat := if ops then 10 * (s.item 2 c).toNat else (s.item 3 c).toNat
  if lim ≠ 0 ∧ (if ops then k.ops else k.underLoad) = lim then
    (s.logN 0x0609 [c, k.ops, k.underLoad, k.iInt]).raise pACT 9
  else s

/-- Counts an under-load opening of channel c at a current of `amps`. -/
def State.wearUnderLoad (s : State) (amps : Nat) (c : Nat) : State :=
  (s.updCoil c (fun k => { k with underLoad := k.underLoad + 1, iInt := Nat.min (k.iInt + amps) 0xFFFFFFFF })).wearCheck c false

/-! ### Protection levels (R241–R243, R248) -/

/-- Highest level entered. -/
def LevelSt.top (l : LevelSt) : Nat := (List.range 5).foldl (fun a k => if l.entered.getLsbD k then k + 1 else a) 0
/-- Levels 4 and 5 latch. -/
def LevelSt.latched (l : LevelSt) : Bool := l.entered.getLsbD 3 || l.entered.getLsbD 4
/-- Level in force of quantity q of string x, 48 the section; INS_STALE holds INSUL at INS_LOSS_LVL at least. -/
def State.lvl (s : State) (x q : Nat) : Nat :=
  Nat.max (s.level (16 * x + q)).top (if x = 48 ∧ q = 9 ∧ s.prot.insStale = true then s.fld pPROT 0x028 2 0 else 0)
/-- Level of the section raised outside Table 09.4: DATA_STALL (R249), BRK_WAIT (R256) and BRK_HOLD (R153). -/
def State.secLevel (s : State) : Nat :=
  Nat.max s.prot.stallLevel
    (if range48.any (fun x => (s.waitOf x).brkWait || (s.chan x).brkHold) then 3 else 0)

/-! ### Disconnects (R253–R257, Table 09.10) -/

def DiscOrigin.word : DiscOrigin → Nat
  | .graded q k => 0x01 + 256 * q + 65536 * k
  | .dataStall => 0xFF02
  | .wireBreak => 0xFF03
  | .site => 0xFF04
  | .fastOc => 0xFF05
  | .banister => 0xFF06
  | .joinAbort => 0xFF07
  | .lockout => 0xFF08
  | .contactor => 0xFF09
  | .core => 0xFF0A

/-- Openings of these origins are openings by protection (log 18). -/
def DiscOrigin.byProt : DiscOrigin → Bool
  | .graded _ _ => true
  | .dataStall => true
  | .wireBreak => true
  | .fastOc => true
  | .banister => true
  | _ => false

/-- Break-safe current of a string, mA (PROT.I_BSs). -/
def State.iBS (s : State) (x : Nat) : Int := (s.fld pPROT (0xA00 + 4 * x) 15 0 : Int) * 100
/-- Break ratings of a string, mA: discharge, charge (CUR.BRK_CFGc). -/
def State.brkDis (s : State) (x : Nat) : Int := (s.fld pCUR (0x81C + 32 * x) 31 16 : Int) * 10000
def State.brkChg (s : State) (x : Nat) : Int := (s.fld pCUR (0x81C + 32 * x) 15 0 : Int) * 10000
def State.brkOf (s : State) (x : Nat) (i : Int) : Int := if i < 0 then s.brkDis x else s.brkChg x
def absI (i : Int) : Int := if i < 0 then -i else i

/-- The latest decimated current of a string, none while its channel is LOST. -/
def State.iNow (s : State) (x : Nat) : Option Int := if (s.chan x).lost then none else some (s.chan x).iNow

def iWord (i : Option Int) : Word := match i with | some v => wordI v | none => 0x80000000#32

/-- Both contactors of the string are commanded open. -/
def State.isOpen (s : State) (x : Nat) : Bool := (s.chansOf x).all (fun c => !s.closeCmd c)

/-- A CLOSED string. -/
def State.closed (s : State) (x : Nat) : Bool := (s.str x).st == .closed
def State.closedList (s : State) : List Nat := range48.filter s.closed
/-- Strings closing now. -/
def State.closingList (s : State) : List Nat := range48.filter (fun x => (s.str x).st.closing)

/-- OPENED or OPENED_UNDER_LOAD, with the wear of R257. -/
def State.recordOpening (s : State) (x : Nat) (o : DiscOrigin) (i : Option Int) (waitMs : Nat) (cs : List Nat) : State :=
  let under := match i with | none => true | some v => decide (s.iBS x ≤ absI v)
  if under then
    let ma := match i with | some v => absI v | none => if s.brkChg x < s.brkDis x then s.brkDis x else s.brkChg x
    let s := foldS cs (fun s c => s.wearUnderLoad (toUnits (mkRat ma 1000)).toNat c) s
    let n := match s.negOf x with | some c => (s.coil c).underLoad | none => 0
    let p := match s.posOf x with | some c => (s.coil c).underLoad | none => 0
    (s.log 0x0505 [word x, word o.word, iWord i, word n, word p]).raise pPROT 5
  else s.log 0x0504 [word x, word o.word, iWord i, word waitMs]

/-- open_now of R254: both contactors open at once; the string goes to OPENING (R282). -/
def State.openNow (s : State) (x : Nat) (o : DiscOrigin) (i : Option Int) : State :=
  let cs := (s.chansOf x).filter s.closeCmd
  let w := s.waitOf x
  let waitMs := if w.waiting then (s.now - w.since) / 1000000 else 0
  let s := (s.recordOpening x o i waitMs cs).openChans (s.chansOf x)
  let s := s.setWaitOf x {}
  s.updStr x (fun t => { t with st := .opening, openByProt := t.openByProt || o.byProt, openCmdAt := some s.now, weldRun := 0,
                                weldHot := 0, weldDv := false, siteOpen := false, discUnproven := false, jdeb := 0 })

def State.tWait (s : State) : Nat := msNs (s.fld pPROT 0x020 15 0)

/-- DISCONNECT_REQ (log 19: also of a request for a string already open). -/
def State.discRecord (s : State) (x : Nat) (o : DiscOrigin) (hard : Bool) (deadline : Nat) : State :=
  s.log 0x0503 ([word x, word o.word, word (b2n hard)] ++ two deadline)

/-- Soft request of R254: starts a wait or brings its deadline forward. -/
def State.softReq (s : State) (x : Nat) (o : DiscOrigin) : State :=
  if s.isOpen x then s.discRecord x o false s.now else
    let w := if o = .wireBreak then sNs 60 else s.tWait
    let d := if (s.waitOf x).waiting then Nat.min (s.waitOf x).deadline (s.now + w) else s.now + w
    let s := s.discRecord x o false d
    if (s.waitOf x).waiting then s.updWaitOf x (fun t => { t with deadline := d })
    else s.setWaitOf x { waiting := true, deadline := d, since := s.now, origin := o }

/-- Hard request: the string opens at once. -/
def State.hardReq (s : State) (x : Nat) (o : DiscOrigin) : State :=
  if s.isOpen x then s.discRecord x o true s.now
  else (s.discRecord x o true s.now).openNow x o (s.iNow x)

/-! ### Arming -/

def armOff (x : Nat) : Nat := if x < 32 then 0x028 else 0x02C
/-- Default of JOIN.ARM0/1: every string in use and no other (R276). -/
def State.armWord (s : State) (off : Nat) : Word :=
  match slook s.regs (regAddr pJOIN off) with
  | some w => w
  | none =>
    match slook s.gen.regs (regAddr pJOIN off) with
    | some w => w
    | none => word (bitsOf (fun k => s.strUse (k + if off = 0x02C then 32 else 0)) (if off = 0x02C then 16 else 32))
def State.armed (s : State) (x : Nat) : Bool := (s.armWord (armOff x)).getLsbD (x % 32)
def State.setArm (s : State) (x : Nat) (b : Bool) : State :=
  let w := s.armWord (armOff x)
  let m : Word := 1#32 <<< (x % 32)
  s.setReg pJOIN (armOff x) (if b then w ||| m else w &&& ~~~m)

/-- The device disarms a string: causes of Table 10.9. -/
def State.disarm (s : State) (x cause : Nat) : State :=
  let s := (s.setArm x false).updStr x (fun t => { t with st := if t.st = .armed then .opened else t.st })
  (s.logN 0x0614 [x, cause]).raise pJOIN 3

/-! ### Converter (R294, R296) -/

def State.phases (s : State) : Nat := s.fld pBFC 0x028 31 29
/-- Phases in service. -/
def State.inService (s : State) : List Nat :=
  (List.range 6).filter (fun k => decide (k < s.phases) && !s.bfc.failedOpen.getLsbD k && !s.bfc.senseLost.getLsbD k)
def State.nAct (s : State) : Nat := s.inService.length
/-- Output current: the sum of the phase currents, A. -/
def State.iOut (s : State) : Rat := (List.range 6).foldl (fun a k => a + sget 0 s.bfc.iPhase k) 0

def rw (x : Rat) : Word := wordI (toUnits x)

/-- The FEED contactor opens (after the converter has stopped, or on a finding). -/
def State.openFeed (s : State) : State :=
  match s.feedCh with
  | some c => if s.closeCmd c then { s.openChans [c] with join := { s.join with feedOpenAt := some s.now } } else s
  | none => s

/-- PWM and BFC_EN low, nets released. -/
def State.convRelease (s : State) (st : ConvSt) : State :=
  { s with bfc := { s.bfc with st := st, driving := false, iRef := 0, integral := 0, reached := false, clamped := false } }

/-- Stop of R294: the reference ramps to 0 over STOP_RAMP; without PWM the state is OFF at once, and FEED opens. -/
def State.convStop (s : State) : State :=
  match s.bfc.st with
  | .starting | .regulating =>
    { s with bfc := { s.bfc with st := .stopping, stopFrom := s.bfc.iRef, stopEnd := s.now + msNs (s.fld pBFC 0x034 15 8) } }
  | .retryWait | .handover => (s.convRelease .off).openFeed
  | .stopping => s
  | .off | .latched => s.openFeed

/-! ### Join abort (R281) -/

/-- A join is in progress and has not reached RUN. -/
def State.joining (s : State) : Bool := s.join.sec != .idle && s.join.sec != .run

/-- Opens every closing string without wait and every CLOSED string softly, stops the converter; asks for READY except on
Banister safe-off (3) and a LOCKOUT request (6). -/
def State.joinAbort (s : State) (cause : Nat) : State :=
  if s.joining then
    let s := (s.logN 0x0612 [48, cause, s.join.sec.code]).raise pJOIN 1
    let s := foldS s.closingList (fun s x => s.hardReq x .joinAbort) s
    let s := foldS s.closedList (fun s x => s.softReq x .joinAbort) s
    let s := { s with join := { s.join with sec := .idle } }
    let s := s.convStop
    if cause = 3 ∨ cause = 6 then s else s.askReady
  else s

/-- Latches the converter (Table 11.3); a second cause is ORed into ALSO (R301). -/
def State.convLatch (s : State) (cause detail : Nat) : State :=
  if s.bfc.st = .latched then
    { s with bfc := { s.bfc with also := (s.bfc.also ||| (2 ^ (cause - 1))) } }
  else
    let q := (s.bfc.fseq + 1) % 256
    let s := s.log 0x0701 [word s.bfc.st.code, word q, word cause, rw (s.bfc.vOut * 100), rw (s.iOut * 1000), word s.nAct]
    let s := s.convRelease .latched
    let s := { s with bfc := { s.bfc with fseq := q, cause := cause, also := 0, detail := detail } }
    let s := (s.raise pBFC 0).when (cause == 1) (·.raise pBFC 1)
    (s.joinAbort 2).openFeed

/-! ### LOCKOUT requests (R431) -/

/-- A LOCKOUT request of a cause 1–5 (Table 17.4). -/
def State.lockout (s : State) (cause : Nat) : State :=
  let b : BitVec 5 := 1#5 <<< (cause - 1)
  if s.md = .lockout then
    if (s.mode.causes &&& b) = 0#5 then
      ({ s with mode := { s.mode with causes := s.mode.causes ||| b,
                                      first := if s.mode.first = 0 then cause else s.mode.first, trans := none } }.logN
        0x0C03 [cause, s.md.code]).raise pMODE 2
    else s
  else if (s.mode.reqCauses &&& b) = 0#5 then
    let s := (s.logN 0x0C03 [cause, s.md.code]).raise pMODE 2
    let s := { s with mode := { s.mode with reqCauses := s.mode.reqCauses ||| b,
                                            reqFirst := if s.mode.reqFirst = 0 then cause else s.mode.reqFirst,
                                            trans := some { target := .lockout, origin := 0, afterOpenings := true } } }
    if s.md.joinOrOnline then
      let s := s.joinAbort 6
      let s := s.convStop
      foldS (s.closedList.filter (fun x => !(s.waitOf x).waiting)) (fun s x => s.softReq x .lockout) s
    else s
  else s

/-- LOCKOUT takes effect: the requested causes join the causes in force. -/
def State.enterLockout (s : State) : State :=
  let s := { s with mode := { s.mode with causes := s.mode.causes ||| s.mode.reqCauses,
                                          first := if s.mode.first = 0 then s.mode.reqFirst else s.mode.first,
                                          reqCauses := 0, reqFirst := 0, trans := none } }
  let s := if s.join.sec = .run then { s with join := { s.join with sec := .idle } } else s
  s.setMode .lockout 0

/-- A cause that leaves no core running: LOCKOUT at once, and the actuator refresh stops (R350, R431). -/
def State.lockoutAtOnce (s : State) (cause : Nat) : State :=
  let s := (s.lockout cause).enterLockout
  { s with mode := { s.mode with lockoutNow := true } }

/-- Every contactor has been commanded open and every wait has ended. -/
def State.openingsDone (s : State) : Bool :=
  (List.range 128).all (fun c => s.chRole c == 0 || !s.closeCmd c) && range48.all (fun x => !(s.waitOf x).waiting)

/-! ### Passive (R373) -/

/-- The device stops sending on every port and both actuator links, releases the converter nets and becomes PASSIVE. `source` is
the first payload word of the PASSIVE record. -/
def State.goPassive (s : State) (source : Nat) (newer : Byte) : State :=
  if s.pair.role ≠ .active ∧ s.standby = false then s else
    let s := (s.logN 0x0A08 [source, newer.toNat]).raise pPAIR 8
    { s with pair := { s.pair with role := .passive, sync := .none, handover := none, partnerTerm := newer,
                                   joinStep := 0, joining := false }
             bfc := { s.bfc with driving := false }, syncT := { s.syncT with sending := false } }

end Sys2Proof.Machine
end

