-- ==== Sys2Proof/Machine/Contactors.lean ====
section
/-! DEFINITION. Contactors and rolling join (10): closings, join steps, actuator links, supervision. -/
namespace Sys2Proof.Machine

/-! ### Voltages -/

/-- V_str in the latest committed epoch, V (R239). -/
def State.vStr (s : State) (x : Nat) : Option Rat := (s.hep x).vStr.map (fun v => mkRat v 10000)
/-- V_bus now: the mean of the 1 ms averages of both lines; invalid while they differ by more than 2.0 V or a line is lost (R273). -/
def State.vBusNow (s : State) : Option Rat :=
  if s.bfc.voaLost || s.bfc.vobLost || decide (2 < absR (s.bfc.voa - s.bfc.vob)) then none
  else some ((s.bfc.voa + s.bfc.vob) / 2)
/-- V_str − V_bus in the latest committed epoch, V_bus as at its sample instant. -/
def State.dvOf (s : State) (x : Nat) : Option Rat :=
  match s.vStr x, s.join.vBus with
  | some a, some b => some (a - b)
  | _, _ => none
def State.dvJoin (s : State) : Rat := mkRat (s.fld pJOIN 0x020 31 16) 100
def State.iOpenRes (s : State) : Int := (s.fld pACT 0x020 15 8 : Int) * 100

/-! ### Conditions of closing (R259, R276) -/

/-- Highest level in force of a string's quantities (48: the section). -/
def State.maxLevel (s : State) (x : Nat) : Nat := (List.range 10).foldl (fun a q => Nat.max a (s.lvl x q)) 0
def State.anyLevel (s : State) (k : Nat) : Bool := (List.range 49).any (fun x => decide (k ≤ s.maxLevel x)) || decide (k ≤ s.secLevel)
/-- R259: a soft disconnect waits or a quantity is at level 3 or above. -/
def State.closeForbidden (s : State) : Bool := range48.any (fun x => (s.waitOf x).waiting) || s.anyLevel 3
/-- The string is latched out by protection: a level 4 or 5 of its own, a latched INSUL, or a level 5 anywhere (R241). -/
def State.latchedOut (s : State) (x : Nat) : Bool :=
  (List.range 10).any (fun q => (s.level (16 * x + q)).latched) || (s.level (16 * 48 + 9)).latched ||
    (List.range 48).any (fun y => (List.range 10).any (fun q => (s.level (16 * y + q)).entered.getLsbD 4))
def State.weldLatch (s : State) (x : Nat) : Bool := (s.str x).weldNeg || (s.str x).weldPos
def State.blockedOut (s : State) (x : Nat) : Bool := s.latchedOut x || (s.port x).wbOut || s.weldLatch x

/-- The ports whose monitors belong to the string. -/
def State.portsOf (s : State) (x : Nat) : List Nat := if s.dualLower x then [x, x + 1] else [x]

/-- The authentication policy permits the string (R486): under policy 2 OPEN and 1 NO_JOIN no module of it is UNVERIFIED. -/
def State.authPermits (s : State) (x : Nat) : Bool :=
  s.fld pAUTH 0x020 31 30 == 0 ||
    !(s.portsOf x).any (fun p => (List.range 40).any (fun h => (s.mon (40 * p + h)).unverified))

/-- R276, V_bus validity apart. -/
def State.meets276 (s : State) (x : Nat) : Bool :=
  (s.str x).st == .armed && (s.port x).state == .running && (!(s.hep x).unmeas) && (s.hep x).vStr.isSome &&
  !((s.hep x).pairSum && !s.bit pCELL 0x108 0) && !(s.hep x).derived &&
  (s.chansOf x).all (fun c => !(s.qd (c / 8)).lost) && s.authPermits x && !s.closeForbidden

/-- R276 whole. -/
def State.mayClose (s : State) (x : Nat) : Bool := s.meets276 x && s.join.vBus.isSome

/-! ### Join steps (R277, R278, R280) -/

/-- The state an open string takes when nothing is pending on it. -/
def State.restState (s : State) (x : Nat) : JoinSt := if s.blockedOut x then .blocked else if s.armed x then .armed else .opened
def State.settle (s : State) (x : Nat) : State :=
  s.updStr x (fun t => { t with st := match t.st with | .opened => s.restState x | .armed => s.restState x | .blocked => s.restState x | y => y })

/-- Step 1 of R277. -/
def State.startClose (s : State) (x : Nat) : State :=
  match s.negOf x with
  | some c => (s.closeChan c).updStr x (fun t => { t with st := .negClosing, probeHot := false, jdeb := 0 })
  | none => s

/-- Opens NEG of a string that did not complete its closing and returns it to `st`. -/
def State.abandonClose (s : State) (x : Nat) (st : JoinSt) : State := (s.openChans (s.chansOf x)).updStr x (fun t => { t with st := st })

/-- Sorts candidates by |V_str − V_bus|. -/
def insBy (f : Nat → Rat) (x : Nat) : List Nat → List Nat
  | [] => [x]
  | y :: t => if f x < f y then x :: y :: t else y :: insBy f x t
def sortBy (f : Nat → Rat) (l : List Nat) : List Nat := l.foldl (fun a x => insBy f x a) []
def State.absDv (s : State) (x : Nat) : Rat := match s.dvOf x with | some d => absR d | none => 0

/-- First string of R278: the lower median of V_str, or the nearest to the bus voltage target in force. -/
def State.chooseFirst (s : State) : Option Nat :=
  let c := s.strings.filter s.meets276
  let v := fun x => (s.vStr x).getD 0
  let near := s.bit pJOIN 0x020 0 && s.bvl.targetValid
  if near then (sortBy (fun x => absR (v x - mkRat s.bvl.target 10)) c).head?
  else (sortBy v c)[(c.length - 1) / 2]?

/-- The set of candidates of SWEEP and RUN that may start closing now, at most JOIN_PAR with those closing (R276). -/
def State.startCandidates (s : State) (ok : Nat → Bool) : State :=
  let room := s.fld pJOIN 0x020 7 4 - s.closingList.length
  let c := (sortBy s.absDv (s.strings.filter (fun x => s.mayClose x && ok x && decide (s.absDv x ≤ s.dvJoin)))).take room
  foldS c (fun s x => s.startClose x) s

/-- Feedforward of R290: V_out / V_in for buck, 1 − V_in / V_out for boost. -/
def State.duFf (s : State) : Rat :=
  let vi := s.bfc.vIn
  let vo := s.bfc.vOut
  if s.bit pBFC 0x028 28 then (if vo = 0 then 0 else 1 - vi / vo) else (if vi = 0 then 0 else vo / vi)
/-- A duty within D_MIN and 1 − D_MIN (R287). -/
def State.dutyIn (s : State) (d : Rat) : Rat := let dm := mkRat (s.fld pBFC 0x100 15 8) 1000; clampR dm (1 - dm) d

/-- EFF takes the V_str of the first string in the latest committed epoch; it keeps its value while that is invalid (R293). -/
def State.effFollow (s : State) : State :=
  if s.join.sec = .feed ∨ s.join.sec = .forming ∨ s.join.sec = .first then
    match s.vStr s.join.first with
    | some v => { s with bvl := { s.bvl with eff := v } }
    | none => s
  else s

/-- Soft start of R293: the reference starts at V_out, the duties at the feedforward. -/
def State.convStart (s : State) : State :=
  { s with bfc := { s.bfc with st := .starting, duty := (List.range 6).map (fun k => (k, s.dutyIn s.duFf)), r := s.bfc.vOut, integral := 0, iRef := 0, clamped := false, reached := false,
                               driving := s.active, failedOpen := if s.bfc.st = .off then 0 else s.bfc.failedOpen,
                               senseLost := if s.bfc.st = .off then 0 else s.bfc.senseLost,
                               retriesUsed := if s.bfc.st = .retryWait then s.bfc.retriesUsed else 0 } }

/-- Enters FORMING with a first string. -/
def State.enterForming (s : State) (x : Nat) : State :=
  let s := { s with join := { s.join with sec := .forming, first := x } }.effFollow
  if s.bfc.st = .regulating ∨ s.bfc.st = .starting then { s with bfc := { s.bfc with st := .starting, reached := false } }
  else s.convStart

/-- The first string failed to close (R280): findings of Table 10.9. -/
def State.firstFail (s : State) (x finding : Nat) : State :=
  if s.join.sec = .first ∧ s.join.first = x then
    let s := ((s.disarm x 3).logN 0x0613 [48, x, finding]).raise pJOIN 2
    let tries := s.join.tries + 1
    let s := { s with join := { s.join with tries := tries } }
    if s.fld pJOIN 0x024 15 8 ≤ tries then s.joinAbort 8
    else
      match s.chooseFirst with
      | some y => s.enterForming y
      | none => s.joinAbort 8
  else s

/-- FIRST: the first string starts closing as soon as it meets R276, with the bus held in the converter's window. -/
def State.firstTry (s : State) : State :=
  if s.join.sec = .first ∧ s.bfc.st = .regulating ∧ s.mayClose s.join.first = true then s.startClose s.join.first else s

/-- SWEEP has no candidate left and FEED's weld check has passed: RUN, mode ONLINE. -/
def State.sweepDone (s : State) : State :=
  if s.join.sec = .sweep ∧ s.join.feedProven = true ∧ s.closingList = [] ∧
      (s.strings.filter (fun x => s.mayClose x && decide (s.absDv x ≤ s.dvJoin))) = [] then
    { s with join := { s.join with sec := .run },
             mode := { s.mode with trans := some { target := .online, origin := 0 } } }
  else s

/-- A word, or a free one where there is none. -/
def State.wordOr (s : State) (o : Option Word) : Word × State := match o with | some w => (w, s) | none => s.freeWord

/-- A string reaches CLOSED (R277 step 4). No command brings the peak current of the following 100 ms: the record holds a free
value for it (log 20). -/
def State.strClosed (s : State) (x : Nat) : State :=
  let s := s.updStr x (fun t => { t with st := .closed, closedAt := s.now, openByProt := false, share := 0 })
  let n := s.closedList.length
  let s := s.updStr x (fun t => { t with share := mkRat 1 n })
  let (dv, s) := s.wordOr ((s.str x).posDv.map (fun d => rw (d * 10)))
  let (peak, s) := s.freeWord
  let s := (s.log 0x0611 [word x, dv, peak]).raise pJOIN 0
  if s.join.sec = .first ∧ s.join.first = x then
    let s := { s with join := { s.join with sec := .sweep } }
    (s.convStop.startCandidates (fun _ => true)).sweepDone
  else if s.join.sec = .sweep then (s.startCandidates (fun _ => true)).sweepDone
  else s

/-- WELD record of a channel: pole by its ROLE code (1 NEG, 2 POS, 3 FEED). -/
def State.weldRecord (s : State) (c pole : Nat) (i : Option Int) (dv : Option Rat) : State :=
  let (w, s) := s.wordOr (dv.map (fun d => rw (d * 10)))
  (s.log 0x0603 [word c, word pole, iWord i, w]).raise pACT 2

/-- Latches a weld on one or both poles, with a record of each, and disarms the string (R273). -/
def State.latchWeld (s : State) (x : Nat) (neg pos : Bool) : State :=
  let s := s.updStr x (fun t => { t with weldNeg := t.weldNeg || neg, weldPos := t.weldPos || pos })
  let one := fun (b : Bool) (c : Option Nat) (pole : Nat) (s : State) =>
    if b then foldS (optL c) (fun s c => s.weldRecord c pole (s.hep x).iMean (s.dvOf x)) s else s
  (one pos (s.posOf x) 2 (one neg (s.negOf x) 1 s)).disarm x 2

/-- CLOSE_FAIL, DROPOUT, COIL_FAULT (Table 10.3): hard opening of the string and disarming, or of FEED; a join in FEED, FORMING
or FIRST then aborts. -/
def State.finding (s : State) (c : Nat) (closeFail : Bool) : State :=
  if s.chRole c = 3 then
    let s := s.openFeed
    if s.join.sec = .feed ∨ s.join.sec = .forming ∨ s.join.sec = .first then s.joinAbort 7 else s
  else
    let x := s.chStr c
    let first := closeFail = true ∧ s.join.sec = .first ∧ s.join.first = x
    let s := s.hardReq x .contactor
    if first then s else s.disarm x 1

/-! ### Actuator links (R263–R270) -/

/-- The present REQ code of a channel in refresh r: CLOSE from its assigned refresh on, OPEN after an opening decided here,
else HOLD (R270). -/
def State.reqOf (s : State) (r c : Nat) : Nat :=
  match (s.coil c).closeSeq with
  | some k => if (r + 65536 - k) % 65536 < 32768 ∧ s.scor.st ≠ .selftest ∧ s.scor.holdUntil ≤ s.now then 1 else 0
  | none => if (s.coil c).openedAt.isSome then 2 else 0

/-- One refresh: at the next whole millisecond, one command to every QD-8 of the map (R264). -/
def execActuatorRefresh (s : State) : Host.Outcome State Fault Refusal :=
  let r := s.now / 1000000 + 1
  let s := s.reach (r * 1000000)
  let s := { s with acSeq := r % 65536 }
  if s.alSilent then .next s
  else
    .next (foldS ((List.range 16).filter s.qdPresent) (fun s n =>
      let req := (List.range 8).foldl (fun a k => a + s.reqOf s.acSeq (8 * n + k) * 4 ^ k) 0
      (s.emit (.qd n (qdFrame n s.term s.acSeq req))).updQd n (fun q =>
        { q with missed := q.missed + 1, good := if q.missed = 0 then q.good else 0 })) s)

/-- COIL_STUCK (R272). -/
def State.coilStuck (s : State) (c ma : Nat) : State :=
  if (s.coil c).stuck then s
  else (((s.updCoil c (fun k => { k with stuck := true })).logN 0x0604 [c, ma]).raise pACT 3).lockout 3

/-- COIL_FAULT (Table 10.3). -/
def State.coilFault (s : State) (c : Nat) : State :=
  (((s.logN 0x0605 [c, (s.coil c).icoil, b2n (s.coil c).cfault]).raise pACT 4)).finding c false

/-- Checks of one channel against the latest response. Pull-in is over when the QD-8 reports economised hold (R268). -/
def State.superviseCoil (s : State) (ich : Nat) (c : Nat) : State :=
  let k := s.coil c
  if s.chRole c = 0 then s
  else if k.closeSeq.isSome ∧ k.aux = true ∧ k.coil = true then
    let hold := s.reg pACT (0x800 + 4 * c)
    let bad := c % 8 == ich && (decide (k.icoil < 10 * field hold 7 0) || decide (10 * field hold 15 8 < k.icoil))
    if k.econ && (k.cfault || bad) then s.coilFault c else s
  else
    match k.openedAt with
    | some t =>
      if c % 8 = ich ∧ t + msNs 5 ≤ s.now then
        if 50 ≤ k.icoil then s.coilStuck c k.icoil else s.updCoil c (fun k => { k with stuck := false })
      else s
    | none => s

/-- A QD-8 response (Table 10.2): bad ones are not taken. STALE for the device term makes the device PASSIVE (R269, R373). -/
def execQdResponse (link : Fin 2) (bytes : List Byte) (s : State) : Host.Outcome State Fault Refusal :=
  let b := fun i => (bytes.getD i 0#8).toNat
  if bytes.length = 16 ∧ b 0 = 0x5C ∧ (crc16 ((bytes.drop 1).take 13)).toNat = leAt bytes 14 2 then
    let st := b 1
    let n := 8 * link.val + st % 8
    let bitn := fun v i => v / 2 ^ i % 2 == 1
    let s := s.updQd n (fun q => { q with term := bytes.getD 2 0#8, dieT := toSigned 8 (b 12), timeoutSeen := bitn st 6,
                                          safeOff := bitn st 7, supplyOk := b 13 % 4 == 3, missed := 0,
                                          good := q.good + 1, lost := q.lost && decide (q.good + 1 < 5) })
    let ich := b 9 % 8
    let s := foldS (List.range 8) (fun s k =>
      let s := s.updCoil (8 * n + k) (fun c =>
        { c with coil := bitn (b 5) k, auxRaw := bitn (b 6) k, cfault := bitn (b 7) k, econ := bitn (b 8) k,
                 icoil := if k = ich then leAt bytes 10 2 else c.icoil,
                 auxRun := if bitn (b 6) k = c.auxRaw then c.auxRun + 1 else 1 })
      s.superviseCoil ich (8 * n + k)) s
    if bitn st 4 then .next ((s.raise pACT 8).goPassive (256 + link.val) (bytes.getD 2 0#8)) else .next s
  else .next s

/-- QD_LOST after five refreshes without a valid response (R269). -/
def execQdLost (n : Qd) (s : State) : Host.Outcome State Fault Refusal :=
  if (s.qd n.val).lost then .next s
  else .next (((s.updQd n.val (fun q => { q with lost := true, good := 0 })).logN 0x0608
    [n.val / 8, n.val % 8, (s.qd n.val).missed]).raise pACT 7)

/-- The NEG auxiliary of a closing string is closed: PROBE. -/
def State.toProbe (s : State) (x : Nat) : State :=
  if s.closeForbidden then s.abandonClose x .armed
  else s.updStr x (fun t => { t with st := .probe, probeEnd := s.now + msNs (s.fld pJOIN 0x024 7 0) })

/-- Open instants of a string's channel, and the end of its offset window when a contactor closes (R146). -/
def State.auxTiming (s : State) (x : Nat) (closed : Bool) : State :=
  if closed then s.updChan x (fun c => { c with openedAt := none, window := none })
  else if (s.chansOf x).all (fun c => !(s.coil c).aux) then s.updChan x (fun c => { c with openedAt := some s.now })
  else s

/-- A debounced auxiliary state, type corrected (R272): it advances the join or is a finding. -/
def execAuxDebounced (c : Chan) (closed : Bool) (s : State) : Host.Outcome State Fault Refusal :=
  let k := c.val
  let was := (s.coil k).aux
  let s := s.updCoil k (fun e => { e with aux := closed, auxRun := 20 })
  let x := s.chStr k
  let cmd := s.closeCmd k
  let s := if was ≠ closed ∧ (s.chRole k = 1 ∨ s.chRole k = 2) then s.auxTiming x closed else s
  if s.chRole k = 0 ∨ was = closed then .next s
  else if closed then
    let s := if cmd then (s.updCoil k (fun e => { e with ops := e.ops + 1, closedAt := some s.now })).wearCheck k true else s
    if s.chRole k = 3 then
      if cmd = true ∧ s.join.sec = .feed then .next (s.enterForming s.join.first) else .next s
    else if s.chRole k = 1 ∧ (s.str x).st = .negClosing then .next (s.toProbe x)
    else if s.chRole k = 2 ∧ (s.str x).st = .posClosing then .next (s.strClosed x)
    else .next s
  else if cmd = true ∧ (s.coil k).coil = true ∧ (s.coil k).auxSuspended = false then
    -- the auxiliary goes open while the coil is energised
    let i := if s.chRole k = 3 then (if s.bfc.st = .off then some 0 else some (toUnits (s.iOut * 1000))) else s.iNow x
    let low := match i with | some v => decide (absI v < s.iOpenRes) | none => false
    if low then .next (((s.log 0x0606 [word k, iWord i]).raise pACT 5).finding k false)
    else .next (((s.updCoil k (fun e => { e with auxSuspended := true })).log 0x0607 [word k, iWord i]).raise pACT 6)
  else .next s

/-- CLOSE_FAIL: the auxiliary has not closed within T_FB_CLOSE of an executed CLOSE. -/
def execCloseFail (c : Chan) (s : State) : Host.Outcome State Fault Refusal :=
  let k := c.val
  if s.closeCmd k ∧ (s.coil k).aux = false ∧ s.chRole k ≠ 0 then
    let s := (s.logN 0x0601 [k, b2n (s.coil k).aux, b2n (s.coil k).coil, (s.coil k).icoil]).raise pACT 0
    let x := s.chStr k
    let s := s.finding k true
    if s.chRole k = 3 then .next s else .next (s.firstFail x 1)
  else .next s

/-- OPEN_FAIL: the auxiliary has not opened within T_FB_OPEN of an executed OPEN; a weld is suspected (R273). -/
def execOpenFail (c : Chan) (s : State) : Host.Outcome State Fault Refusal :=
  let k := c.val
  match (s.coil k).openedAt with
  | some t =>
    if (s.coil k).aux = true ∧ (s.coil k).openFail = false then
      .next (((s.updCoil k (fun e => { e with openFail := true })).logN 0x0602 [k, 1, (s.now - t) / 1000000]).raise pACT 1)
    else .next s
  | none => .next s

/-- The string leaves OPENING: ARMED again where it was armed, BLOCKED while latched out (R282). -/
def State.leaveOpening (s : State) (x : Nat) : State :=
  s.updStr x (fun t => { t with st := if t.st = .opening then s.restState x else t.st, openCmdAt := none })

/-- ONLINE: the last closed string has opened (Table 17.2). -/
def State.onlineEmpty (s : State) : State :=
  if s.md = .online ∧ s.closedList = [] ∧ s.closingList = [] then s.askReady else s

/-- Weld decision of Table 10.4 for a string: currents of three consecutive epochs with known current, and V_str − V_bus. -/
def State.weldString (s : State) (x : Nat) : State :=
  let auxN := match s.negOf x with | some c => (s.coil c).aux | none => false
  let auxP := match s.posOf x with | some c => (s.coil c).aux | none => false
  let t := s.str x
  if 3 ≤ t.weldHot then ((s.latchWeld x true true).leaveOpening x).lockout 3
  else if 3 ≤ t.weldRun then
    if auxN || auxP then
      let s := (s.latchWeld x auxN auxP).leaveOpening x
      s.firstFail x 2
    else (s.updStr x (fun t => { t with discUnproven := !t.weldDv })).leaveOpening x
  else s

/-- The weld check, 200 ms after the open command: it decides once three epochs with known current have been counted. FEED is
judged on its auxiliary alone. -/
def execWeldCheck (leg : Leg) (s : State) : Host.Outcome State Fault Refusal :=
  match leg with
  | .string x =>
    match (s.str x.val).openCmdAt with
    | some t => .next (((s.reach (t + msNs 200)).weldString x.val).onlineEmpty)
    | none => .next s
  | .feed =>
    match s.join.feedOpenAt, s.feedCh with
    | some t, some c =>
      let s := s.reach (t + msNs 200)
      let s := { s with join := { s.join with feedOpenAt := none } }
      if (s.coil c).aux then
        .next ({ s with join := { s.join with feedWeld := true } }.weldRecord c 3 none none)
      else .next ({ s with join := { s.join with feedProven := true } }.sweepDone)
    | _, _ => .next s

/-- End of the pole probe (R277 step 3). -/
def execProbeEnd (x : Str) (s : State) : Host.Outcome State Fault Refusal :=
  let k := x.val
  if (s.str k).st = .probe then
    let s := s.reach (s.str k).probeEnd
    let first := s.join.sec = .first ∧ s.join.first = k
    -- the bus is the converter-held bus while the first string closes (Table 10.6)
    let dv := match s.vStr k, (if first then some s.bfc.vOut else s.join.vBus) with | some a, some b => some (a - b) | _, _ => none
    if (s.str k).probeHot then
      let s := (s.abandonClose k .opened).latchWeld k false true
      .next ((s.firstFail k 2).settle k)
    else
      let inRange := match dv with | some d => decide (absR d ≤ s.dvJoin) | none => false
      if inRange then
        if s.closeForbidden then .next (s.abandonClose k .armed)
        else
          match s.posOf k with
          | some c => .next ((s.closeChan c).updStr k (fun t => { t with st := .posClosing, posDv := dv }))
          | none => .next (s.abandonClose k .armed)
      else .next ((s.abandonClose k .armed).firstFail k 3)
  else .next s

/-- JOIN_TMO since START (R281). -/
def execJoinTmo (s : State) : Host.Outcome State Fault Refusal :=
  if s.joining then .next ((s.reach (s.join.startedAt + sNs (s.fld pJOIN 0x024 31 16))).joinAbort 5) else .next s

/-- RUN: an ARMED string that has met R276 within ΔV_join in J_DEB consecutive epochs starts closing (Table 10.6). -/
def execRunClose (x : Str) (s : State) : Host.Outcome State Fault Refusal :=
  let k := x.val
  if s.join.sec = .run ∧ s.active = true ∧ s.mayClose k = true ∧ s.absDv k ≤ s.dvJoin ∧
      s.fld pJOIN 0x020 15 8 ≤ (s.str k).jdeb ∧ s.closingList.length < s.fld pJOIN 0x020 7 4 then
    .next (s.startClose k)
  else .next s

/-- Counters of the join and of the weld check that run once per committed epoch (R273, R277, R278). -/
def State.joinEpoch (s : State) (x : Nat) : State :=
  let e := s.hep x
  let t := s.str x
  let hot := match e.iMean with | some i => decide (s.iOpenRes ≤ absI i) | none => false
  let known := e.iMean.isSome
  let dvBig := match s.dvOf x with | some d => decide (mkRat (s.fld pACT 0x020 7 0) 10 ≤ absR d) | none => false
  let after200 := match t.openCmdAt with | some w => decide (w + msNs 200 ≤ s.now) | none => false
  s.updStr x (fun t =>
    { t with jdeb := if s.mayClose x && decide (s.absDv x ≤ s.dvJoin) then t.jdeb + 1 else 0,
             probeHot := t.probeHot || (t.st == .probe && hot),
             weldRun := if after200 && known then (if hot then 0 else t.weldRun + 1) else t.weldRun,
             weldHot := if after200 && known then (if hot then t.weldHot + 1 else 0) else t.weldHot,
             weldDv := t.weldDv || (after200 && dvBig),
             discUnproven := t.discUnproven && !dvBig })

end Sys2Proof.Machine
end

