-- ==== Sys2Proof/Machine/Converter.lean ====
section
/-! DEFINITION. Bus-forming converter and bus voltage command link (11). Voltages in V, currents in A. -/
namespace Sys2Proof.Machine

/-- π to 10^-18 (log 4). -/
def piR : Rat := mkRat 3141592653589793238 1000000000000000000
def State.fSw (s : State) : Nat := s.fld pBFC 0x028 15 0 * 100
def State.iPh (s : State) : Rat := mkRat (s.fld pBFC 0x02C 31 16) 10
def State.ocPh (s : State) : Rat := mkRat (s.fld pBFC 0x02C 15 0) 10
def State.iSs (s : State) : Rat := mkRat (s.fld pBFC 0x030 19 8) 10
def State.bfcWin (s : State) : Rat := mkRat (s.fld pBFC 0x030 7 0) 10
/-- L_PH in nH and C_BUS in µF (TOPOLOGY items 4 and 5). -/
def State.lPh (s : State) : Rat := mkRat (s.item 4 0) 1000000000
def State.cBus (s : State) : Rat := mkRat (s.item 5 0) 1000000
/-- Effective target EFF, V. -/
def State.eff (s : State) : Rat := s.bvl.eff

/-- I_CLAMP of R290. -/
def State.iClamp (s : State) : Rat :=
  let m := (s.nAct : Rat) * s.iPh
  if s.bfc.st = .starting then minR s.iSs m else m

/-! ### Telemetry (R295) -/

def meanR (l : List Rat) : Rat := if l = [] then 0 else (l.foldl (· + ·) 0) / (l.length : Rat)
def bigger (a b : Rat) : Rat := if absR a < absR b then b else a

/-- One 10 µs update of a quantity: its value, sliding averages and peaks. -/
def TelSt.push (t : TelSt) (v : Rat) : TelSt :=
  let h := (v :: t.hist).take 100000
  { now := v, hist := h, avg1 := meanR (h.take 100), avg100 := meanR (h.take 10000), avg1s := meanR h,
    peak := bigger t.peak v,
    held := [1, 2, 3].foldl (fun st o => sset 0 st o (bigger (sget 0 st o) v)) t.held }

def State.telOf (s : State) (q : Nat) : TelSt := sget {} s.bfc.tel q
def State.pushTel (s : State) (q : Nat) (v : Rat) : State :=
  { s with bfc := { s.bfc with tel := sset {} s.bfc.tel q ((s.telOf q).push v) } }

/-- Quantities of BFC.TELq: 0 V_out, 1 V_in, 2 output current, 3 power, 4–9 phase currents, 10–15 phase temperatures (0.1 °C);
16 and 17 are the two bus lines of R273. -/
def State.telemetry (s : State) : State :=
  let io := s.iOut
  let s := s.pushTel 0 s.bfc.vOut
  let s := s.pushTel 1 s.bfc.vIn
  let s := s.pushTel 2 io
  let s := s.pushTel 3 (s.bfc.vOut * io)
  foldS (List.range 6) (fun s k =>
    (s.pushTel (4 + k) (sget 0 s.bfc.iPhase k)).pushTel (10 + k) ((sget 0 s.bfc.tPhase k : Int) : Rat)) s

/-! ### Loops (R290, R293) -/

/-- Reference of the next 10 µs in STARTING: the ramp to EFF, from above it too, held within WIN of V_out while the clamp acts. -/
def State.rampR (s : State) : Rat :=
  let slew := mkRat (s.fld pBFC 0x030 31 20) 1
  let sl := if s.bvl.slew != 0 then minR slew s.bvl.slew else slew
  let r := if s.bfc.r ≤ s.eff then minR (s.bfc.r + sl / 100000) s.eff else maxR (s.bfc.r - sl / 100000) s.eff
  if s.bfc.clamped then minR r (s.bfc.vOut + s.bfcWin) else r

/-- The linear law for a reference r. -/
def State.voltageLaw (s : State) (r : Rat) : State :=
  let fc := mkRat (s.fld pBFC 0x100 31 24 * 100) 1
  let kp := 2 * piR * fc * s.cBus
  let ki := kp * 2 * piR * fc / 4
  let e := r - s.bfc.vOut
  let int := s.bfc.integral + e / 100000
  let raw := kp * e + ki * int
  let c := s.iClamp
  let cl := decide (raw < -c) || decide (c < raw)
  { s with bfc := { s.bfc with r := r, integral := if cl then s.bfc.integral else int, iRef := clampR (-c) c raw, clamped := cl } }

/-- REACHED (R293): REGULATING, the join leaves FORMING, the latest accepted SET is answered REACHED (R306). -/
def State.reachedCheck (s : State) : State :=
  if s.bfc.st = .starting ∧ s.bfc.r = s.eff ∧ absR (s.bfc.vOut - s.eff) ≤ s.bfcWin then
    let s := { s with bfc := { s.bfc with st := .regulating, reached := true } }.raise pBFC 5
    let s := if s.bvl.ack = 1 then { s with bvl := { s.bvl with ack := 3 } } else s
    if s.join.sec = .forming then { s with join := { s.join with sec := .first } }.firstTry else s
  else s

/-- Outer loop, every 10 µs: new filter outputs in mV, telemetry, the voltage law. -/
def execVoltageLoop (voaMv vobMv viMv : Int) (s : State) : Host.Outcome State Fault Refusal :=
  let va := mkRat voaMv 1000
  let vb := mkRat vobMv 1000
  let s := { s with bfc := { s.bfc with vOut := (va + vb) / 2, vIn := mkRat viMv 1000 } }
  let s := ((s.pushTel 16 va).pushTel 17 vb).telemetry
  let s := { s with bfc := { s.bfc with voa := (s.telOf 16).avg1, vob := (s.telOf 17).avg1 } }
  -- out of lock the PWM returns to f_sw by at most 1 % per ms (R289)
  let f := s.bfc.fNow
  let step := f / 10000 + 1
  let f' := if s.bfc.syncLock then f else if f < s.fSw then Nat.min s.fSw (f + step) else Nat.max s.fSw (f - step)
  let s := { s with bfc := { s.bfc with fNow := f' } }
  match s.bfc.st with
  | .starting => .next ((s.voltageLaw s.rampR).reachedCheck)
  | .regulating => .next (s.voltageLaw s.eff)
  | .stopping =>
    let ramp := msNs (s.fld pBFC 0x034 15 8)
    let left := s.bfc.stopEnd - s.now
    .next { s with bfc := { s.bfc with iRef := if ramp = 0 then 0 else s.bfc.stopFrom * mkRat left ramp } }
  | _ => .next s

/-- Inner loops, once per switching period: period means of the phase currents in mA give the duties of the next period. -/
def execCurrentLoop (phaseMa : List Int) (s : State) : Host.Outcome State Fault Refusal :=
  let s := foldS (List.range 6) (fun s k =>
    { s with bfc := { s.bfc with iPhase := sset 0 s.bfc.iPhase k (mkRat (phaseMa.getD k 0) 1000) } }) s
  if s.bfc.st.running then
    let kc := Config.currentGain s.fSw s.lPh s.bfc.vIn s.bfc.vOut
    let n : Rat := s.nAct
    .next (foldS (List.range 6) (fun s k =>
      let d := if s.inService.contains k then
          s.dutyIn (s.duFf + kc * ((if n = 0 then 0 else s.bfc.iRef / n) - sget 0 s.bfc.iPhase k)) else 0
      { s with bfc := { s.bfc with duty := sset 0 s.bfc.duty k d } }) s)
  else .next s

/-! ### Faults (R296–R301) -/

/-- Two consecutive evaluations beyond ±OC_PH (mA). -/
def execPhaseOc (k : Phase) (i1 i2 : Int) (s : State) : Host.Outcome State Fault Refusal :=
  if s.ocPh < absR (mkRat i1 1000) ∧ s.ocPh < absR (mkRat i2 1000) then .next (s.convLatch 1 k.val) else .next s

/-- A phase leaves service: record, re-interleave (the offsets follow the in-service set) or MIN_PHASES. -/
def State.phaseOut (s : State) (k : Nat) (sense : Bool) : State :=
  let s := (s.log 0x0703 [word s.bfc.st.code, word k, word (b2n sense), rw (sget 0 s.bfc.iPhase k * 1000)]).raise pBFC 4
  let s := { s with bfc := { s.bfc with duty := sset 0 s.bfc.duty k 0 } }
  if s.nAct < s.fld pBFC 0x028 27 25 then s.convLatch 4 k else s

def execFailedOpen (k : Phase) (s : State) : Host.Outcome State Fault Refusal :=
  if s.bfc.st.running ∧ s.inService.contains k.val then
    .next ({ s with bfc := { s.bfc with failedOpen := s.bfc.failedOpen ||| (1#6 <<< k.val) } }.phaseOut k.val false)
  else .next s

/-- A phase stream without transitions, or two bad status frames in a row (R299). -/
def State.senseLose (s : State) (k : Nat) : State :=
  if s.bfc.senseLost.getLsbD k then s
  else
    { s with bfc := { s.bfc with senseLost := s.bfc.senseLost ||| (1#6 <<< k),
                                 failedOpen := s.bfc.failedOpen &&& ~~~(1#6 <<< k) } }.phaseOut k true

def execSenseLost (k : Phase) (s : State) : Host.Outcome State Fault Refusal := .next (s.senseLose k.val)

/-- Short check in STARTING (R297): time at the clamp, and the rise over 50 ms spent wholly at it. -/
def execShortDetect (clampMs : Nat) (riseMv : Int) (s : State) : Host.Outcome State Fault Refusal :=
  let a := decide (100 ≤ clampMs) && decide (s.bfc.vOut < maxR (s.eff / 20) 30)
  let b := decide (50 ≤ clampMs) && decide (mkRat riseMv 1000 < (if s.cBus = 0 then 0 else s.iClamp * mkRat 5 1000 / s.cBus))
  if s.bfc.st = .starting ∧ (a || b) = true then
    let s := s.raise pBFC 2
    if s.bfc.retriesUsed < s.fld pBFC 0x100 1 0 then
      let n := s.bfc.retriesUsed + 1
      let s := s.log 0x0705 [word s.bfc.st.code, word n, rw (s.bfc.vOut * 100), word clampMs]
      let s := s.convRelease .retryWait
      .next { s with bfc := { s.bfc with retriesUsed := n, retryEnd := s.now + sNs 5 } }
    else .next (s.convLatch 2 0)
  else .next s

def execRetryWaitEnd (s : State) : Host.Outcome State Fault Refusal :=
  if s.bfc.st = .retryWait then .next ((s.reach s.bfc.retryEnd).convStart) else .next s

/-- |V_out − EFF| above WIN for 20 ms in REGULATING. -/
def execSag (s : State) : Host.Outcome State Fault Refusal :=
  if s.bfc.st = .regulating ∧ s.bfcWin < absR (s.bfc.vOut - s.eff) then .next (s.convLatch 3 0) else .next s

def State.lineRecord (s : State) (k : Nat) : State :=
  (s.log 0x0704 [word s.bfc.st.code, word k, rw (s.bfc.voa * 100), rw (s.bfc.vob * 100)]).raise pBFC 3

/-- A bus-voltage line is lost (R300); while the converter runs it latches with SENSE_LINE. -/
def State.lineLose (s : State) (lineB : Bool) : State :=
  if (if lineB then s.bfc.vobLost else s.bfc.voaLost) then s
  else
    let s := s.lineRecord (b2n lineB)
    let s := { s with bfc := { s.bfc with voaLost := s.bfc.voaLost || !lineB, vobLost := s.bfc.vobLost || lineB } }
    if s.bfc.st.running then s.convLatch 5 (b2n lineB) else s

def execLineLost (lineB : Bool) (s : State) : Host.Outcome State Fault Refusal := .next (s.lineLose lineB)

/-- A line recovers after 1 s of valid frames and agreement within 0.5 V. -/
def execLineRecovered (lineB : Bool) (s : State) : Host.Outcome State Fault Refusal :=
  .next { s with bfc := { s.bfc with voaLost := s.bfc.voaLost && lineB, vobLost := s.bfc.vobLost && !lineB } }

def State.viLose (s : State) : State :=
  if s.bfc.viLost then s else (({ s with bfc := { s.bfc with viLost := true } }.lineRecord 2).convLatch 6 0)

def execViLost (s : State) : Host.Outcome State Fault Refusal := .next s.viLose

/-- End of STOP_RAMP: PWM and BFC_EN low (R294). -/
def execStopRampEnd (s : State) : Host.Outcome State Fault Refusal :=
  if s.bfc.st = .stopping then
    let s := s.reach s.bfc.stopEnd
    .next { s with bfc := { s.bfc with driving := false, iRef := 0, integral := 0, duty := [] } }
  else .next s

/-- Every phase current below 2 % of I_PH for 5 ms: OFF, and FEED opens. -/
def execConverterOff (s : State) : Host.Outcome State Fault Refusal :=
  if s.bfc.st = .stopping ∧ s.bfc.driving = false ∧ s.now ≥ s.bfc.stopEnd then .next ((s.convRelease .off).openFeed) else .next s

/-- Banister safe-off (R294): BFC_EN low at once, OFF without the ramp; a latch in force stays, a pending retry is cancelled. -/
def State.banisterStop (s : State) : State :=
  match s.bfc.st with
  | .off | .latched => s
  | _ => ((s.log 0x0707 [word s.bfc.st.code, rw (s.bfc.vOut * 100), rw (s.iOut * 1000)]).convRelease .off).openFeed

/-! ### Synchronisation and the nets (R289, R302, R303) -/

/-- A rising edge of BFC_SYNC_IN, with the interval since the one before. -/
def execBfcSyncEdge (intervalNs : Nat) (s : State) : Host.Outcome State Fault Refusal :=
  if s.bit pBFC 0x008 0 ∧ intervalNs ≠ 0 then
    let period := if s.fSw = 0 then 0 else 1000000000 / s.fSw
    let ok := decide (9 * period ≤ 10 * intervalNs) && decide (10 * intervalNs ≤ 11 * period)
    if ok then
      let e := s.bfc.syncEdges + 1
      let f := s.bfc.fNow
      let tgt := 1000000000 / intervalNs
      let step := f * intervalNs / 100000000
      let f' := if f < tgt then Nat.min tgt (f + step) else Nat.max tgt (f - step)
      let lock := s.bfc.syncLock || decide (8 ≤ e)
      .next { s with bfc := { s.bfc with syncEdges := e, syncLock := lock, fNow := if lock then f' else f } }
    else .next { s with bfc := { s.bfc with syncEdges := 0 } }
  else .next s

def execBfcSyncLost (lastIntervalNs : Nat) (s : State) : Host.Outcome State Fault Refusal :=
  if s.bfc.syncLock then
    .next (({ s with bfc := { s.bfc with syncLock := false, syncEdges := 0 } }.logN 0x0706 [s.bfc.st.code, lastIntervalNs]).raise pBFC 6)
  else .next { s with bfc := { s.bfc with syncEdges := 0 } }

/-- The nets have shown no high level for 2 switching periods: a waiting active device takes them and starts again from V_out. -/
def execNetsFree (waitUs : Nat) (s : State) : Host.Outcome State Fault Refusal :=
  if s.bfc.st = .handover ∧ s.active = true then
    let s := if s.fSw ≠ 0 ∧ 1000000 < waitUs * s.fSw then (s.logN 0x0709 [s.bfc.st.code, waitUs]).raise pBFC 7 else s
    let s := (s.log 0x0708 [word s.bfc.st.code, word s.bfc.handFrom.code, rw (s.bfc.vOut * 100)]).raise pBFC 7
    .next s.convStart
  else .next s

/-- What a new active device does with the mirrored converter state (R303). -/
def State.convTakeover (s : State) : State :=
  match s.bfc.st with
  | .starting | .regulating => { s with bfc := { s.bfc with st := .handover, driving := false, handFrom := s.bfc.st } }
  | .stopping => (s.convRelease .off).openFeed
  | _ => s

/-- BFC.CLEAR (R296). -/
def State.bfcClear (s : State) (o : Origin) (v : Word) : Except Refuse State :=
  if s.bfc.st = .latched ∧ field v 31 24 = s.bfc.fseq ∧ field v 23 16 = s.bfc.cause then
    .ok ({ s with bfc := { s.bfc with st := .off } }.logN 0x0702 [ConvSt.latched.code, s.bfc.fseq, o.code])
  else .error .mode

/-- A peak word read by an origin: its held value, which restarts (R295). -/
def State.peakTake (s : State) (o : Origin) (q : Nat) : Rat × State :=
  let t := s.telOf q
  (sget 0 t.held o.code, { s with bfc := { s.bfc with tel := sset {} s.bfc.tel q { t with held := serase t.held o.code } } })

/-! ### Bus voltage command link (R304–R307) -/

/-- The response of Table 11.7. -/
def State.bvlResponse (s : State) : DWord :=
  let b := s.bvl
  let hi := b.seq.toNat * 2 ^ 48 + b.ack * 2 ^ 46 + (if b.ack = 2 then b.reason else 0) * 2 ^ 43 + b2n s.active * 2 ^ 42 +
    b2n (s.bfc.st == .starting || s.bfc.st == .regulating) * 2 ^ 41 + b2n s.vBusNow.isSome * 2 ^ 40 + s.term.toNat * 2 ^ 32 +
    (toUnits (s.eff * 10)).toNat % 65536 * 2 ^ 16 + (toUnits ((s.bfc.voa + s.bfc.vob) / 2 * 10)).toNat % 65536
  let c := crc8 (beBytes 7 hi)
  BitVec.ofNat 64 (hi * 256 + c.toNat)

/-- Framing, rate, CRC and KIND (R304, R305): none for a frame that is not rejected, else whether its CRC failed. A period of 45
to 50 ns is rejected or not: a free value. -/
def State.bvlReject (s : State) (frame : DWord) (edges minPeriodNs kind : Nat) : Option Bool × State :=
  let v := frame.toNat
  let count := fun (s : State) (crc : Bool) =>
    { s with bvl := if crc then { s.bvl with rejCrc := Nat.min 65535 (s.bvl.rejCrc + 1) }
                    else { s.bvl with rejFrame := Nat.min 65535 (s.bvl.rejFrame + 1) } }.raise pBVL 2
  if edges ≠ 64 ∨ minPeriodNs < 45 then (some false, count s false)
  else
    let fr : Bool × State := if minPeriodNs < 50 then s.freeBool else (false, s)
    if fr.1 then (some false, count fr.2 false)
    else if (crc8 (beBytes 7 (v / 256))).toNat ≠ v % 256 then (some true, count fr.2 true)
    else if v / 2 ^ 60 ≠ kind then (some false, fr.2.raise pBVL 2)
    else (none, { fr.2 with bvl := { fr.2.bvl with lastFrame := fr.2.now, silent := false } })

/-- Table 11.8: 0 accept, else the reason. -/
def State.bvlDecide (s : State) (v : Nat) : Nat :=
  let tgt := v / 2 ^ 36 % 65536
  if v / 2 ^ 8 % 65536 ≠ 0 then 5
  else if tgt < s.fld pBVL 0x024 15 0 ∨ s.fld pBVL 0x024 31 16 < tgt then 3
  else if s.bfc.st = .latched then 4
  else if s.md ≠ .ready ∧ s.md ≠ .joining then 1
  else if s.md = .joining ∧ (s.join.sec = .first ∨ s.join.sec = .sweep ∨ s.join.sec = .run) then 2
  else 0

/-- A SET frame. -/
def execBvlSet (frame : DWord) (edges minPeriodNs : Nat) (s : State) : Host.Outcome State Fault Refusal :=
  match s.bvlReject frame edges minPeriodNs 5 with
  | (some _, s) => .next s
  | (none, s) =>
    let v := frame.toNat
    let seq : Byte := BitVec.ofNat 8 (v / 2 ^ 52 % 256)
    let tgt := v / 2 ^ 36 % 65536
    let slew := v / 2 ^ 24 % 4096
    if s.bvl.any ∧ seq = s.bvl.seq then .next (s.emit (.bvl s.bvlResponse))
    else if s.bvl.any ∧ newer8 seq s.bvl.seq = false then
      .next ({ s with bvl := { s.bvl with rejFrame := Nat.min 65535 (s.bvl.rejFrame + 1) } }.raise pBVL 2)
    else
      let s := { s with bvl := { s.bvl with seq := seq, any := true } }
      let r := s.bvlDecide v
      let s :=
        if r = 0 then
          let b := { s.bvl with ack := 1, reason := 0, slew := slew }
          { s with bvl := if s.md = Mode.ready then { b with target := tgt, targetValid := true, eff := mkRat tgt 10 } else b }.raise pBVL 0
        else
          ({ s with bvl := { s.bvl with ack := 2, reason := r } }.logN 0x070A [s.bfc.st.code, seq.toNat, r, tgt]).raise pBVL 1
      .next (s.emit (.bvl s.bvlResponse))

/-- A POLL frame: the response, and no action. -/
def execBvlPoll (frame : DWord) (edges minPeriodNs : Nat) (s : State) : Host.Outcome State Fault Refusal :=
  match s.bvlReject frame edges minPeriodNs 10 with
  | (some _, s) => .next s
  | (none, s) => .next (s.emit (.bvl s.bvlResponse))

/-- No valid frame for BVL_TMO. -/
def execBvlSilent (sinceMs : Nat) (s : State) : Host.Outcome State Fault Refusal :=
  if s.fld pBVL 0x020 31 16 ≤ sinceMs ∧ s.bvl.silent = false then
    .next (({ s with bvl := { s.bvl with silent := true } }.logN 0x070B [s.bfc.st.code, sinceMs]).raise pBVL 3)
  else .next s

end Sys2Proof.Machine
end

