-- ==== Sys2Proof/Machine/Served.lean ====
section
/-! DEFINITION. What every served write does around its effect: CFGSEQ of the page on success (R58), the refusal report on failure
(R23, R53, R60, R64). -/
namespace Sys2Proof.Machine

/-- Names of Table 16.5. -/
def statusName (n : Nat) : String :=
  match n with
  | 0 => "OK"
  | 1 => "REFUSED_FORMAT"
  | 2 => "REFUSED_LOCK"
  | 3 => "REFUSED_WALL"
  | 4 => "REFUSED_MODE"
  | 5 => "REFUSED_AUTH"
  | 6 => "UNMAPPED"
  | 7 => "MAILBOX_FULL"
  | 8 => "STALE"
  | 9 => "CRC_ERROR"
  | _ => "QUEUED"

/-- The last line of a Stairwell answer (R467): a write queued into the mailbox is a success. -/
def stwLine (status : Nat) : String := if status = 0 ∨ status = 0x0A then "OK" else "ERR " ++ statusName status

/-- Answer to the origin of a transaction of one word: status and words (Table 16.5) on the host port or as Stairwell text. -/
def State.answer (s : State) (o : Origin) (status : Nat) (ws : List Word) : State :=
  match o with
  | .host => s.emit (.host status (if status = 0 ∨ status = 0x0A then 1 else 0) ws)
  | .stairwell => (if ws.isEmpty then s else s.emit (.textWords ws)).emit (.text (stwLine status))
  | .mgmt => s

/-- A refused write: CFG_REFUSED of the page; for a mailbox page also DEV.EVT, DEV.MBXSTAT and the MBX_REFUSED record, for a direct
page the code as the transaction's status. -/
def State.refuse (s : State) (o : Origin) (pg off : Nat) (r : Refuse) : State :=
  let s := s.raise pg 31
  if pageClass pg = .mgmt then s.answer o r.code []
  else
    let w := word (at_ 29 r.code + at_ 27 o.code + at_ 20 pg + off % 4096)
    ({ s with dev := { s.dev with mbxstat := w } }.logN 0x0E04 [o.code, regAddr pg off, r.code]).raise pDEV 0

/-- A Stairwell session below service level writes no page but the Gallery's read operations (Table 18.7). -/
def State.stwBarred (s : State) (o : Origin) : Bool := o == .stairwell && decide (s.stwLevel.code < 2)

/-- The outcome of a served write. A direct write during a restart of the management plane is refused (R471). -/
def State.served (s : State) (o : Origin) (pg off : Nat) (r : Except Refuse State) : State :=
  if pageClass pg = .mgmt ∧ pg ≠ pGAL ∧ s.stwBarred o = true then s.answer o 5 []
  else if pageClass pg = .mgmt ∧ s.mgmt.restarting = true then s.refuse o pg off .mode
  else
    match r with
    | .ok t => if pageClass pg = .mgmt then (t.bumpCfg pg).answer o 0 [] else t.bumpCfg pg
    | .error e => s.refuse o pg off e

/-- An accepted write to a data-plane or time-base page waits for the sample instant (R52, R526). -/
def State.toShadow (s : State) (o : Origin) (pg off : Nat) (v : Word) : State :=
  { s with shadow := s.shadow ++ [{ origin := o, page := pg, offset := off, value := v }] }

/-- The same for a command whose mode check is `ok`. -/
def State.shadowed (s : State) (o : Origin) (pg off : Nat) (v : Word) (ok : Bool) : State :=
  if ok then s.toShadow o pg off v else s.refuse o pg off .mode

/-- Whether the origin may write the expert region of a page (R57). -/
def State.unlockedFor (s : State) (o : Origin) (pg : Nat) : Bool := (s.page pg).owner == o.code

/-- The word with its writable stored fields taken from v; RO fields ignore the write (R48). -/
def mergeWord (fs : List Fld) (old v : Word) : Word :=
  fs.foldl (fun w f => if f.acc == .rw || f.acc == .rww || f.acc == .rwx || f.acc == .wo then setField w f.hi f.lo (field v f.hi f.lo) else w) old
/-- Stores a register without behaviour of its own. -/
def State.storeReg (s : State) (pg off : Nat) (v : Word) : State :=
  s.setReg pg off (mergeWord ((regFlds pg off).getD []) (s.reg pg off) v)

end Sys2Proof.Machine
end

