-- ==== Sys2Proof/Machine/TimeBase.lean ====
section
/-! DEFINITION. Disciplining device time and t_base (R42, R394). -/
namespace Sys2Proof.Machine

/-- Whole nanoseconds of the offset in force slewed away by instant t, at 50 ppm. -/
def State.drained (s : State) (t : Nat) : Int :=
  let d : Int := ((t - s.time.slewAt) / 20000 : Nat)
  if s.time.slew < 0 then -(if d < -s.time.slew then d else -s.time.slew) else (if d < s.time.slew then d else s.time.slew)

/-- Total slewed away by instant t. -/
def State.slewTotal (s : State) (t : Nat) : Int := s.time.slewn + s.drained t

/-- Epoch base after a step: the next number at the first sample instant at least one period after it, on the same grid. -/
def State.rebase (s : State) (t : Nat) : State :=
  let p : Int := s.tEpoch
  if p = 0 then s else
    let k := ((t : Int) + p - s.time.tBase + p - 1) / p
    let at_ := s.time.tBase + k * p
    { s with time := { s.time with tBase := at_ - ((nextEpoch s.time.epoch).toNat : Int) * p } }

/-- Removes an offset (own time less source time): a step in START, DORMANT and COMMISSION where it is above 1 ms, else a slew. The
TYPE of the record of a step is not stated: a free number of the CAN range. -/
def State.correct (s : State) (src : Nat) (off : Int) : State :=
  let big := decide (1000000 < off) || decide (off < -1000000)
  let stepMode := s.md == .start || s.md == .dormant || s.md == .commission
  if big && stepMode then
    let t := (s.now - off).toNat
    let s := ({ s with time := { s.time with now := t, slewn := s.slewTotal s.now, slew := 0, slewAt := t } }).rebase t
    let (w, s) := s.freeWord
    s.log (0x0B00 + w.toNat % 256) [word src, wordI off]
  else { s with time := { s.time with slewn := s.slewTotal s.now, slew := off, slewAt := s.now } }

/-- Whether this device takes its time from SYNC_IN or a network master: a standby follows the active device only (R394). -/
def State.ownTime (s : State) : Bool := s.pair.role != .standby

end Sys2Proof.Machine
end

