-- ==== Sys2Proof/Machine/Can.lean ====
section
/-! DEFINITION. CAN FD controllers, SYNC_IN and the network time master (15). -/
namespace Sys2Proof.Machine

def canPage (x : Nat) : Nat := pCAN + x
/-- Owner of buffer b of controller x (items 20): 0 unused, 1 control, 2 data, 3 management firmware, 4 host. -/
def State.bufOwner (s : State) (x b : Nat) : Nat := (s.item 20 (64 * x + b)).toNat % 5
/-- Control-plane buffers (items 21), as 64 × controller + buffer + 1: 0 protection frame, 1 SAFE frame on CANA, 2 on CANB. -/
def State.ctlBuf (s : State) (k : Nat) : Option Nat :=
  let v := (s.item 21 k).toNat
  if v = 0 then none else some ((v - 1) % 256)

/-! ### Buffers (Table 15.2) -/

def TxBuf.w (b : TxBuf) (k : Nat) : Word := b.words.getD k 0#32
def TxBuf.timed (b : TxBuf) : Bool := (b.w 0).getLsbD 31
def TxBuf.pair (b : TxBuf) : Bool := (b.w 0).getLsbD 30
def TxBuf.xtd (b : TxBuf) : Bool := (b.w 0).getLsbD 29
/-- Identifier as a number: 11 or 29 bits. -/
def TxBuf.ident (b : TxBuf) : Nat := if b.xtd then field (b.w 0) 28 0 else field (b.w 0) 28 18
def TxBuf.launch (b : TxBuf) : Nat := (b.w 2).toNat + 2 ^ 32 * (b.w 3).toNat
def TxBuf.expire (b : TxBuf) : Nat := (b.w 4).toNat + 2 ^ 32 * (b.w 5).toNat

/-- Data bytes by DLC. -/
def dlcLen (fdf : Bool) (dlc : Nat) : Nat :=
  if dlc ≤ 8 then dlc else if fdf then [12, 16, 20, 24, 32, 48, 64].getD (dlc - 9) 64 else 8

/-- Identifier of the attempt (R389, R372). -/
def State.sendIdent (s : State) (b : TxBuf) : Nat :=
  b.ident + if b.pair && (s.standby || s.pair.baseHold.isSome) then 1 else 0
/-- PAIR buffers are held in the roles of R389. -/
def State.pairHeld (s : State) (b : TxBuf) : Bool :=
  b.pair && (s.pair.role == .starting || s.pair.role == .passive || s.pair.role == .unavailable)

def State.frameOf (s : State) (b : TxBuf) : CanFrame :=
  let fdf := (b.w 1).getLsbD 4
  let dlc := field (b.w 1) 3 0
  { id := BitVec.ofNat 29 (b.att.getD (s.sendIdent b)), xtd := b.xtd, fdf := fdf, brs := (b.w 1).getLsbD 5, dlc := BitVec.ofNat 4 dlc,
    data := (bytesOf (b.words.drop 6)).take (dlcLen fdf dlc) }

/-- Words 0, 1 and 6–21 of a buffer for a frame of the device. -/
def packWords (timed pair xtd fdf brs : Bool) (ident : Nat) (dlc : Nat) (data : List Byte) : List Word :=
  let w0 := at_ 31 (b2n timed) + at_ 30 (b2n pair) + at_ 29 (b2n xtd) + (if xtd then ident % 2 ^ 29 else at_ 18 (ident % 2048))
  let ws := wordsOf data
  [word w0, word (at_ 5 (b2n brs) + at_ 4 (b2n fdf) + dlc % 16), 0#32, 0#32, 0#32, 0#32] ++ ws ++ List.replicate (16 - ws.length) 0#32

/-- The controller takes part in the bus. -/
def State.canUp (s : State) (x : Nat) : Bool := (s.can x).mode == .active && !(s.can x).busOff

/-- Arbitration order: the lower number wins; a standard identifier wins over an extended one of the same base (R387). -/
def State.arbKey (s : State) (b : TxBuf) : Nat :=
  let i := s.sendIdent b
  if b.xtd then (i / 2 ^ 18 % 2048) * 2 ^ 20 + 2 ^ 19 + i % 2 ^ 18 else (i % 2048) * 2 ^ 20

def State.bufEligible (s : State) (x b : Nat) : Bool :=
  let t := s.buf (64 * x + b)
  (t.st == .queued) && (!t.timed || t.eligible || decide (t.launch ≤ s.now)) && !s.pairHeld t

/-- The buffer the controller offers: the identifier that would win, the lower number among equals (R387); a buffer SENDING is the
one on the bus. -/
def State.canOffer (s : State) (x : Nat) : Option Nat :=
  match (List.range 64).find? (fun b => (s.buf (64 * x + b)).st == .sending) with
  | some b => some b
  | none =>
    (List.range 64).foldl (fun (best : Option Nat) b =>
      if s.bufEligible x b then
        match best with
        | none => some b
        | some c => if s.arbKey (s.buf (64 * x + b)) < s.arbKey (s.buf (64 * x + c)) then some b else best
      else best) none

/-- A buffer queued at instant `now` with content ws. -/
def TxBuf.fresh (t : TxBuf) (now : Nat) (ws : List Word) : TxBuf :=
  { t with words := ws, st := .queued, late := false, eligible := false, past := decide (TxBuf.launch { t with words := ws } < now),
           doomed := none, rewrite := none, att := none }

/-- Loads a buffer and queues it: a buffer SENDING takes the content after its attempt (R388). -/
def State.bufQueue (s : State) (k : Nat) (ws : List Word) : State :=
  let t := s.buf k
  if t.st = .sending then s.updBuf k (fun t => { t with rewrite := some ws })
  else s.updBuf k (fun t => t.fresh s.now ws)

/-- Removes a QUEUED buffer; a buffer SENDING finishes its attempt (R388). -/
def State.bufDrop (s : State) (k : Nat) (dest : BufState) : State :=
  let t := s.buf k
  if t.st = .queued then s.updBuf k (fun t => { t with st := dest })
  else if t.st = .sending then s.updBuf k (fun t => { t with doomed := some dest }) else s

def State.pendingBufs (s : State) (x : Nat) : Nat :=
  ((List.range 64).filter (fun b => (s.buf (64 * x + b)).st == .queued || (s.buf (64 * x + b)).st == .sending)).length

/-- TXCMD.OP QUEUE (R386, Table 15.5). -/
def State.txQueue (s : State) (o : Origin) (x b : Nat) : Except Refuse State :=
  let own := match o with | .host => 4 | .mgmt => 3 | .stairwell => 9
  if s.bufOwner x b ≠ own then .error .format
  else if (s.buf (64 * x + b)).st = .queued ∨ (s.buf (64 * x + b)).st = .sending then .error .mode
  else .ok (s.bufQueue (64 * x + b) (s.buf (64 * x + b)).words)

/-- TXCMD.OP WITHDRAW. -/
def State.txWithdraw (s : State) (o : Origin) (x b : Nat) : Except Refuse State :=
  let own := match o with | .host => 4 | .mgmt => 3 | .stairwell => 9
  if s.bufOwner x b ≠ own then .error .format else .ok (s.bufDrop (64 * x + b) .withdrawn)

def execQueue (o : Origin) (x : CanIx) (b : BufIx) (s : State) : Host.Outcome State Fault Refusal :=
  .next (s.served o (canPage x.val) 0x030 (s.txQueue o x.val b.val))

def execWithdraw (o : Origin) (x : CanIx) (b : BufIx) (s : State) : Host.Outcome State Fault Refusal :=
  .next (s.served o (canPage x.val) 0x030 (s.txWithdraw o x.val b.val))

/-- A TIMED buffer has reached LAUNCH; its SOF begins at sofAt. LATE where the frame of another buffer goes before it or SOF falls more
than one nominal bit after LAUNCH, except for a LAUNCH already past when queued, which is eligible at once (R393). -/
def execTxLaunch (x : CanIx) (b : BufIx) (sofAt : Nat) (s : State) : Host.Outcome State Fault Refusal :=
  let k := 64 * x.val + b.val
  let t := s.buf k
  if t.st = .queued ∧ t.timed = true ∧ s.canUp x.val = true ∧ s.pairHeld t = false then
    let s := s.reach t.launch
    let s := s.updBuf k (fun t => { t with eligible := true })
    let say := fun (s : State) => (s.logN 0x0B05 [x.val, b.val, sofAt - t.launch]).raise (canPage x.val) 2
    if s.canOffer x.val = some b.val then
      let s := s.reach sofAt
      let a := s.reg (canPage x.val) 0x020
      let bit10 := (field a 4 0 + 1) * (1 + (field a 31 24 + 1) + (field a 23 17 + 1)) * 125   -- nominal bit in 0.1 ns
      let late := !t.past && !t.late && decide (bit10 < (sofAt - t.launch) * 10)
      .next ((s.updBuf k (fun t => { t with st := .sending, late := t.late || late, att := some (s.sendIdent t) })).when late say)
    else if t.past || t.late then .next s
    else .next (say (s.updBuf k (fun t => { t with late := true })))
  else .next s

/-- EXPIRE passes. -/
def execTxExpire (x : CanIx) (b : BufIx) (s : State) : Host.Outcome State Fault Refusal :=
  let k := 64 * x.val + b.val
  let t := s.buf k
  if t.expire = 0 then .next s
  else
    let s := s.reach t.expire
    if t.st = .queued then
      .next (((s.bufDrop k .expired).logN 0x0B06 [x.val, b.val, s.bufOwner x.val b.val]).raise (canPage x.val) 1)
    else if t.st = .sending then .next (s.bufDrop k .expired) else .next s

/-- What a failed attempt leaves (R388). -/
def State.attemptFailed (s : State) (x b : Nat) : State :=
  let k := 64 * x + b
  match (s.buf k).doomed with
  | some d =>
    let s := s.updBuf k (fun t => { t with st := d, doomed := none, rewrite := none, att := none })
    if d = .expired then (s.logN 0x0B06 [x, b, s.bufOwner x b]).raise (canPage x) 1 else s
  | none =>
    s.updBuf k (fun t => match t.rewrite with
      | some ws => t.fresh s.now ws
      | none => { t with st := .queued, att := none })

def CanSt.errPassive (c : CanSt) : Bool := decide (128 ≤ c.tec) || decide (128 ≤ c.rxErr)

def execBusOffWaitEnd (x : CanIx) (s : State) : Host.Outcome State Fault Refusal :=
  let k := x.val
  if (s.can k).busOff then
    let s := s.reach ((s.can k).busOffAt + msNs (s.fld (canPage k) 0x008 31 16))
    .next (s.updCan k (fun c => { c with recovering := true }))
  else .next s

def execCanRecovered (x : CanIx) (s : State) : Host.Outcome State Fault Refusal :=
  let k := x.val
  if (s.can k).busOff = true ∧ (s.can k).recovering = true then
    let off := (s.now - (s.can k).busOffAt) / 1000000
    .next (((s.updCan k (fun c => { c with busOff := false, recovering := false, tec := 0, rxErr := 0 })).logN 0x0B02
      [k, off]).raise (canPage k) 0)
  else .next s

/-- CTRL.WAKE_REARM (R402). -/
def State.wakeRearm (s : State) (x recessiveMs : Nat) : Except Refuse State :=
  if recessiveMs < 100 then .error .mode else .ok (s.updCan x (fun c => { c with wakeMasked := false }))

def execWakeRearm (o : Origin) (x : CanIx) (recessiveMs : Nat) (s : State) : Host.Outcome State Fault Refusal :=
  .next (s.served o (canPage x.val) 0x008 (s.wakeRearm x.val recessiveMs))

/-! ### Host FIFO (R417) -/

/-- One entry for the host FIFO: word 0 holds KIND and the number of words that follow. A full FIFO discards it whole. -/
def State.hostPush (s : State) (kind : Nat) (ws : List Word) : State :=
  let e := word (at_ 24 kind + ws.length) :: ws
  let loss : List Word := if s.host.lossPending = 0 then [] else [word (at_ 24 3 + 1), word s.host.lossPending]
  let f := s.host.fifo
  if f.length + loss.length + e.length ≤ Config.hostFifoMax then
    let g := f ++ loss ++ e
    let high := s.fld pHOST 0x020 12 0
    let s := { s with host := { s.host with fifo := g, lossPending := 0 } }
    let s := s.when (f.isEmpty) (fun s => s.raise pHOST 0)
    s.when (decide (f.length < high) && decide (high ≤ g.length)) (fun s => s.raise pHOST 1)
  else { s with host := { s.host with lossPending := s.host.lossPending + 1 } }.raise pHOST 2

def rxWords (e : RxEntry) : List Word :=
  let d := e.f.data ++ List.replicate ((4 - e.f.data.length % 4) % 4) 0#8
  two e.stamp ++
    [word (at_ 31 (b2n e.f.brs) + at_ 30 (b2n e.f.fdf) + at_ 29 (b2n e.f.xtd) +
        (if e.f.xtd then e.f.id.toNat else at_ 18 (e.f.id.toNat % 2048))), word e.f.dlc.toNat] ++ wordsOf d

/-- Management firmware passes FIFO 1 on to the host FIFO. -/
def State.drainFifo1 (s : State) (x : Nat) : State :=
  let es := (s.can x).fifo1
  foldS es (fun s e => s.hostPush 2 (rxWords e)) (s.updCan x (fun c => { c with fifo1 := [] }))

/-! ### Reception (R391, R392, R373) -/

/-- Stores a frame in FIFO 0: the oldest entry goes when it is full. -/
def State.fifo0Put (s : State) (x : Nat) (e : RxEntry) : State :=
  let q := (s.can x).fifo0
  if q.length < Config.canFifoMax then s.updCan x (fun c => { c with fifo0 := c.fifo0 ++ [e] })
  else
    ((s.updCan x (fun c => { c with fifo0 := c.fifo0.drop 1 ++ [e], lost0 := c.lost0 + 1 })).logN 0x0B04
      [x, 0, (s.can x).lost0 + 1]).raise (canPage x) 4

/-- Stores a frame in FIFO 1: it is discarded when full. -/
def State.fifo1Put (s : State) (x : Nat) (e : RxEntry) : State :=
  let q := (s.can x).fifo1
  if q.length < Config.canFifoMax then
    let s := s.updCan x (fun c => { c with fifo1 := c.fifo1 ++ [e] })
    if s.mgmt.restarting then s else s.drainFifo1 x
  else
    ((s.updCan x (fun c => { c with lost1 := c.lost1 + 1 })).logN 0x0B04 [x, 1, (s.can x).lost1 + 1]).raise (canPage x) 3

/-- The FIFO a frame goes to: the first matching filter decides. -/
def State.filterOf (s : State) (x : Nat) (f : CanFrame) : Option Bool :=
  let key := if f.xtd then f.id.toNat else at_ 18 (f.id.toNat % 2048)
  (List.range 32).findSome? (fun k =>
    let w := s.reg (canPage x) (0xA00 + 8 * k)
    let m := field (s.reg (canPage x) (0xA04 + 8 * k)) 28 0
    if w.getLsbD 31 && (w.getLsbD 30 == f.xtd) && (Nat.land key m == Nat.land (field w 28 0) m) then some (w.getLsbD 29) else none)

/-- A pair-sent buffer of this device whose identifier, or that plus 1, the frame carries. -/
def State.pairBuf (s : State) (x : Nat) (f : CanFrame) : Option Nat :=
  (List.range 64).find? (fun b =>
    let t := s.buf (64 * x + b)
    t.pair && (t.xtd == f.xtd) && (f.id.toNat == t.ident || f.id.toNat == t.ident + 1))

/-- Term a pair-sent frame carries: byte 4 of the protection frame, the header of a flow frame; a SAFE frame carries none. -/
def State.pairTerm (s : State) (x b : Nat) (f : CanFrame) : Option Byte :=
  let k := 64 * x + b
  if s.ctlBuf 0 = some k then f.data[4]?
  else if s.ctlBuf 1 = some k ∨ s.ctlBuf 2 = some k then none
  else
    match (s.buf k).flow with
    | some fl => if (((s.flow fl).desc.getD 0 0#32).getLsbD 8) then f.data[4]? else f.data[0]?
    | none => none

/-- A received frame with the timestamp of its SOF sample point. An FD frame is received only with FD frames enabled. The control plane
takes a frame on an own pair-sent identifier from FIFO 0 as it reads the partner's term. -/
def execCanFrameRx (x : CanIx) (f : CanFrame) (stamp : Nat) (s : State) : Host.Outcome State Fault Refusal :=
  let k := x.val
  let c := s.can k
  if (c.mode = .active ∨ c.mode = .listen) ∧ c.busOff = false ∧ (f.fdf = true → s.bit (canPage k) 0x008 2 = true) then
    let s := if c.rxErr = 0 then s
      else if c.rxErr ≤ 127 then s.updCan k (fun c => { c with rxErr := c.rxErr - 1 })
      else
        let (w, s) := s.freeWord
        s.updCan k (fun c => { c with rxErr := 119 + w.toNat % 9 })
    let e : RxEntry := { f := f, stamp := stamp }
    match s.pairBuf k f with
    | some b =>
      let s := (s.fifo0Put k e).updCan k (fun c => { c with fifo0 := c.fifo0.dropLast })
      match s.pairTerm k b f with
      | some t => if newer8 t s.term then .next (s.goPassive (512 + k) t) else .next s
      | none => .next s
    | none =>
      match s.filterOf k f with
      | some true => .next (s.fifo1Put k e)
      | some false => .next (s.fifo0Put k e)
      | none => .next s
  else .next s

/-- The control plane takes a frame it acts on out of FIFO 0. -/
def State.fifo0Take (s : State) (f : CanFrame) : State :=
  foldS (List.range 4) (fun s x => s.updCan x (fun c => { c with fifo0 := c.fifo0.eraseP (fun e => e.f == f) })) s

/-! ### SYNC_IN and SYNC_OUT (R395, R396) -/

def State.inFmt (s : State) : Nat := s.fld pTIME 0x030 31 30
def State.outFmt (s : State) : Nat := s.fld pTIME 0x030 29 28
def State.epDiv (s : State) : Nat := s.fld pTIME 0x030 27 21
/-- Expected period of the SYNC_IN edges, ns. -/
def State.syncPeriod (s : State) : Nat := if s.inFmt = 1 then 1000000000 else s.epDiv * s.tEpoch

/-- Signed distance of t from the nearest multiple of p. -/
def nearOff (t : Int) (p : Nat) : Int :=
  if p = 0 then 0 else let r := t % (p : Int); if r * 2 < p then r else r - p

def State.syncLost (s : State) : State :=
  (({ s with syncT := { s.syncT with lock := false, edges := 0, src := .none } }).logN 0x0B0A [0xFF, 1, s.syncT.misses]).raise pTIME 2

/-- One missed or displaced edge; the third clears LOCK. -/
def State.syncMiss (s : State) : State :=
  let s := { s with syncT := { s.syncT with misses := s.syncT.misses + 1 } }
  if s.syncT.lock ∧ 3 ≤ s.syncT.misses then s.syncLost
  else if s.syncT.lock then s else { s with syncT := { s.syncT with edges := 0 } }

/-- A rising edge at device time `t`. -/
def execSyncInEdge (t : Nat) (s : State) : Host.Outcome State Fault Refusal :=
  let s := s.reach t
  let p := s.syncPeriod
  if s.inFmt ≠ 1 ∧ s.inFmt ≠ 2 then .next s
  else
    let off : Int := if s.inFmt = 1 then nearOff t 1000000000 else nearOff ((t : Int) - s.time.tBase) s.tEpoch
    if s.syncT.lock then
      let pred := s.syncT.lastEdge + (s.syncT.misses + 1) * p
      if pred + 100000 < t ∨ t + 100000 < pred then .next s.syncMiss
      else
        let dt := t - s.syncT.lastEdge
        let s := { s with syncT := { s.syncT with misses := 0, lastEdge := t, offset := off } }
        if s.ownTime then
          let s := { s with syncT := { s.syncT with src := .syncIn } }
          if s.inFmt = 1 then .next (s.correct 1 off)
          else .next { s with time := { s.time with tBase := s.time.tBase + clampI (-((dt / 20000 : Nat) : Int)) ((dt / 20000 : Nat) : Int) off } }
        else .next s
    else
      let dt := t - s.syncT.lastEdge
      let good := decide (p * 9999 ≤ dt * 10000) && decide (dt * 10000 ≤ p * 10001) && s.syncT.lastEdge != 0
      let n := if good then s.syncT.edges + 1 else 0
      let s := { s with syncT := { s.syncT with edges := n, lastEdge := t, misses := 0, offset := off } }
      if 3 ≤ n then .next (({ s with syncT := { s.syncT with lock := true } }.log 0x0B09 [0xFF#32, 1#32, wordI off]).raise pTIME 1) else .next s

def execSyncInMiss (s : State) : Host.Outcome State Fault Refusal := .next s.syncMiss

/-- A 10 µs pulse at the next whole second, or at the next t_N with N a multiple of EP_DIV. -/
def execSyncOutPulse (s : State) : Host.Outcome State Fault Refusal :=
  if s.outFmt = 1 then .next ((s.reach ((s.now + 999999999) / 1000000000 * 1000000000)).emit (.pulse "SYNC_OUT" 0 10))
  else if s.outFmt = 2 ∧ s.epDiv ≠ 0 ∧ s.time.sampling = true then
    let n := s.time.epoch.toNat
    let m := if s.tOf s.time.epoch < s.now ∨ n % s.epDiv ≠ 0 then (n / s.epDiv + 1) * s.epDiv else n
    .next ((s.reach (s.tOf (word m))).emit (.pulse "SYNC_OUT" 0 10))
  else .next s

/-! ### Network time master (R397–R399) -/

def State.ntmRole (s : State) : Nat := s.fld pTIME 0x038 31 30
def State.ntmPrio (s : State) : Nat := s.fld pTIME 0x038 29 27
def State.ntmCan (s : State) : Nat := s.fld pTIME 0x038 26 25
def State.refPeriod (s : State) : Nat := msNs (s.fld pTIME 0x038 15 0)
def State.refBase (s : State) : Nat := s.fld pTIME 0x03C 28 0
/-- A master of higher priority has been heard within 3 × REF_PERIOD. -/
def State.heardHigher (s : State) : Bool :=
  match s.syncT.heard with
  | some (p, t) => decide (p < s.ntmPrio) && decide (s.now < t + 3 * s.refPeriod)
  | none => false
def State.heardWord (s : State) : Nat := match s.syncT.heard with | some (p, _) => p | none => 0xFF

def execMasterCandidateStart (s : State) : Host.Outcome State Fault Refusal :=
  if s.ntmRole = 2 ∧ s.syncT.conflict = false ∧ s.heardHigher = false ∧ s.active = true ∧ s.syncT.sending = false then
    .next ({ s with syncT := { s.syncT with sending := true } }.logN 0x0B0B [s.ntmCan, 4, s.heardWord])
  else .next s

/-- The reference message of Table 15.3, or the end of sending where a master of higher priority is heard (R398). -/
def execRefMessageTx (s : State) : Host.Outcome State Fault Refusal :=
  let x := s.ntmCan
  if s.syncT.sending = true ∧ s.ntmRole = 2 ∧ s.active = true then
    if s.heardHigher then .next ({ s with syncT := { s.syncT with sending := false } }.logN 0x0B0B [x, 2, s.heardWord])
    else
      let c := s.syncT.count + 1
      let prev := match s.syncT.lastTx with | some t => t % 2 ^ 48 | none => 2 ^ 48 - 1
      let data := [BitVec.ofNat 8 (0x10 + at_ 3 (b2n s.syncT.lock) + s.ntmPrio), c] ++ leBytes 6 prev
      let f : CanFrame := { id := BitVec.ofNat 29 (s.refBase + s.ntmPrio), xtd := s.bit pTIME 0x03C 29, fdf := false, brs := false,
                            dlc := 8, data := data }
      let s := { s with syncT := { s.syncT with count := c, lastTx := some s.now } }
      .next (if s.canUp x then s.emit (.can x f) else s)
  else .next s

/-- The reading of T_PREV nearest to the own stamp: 48 low bits with the high bits of device time. -/
def widen48 (own low : Nat) : Int :=
  let m : Nat := 2 ^ 48
  let base : Int := (own / m * m : Nat)
  let v : Int := base + low
  if (own : Int) + (m / 2 : Nat) < v then v - m else if v + (m / 2 : Nat) < own then v + m else v

/-- A message of Table 15.3 on the network of this device. -/
def State.refMine (s : State) (x : Nat) (f : CanFrame) : Bool :=
  decide (x = s.ntmCan) && decide (f.id.toNat - f.id.toNat % 8 = s.refBase) && (f.xtd == s.bit pTIME 0x03C 29) && !f.fdf &&
    decide (f.data.length = 8) && decide ((f.data.getD 0 0#8).toNat / 16 = 1) && s.ntmRole != 0

/-- A reference message with the own SOF timestamp. On the own identifier it is a conflict, but on a standby: the message of its
active device, whose COUNT it takes. -/
def execRefMessageRx (x : CanIx) (f : CanFrame) (stamp : Nat) (s : State) : Host.Outcome State Fault Refusal :=
  let p := f.id.toNat % 8
  if s.refMine x.val f then
    let s := s.fifo0Take f
    if s.ntmRole = 2 ∧ p = s.ntmPrio ∧ s.standby = true then
      .next { s with syncT := { s.syncT with count := f.data.getD 1 0#8, lastTx := none } }
    else if s.ntmRole = 2 ∧ p = s.ntmPrio then
      .next (({ s with syncT := { s.syncT with conflict := true, sending := false } }.logN 0x0B0C [x.val, f.id.toNat]).raise pTIME 3)
    else
      let best := match s.syncT.heard with
        | some (q, t) => if q < p ∧ s.now < t + 3 * s.refPeriod then (q, t) else (p, s.now)
        | none => (p, s.now)
      let known := match s.syncT.heard with | some (q, _) => q == best.1 | none => false
      let s := { s with syncT := { s.syncT with heard := some best } }
      let cnt := f.data.getD 1 0#8
      let prev := leAt f.data 2 6
      let follow := known && s.syncT.lastCount == some (cnt - 1) && decide (prev ≠ 2 ^ 48 - 1)
      let off := (s.syncT.lastStamp : Int) - widen48 s.syncT.lastStamp prev - (s.slewTotal s.now - s.syncT.slewnThen)
      let mine := best.1 == p && (s.ntmRole == 1 || decide (p < s.ntmPrio))
      if mine then
        let then_ := s.slewTotal (Nat.min stamp s.now)
        let act := follow && s.ownTime && !s.syncT.lock
        let first := act && !s.syncT.ntmLock
        let s := if act then
            (s.correct 2 off).when first (fun s => (s.log 0x0B09 [word x.val, 2#32, wordI off]).raise pTIME 1) else s
        .next { s with syncT := { s.syncT with lastCount := some cnt, lastStamp := stamp, slewnThen := then_,
                                               ntmLock := s.syncT.ntmLock || act,
                                               src := if act then .ntm else s.syncT.src,
                                               offset := if act then off else s.syncT.offset } }
      else .next s
  else .next s

end Sys2Proof.Machine
end

