-- ==== Sys2Proof/Machine/Protection.lean ====
section
/-! DEFINITION. Protection: grading, data stall, insulation status, zero-current requests and disconnect deadlines (09). -/
namespace Sys2Proof.Machine

/-! ### Thresholds (R245, Table 09.4) -/

def thOff (q k : Nat) : Nat := 0x800 + 0x20 * q + 4 * (k - 1)
def signedQ (q : Nat) : Bool := q == 2 || q == 3
def worseDown (q : Nat) : Bool := q == 1 || q == 3 || q == 9
def lossQ (q : Nat) : Bool := q == 6 || q == 7 || q == 8
/-- A threshold word as a number, none for a disabled level. -/
def thOfWord (q w : Nat) : Option Int :=
  if q = 2 then (if w = 0x7FFF then none else some (toSigned 16 w))
  else if q = 3 then (if w = 0x8000 then none else some (toSigned 16 w))
  else if worseDown q then (if w = 0 then none else some w)
  else (if w = 0xFFFF then none else some w)
def State.th (s : State) (q k : Nat) : Option Int := thOfWord q (s.fld pPROT (thOff q k) 15 0)
def hyst (q : Nat) : Int := [100, 200, 20, 20, 5, 5, 0, 0, 0, 20].getD q 0
def beyond (q : Nat) (v : Rat) (th : Option Int) : Bool :=
  match th with
  | some t => if worseDown q then decide (v ≤ (t : Rat)) else decide ((t : Rat) ≤ v)
  | none => false
/-- Inward of a threshold by the hysteresis; a loss time at 0. -/
def inwardOf (q : Nat) (v : Rat) (th : Option Int) : Bool :=
  if lossQ q then decide (v = 0)
  else
    match th with
    | some t => if worseDown q then decide (((t + hyst q : Int) : Rat) ≤ v) else decide (v ≤ ((t - hyst q : Int) : Rat))
    | none => true
/-- Level-2 threshold, or the lowest enabled one (R243). -/
def State.rearmTh (s : State) (q : Nat) : Option Int :=
  match s.th q 2 with
  | some t => some t
  | none => [1, 2, 3, 4, 5].findSome? (fun k => s.th q k)
def State.deb (s : State) (q k : Nat) : Nat :=
  if k ≤ 3 then s.fld pPROT (0x814 + 0x20 * q) 31 24 else s.fld pPROT (0x814 + 0x20 * q) 23 16
def State.clr (s : State) (q : Nat) : Nat := s.fld pPROT (0x814 + 0x20 * q) 15 8
def State.lock5 (s : State) (q : Nat) : Bool := s.bit pPROT (0x814 + 0x20 * q) 1
def State.auto (s : State) (q : Nat) : Bool := s.bit pPROT (0x814 + 0x20 * q) 0
def chgDir (q : Nat) : Bool := q != 1 && q != 5
def disDir (q : Nat) : Bool := q != 0 && q != 3 && q != 4

/-- I_RATE of a string in mA (LIM.CEILs_I). -/
def State.rateChg (s : State) (x : Nat) : Int := (s.fld pLIM (0x800 + 8 * x) 31 16 : Int) * 100
def State.rateDis (s : State) (x : Nat) : Int := (s.fld pLIM (0x800 + 8 * x) 15 0 : Int) * 100

/-- Value graded in the committed epoch, none where the epoch gives no valid one. -/
def State.graded (s : State) (x q : Nat) : Option Rat :=
  let e := s.hep x
  let pct := fun (i : Int) (r : Int) => if r = 0 then none else some (mkRat (i * 100) r.toNat)
  let lossMs := fun (n : Nat) => some ((n * s.time.tEpochMs : Nat) : Rat)
  match q with
  | 0 => e.vMax.map (fun v => (v : Rat))
  | 1 => e.vMin.map (fun v => (v : Rat))
  | 2 => e.tMax.map (fun v => (v : Rat))
  | 3 => e.tMin.map (fun v => (v : Rat))
  | 4 => e.iMean.bind (fun i => pct i (s.rateChg x))
  | 5 => e.iMean.bind (fun i => pct (-i) (s.rateDis x))
  | 9 => if x = 48 ∧ s.prot.insSeen = true then some (s.prot.insKohm : Rat) else none
  | _ => lossMs (s.level (16 * x + q)).lossRun

/-! ### Zero-current requests (R250, R251) -/

/-- Not both contactors open, in a string that is CLOSED or opening. -/
def State.carrying (s : State) (x : Nat) : Bool :=
  (s.str x).st == .closed || ((s.str x).st == .opening && (s.chansOf x).any (fun c => (s.coil c).aux))
def State.anyWait (s : State) : Bool := range48.any (fun x => (s.waitOf x).waiting)
def State.secThree (s : State) : Bool := decide (3 ≤ s.lvl 48 9) || decide (3 ≤ s.secLevel)
def State.zeroChg (s : State) : Bool :=
  s.secThree || s.anyWait || range48.any (fun x => s.carrying x && (List.range 9).any (fun q => chgDir q && decide (3 ≤ s.lvl x q)))
def State.zeroDis (s : State) : Bool :=
  s.secThree || s.anyWait || range48.any (fun x => s.carrying x && (List.range 9).any (fun q => disDir q && decide (3 ≤ s.lvl x q)))
def State.frameFlagsNow (s : State) : Nat :=
  b2n s.zeroChg + at_ 1 (b2n s.zeroDis) + at_ 2 (b2n s.anyWait) + at_ 3 (b2n (s.anyLevel 5))
def State.frameStringsNow (s : State) : BitVec 48 :=
  BitVec.ofNat 48 (bitsOf (fun x => (s.waitOf x).waiting ||
    (s.carrying x && (s.secThree || (List.range 9).any (fun q => decide (3 ≤ s.lvl x q))))) 48)

/-- Queues the protection request frame of Table 09.5 in its control-plane buffer. Identifier: item 21/8, bit 29 extended. -/
def State.sendProtFrame (s : State) : State :=
  match s.ctlBuf 0 with
  | some k =>
    let id := (s.item 21 8).toNat
    let data := leBytes 4 s.prot.frameEpoch.toNat ++ [s.term, BitVec.ofNat 8 s.prot.frameFlags] ++
      leBytes 6 s.prot.frameStrings.toNat ++ [0#8, 0#8, 0#8, 0#8]
    s.bufQueue k (packWords false true (id / 2 ^ 29 % 2 == 1) true false id 10 data)
  | none => s

/-- After a grading: a frame where a field other than EPOCH has changed. -/
def State.protFrame (s : State) : State :=
  let fl := s.frameFlagsNow
  let st := s.frameStringsNow
  if fl = s.prot.frameFlags ∧ st = s.prot.frameStrings then s
  else { s with prot := { s.prot with frameFlags := fl, frameStrings := st } }.sendProtFrame

/-- R277: closings not yet beyond the POS CLOSE are abandoned once R259 forbids closing. -/
def State.enforce259 (s : State) : State :=
  if s.closeForbidden then
    foldS s.closingList (fun s x =>
      let unsent := match s.posOf x with
        | some c => match (s.coil c).closeSeq with
          | some k => decide (32768 ≤ (s.acSeq + 65536 - k) % 65536)
          | none => true
        | none => true
      if (s.str x).st = .posClosing ∧ unsent = false then s else s.abandonClose x .armed) s
  else s

/-! ### Grading (R241–R246) -/

/-- What entering a level does. -/
def State.levelEntered (s : State) (x q k : Nat) (v : Rat) : State :=
  let th := (s.th q k).getD 0
  let s := (s.log 0x0501 [word x, word q, word k, wordI (toUnits v), wordI th, s.prot.lastCommitEpoch]).raise pPROT (k - 1)
  if k < 4 then s
  else
    let all := k == 5 || x == 48
    let s := if x ≠ 48 ∧ (s.str x).st = .armed then s.disarm x 4 else s
    let s := s.joinAbort 4
    let s := foldS (if all then s.strings else [x]) (fun s y => s.softReq y (.graded q k)) s
    if k = 5 then
      if s.lock5 q then s.lockout 2 else if s.md.joinOrOnline then s.askReady else s
    else s

/-- Clears a latched quantity. Cause 1 AUTO, 2 CLEAR. -/
def State.latchClear (s : State) (x q cause : Nat) : State :=
  let l := s.level (16 * x + q)
  let s := foldS ([4, 5].filter (fun k => l.entered.getLsbD (k - 1))) (fun s k => s.logN 0x0502 [x, q, k, cause]) s
  (s.updLevel (16 * x + q) (fun l => { l with entered := l.entered &&& 7#5 })).raise pPROT 9

/-- The REARM_T condition of a latched quantity holds now. -/
def State.rearmed (s : State) (x q : Nat) : Bool :=
  match (s.level (16 * x + q)).rearmSince with
  | some t => decide (t + sNs (s.fld pPROT 0x020 31 16) ≤ s.now)
  | none => false

/-- Condition of a loss time in the committed epoch. -/
def State.lossNow (s : State) (x q : Nat) : Bool :=
  let e := s.hep x
  if q = 6 then e.chainLost else if q = 7 then e.senseLost else e.curLost

/-- Grades one quantity of one string, or INSUL of the section. -/
def State.gradeOne (s : State) (x q : Nat) : State :=
  let i := 16 * x + q
  let s := if lossQ q then s.updLevel i (fun l => { l with lossRun := if s.lossNow x q then l.lossRun + 1 else 0 }) else s
  match s.graded x q with
  | none => s
  | some v =>
    let l := s.level i
    let hold := signedQ q && !(s.hep x).tRead
    let outw := (List.range 5).map (fun j =>
      if beyond q v (s.th q (j + 1)) then (if hold then l.outw.getD j 0 else l.outw.getD j 0 + 1) else (if hold then l.outw.getD j 0 else 0))
    let inw := (List.range 3).map (fun j => if inwardOf q v (s.th q (j + 1)) then l.inward.getD j 0 + 1 else 0)
    let new := [1, 2, 3, 4, 5].filter (fun k =>
      !l.entered.getLsbD (k - 1) && (s.th q k).isSome && decide (0 < outw.getD (k - 1) 0) && decide (s.deb q k ≤ outw.getD (k - 1) 0))
    let left := [1, 2, 3].filter (fun k => l.entered.getLsbD (k - 1) && decide (0 < inw.getD (k - 1) 0) && decide (s.clr q ≤ inw.getD (k - 1) 0))
    let ent := l.entered.toNat + (new.foldl (fun a k => a + 2 ^ (k - 1)) 0) - (left.foldl (fun a k => a + 2 ^ (k - 1)) 0)
    let rearm := if inwardOf q v (s.rearmTh q) then some (l.rearmSince.getD s.now) else none
    let s := s.updLevel i (fun l => { l with outw := outw, inward := inw, entered := BitVec.ofNat 5 ent, rearmSince := rearm,
                                             value := toUnits v })
    let s := foldS left (fun s k => s.logN 0x0502 [x, q, k, 0]) s
    let s := foldS new (fun s k => s.levelEntered x q k v) s
    if (s.level i).latched && s.auto q && s.rearmed x q then s.latchClear x q 1 else s

/-- The safety core pair grades the committed epoch. -/
def execGrading (s : State) : Host.Outcome State Fault Refusal :=
  let s := foldS s.strings (fun s x => foldS (List.range 9) (fun s q => s.gradeOne x q) s) s
  let s := s.gradeOne 48 9
  let s := { s with prot := { s.prot with frameEpoch := s.prot.lastCommitEpoch } }
  let s := s.enforce259
  let s := foldS s.strings (fun s x => s.settle x) s
  let s := s.firstTry
  let s := if s.join.sec = .sweep ∧ s.closeForbidden = false then (s.startCandidates (fun _ => true)).sweepDone else s
  .next s.protFrame

/-- PROT.CTRL.CLEAR (R243). -/
def State.protClear (s : State) : Except Refuse State :=
  let one := fun (s : State) (x q : Nat) => if (s.level (16 * x + q)).latched && s.rearmed x q then s.latchClear x q 2 else s
  let s := foldS range48 (fun s x => foldS (List.range 9) (fun s q => one s x q) s) s
  .ok (foldS s.strings (fun s x => s.settle x) (one s 48 9))

def execProtClear (o : Origin) (s : State) : Host.Outcome State Fault Refusal :=
  .next (s.served o pPROT 0x008 s.protClear)

/-- Every 100 ms while ZERO_CHG, ZERO_DIS or WAITING is set (R251). -/
def execProtFrameRepeat (s : State) : Host.Outcome State Fault Refusal :=
  if s.zeroChg || s.zeroDis || s.anyWait then .next s.sendProtFrame else .next s

/-! ### Data stall (R16, R249) -/

def State.stallMode (s : State) : Bool := s.md.running
/-- No commit for 4 epoch periods. -/
def execDataStall (s : State) : Host.Outcome State Fault Refusal :=
  if s.stallMode = true ∧ s.prot.dataStall = false then
    let s := s.reach (s.prot.lastCommit + 4 * s.tEpoch)
    let s := { s with prot := { s.prot with dataStall := true, stallLevel := 3, stallSince := s.now } }
    let s := (s.log 0x0507 [48#32, s.prot.lastCommitEpoch, word ((s.now - s.prot.lastCommit) / 1000000)]).raise pPROT 7
    .next (s.enforce259.protFrame)
  else .next s

/-- The stall has lasted 1 s: level 5, every string opens; its level 5 has LOCK5 clear and does not latch. -/
def execDataStallOpenAll (s : State) : Host.Outcome State Fault Refusal :=
  if s.prot.dataStall = true ∧ s.prot.stallLevel = 3 then
    let s := s.reach (s.prot.stallSince + 1000000000)
    let s := { s with prot := { s.prot with stallLevel := 5 } }
    let s := s.joinAbort 4
    let s := foldS s.strings (fun s y => s.softReq y .dataStall) s
    .next ((if s.md.joinOrOnline then s.askReady else s).protFrame)
  else .next s

/-- A commit ends a stall (R16). -/
def State.stallEnd (s : State) : State :=
  if s.prot.dataStall then
    { s with prot := { s.prot with dataStall := false, stallLevel := 0 } }.log 0x050B
      [48#32, s.prot.lastCommitEpoch, word ((s.now - s.prot.stallSince) / 1000000)]
  else s

/-! ### Disconnect deadlines (R254–R256) -/

/-- One decimated output below I_BS counts; the second opens the string. -/
def execBreakSafeOpen (x : Str) (i1 i2 : Int) (s : State) : Host.Outcome State Fault Refusal :=
  let k := x.val
  if (s.waitOf k).waiting = true ∧ (s.chan k).lost = false ∧ absI i1 < s.iBS k ∧ absI i2 < s.iBS k then
    let s := s.updChan k (fun c => { c with iNow := i2 })
    .next (s.openNow k (s.waitOf k).origin (some i2))
  else .next s

/-- The deadline: the string opens, or is held by the break rating (R256). -/
def execDisconnectDeadline (x : Str) (i : Int) (s : State) : Host.Outcome State Fault Refusal :=
  let k := x.val
  let w := s.waitOf k
  if w.waiting then
    let s := s.reach w.deadline
    if (s.chan k).lost then .next (s.openNow k w.origin none)
    else
      let s := s.updChan k (fun c => { c with iNow := i })
      if s.brkOf k i ≤ absI i then
        if w.brkWait then .next s
        else .next (((s.updWaitOf k (fun w => { w with brkWait := true })).log 0x0506 [word k, wordI i, wordI (s.brkOf k i)]).raise pPROT 6)
      else .next (s.openNow k w.origin (some i))
  else .next s

/-- A string held by BRK_WAIT opens at the first output below the break rating. -/
def execBrkWaitOpen (x : Str) (i : Int) (s : State) : Host.Outcome State Fault Refusal :=
  let k := x.val
  let w := s.waitOf k
  if w.waiting = true ∧ w.brkWait = true then
    if (s.chan k).lost then .next (s.openNow k w.origin none)
    else
      let s := s.updChan k (fun c => { c with iNow := i })
      if absI i < s.brkOf k i then .next (s.openNow k w.origin (some i)) else .next s
  else .next s

/-! ### Insulation status (R247, R248) -/

/-- INS_STALE begins: INSUL is held at INS_LOSS_LVL at least; a level of 4 or 5 is entered with its effects and latches. -/
def State.insStaleNow (s : State) : State :=
  if s.prot.insStale then s
  else
    let k := s.fld pPROT 0x028 2 0
    let was := s.lvl 48 9
    let s := { s with prot := { s.prot with insStale := true } }
    let s := (s.logN 0x0508 [48, s.prot.insKohm, (s.now - s.prot.insAt) / 1000000]).raise pPROT 8
    if was < k ∧ k ≤ 5 then
      let s := if 4 ≤ k then s.updLevel (16 * 48 + 9) (fun l => { l with entered := l.entered ||| (1#5 <<< (k - 1)) }) else s
      (s.levelEntered 48 9 k (s.prot.insKohm : Rat)).enforce259.protFrame
    else s

/-- A frame of the insulation monitor. -/
def execInsulationStatus (f : CanFrame) (s : State) : Host.Outcome State Fault Refusal :=
  let s := s.fifo0Take f
  if f.data.length < 4 then .next s
  else
    let c := f.data.getD 3 0#8
    if s.prot.insCounter = some c then .next s
    else
      let s := { s with prot := { s.prot with insCounter := some c } }
      let b := f.data.getD 2 0#8
      if b.getLsbD 1 then .next s.insStaleNow
      else if b.getLsbD 0 then
        .next { s with prot := { s.prot with insKohm := leAt f.data 0 2, insSeen := true, insAt := s.now, insStale := false } }
      else .next s

/-- INS_TMO without a good frame. -/
def execInsTimeout (s : State) : Host.Outcome State Fault Refusal :=
  .next ((s.reach (s.prot.insAt + msNs (s.fld pPROT 0x028 31 16))).insStaleNow)

end Sys2Proof.Machine
end

