-- ==== Sys2Proof/Machine/Current.lean ====
section
/-! DEFINITION. String current: modulator streams, charge accumulators, offset learning, fast over-current (05). -/
namespace Sys2Proof.Machine

/-! ### Scaling (R145). Generation items: 6 K25 pC, 7 TC ppm/K, 8 INV, 10 OFF_WALL 2^-31, by channel. -/

def State.genOffset (s : State) (c : Nat) : Int := toSigned 32 (s.genWord pCUR (0xF00 + 4 * c)).toNat
def State.offsetOf (s : State) (c : Nat) : Int := (s.chan c).offset.getD (s.genOffset c)
/-- k_t at a shunt temperature in 0.1 °C, pC per count. -/
def State.kT (s : State) (c : Nat) (dieT : Int) : Rat :=
  let t := mkRat dieT 10 - 25
  (s.item 6 c : Rat) / (1 + (s.item 7 c : Rat) * t / 1000000)
def State.signOf (s : State) (c : Nat) : Int := if s.item 8 c = 0 then 1 else -1
/-- A sinc3 output 2d − 1 in 2^-31 as a current, mA, under the OFFSET and T_shunt of a snapshot. -/
def State.scaleI (s : State) (c : Nat) (n : Snap) (u : Int) : Rat :=
  (((s.signOf c * u - n.off : Int) : Rat) / 2147483648) * s.kT c n.dieT / 100

/-- Charge in µC and mean current in mA of a snapshot difference, scaled as at the later one. -/
def State.chargeOf (s : State) (c : Nat) (p n : Snap) : Rat × Option Rat :=
  let dR : Int := ((n.b : Int) - p.b) - ((n.g : Int) - p.g)
  let x : Rat := ((s.signOf c * (n.a - p.a) : Int) : Rat) - (n.off : Rat) * (dR : Rat) / 2147483648
  let q := x * s.kT c n.dieT / 1000000
  (q, if dR = 0 then none else some (x * s.kT c n.dieT / 100 / (dR : Rat)))

/-! ### Snapshots (R143, R149) -/

/-- Bit periods a LOST channel adds to G up to instant t, by device time (log 22). -/
def ChanSt.lossCount (c : ChanSt) (t : Nat) : ChanSt :=
  if c.lost then { c with g := c.g + (t - c.lostFrom) / 100, lostFrom := c.lostFrom + (t - c.lostFrom) / 100 * 100 } else c

/-- Latches A, B and G of every channel at t_N and the sinc3 output centred on it. -/
def State.snapshotCur (s : State) (cur : List CurIn) (t : Nat) : State :=
  let s := foldS cur (fun s i => s.updChan i.ch.val (fun c =>
    { c with a := if c.lost then c.a else c.a + i.dA, b := (c.b + i.dB) % 2 ^ 64 })) s
  foldS range48 (fun s k =>
    let inst := ((cur.find? (fun i => i.ch.val == k)).map (·.inst))
    let s := s.updChan k (fun c => c.lossCount t)
    let c := s.chan k
    let ok := !c.lost && (match c.recovered with | some r => decide (r + 76800 ≤ t) | none => true)
    let fl := b2n c.lost + at_ 1 (b2n c.oc) + at_ 2 (b2n c.brkHold) + at_ 3 (b2n c.overrange) + at_ 4 (b2n c.offsetSuspect) +
      at_ 6 (b2n c.interp) + at_ 7 (b2n c.tempStale)
    let sn : Snap := { a := c.a, b := c.b, g := c.g, inst := (if ok then inst else none), flags := fl, dieT := c.dieT,
                       off := c.newOffset.getD (s.offsetOf k) }
    let i := match sn.inst with | some u => toUnits (s.scaleI k sn u) | none => c.iNow
    s.updChan k (fun c => { c with snap := sn, iNow := i, offset := (match c.newOffset with | some o => some o | none => c.offset),
                                   newOffset := none, overrange := false, interp := false })) s

/-! ### Modulator streams (R140, R148–R150) -/

/-- 32 equal bits: their contribution leaves A and enters G. -/
def execStreamLost (c : Str) (bit : Bool) (s : State) : Host.Outcome State Fault Refusal :=
  let k := c.val
  if (s.chan k).lost then .next s
  else
    let s := s.updChan k (fun c => { c with lost := true, lostG := c.g, lostFrom := s.now, a := if bit then c.a - 32 else c.a + 32,
                                            g := c.g + 32, window := none })
    .next ((s.log 0x0301 [word k, s.time.epoch]).raise pCUR 3)

def execStreamRecovered (c : Str) (s : State) : Host.Outcome State Fault Refusal :=
  let k := c.val
  if (s.chan k).lost then
    let s := s.updChan k (fun c => c.lossCount s.now)
    let g := (s.chan k).g - (s.chan k).lostG
    .next ((s.updChan k (fun c => { c with lost := false, recovered := some s.now })).logN 0x0302 [k, g])
  else .next s

def execTempStale (c : Str) (s : State) : Host.Outcome State Fault Refusal :=
  let k := c.val
  if (s.chan k).statusBad then
    .next ((s.reach ((s.chan k).statusBadAt + sNs 60)).updChan k (fun c => { c with tempStale := true }))
  else .next s

/-- SYNC and CRC of a status frame (Table 05.1). -/
def statusOk (bytes : List Byte) : Bool :=
  bytes.length == 8 && bytes.getD 0 0#8 == 0xB4#8 && (crc16 ((bytes.drop 1).take 5)).toNat == leAt bytes 6 2

def State.chanStatus (s : State) (k : Nat) (bytes : List Byte) : State :=
  if statusOk bytes then
    let t := toSigned 16 (leAt bytes 2 2)
    let st := bytes.getD 4 0#8
    let was := (s.chan k).statusBad
    let s := s.updChan k (fun c => { c with statusRun := 0, statusBad := st.getLsbD 2, dieT := t, tempStale := false,
                                            statusBadAt := if st.getLsbD 2 && !was then s.now else c.statusBadAt,
                                            statusCount := bytes.getD 5 0#8, overrange := c.overrange || st.getLsbD 1 })
    let s := if st.getLsbD 2 && !was then (s.log 0x0303 [word k, wordI t]).raise pCUR 4 else s
    if st.getLsbD 1 then (s.log 0x0309 [word k, wordI (s.chan k).peak]).raise pCUR 0 else s
  else
    let s := s.updChan k (fun c => { c with statusRun := c.statusRun + 1 })
    if (s.chan k).statusRun = 4 ∧ (s.chan k).statusBad = false then
      ((s.updChan k (fun c => { c with statusBad := true, statusBadAt := s.now })).log 0x0303 [word k, wordI (s.chan k).dieT]).raise pCUR 4
    else s

/-- Status frame of a converter modulator j (0–5 phases, 6 VOA, 7 VOB, 8 VI): two bad ones in a row lose it (R299, R300). -/
def State.convStatus (s : State) (j : Nat) (bytes : List Byte) : State :=
  let lose := fun (s : State) => if j < 6 then s.senseLose j else if j < 8 then s.lineLose (j == 7) else s.viLose
  if statusOk bytes then
    let s := { s with bfc := { s.bfc with badRun := serase s.bfc.badRun j } }
    let st := bytes.getD 4 0#8
    if j < 6 then { s with bfc := { s.bfc with tPhase := sset 0 s.bfc.tPhase j (toSigned 16 (leAt bytes 2 2)) } }
    else if j = 8 then { s with bfc := { s.bfc with viLost := false } }
    else if st.getLsbD 1 || !st.getLsbD 2 then lose s else s
  else
    let n := sget 0 s.bfc.badRun j + 1
    let s := { s with bfc := { s.bfc with badRun := sput s.bfc.badRun j n } }
    if 2 ≤ n then lose s else s

def execModStatusFrame (src : ModSrc) (bytes : List Byte) (s : State) : Host.Outcome State Fault Refusal :=
  match src with
  | .string c => .next (s.chanStatus c.val bytes)
  | .phase k => .next (s.convStatus k.val bytes)
  | .voa => .next (s.convStatus 6 bytes)
  | .vob => .next (s.convStatus 7 bytes)
  | .vi => .next (s.convStatus 8 bytes)

/-- A CICLK net changes its source (R139, R148): A and B of its eight channels are corrected for the stretched bit period, whose
length this device has measured. `ones`: ones among the last 256 bits, by channel of the net. -/
def execClkTaken (n : Phase) (stretchNs : Nat) (ones : List Nat) (byPartner : Bool) (s : State) : Host.Outcome State Fault Refusal :=
  let x : Rat := mkRat ((stretchNs : Int) - 100) 100
  let periods := (roundR x).toNat
  let s := foldS (List.range 8) (fun s j =>
    let d : Rat := mkRat (2 * (ones.getD j 128 : Int) - 256) 256
    s.updChan (8 * n.val + j) (fun c =>
      { c with a := if c.lost then c.a else c.a + roundR (d * x), b := (c.b + periods) % 2 ^ 64, interp := true })) s
  let s := { s with clkPresent := s.clkPresent ||| (1#6 <<< n.val) }
  if byPartner then .next s
  else
    .next (({ s with clkDrive := s.clkDrive ||| (1#6 <<< n.val) }.logN 0x0304 [8 * n.val, n.val, stretchNs, periods]).raise pCUR 7)

/-! ### Offset learning (R146) -/

/-- A window may start for a string: both contactors commanded and reporting open for 2 s, its channel valid, and no learning within
the hour unless OFFLEARN asked for it. -/
def State.mayLearn (s : State) (x : Nat) : Bool :=
  let c := s.chan x
  s.strOpen x && !c.lost && decide (c.openedAt.getD 0 + sNs 2 ≤ s.now) &&
    (c.learnReq || (match c.lastLearn with | some t => decide (t + sNs 3600 ≤ s.now) | none => true))

/-- The window starts at the latest sample instant and spans the whole epochs that cover OFF_WIN. -/
def execOffsetWindowStart (x : Str) (s : State) : Host.Outcome State Fault Refusal :=
  let k := x.val
  if s.mayLearn k = true ∧ s.tEpoch ≠ 0 then
    let n := (sNs (s.fld pCUR 0x020 31 16) + s.tEpoch - 1) / s.tEpoch
    let sn := (s.chan k).snap
    .next (s.updChan k (fun c => { c with window := some { a := sn.a, b := sn.b, endAt := s.tOf s.time.epoch + n * s.tEpoch },
                                          learnReq := false }))
  else .next s

def execOffsetLearned (x : Str) (s : State) : Host.Outcome State Fault Refusal :=
  let k := x.val
  let c := s.chan k
  match c.window with
  | some w =>
    let s := s.reach w.endAt
    let db : Int := (c.snap.b : Int) - w.b
    let old := s.offsetOf k
    if db ≤ 0 then .next (s.updChan k (fun c => { c with window := none }))
    else
      let off := toUnits (mkRat (s.signOf k * (c.snap.a - w.a)) db.toNat * 2147483648)
      let s := s.updChan k (fun c => { c with window := none, lastLearn := some s.now })
      if absI (off - s.genOffset k) ≤ s.item 10 k then
        .next (((s.updChan k (fun c => { c with newOffset := some off, offsetSuspect := false })).log 0x0307
          [word k, wordI old, wordI off]).raise pCUR 5)
      else
        .next (((s.updChan k (fun c => { c with offsetSuspect := true })).log 0x0308 [word k, wordI (s.genOffset k), wordI off]).raise pCUR 6)
  | none => .next s

/-- CUR.CTRL.OFFLEARN as it takes effect: every string now open. -/
def State.offlearn (s : State) : State :=
  foldS s.strings (fun s x => if s.strOpen x then s.updChan x (fun c => { c with learnReq := true }) else s) s

def execOfflearn (o : Origin) (s : State) : Host.Outcome State Fault Refusal := .next (s.toShadow o pCUR 0x008 1#32)

/-! ### Fast over-current (R152, R153). Outputs are sliding sinc3 outputs in mA, oldest first. -/

/-- Thresholds in mA. -/
def State.ocTh (s : State) (c : Nat) (dis : Bool) : Int :=
  (if dis then s.fld pCUR (0x818 + 32 * c) 31 16 else s.fld pCUR (0x818 + 32 * c) 15 0 : Nat) * 10000
def lastOut (l : List Int) : Int := l.getLastD 0

/-- One evaluation with OC set (R153). -/
def State.ocEvaluate (s : State) (k : Nat) (i : Int) : State :=
  let c := s.chan k
  if s.brkOf k i ≤ absI i then
    if c.brkHold then s
    else
      let s := s.updChan k (fun c => { c with brkHold := true, owed := true })
      (((s.log 0x0306 [word k, word (b2n (decide (i < 0))), wordI i]).raise pCUR 2).enforce259).protFrame
  else if c.brkHold then s
  else s.hardReq k .fastOc

def execOcTrip (c : Str) (outputs : List Int) (s : State) : Host.Outcome State Fault Refusal :=
  let k := c.val
  let l := outputs.drop (outputs.length - 4)
  let chg := l.all (fun i => decide (s.ocTh k false < i))
  let dis := l.all (fun i => decide (i < -(s.ocTh k true)))
  let i := lastOut l
  if (s.chan k).lost = false ∧ l.length = 4 ∧ (chg || dis) = true then
    let new := !(s.chan k).oc
    let s := s.updChan k (fun c => { c with oc := true, ocDis := dis, iNow := i,
                                            peak := if absI c.peak < absI i then i else c.peak })
    let s := if new then
        (s.log 0x0305 [word k, word (b2n dis), wordI i, wordI (s.ocTh k dis)]).raise pCUR 1 else s
    .next (s.ocEvaluate k i)
  else .next s

/-- Four evaluations below 90 % of the threshold. -/
def execOcClear (c : Str) (outputs : List Int) (s : State) : Host.Outcome State Fault Refusal :=
  let k := c.val
  let l := outputs.drop (outputs.length - 4)
  let below := fun (i : Int) =>
    if (s.chan k).ocDis then decide (-(s.ocTh k true) * 9 < i * 10) else decide (i * 10 < s.ocTh k false * 9)
  if (s.chan k).lost = false ∧ (s.chan k).oc = true ∧ l.length = 4 ∧ l.all below = true then
    .next (s.updChan k (fun c => { c with oc := false, iNow := lastOut l }))
  else .next s

/-- Four evaluations below 95 % of the break rating: the hold ends and the owed open request follows. -/
def execBrkHoldClear (c : Str) (outputs : List Int) (s : State) : Host.Outcome State Fault Refusal :=
  let k := c.val
  let l := outputs.drop (outputs.length - 4)
  if (s.chan k).lost = false ∧ (s.chan k).brkHold = true ∧ l.length = 4 ∧
      l.all (fun i => decide (absI i * 100 < s.brkOf k i * 95)) = true then
    let owed := (s.chan k).owed
    let s := s.updChan k (fun c => { c with brkHold := false, owed := false, iNow := lastOut l })
    .next (if owed then (s.hardReq k .fastOc) else s)
  else .next s

end Sys2Proof.Machine
end

