-- ==== Sys2Proof/Machine/Code.lean ====
section
/-! DEFINITION. Stair-code images: instruction words (Tables 08.2–08.4), image header (R229), verification (Table 08.9), installation
(R233). -/
namespace Sys2Proof.Machine

/-! ### Engines (Table 08.1) -/

def progWords (e : Nat) : Nat := if e < 12 then 2048 else if e = 12 then 8192 else 512
def constWords (e : Nat) : Nat := if e < 12 then 512 else if e = 12 then 4096 else 128
def dataWords (e : Nat) : Nat := if e < 12 then 1024 else if e = 12 then 4096 else 256
/-- Trigger and event bits an engine has (Table 08.5). -/
def engTriggers (e : Nat) : Nat := if e < 12 then 0x0F else if e = 12 then 0x14 else 0x24
/-- Largest EMIT slot (R219–R221). -/
def slotMax (e : Nat) : Nat := if e < 12 then 7 else if e = 12 then 195 else 2

/-! ### Instruction words -/

/-- Words of the instruction starting with w, none where its opcode or form is illegal or the engine may not run it. -/
def insnLen (e w : Nat) : Option Nat :=
  let op := w / 1024 % 64
  let d := w / 64 % 16
  let a := w / 4 % 16
  let m := w % 4
  let zero := d == 0 && a == 0 && m == 0
  if 1 ≤ op ∧ op ≤ 0x0E then some (if m < 2 then 1 else 2)
  else if op = 0x0F then (if m = 0 ∧ a ≤ 14 then some 1 else none)
  else if 0x10 ≤ op ∧ op ≤ 0x12 then (if m = 0 then some 1 else if m = 2 then some 2 else none)
  else if op = 0x13 ∨ op = 0x14 then some 2
  else if op = 0x15 then (if zero then some 2 else none)
  else if op = 0x16 ∨ op = 0x1C then (if zero then some 1 else none)
  else if op = 0x17 then (if m = 2 then some 2 else none)
  else if op = 0x18 ∨ op = 0x19 then (if m = 0 ∧ e < 12 then some 1 else none)
  else if op = 0x1A then (if m = 2 then some 2 else none)
  else if op = 0x1B then (if m = 0 then some 1 else if m = 2 then some 2 else none)
  else none

/-! ### Images (R229) -/

structure Image where
  engine : Nat
  kind : Nat
  prog : List Nat
  consts : List Nat
  init : List Nat
  crc : Word
  deriving DecidableEq, Repr

def halves : List Byte → List Nat
  | a :: b :: t => (a.toNat + 256 * b.toNat) :: halves t
  | _ => []
def quads (l : List Byte) : List Nat := (wordsOf l).map BitVec.toNat

/-- Engines an image is for. -/
def imgEngines (e : Nat) : List Nat := if e = 0x0F then List.range 12 else [e]

def parseImage (l : List Byte) : Image :=
  let pw := leAt l 8 2
  let cw := leAt l 10 2
  let iw := leAt l 12 2
  let pb := (2 * pw + 3) / 4 * 4
  { engine := leAt l 4 1, kind := leAt l 5 1, prog := (halves (l.drop 20)).take pw, consts := (quads (l.drop (20 + pb))).take cw,
    init := (quads (l.drop (20 + pb + 4 * cw))).take iw, crc := word (leAt l 16 4) }

/-- Bytes of the image, header included. -/
def imgLen (l : List Byte) : Nat := 20 + (2 * leAt l 8 2 + 3) / 4 * 4 + 4 * leAt l 10 2 + 4 * leAt l 12 2

/-- Steps 4 and the instruction starts: first bad word, or the starts. -/
def scanCode (e : Nat) (p : List Nat) : Nat → Nat → List Nat → Except Nat (List Nat)
  | 0, _, acc => .ok acc
  | n + 1, i, acc =>
    if p.length ≤ i then .ok acc
    else
      let w := p.getD i 0
      match insnLen e w with
      | none => .error i
      | some k =>
        if p.length < i + k then .error i
        else if w / 1024 = 0x1B ∧ w % 4 = 2 ∧ slotMax e < p.getD (i + 1) 0 then .error i
        else scanCode e p n (i + k) (acc ++ [i])

/-- Branch targets and vectors (step 5): first bad word. -/
def badTarget (p starts : List Nat) (ext : Bool) : Option Nat :=
  let v := (List.range 8).find? (fun i =>
    let t := p.getD i 0
    if ext then (if i = 0 then !starts.contains t else t != 0) else t != 0 && !starts.contains t)
  match v with
  | some i => some i
  | none =>
    starts.find? (fun i =>
      let op := p.getD i 0 / 1024
      (op == 0x13 || op == 0x14 || op == 0x15) && !starts.contains (p.getD (i + 1) 0))

def risingS : List Nat → Bool
  | a :: b :: t => decide (toSigned 32 a < toSigned 32 b) && risingS (b :: t)
  | _ => true

/-- TLERP tables (step 6): first bad constant word. -/
def badTable (p starts consts : List Nat) (base : Nat) : Option Nat :=
  starts.findSome? (fun i =>
    if p.getD i 0 / 1024 = 0x17 then
      let t := p.getD (i + 1) 0
      let n := consts.getD (t - base) 0
      if t < base ∨ n < 2 ∨ 64 < n ∨ consts.length < t - base + 1 + 2 * n ∨
          risingS ((consts.drop (t - base + 1)).take n) = false then some t else none
    else none)

/-- Table 08.9: none where the image passes, else the reason and ERR_WORD. -/
def verifyImage (l : List Byte) : Option (Nat × Nat) :=
  let im := parseImage l
  let ext := im.kind == 1
  let e := if im.engine = 0x0F then 0 else im.engine
  if leAt l 0 4 ≠ 0x53540001 ∨ leAt l 6 1 ≠ 1 ∨ leAt l 7 1 ≠ 0 ∨ leAt l 14 2 ≠ 0 ∨ 1 < im.kind ∨
      (13 < im.engine ∧ im.engine ≠ 0x0F) ∨ (ext = true ∧ im.engine ≠ 0x0F ∧ 12 ≤ im.engine) then some (1, 0)
  else if leAt l 8 2 < 8 ∨ progWords e < leAt l 8 2 ∨ (if ext then 256 else constWords e) < leAt l 10 2 ∨
      dataWords e - (if ext then 256 else 0) < leAt l 12 2 ∨ l.length < imgLen l then some (2, 0)
  else if crc32c (l.take 16 ++ (l.drop 20).take (imgLen l - 20)) ≠ im.crc then some (3, 0)
  else
    match scanCode e im.prog im.prog.length 8 [] with
    | .error i => some (4, i)
    | .ok starts =>
      match badTarget im.prog starts ext with
      | some i => some (5, i)
      | none => (badTable im.prog starts im.consts (if ext then 256 else 0)).map (fun t => (6, t))

/-! ### Installation (R231, R233) -/

def storeOf {α : Type} (base : Nat) (l : List Nat) (f : Nat → α) : Store α :=
  (l.zipIdx.filter (fun p => p.1 != 0)).map (fun p => (base + p.2, f p.1))

/-- Clears an engine for its ROM program. -/
def Eng.rom (g : Eng) : Eng :=
  { g with regs := [], prog := [], consts := [], data := [], stack := [], running := false, wait := none, div0 := false,
           source := .rom, imgCrc := 0, next := none, fromCode := false, ext := 4, extNext := 4, saved := [] }

/-- Installs a verified image, or the ROM program, and ends a fallback (R228). -/
def Eng.install (g : Eng) (l : List Byte) (src : EngSource) : Eng :=
  let g := { g.rom with fallback := false, falling := false, outRun := 0 }
  if src = .rom then g
  else
    let im := parseImage l
    let ext := im.kind == 1
    { g with prog := storeOf 0 im.prog (fun n => BitVec.ofNat 16 n), consts := storeOf (if ext then 256 else 0) im.consts word,
             data := storeOf (if ext then 256 else 0) im.init word, imgCrc := im.crc, fromCode := src == .codeImage,
             source := if ext then .romExt else src }

/-- The idle bank is installed in an engine that has halted, with its CODE_LOADED record. -/
def State.engInstall (s : State) (e : Nat) : State :=
  if (s.eng e).running then s
  else
    match (s.eng e).next with
    | some (l, src) =>
      let s := s.updEng e (fun g => g.install l src)
      if src = .rom then s
      else (s.log 0x0E40 [word e, word (if src = .codeImage then 1 else 0), (s.eng e).imgCrc]).raise pCODE 0
    | none => s

/-- The program of R231 for engine e under the generation in force goes to the idle bank. -/
def State.engGeneration (s : State) (e : Nat) : State :=
  s.updEng e (fun g => { g with next := match slook s.gen.progs e with
                                        | some l => some (l, .genImage)
                                        | none => some ([], .rom) })

end Sys2Proof.Machine
end

