-- ==== Sys2Proof/Machine/Gallery.lean ====
section
/-! DEFINITION. The Gallery: append engine, ring, read sessions, clears (18). -/
namespace Sys2Proof.Machine

/-! ### Records (Table 18.2) -/

/-- Words of a record before its CRC. -/
def GalRec.body (r : GalRec) : List Word :=
  [word (at_ 16 r.e.typ + (r.e.payload.length + 6)), word r.seq, word (at_ 12 r.e.opHours + r.e.opSec),
   word (at_ 24 (b2n r.e.primary + at_ 1 r.e.plane) + r.e.pcc), word (at_ 16 r.lastSec + r.repeats)] ++ r.e.payload
def GalRec.sum (r : GalRec) : Word := crc32c (bytesOf r.body)
def GalRec.words (r : GalRec) : List Word := r.body ++ [r.crc]
def GalRec.len (r : GalRec) : Nat := r.e.payload.length + 6
def GalRec.seal (r : GalRec) : GalRec := { r with crc := r.sum }

def ringBytes : Nat := 1032192
def ringUsed (l : List GalRec) : Nat := l.foldl (fun a r => a + 4 * r.len) 0
/-- SEQ after n: 0xFFFF_FFFF is followed by 1 (R458). -/
def seqNext (n : Nat) : Nat := if n = 0xFFFFFFFF then 1 else n + 1
def State.galNewest (s : State) : Nat := match s.gal.ring.getLast? with | some r => r.seq | none => 0
def State.galOldest (s : State) : Nat := match s.gal.ring.head? with | some r => r.seq | none => 0

/-- Frees whole records from the oldest end until n bytes fit. -/
def freeRoom (n : Nat) : List GalRec → List GalRec
  | [] => []
  | r :: t => if ringUsed (r :: t) + n ≤ ringBytes then r :: t else freeRoom n t

/-- Stores a record with the next SEQ. -/
def State.galAppend (s : State) (e : GalEntry) : State :=
  let r : GalRec := { seq := s.gal.nextSeq, e := e }
  let r := r.seal
  { s with gal := { s.gal with ring := freeRoom (4 * r.len) s.gal.ring ++ [r], nextSeq := seqNext s.gal.nextSeq } }.raise pGAL 0

def mergeKey (e : GalEntry) : List Word := e.payload.take (if e.typ = 0x0801 then 2 else 1)
/-- Operating time of an entry, s. -/
def GalEntry.sec (e : GalEntry) : Nat := e.opHours * 3600 + e.opSec

/-- R460: the entry is merged into the newest record. -/
def merges (r : GalRec) (e : GalEntry) : Bool :=
  r.e.typ == e.typ && mergeKey r.e == mergeKey e && r.e.pcc == e.pcc && r.lastSec != 0xFFFF

def mergeInto (r : GalRec) (e : GalEntry) : GalRec :=
  GalRec.seal { r with repeats := Nat.min 0xFFFF (r.repeats + 1), lastSec := Nat.min 0xFFFF (e.sec - r.e.sec) }

/-- Stores one entry, or merges it. -/
def State.galPut (s : State) (e : GalEntry) : State :=
  match s.gal.ring.getLast? with
  | some r =>
    if merges r e then { s with gal := { s.gal with ring := s.gal.ring.dropLast ++ [mergeInto r e] } } else s.galAppend e
  | none => s.galAppend e

/-- Takes the oldest entry of the FIFO; once there is space, one lost-records record follows losses (R26). -/
def State.galTake (s : State) : State :=
  match s.gal.fifo with
  | [] => s
  | e :: t =>
    let s := ({ s with gal := { s.gal with fifo := t } }).galPut e
    if s.gal.lost = 0 then s
    else
      let n := s.gal.lost
      let a := s.gal.lostFirst
      let b := s.gal.lostLast
      { s with gal := { s.gal with lost := 0, lostFirst := 0, lostLast := 0 } }.logN 0x0E02 [n, a, b]

/-- The append engine takes an entry; entries wait during a clear (R465). -/
def execGalleryStore (s : State) : Host.Outcome State Fault Refusal :=
  if s.gal.clearing.isSome then .next s else .next s.galTake

/-- Stores up to n entries from hold-up: no lost-records record (R461). -/
def galHoldup : Nat → State → State
  | 0, s => s
  | n + 1, s =>
    match s.gal.fifo with
    | [] => s
    | e :: t => galHoldup n (({ s with gal := { s.gal with fifo := t } }).galPut e)

/-- A repeat journal that is not empty is applied to its record (R460). -/
def State.journalReplay (s : State) : State :=
  match s.gal.journal with
  | none => s
  | some (q, w, c) =>
    let fix := fun (r : GalRec) => if r.seq = q then { r with lastSec := field w 31 16, repeats := field w 15 0, crc := c } else r
    ({ s with gal := { s.gal with ring := s.gal.ring.map fix, journal := none } }.logN 0x0E03 [q, field w 15 0]).raise pGAL 1

/-! ### Read sessions (R462–R464) -/

def State.session (s : State) (o : Origin) : GalSession := sget {} s.gal.sessions o.code
def State.setSession (s : State) (o : Origin) (x : GalSession) : State :=
  { s with gal := { s.gal with sessions := sset {} s.gal.sessions o.code x } }

/-- An origin may read (R464). -/
def State.galAllowed (s : State) (o : Origin) : Bool :=
  match o with
  | .mgmt => true
  | .host => !s.bit pGAL 0x00C 31 || (s.page pGAL).owner == Origin.host.code
  | .stairwell => if s.bit pGAL 0x00C 31 then decide (2 ≤ s.stwLevel.code) else decide (1 ≤ s.stwLevel.code)

/-- The record would still be merged into: the newest, of this power cycle, not saturated. -/
def State.galOpenRec (s : State) (r : GalRec) : Bool :=
  s.galNewest == r.seq && r.e.pcc == s.gal.pcc % 2 ^ 24 && r.lastSec != 0xFFFF

def loadRec (s : State) (x : GalSession) (r : GalRec) (lapped : Bool) : GalSession :=
  { x with state := 3, cursor := r.seq, openRec := s.galOpenRec r, lapped := lapped, crcBad := r.crc != r.sum, window := r.words }

/-- A load at a cursor (R463). -/
def State.galLoad (s : State) (x : GalSession) (c : Nat) : GalSession :=
  let x := { x with cursor := c, openRec := false, lapped := false, crcBad := false, window := [] }
  match s.gal.ring.find? (fun r => r.seq == c) with
  | some r => loadRec s x r false
  | none =>
    match s.gal.ring.head? with
    | none => { x with state := 4 }
    | some old =>
      if newer32 (word c) (word s.galNewest) then { x with state := 4 }
      else if newer32 (word old.seq) (word c) then loadRec s x old true
      else { x with state := 5 }

/-- One read operation; other than OPEN and CLOSE it needs an open session. -/
def State.galRead (s : State) (o : Origin) (f : GalSession → GalSession) : Except Refuse State :=
  if !s.galAllowed o then .error .auth
  else if (s.session o).state = 0 then .error .mode
  else
    let t := s.setSession o (f (s.session o))
    .ok (if o = .stairwell then t.emit (.textWords (t.session o).window) else t)

def State.galOpen (s : State) (o : Origin) : Except Refuse State :=
  if s.galAllowed o then
    .ok (s.setSession o { state := 1, cursor := s.galOldest, lo := s.galOldest, hi := s.galNewest, target := (s.session o).target })
  else .error .auth

def execGalOpen (o : Origin) (s : State) : Host.Outcome State Fault Refusal := .next (s.served o pGAL 0x030 (s.galOpen o))

def State.galFirst (s : State) (o : Origin) : Except Refuse State := s.galRead o (fun x => s.galLoad x s.galOldest)
def execGalFirst (o : Origin) (s : State) : Host.Outcome State Fault Refusal := .next (s.served o pGAL 0x030 (s.galFirst o))

def State.galNext (s : State) (o : Origin) : Except Refuse State := s.galRead o (fun x => s.galLoad x (seqNext x.cursor))
def execGalNext (o : Origin) (s : State) : Host.Outcome State Fault Refusal := .next (s.served o pGAL 0x030 (s.galNext o))

def State.galSeek (s : State) (o : Origin) (target : Word) : Except Refuse State :=
  s.galRead o (fun x => s.galLoad { x with target := target } target.toNat)
def execGalSeek (o : Origin) (target : Word) (s : State) : Host.Outcome State Fault Refusal :=
  .next (s.served o pGAL 0x030 (s.galSeek o target))

def State.galToNewest (s : State) (o : Origin) : Except Refuse State := s.galRead o (fun x => s.galLoad x s.galNewest)
def execGalNewest (o : Origin) (s : State) : Host.Outcome State Fault Refusal := .next (s.served o pGAL 0x030 (s.galToNewest o))

def State.galClose (s : State) (o : Origin) : Except Refuse State := .ok (s.setSession o {})
def execGalClose (o : Origin) (s : State) : Host.Outcome State Fault Refusal := .next (s.served o pGAL 0x030 (s.galClose o))

/-- CLEARLOG loads entry k of the clear log. -/
def State.galClearlog (s : State) (o : Origin) (k : Word) : Except Refuse State :=
  s.galRead o (fun x =>
    match s.gal.clearLog[k.toNat]? with
    | some r => { x with state := 3, target := k, openRec := false, lapped := false, crcBad := r.crc != r.sum, window := r.words }
    | none => { x with state := 5, target := k, openRec := false, lapped := false, crcBad := false, window := [] })
def execGalClearlog (o : Origin) (entry : Word) (s : State) : Host.Outcome State Fault Refusal :=
  .next (s.served o pGAL 0x030 (s.galClearlog o entry))

/-! ### Clearing (R465) -/

/-- The reset key of the key set in force, 32 zero bytes where none is. -/
def State.keySet (s : State) : Option KeySet := sget none s.otp.keys s.gen.keyset
def State.resetKey (s : State) : List Byte := match s.keySet with | some k => k.reset | none => List.replicate 32 0#8
/-- First 64 bits of an HMAC under the reset key against two MAC words. -/
def State.macOk (s : State) (msg : List Byte) (m0 m1 : Word) : Bool :=
  (hmac s.resetKey msg).take 8 == leBytes 4 m0.toNat ++ leBytes 4 m1.toNat

def State.galClear (s : State) (o : Origin) : Except Refuse State :=
  let c := s.reg pGAL 0x044
  let msg := leBytes 8 s.gen.sectionId.toNat ++ leBytes 4 c.toNat ++ [0x43#8, 0x4C#8, 0x52#8]
  if s.stwBarred o || !s.macOk msg (s.reg pGAL 0x048) (s.reg pGAL 0x04C) then .error .auth
  else if newer32 c (word s.galNewest) || s.galNewest == 0 || !(newer32 c (word s.gal.lastClr)) || s.md == .lockout ||
      decide (Config.clearLogMax ≤ s.gal.clearLog.length) || s.gal.clearing.isSome then .error .mode
  else .ok { s with gal := { s.gal with clearing := some (o, c.toNat) } }

def execGalClear (o : Origin) (s : State) : Host.Outcome State Fault Refusal := .next (s.served o pGAL 0x008 (s.galClear o))

/-- A clear completes. -/
def execGalClearDone (s : State) : Host.Outcome State Fault Refusal :=
  match s.gal.clearing with
  | none => .next s
  | some (o, c) =>
    let keep := s.gal.ring.filter (fun r => newer32 (word r.seq) (word c))
    let n := s.gal.ring.length - keep.length
    let s := { s with gal := { s.gal with ring := keep, clearing := none, lastClr := c } }
    let s := s.galAppend (s.galEntry 0x0E01 ([o.code, (s.levelOf o).code, c, n].map word))
    .next ({ s with gal := { s.gal with clearLog := s.gal.clearLog ++ (s.gal.ring.drop (s.gal.ring.length - 1)) } }.raise pGAL 3)

end Sys2Proof.Machine
end

