-- ==== Sys2Proof/Machine/Wall.lean ====
section
/-! DEFINITION. Walls of RWW fields (R50, R245) and the checks of a register write against its fields (R523). -/
namespace Sys2Proof.Machine

def signedTh (pg off : Nat) : Bool := pg == pPROT && ((off - 0x800) / 0x20 == 2 || (off - 0x800) / 0x20 == 3)
def downTh (off : Nat) : Bool := (off - 0x800) / 0x20 == 1 || (off - 0x800) / 0x20 == 3 || (off - 0x800) / 0x20 == 9

/-- A field value lies outward of its wall. -/
def outward (pg off : Nat) (f : Fld) (wall v : Nat) : Bool :=
  let n := f.hi + 1 - f.lo
  match f.wall with
  | .none => false
  | .upper => decide (wall < v)
  | .lower => decide (v < wall)
  | .upperS => decide (toSigned n wall < toSigned n v)
  | .lowerS => decide (toSigned n v < toSigned n wall)
  | .clear => Nat.land v (2 ^ n - 1 - wall) != 0
  | .thq =>
    if signedTh pg off then
      if downTh off then decide (toSigned n v < toSigned n wall) else decide (toSigned n wall < toSigned n v)
    else if downTh off then decide (v < wall) else decide (wall < v)

/-- Some walled field of the word lies outward of the generation's. -/
def wordOutward (pg off : Nat) (wall v : Word) : Bool :=
  match regFlds pg off with
  | some fs => fs.any (fun f => outward pg off f (field wall f.hi f.lo) (field v f.hi f.lo))
  | none => false

/-- Addresses of a row's registers, from its dimensions. -/
def dimOffs : List (Nat × Nat) → List Nat
  | [] => [0]
  | (st, n) :: t => (List.range n).flatMap (fun i => (dimOffs t).map (fun o => i * st + o))
def rowAddrs (r : RegRow) : List Nat :=
  (List.range r.insts).flatMap (fun p => (dimOffs r.dims).map (fun o => regAddr (r.page + p) (r.off + o)))
/-- Every register with a "gen" field. -/
def genAddrs : List Nat := (regRows.filter (fun r => r.flds.any (fun f => f.gen))).flatMap rowAddrs

end Sys2Proof.Machine
end

