-- ==== Sys2Proof/Machine/Otp.lean ====
section
/-! DEFINITION. Settings generations: layout, staging checks, commit, loading, switch, keys and passwords (19, R35, R51, R310). -/
namespace Sys2Proof.Machine

/-! ### Layout (Tables 19.2, 19.3) -/

def genBodyLen (l : List Byte) : Nat := leAt l 20 4
def genBody (l : List Byte) : List Byte := (l.drop 256).take (genBodyLen l)
def genFlags (l : List Byte) : Nat := leAt l 6 1
/-- First four bytes of BODY_HASH. -/
def genIdOf (l : List Byte) : Word := word (leAt l 24 4)
def hdrHashOf (l : List Byte) : List Byte := sha256 (l.take 184)

/-- Directory: (ID, offset, length). -/
def genDir (l : List Byte) : List (Nat × Nat × Nat) :=
  let b := genBody l
  (List.range (Nat.min (leAt b 0 4) 64)).map (fun i => (leAt b (4 + 12 * i) 2, leAt b (8 + 12 * i) 4, leAt b (12 + 12 * i) 4))
def genBlock (l : List Byte) (id : Nat) : Option (List Byte) :=
  ((genDir l).find? (fun d => d.1 == id)).map (fun d => ((genBody l).drop d.2.1).take d.2.2)

def entries8 : Nat → List Byte → List (Nat × Nat × Word)
  | 0, _ => []
  | n + 1, l =>
    if l.length < 8 then [] else (leAt l 0 1, leAt l 2 2, word (leAt l 4 4)) :: entries8 n (l.drop 8)
/-- REGISTERS entries (page, offset, value). -/
def genRegs (l : List Byte) : List (Nat × Nat × Word) :=
  match genBlock l 3 with
  | some b => entries8 (b.length / 8) b
  | none => []

/-- Block of Table 19.3 that holds a "gen" register other than by REGISTERS, 3 otherwise. -/
def blockOf (a : Nat) : Nat :=
  let pg := a / 0x1000
  let off := a % 0x1000
  if pPSEQ ≤ pg ∧ pg < pPSEQ + 12 ∧ (off = 0x008 ∨ (0x040 ≤ off ∧ off < 0x080)) then 1
  else if pg = pACT ∧ 0x800 ≤ off then 2
  else if pg = pBAN then (if off = 0x024 then 2 else 7)
  else if pCAN ≤ pg ∧ pg ≤ 0x23 then 8
  else if pg = pGAL then 9
  else if pg = pAUTH then 0x0B
  else 3

/-- Items of plant data: (block, kind, count). -/
def plantKinds : List (Nat × Nat × Nat) :=
  [(1, 1, 48), (2, 2, 128), (2, 3, 128), (1, 4, 1), (1, 5, 1), (1, 6, 48), (1, 7, 48), (1, 8, 48), (1, 10, 48), (1, 12, 48)] ++
  [(8, 20, 256), (8, 21, 32), (1, 24, 384), (1, 25, 1), (1, 26, 128), (1, 27, 4)]
/-- Items with a stated default, none where the block omits them: CAP_SIG0, SD_RATE, SD_SIG (R166, R179). -/
def optKinds : List (Nat × Nat × Nat) := [(1, 28, 3)]

/-- T_epoch of a generation, ms (item 25; R27: 2–100, default 10). -/
def epochMs (v : Int) : Nat := if 2 ≤ v ∧ v ≤ 100 then v.toNat else 10

def imgSplit : Nat → List Byte → List (List Byte)
  | 0, _ => []
  | n + 1, l => if l.length < 20 then [] else l.take (imgLen l) :: imgSplit n (l.drop (imgLen l))
/-- Images of the STAIR_CODE block. -/
def genImages (l : List Byte) : List (List Byte) := imgSplit 16 ((genBlock l 5).getD [])
/-- The image of engine e: its own, else one of ENGINE 0x0F for a port sequencer. -/
def imageFor (imgs : List (List Byte)) (e : Nat) : Option (List Byte) :=
  match imgs.find? (fun i => leAt i 4 1 == e) with
  | some i => some i
  | none => if e < 12 then imgs.find? (fun i => leAt i 4 1 == 0x0F) else none

def pwEntry (b : List Byte) (k : Nat) : Option (List Byte × List Byte) :=
  let e := (b.drop (48 * k)).take 48
  if e.all (· == 0#8) then none else some (e.take 16, e.drop 16)

/-- R161: no branch decreases, the charge branch is nowhere below the discharge branch. -/
def tablesOk (l : List Byte) : Bool :=
  (List.range (l.length / 2100)).all (fun i =>
    let w := fun (off k : Nat) => leAt l (2100 * i + off + 2 * k) 2
    (List.range 5).all (fun t => (List.range 101).all (fun k =>
      let d := fun k => w 80 (101 * t + k)
      let c := fun k => w 1090 (101 * t + k)
      decide (d k ≤ c k) && (k == 100 || (decide (d k ≤ d (k + 1)) && decide (c k ≤ c (k + 1)))))))

/-- A generation read from slot k's bytes. -/
def genOf (k : Nat) (l : List Byte) : GenSt :=
  let regs := genAddrs.foldl (fun (st : Store Word) a =>
    let b := blockOf a
    if b = 3 then st else match genBlock l b with | some bs => sput st a (Config.blockField b bs a) | none => st) []
  let regs := (genRegs l).foldl (fun st e => sput st (regAddr e.1 e.2.1) e.2.2) regs
  let plant := plantKinds.foldl (fun (st : Store Int) p =>
    match genBlock l p.1 with
    | some bs => (List.range p.2.2).foldl (fun st i =>
        sset 0 st (p.2.1 * 1048576 + i) (Config.blockPlant p.1 bs (p.2.1 * 1048576 + i))) st
    | none => st) []
  let plant := optKinds.foldl (fun (st : Store Int) p =>
    match genBlock l p.1 with
    | some bs => (List.range p.2.2).foldl (fun st i =>
        match Config.blockOpt p.1 bs (p.2.1 * 1048576 + i) with | some v => sput st (p.2.1 * 1048576 + i) v | none => st) st
    | none => st) plant
  -- the cell tables (items 14: 1050 × table + halfword) and the flow descriptors (items 23) have their layout in Tables 06.3, 16.7
  let tabs := (genBlock l 4).getD []
  let plant := (List.range (1050 * Nat.min (tabs.length / 2100) 15)).foldl (fun st i =>
    sset 0 st (14 * 1048576 + i) (leAt tabs (2100 * (i / 1050) + 2 * (i % 1050)) 2 : Int)) plant
  let fl := (genBlock l 6).getD []
  let plant := (List.range (Nat.min (fl.length / 4) 2048)).foldl (fun st i => sset 0 st (23 * 1048576 + i) (leAt fl (4 * i) 4 : Int)) plant
  let pw := (genBlock l 0x0A).getD []
  { slot := k, id := genIdOf l, sectionId := BitVec.ofNat 64 (leAt l 8 8), keyset := leAt l 7 1, single := genFlags l / 8 % 2 == 1,
    hdrHash := hdrHashOf l, regs := regs, plant := plant,
    progs := (List.range 14).foldl (fun st e => match imageFor (genImages l) e with | some i => sput st e i | none => st) [],
    view := pwEntry pw 0, service := pwEntry pw 1, safety := pwEntry pw 2 }

/-! ### Slots -/

def State.slotState (s : State) (k : Nat) : Slot := sget {} s.otp.slots k
def State.setSlotState (s : State) (k : Nat) (x : Slot) : State := { s with otp := { s.otp with slots := sset {} s.otp.slots k x } }
def Slot.bytes (x : Slot) : List Byte := x.mem.read 0 32768
/-- Programming that was interrupted leaves a slot that counts as VOID at the next start (R473). -/
def Slot.voided (x : Slot) : Bool := x.void || (x.prog && !x.committed)
def Slot.used (x : Slot) : Bool := x.committed || x.switched || x.void || x.prog
def userSlots : List Nat := [1, 2, 3, 4, 5, 6]
/-- Committed and not switched. -/
def State.pendingSlot (s : State) : Option Nat :=
  userSlots.find? (fun k => (s.slotState k).committed && !(s.slotState k).switched && !(s.slotState k).void)
def State.freeSlot (s : State) : Option Nat := userSlots.find? (fun k => !(s.slotState k).used)
/-- Header and BODY_HASH of a slot check. -/
def slotOk (k : Nat) (l : List Byte) : Bool :=
  leAt l 0 4 == 0x47450001 && leAt l 4 1 == k && leAt l 5 1 == 1 && decide (genBodyLen l ≤ 32512) &&
    sha256 (genBody l) == (l.drop 24).take 32

/-- The factory generation (log 9). -/
def gen0 : GenSt := { id := if Config.g0Id = 0#32 then 1#32 else Config.g0Id }
def State.genInSlot (s : State) (k : Nat) : GenSt := if k = 0 then gen0 else genOf k (s.slotState k).bytes

/-- Generation taken into force; the limit and cell engines read it from then on. -/
def State.loadGen (s : State) (k : Nat) : State :=
  let g := s.genInSlot k
  let s := { s with gen := g, otp := { s.otp with inForce := k } }
  let s := { s with time := { s.time with tEpochMs := epochMs (s.item 25 0) } }
  foldS (List.range 512) (fun s f => s.updFlow f (fun x =>
    { x with desc := (List.range 4).map (fun w => wordI (s.item 23 (4 * f + w))) })) s

/-! ### Selection at start-up (R478) -/

def State.switchedSlots (s : State) : List Nat :=
  [6, 5, 4, 3, 2, 1].filter (fun k => (s.slotState k).switched && !(s.slotState k).voided)
/-- Selects the highest valid SWITCHED slot, or G0. -/
def State.selectGen (s : State) : State :=
  let c := s.switchedSlots
  let good := c.find? (fun k => slotOk k (s.slotState k).bytes)
  let skipped := match good with | some k => c.filter (fun j => decide (k < j)) | none => c
  let inForce := good.getD 0
  let s := s.loadGen inForce
  foldS skipped (fun s k => ({ s with otp := { s.otp with fallback := true } }.logN 0x0D06 [k, inForce]).raise pOTP 3) s

/-! ### Staging (R475, Table 19.4) -/

def State.stageBytes (s : State) : List Byte := s.otp.buf.read 0 32768

def controlOrWalled (e : Nat × Nat × Word) : Bool :=
  pageClass e.1 == .control || ((e.1 == pCELL || e.1 == pCUR || e.1 == pLIM) &&
    match regFlds e.1 e.2.1 with | some fs => fs.any (fun f => f.acc == .rww) | none => false)

/-- FLAGS CYM-4800 computes against the generation in force; SINGLE is declared. -/
def flagsOf (new old : List Byte) (oldRegs : Nat → Nat → Word) : Nat :=
  let diff := fun id => genBlock new id != genBlock old id
  let safety := diff 1 || diff 2 || diff 7 || diff 0x0A || diff 0x0B ||
    ((genRegs new).filter controlOrWalled != (genRegs old).filter controlOrWalled)
  let widens := (genRegs new).any (fun e => wordOutward e.1 e.2.1 (oldRegs e.1 e.2.1) e.2.2)
  let map := diff 2 || diff 7
  b2n safety + at_ 1 (b2n widens) + at_ 2 (b2n map) + genFlags new / 8 % 2 * 8

/-- Table 19.4: none where every step passes, else (reason, block, offset). -/
def State.stageCheck (s : State) : Option (Nat × Nat × Nat) :=
  let l := s.stageBytes
  let dir := genDir l
  let cur := (s.slotState s.otp.inForce).bytes
  let need := [1, 2, 3, 4, 6, 7, 8, 9, 0x0A]
  if leAt l 0 4 ≠ 0x47450001 then some (1, 0, 0)
  else if leAt l 5 1 ≠ 1 then some (1, 0, 5)
  else if leAt l 184 8 ≠ 0 then some (1, 0, 184)
  else if leAt l 192 64 ≠ 0 then some (1, 0, 192)
  else if 32512 < genBodyLen l then some (1, 0, 20)
  else if dir.any (fun d => decide (genBodyLen l < d.2.1 + d.2.2)) then some (1, 0, 256)
  else if need.any (fun id => (genBlock l id).isNone) then some (1, 0, 256)
  else if sha256 (genBody l) ≠ (l.drop 24).take 32 then some (1, 0, 24)
  else if (l.drop 56).take 32 ≠ s.gen.hdrHash then some (3, 0, 56)
  else if s.otp.inForce ≠ 0 ∧ leAt l 8 8 ≠ s.gen.sectionId.toNat then some (4, 0, 8)
  else
    match dir.find? (fun d => !Config.blockRulesOk (256 + d.1) ((genBlock l d.1).getD [])) with
    | some d => some (5, d.1, d.2.1)
    | none =>
      match dir.find? (fun d => !Config.blockRulesOk d.1 ((genBlock l d.1).getD [])) with
      | some d => some (6, d.1, d.2.1)
      | none =>
        if (genImages l).any (fun i => (verifyImage i).isSome) then some (6, 5, 0)
        else if !tablesOk ((genBlock l 4).getD []) then some (6, 4, 0)
        else
          let t := epochMs (Config.blockPlant 1 ((genBlock l 1).getD []) (25 * 1048576)) * 1000
          if 10 * Config.busyNormal l > 18 * t ∨ 10 * Config.busyCatchup l > 8 * t then some (6, 3, 0)
          else if genFlags l ≠ flagsOf l cur s.genWord then some (1, 0, 6)
          else if (sget none s.otp.keys (leAt l 7 1)).isNone then some (7, 0, 7)
          else none

/-- STAGE_CLR. -/
def State.stageClr (s : State) : Except Refuse State :=
  if s.otp.stage = .programming ∨ s.otp.stage = .verifying then .error .mode
  else .ok ({ s with otp := { s.otp with stage := .empty, reason := 0, buf := [] } }.setReg pOTP 0x020 0#32)

def execStageClr (o : Origin) (s : State) : Host.Outcome State Fault Refusal := .next (s.served o pOTP 0x008 s.stageClr)

/-- STG_DATA: one word at STG_ADDR, then ADDR + 4. -/
def State.stgData (s : State) (o : Origin) (v : Word) : Except Refuse State :=
  if s.otp.stage = .programming ∨ s.otp.stage = .verifying then .error .mode
  else
    let a := s.fld pOTP 0x020 14 0 / 4 * 4
    .ok ({ s with otp := { s.otp with stage := .loading, reason := 0, origin := o, buf := s.otp.buf.writeWord a v } }.setReg pOTP 0x020
      (word ((a + 4) % 32768)))

def execStgData (o : Origin) (v : Word) (s : State) : Host.Outcome State Fault Refusal := .next (s.served o pOTP 0x024 (s.stgData o v))

/-- A refused verification or commit. -/
def State.genRefused (s : State) (r b off : Nat) : State :=
  ({ s with otp := { s.otp with stage := .refused, reason := r } }.logN 0x0D02 [r, b, off]).raise pOTP 0

def State.otpVerify (s : State) : Except Refuse State :=
  if s.otp.stage = .programming ∨ s.otp.stage = .empty then .error .mode
  else
    match s.stageCheck with
    | none => .ok { s with otp := { s.otp with stage := .verified, reason := 0 } }
    | some (r, b, off) => .ok (s.genRefused r b off)

def execOtpVerify (o : Origin) (s : State) : Host.Outcome State Fault Refusal := .next (s.served o pOTP 0x008 s.otpVerify)

/-! ### Passwords (R480) -/

def pwMatch (e : Option (List Byte × List Byte)) (pw : List Byte) : Bool :=
  match e with
  | some (salt, r) => pbkdf2 pw salt == r
  | none => false
/-- The password in OTP.PW0–PW7, zero padding removed. -/
def State.pwBytes (s : State) : List Byte :=
  let l := (List.range 8).flatMap (fun w => leBytes 4 (sget 0#32 s.otp.pw w).toNat)
  (l.reverse.dropWhile (· == 0#8)).reverse
def State.pwClear (s : State) : State := { s with otp := { s.otp with pw := [] } }
/-- The safety password matches; a generation without a safety entry asks for none (Table 19.3). -/
def State.safetyPw (s : State) : Bool := s.gen.safety.isNone || pwMatch s.gen.safety s.pwBytes

/-! ### Commit, switch (R475, R476) -/

/-- COMMIT: the answer, and the state with the password words cleared whatever the outcome. -/
def State.commit (s : State) (o : Origin) : Except Refuse State × State :=
  let c := s.pwClear
  if s.otp.stage ≠ .verified ∨ s.pendingSlot.isSome = true ∨ s.freeSlot = none ∨ s.mgmt.shed = 3 then (.error .mode, c)
  else if genFlags s.stageBytes % 2 = 1 ∧ s.safetyPw = false then (.error .auth, c)
  else
    match s.freeSlot with
    | some k => (.ok (let t := c.setSlotState k { (s.slotState k) with prog := true }
         { t with otp := { t.otp with stage := .programming, origin := o } }), c)
    | none => (.error .mode, c)

def execCommit (o : Origin) (s : State) : Host.Outcome State Fault Refusal :=
  let (r, c) := if s.stwBarred o || s.mgmt.restarting then (.error .auth, s) else s.commit o
  match r with
  | .ok t => .next (t.served o pOTP 0x008 (.ok t))
  | .error e => .next (c.served o pOTP 0x008 (.error e))

/-- Slot being programmed: PROG set, nothing after it. -/
def State.progSlot (s : State) : Option Nat :=
  userSlots.find? (fun k => let x := s.slotState k; x.prog && !x.committed && !x.void)

/-- Programming and read-back end. -/
def execCommitDone (readBackOk : Bool) (s : State) : Host.Outcome State Fault Refusal :=
  if s.otp.stage = .programming then
    match s.progSlot with
    | none => .next s
    | some k =>
      let l := s.stageBytes
      if readBackOk then
        let s := s.setSlotState k { prog := true, committed := true, mem := s.otp.buf }
        let s := { s with otp := { s.otp with stage := .empty, reason := 0, buf := [] } }
        .next ((s.log 0x0D01 [word k, genIdOf l, word (leAt l 16 4), word (genFlags l), word s.otp.origin.code]).raise pOTP 1)
      else
        let s := s.setSlotState k { (s.slotState k) with void := true }
        .next (((s.genRefused 2 0 24).logN 0x0D04 [k, 1]))
  else .next s

def Slot.flags (x : Slot) : Nat := genFlags x.bytes

/-- SWITCH: a generation with WIDENS or MAP set is accepted in READY and COMMISSION only. -/
def State.otpSwitch (s : State) : Except Refuse State :=
  match s.pendingSlot with
  | none => .error .mode
  | some k =>
    let f := (s.slotState k).flags
    if s.md ≠ .ready ∧ s.md ≠ .commission ∧ (f / 2 % 2 = 1 ∨ f / 4 % 2 = 1) then .error .mode
    -- a change of the channel map needs every contactor open (R271)
    else if f / 4 % 2 = 1 ∧ s.allOpen = false then .error .mode
    else .ok { s with sw := { s.sw with asked := some k } }

def execSwitch (o : Origin) (s : State) : Host.Outcome State Fault Refusal := .next (s.served o pOTP 0x008 s.otpSwitch)

def State.abandon (s : State) : Except Refuse State :=
  match s.pendingSlot with
  | none => .error .mode
  | some k =>
    if s.sw.confirmed.isSome then .error .mode
    else
      let s := s.setSlotState k { (s.slotState k) with void := true }
      .ok ({ s with sw := { s.sw with asked := none, proposed := none } }.logN 0x0D04 [k, 0])

def execAbandon (o : Origin) (s : State) : Host.Outcome State Fault Refusal := .next (s.served o pOTP 0x008 s.abandon)

/-- KEYSET_WR (R481): the answer, and the state with the password words cleared. -/
def State.keysetWr (s : State) : Except Refuse State × State :=
  let c := s.pwClear
  let k := s.fld pOTP 0x028 4 2
  if s.md ≠ .commission ∨ 3 < k ∨ (sget none s.otp.keys k).isSome then (.error .mode, c)
  else if !s.safetyPw then (.error .auth, c)
  else
    let b := (List.range 24).flatMap (fun w => leBytes 4 (sget 0#32 s.otp.keyw w).toNat)
    let ks : KeySet := { plant := b.take 32, reset := (b.drop 32).take 32, challenge := b.drop 64 }
    (.ok ({ c with otp := { c.otp with keys := sput c.otp.keys k (some ks) } }.logN 0x0D07 [k]), c)

def execKeysetWr (o : Origin) (s : State) : Host.Outcome State Fault Refusal :=
  let (r, c) := if s.stwBarred o || s.mgmt.restarting then (.error .auth, s) else s.keysetWr
  match r with
  | .ok t => .next (t.served o pOTP 0x008 (.ok t))
  | .error e => .next (c.served o pOTP 0x008 (.error e))

/-! ### The switch epoch (R310) -/

/-- Banister elements whose configuration changed start in demand and latched (R310). -/
def State.banReload (s t : State) : State :=
  let ch := fun (off : Nat) => s.genWord pBAN off != t.genWord pBAN off
  let t := foldS (List.range 8) (fun t p =>
    if ch (0x800 + 16 * p) || ch (0x804 + 16 * p) then
      let t := t.setBpair p { latched := t.fld pBAN (0x800 + 16 * p) 31 29 != 0 }
      (t.setSafe (2 * p) {}).setSafe (2 * p + 1) {}
    else t) t
  let t := foldS (List.range 4) (fun t r =>
    if ch (0xA00 + 16 * r) || ch (0xA04 + 16 * r) then t.setSrc r { latched := true } else t) t
  foldS range48 (fun t p => if ch (0x900 + 4 * p) then t.updToneOf p (fun x => { x with latched := true }) else t) t

end Sys2Proof.Machine
end

