-- ==== Sys2Proof/Machine/Firmware.lean ====
section
/-! DEFINITION. Firmware images (R440–R443) and the restart of the device: what a cold start keeps (R436, R449, R456, R472, R504). -/
namespace Sys2Proof.Machine

/-! ### Images (Table 17.8) -/

/-- Image word at offset: 4 VERSION, 8 COMPAT_MIN, 12 COMPAT_MAX, 16 SVN. -/
def fwWord (i : FwImage) (off : Nat) : Word :=
  match i with
  | .empty => 0#32
  | .factory => Config.factoryImage (off / 4 - 1)
  | .written m => m.readWord off
def State.fwImage (s : State) (b : Bool) : FwImage := if b then s.fw.imageB else s.fw.imageA
/-- VERSION, COMPAT_MIN, COMPAT_MAX of the running image. -/
def State.fwVersion (s : State) : Word := fwWord (s.fwImage s.fw.runningB) 4
def State.fwCompatMin (s : State) : Word := fwWord (s.fwImage s.fw.runningB) 8
def State.fwCompatMax (s : State) : Word := fwWord (s.fwImage s.fw.runningB) 12

/-- R441: 0 where the image passes, else the reason of DEV.FW_STAT. -/
def fwCheck (svnMin : Nat) (i : FwImage) : Nat :=
  match i with
  | .empty => 1
  | .factory => 0
  | .written m =>
    let h := m.read 0 256
    let n := leAt h 20 4
    if leAt h 0 4 ≠ 0x46570001 ∨ (h.drop 120).any (· != 0#8) then 1
    else if leAt h 16 4 < svnMin then 2
    else if 2064128 < n then 5
    else if sha256 (m.read 256 n) ≠ (h.drop 24).take 32 then 3
    else if Config.ecdsaOk (h.take 56) ((h.drop 56).take 64) then 0 else 4

/-- OPEN erases the region that is not running. -/
def State.fwOpen (s : State) : Except Refuse State :=
  if s.fw.state = .verifying ∨ s.mgmt.shed = 3 then .error .mode
  else .ok ({ s with fw := { s.fw with state := .erasing, opened := false, reason := 0 } }.setReg pDEV 0x048 0#32)

def execFwOpen (o : Origin) (s : State) : Host.Outcome State Fault Refusal := .next (s.served o pDEV 0x040 s.fwOpen)

def State.setIdleImage (s : State) (i : FwImage) : State :=
  { s with fw := if s.fw.runningB then { s.fw with imageA := i } else { s.fw with imageB := i } }
def State.idleImage (s : State) : FwImage := s.fwImage (!s.fw.runningB)

/-- The erase completes: the region is empty, its BAD mark and start counts go with the image. -/
def execFwEraseDone (s : State) : Host.Outcome State Fault Refusal :=
  if s.fw.state = .erasing then
    let s := s.setIdleImage (.written [])
    let f := { s.fw with state := .empty, opened := true }
    .next { s with fw := if f.runningB then { f with badA := false, failA := 0 } else { f with badB := false, failB := 0 } }
  else .next s

/-- FW_DATA programs one word at FW_ADDR. -/
def State.fwData (s : State) (v : Word) : Except Refuse State :=
  let a := s.fld pDEV 0x048 20 0
  if s.mgmt.shed = 3 ∨ !(s.fw.state = .writing ∨ (s.fw.state = .empty ∧ s.fw.opened = true)) then .error .mode
  else if a % 4 ≠ 0 ∨ 2064384 ≤ a then .error .format
  else
    let m := match s.idleImage with | .written m => m | _ => []
    let s := s.setIdleImage (.written (m.writeWord a v))
    .ok ({ s with fw := { s.fw with state := .writing } }.setReg pDEV 0x048 (word ((a + 4) % 2 ^ 21)))

def execFwData (o : Origin) (v : Word) (s : State) : Host.Outcome State Fault Refusal := .next (s.served o pDEV 0x04C (s.fwData v))

def State.fwVerify (s : State) : Except Refuse State :=
  if s.fw.state = .erasing ∨ s.fw.state = .verifying then .error .mode
  else .ok { s with fw := { s.fw with state := .verifying } }

def execFwVerify (o : Origin) (s : State) : Host.Outcome State Fault Refusal := .next (s.served o pDEV 0x040 s.fwVerify)

def execFwVerifyDone (s : State) : Host.Outcome State Fault Refusal :=
  if s.fw.state = .verifying then
    let r := fwCheck s.otp.svnMin s.idleImage
    .next { s with fw := { s.fw with state := if r = 0 then .valid else .invalid, reason := r } }
  else .next s

def State.fwPrefer (s : State) : Except Refuse State :=
  if s.fw.state = .valid then .ok { s with fw := { s.fw with preferredB := !s.fw.runningB } } else .error .mode

def execFwPrefer (o : Origin) (s : State) : Host.Outcome State Fault Refusal := .next (s.served o pDEV 0x040 s.fwPrefer)

/-! ### Start counts (R441, R443) -/

/-- The running image has reached the end of step 8, or SYNCED. -/
def State.startCompleted (s : State) : State :=
  if s.start.completed then s
  else
    let f := s.fw
    let n := f.goodRuns + 1
    let f := { f with goodRuns := n, failA := if f.runningB then f.failA else 0, failB := if f.runningB then 0 else f.failB }
    let svn := (fwWord (s.fwImage f.runningB) 16).toNat
    { s with fw := f, start := { s.start with completed := true },
             otp := { s.otp with svnMin := if 3 ≤ n then Nat.max s.otp.svnMin svn else s.otp.svnMin } }

/-- The start of an image counts as failed until it completes; the third failure marks it BAD. -/
def FwSt.countStart (f : FwSt) : FwSt :=
  let n := (if f.preferredB then f.failB else f.failA)
  if 3 ≤ n then
    { f with badA := f.badA || !f.preferredB, badB := f.badB || f.preferredB, preferredB := !f.preferredB }
  else f

/-! ### Restart -/

/-- Slot state at a start: staging and interrupted programming are lost (R477). -/
def OtpSt.kept (o : OtpSt) : OtpSt := { slots := o.slots, factory := o.factory, keys := o.keys, svnMin := o.svnMin }
def FwSt.kept (f : FwSt) : FwSt :=
  { runningB := f.runningB, preferredB := f.preferredB, badA := f.badA, badB := f.badB, failA := f.failA, failB := f.failB,
    goodRuns := f.goodRuns, imageA := f.imageA, imageB := f.imageB }
def GalSt.kept (g : GalSt) : GalSt :=
  { ring := g.ring, nextSeq := g.nextSeq, journal := g.journal, clearLog := g.clearLog, lastClr := g.lastClr, opTime := g.opTime,
    pcc := g.pcc }
/-- Wear counts are held in the ferroelectric memory. -/
def wearKept (l : Store CoilSt) : Store CoilSt :=
  l.foldr (fun e st => sset {} st e.1 { ops := e.2.ops, underLoad := e.2.underLoad, iInt := e.2.iInt }) []

/-- A cold start from step n of Table 17.6: State.reset but for what is not lost. The append engine stores the 16 oldest entries
from hold-up (R461). -/
def State.coldStart (s : State) (n : Nat) (powered : Bool) : State :=
  let h := galHoldup 16 s
  { State.reset with
    pending := s.pending, fresh := s.fresh, out := s.out, supply := { vin := s.supply.vin, tj := s.supply.tj, tjMax := if s.supply.tj < 0 then 0 else s.supply.tj },
    gal := { h.gal.kept with opTime := s.opSecs }, otp := s.otp.kept, fw := s.fw.kept, coils := wearKept s.coils,
    start := { powered := powered, step := n, primary := s.start.primary } }

/-- A restart that the device itself carries out: from step 2, the supply staying up. A LOCKOUT cause that only a restart clears is
remembered until the self-tests pass (R433). -/
def State.restartDevice (s : State) (leaving : BitVec 5) : State :=
  let t := s.coldStart 2 true
  { t with start := { t.start with leaving := leaving } }

/-! ### Ending LOCKOUT (R433, Table 17.4) -/

/-- A cause admits a reset now; CORE and SELFTEST are cleared by a restart. -/
def State.causeClears (s : State) (c : Nat) (physical : Bool) : Bool :=
  match c with
  | 1 => physical
  | 2 => physical && (List.range 49).all (fun x => (List.range 10).all (fun q =>
      !((s.level (16 * x + q)).entered.getLsbD 4 && s.lock5 q) || s.rearmed x q))
  | 3 => (List.range 128).all (fun k => !(s.coil k).stuck) && range48.all (fun x => !s.weldLatch x) && !s.join.feedWeld
  | _ => false

/-- Clears causes of the mask, with the kind of reset (0 physical, 1 host, 2 CAN, 3 restart); LOCKOUT ends when none is left. -/
def State.clearCauses (s : State) (m : BitVec 5) (kind : Nat) : State :=
  let m := m &&& s.mode.causes
  if m = 0#5 then s
  else
    let left := s.mode.causes &&& ~~~m
    let s := { s with mode := { s.mode with causes := left, first := if left = 0#5 then 0 else s.mode.first, lockoutNow := false } }
    let s := s.logN 0x0C04 [m.toNat, kind]
    let s := if m.getLsbD 1 then
        foldS (List.range 49) (fun s x => foldS (List.range 10) (fun s q =>
          if (s.level (16 * x + q)).entered.getLsbD 4 && s.lock5 q then s.latchClear x q 2 else s) s) s
      else s
    if left = 0#5 then
      { s with mode := { s.mode with trans := some { target := if s.start.onlyG0 then .commission else .ready, origin := 0 } } }.raise pMODE 3
    else s

end Sys2Proof.Machine
end

