-- ==== Sys2Proof/Machine/Banister.lean ====
section
/-! DEFINITION. Banister (12): sources, outputs, discrepancy, two-hand close, SAFE frames, walk, deliberate reset. -/
namespace Sys2Proof.Machine

/-! ### Configuration -/

def pairCfg (p : Nat) : Nat := 0x800 + 16 * p
/-- 0 NONE, 1 ESTOP, 2 DOOR, 3 LCURTAIN, 4 TWOHAND, 5 RESET. -/
def State.func (s : State) (p : Nat) : Nat := s.fld pBAN (pairCfg p) 31 29
def State.isStop (s : State) (p : Nat) : Bool := s.func p == 1 || s.func p == 2 || s.func p == 3
def State.manual (s : State) (p : Nat) : Bool := s.func p == 1 || (s.isStop p && s.bit pBAN (pairCfg p) 26)
def State.pairLock (s : State) (p : Nat) : Bool := s.func p == 1 || (s.isStop p && s.bit pBAN (pairCfg p) 25)
def State.tD (s : State) (p : Nat) : Nat := msNs (s.fld pBAN (0x804 + 16 * p) 31 16)
/-- FILTER, ns. -/
def State.filterNs (s : State) (p : Nat) : Nat := s.fld pBAN (0x804 + 16 * p) 15 0 * 100000
/-- Test pulse source of a channel. -/
def State.tpSource (s : State) (ch : Nat) : Option Nat :=
  let w := pairCfg (ch / 2)
  if ch % 2 = 0 then (if s.bit pBAN w 19 then some (s.fld pBAN w 18 17) else none)
  else if s.bit pBAN w 16 then some (s.fld pBAN w 15 14) else none
def State.safeEn (s : State) (r : Nat) : Bool := s.bit pBAN (0xA00 + 16 * r) 29
/-- SO output of QD-8 n. -/
def State.soOf (s : State) (n : Nat) : Nat := s.fld pBAN 0x024 (2 * n + 1) (2 * n)

/-! ### Sources -/

def State.chDemand (s : State) (ch : Nat) : Bool := (s.safe ch).demand || (s.safe ch).tpHeld
/-- DISCREP, STUCK or CHATTER of a pair. -/
def State.pairFault (s : State) (p : Nat) : Bool :=
  (s.bpair p).discrep || (s.bpair p).chatter || (s.safe (2 * p)).stuck || (s.safe (2 * p + 1)).stuck
/-- Function in demand: either channel, or a fault that holds it (R316, R319, R321, R322). -/
def State.pairDemand (s : State) (p : Nat) : Bool :=
  s.func p != 0 && (s.chDemand (2 * p) || s.chDemand (2 * p + 1) || s.pairFault p)
def State.pairActs (s : State) (p : Nat) : Bool := s.isStop p && (s.pairDemand p || (s.bpair p).latched)
def State.toneActs (s : State) (p : Nat) : Bool := s.portEn p && ((s.toneOf p).acting || (s.toneOf p).latched)
def State.safeActs (s : State) (r : Nat) : Bool := s.safeEn r && ((s.src r).demand || (s.src r).latched)
def State.partnerActs (s : State) : Bool := s.ban.peerValid && (List.range 8).any (fun p => (s.bpair p).peer)

/-- SO mask and BFC (bit 4) named by every acting source. -/
def State.namedMask (s : State) : Nat :=
  let m := (List.range 8).foldl (fun m p =>
    if s.pairActs p then Nat.lor m (s.fld pBAN (pairCfg p) 23 20 + at_ 4 (s.fld pBAN (pairCfg p) 24 24)) else m) 0
  let m := range48.foldl (fun m p => if s.toneActs p then Nat.lor m (s.fld pBAN (0x900 + 4 * p) 4 0) else m) m
  let m := (List.range 4).foldl (fun m r =>
    if s.safeActs r then Nat.lor m (s.fld pBAN (0xA04 + 16 * r) 3 0 + at_ 4 (s.fld pBAN (0xA04 + 16 * r) 5 5)) else m) m
  let m := if s.ban.permitActing && !s.scor.permit then
      Nat.lor m (s.fld pBAN 0x028 31 28 + at_ 4 (s.fld pBAN 0x028 27 27)) else m
  if s.partnerActs then Nat.lor m (s.fld pBAN 0x028 23 20 + at_ 4 (s.fld pBAN 0x028 19 19)) else m

/-- No output may be high: before the walk, during it, in LOCKOUT, at SO_FAULT, in BOOT_HOLD, in L3 and L4 (R309, R316, R331, R441). -/
def State.soBlocked (s : State) : Bool :=
  !s.ban.walkPassed || s.ban.walking || s.md == .lockout || s.ban.soFault || s.start.bootHold || decide (3 ≤ s.land.landing) ||
    decide (s.now < s.ban.riseAt)

/-- SO0–SO3 and, as bit 4, whether BFC_EN is permitted. -/
def State.outMask (s : State) : Nat := if s.soBlocked then 0 else 31 - s.namedMask % 32

/-- BFC_EN driven high: permitted, and the converter drives (R302, R333). -/
def State.bfcEnHigh (s : State) : Bool := s.ban.bfcEn && s.bfc.driving

/-! ### Evaluation (R316, R317) -/

/-- What dropping a set of SO outputs does to the section. -/
def State.soDropped (s : State) (dropped : Nat) (lock : Bool) : State :=
  let onDropped := fun c => dropped / 2 ^ (s.soOf (c / 8)) % 2 == 1
  let s := foldS (s.strings.filter (fun x => !s.isOpen x && (s.chansOf x).any onDropped)) (fun s x => s.hardReq x .banister) s
  let s := match s.feedCh with
    | some c => if onDropped c && s.closeCmd c then s.openFeed else s
    | none => s
  let s := s.joinAbort 3
  if s.md.joinOrOnline then (if lock then s.lockout 1 else s.askReady) else s

/-- Recomputes the outputs. `lock`: the source that has come into demand requests LOCKOUT. -/
def State.banEval (s : State) (lock : Bool) : State :=
  let m := s.outMask
  let old := s.ban.so.toNat
  let dropped := old - Nat.land old (m % 16)
  let bfc := m / 16 == 1
  let fall := s.ban.bfcEn && !bfc
  let s := { s with ban := { s.ban with so := BitVec.ofNat 4 m, bfcEn := bfc } }
  let s := if fall then s.banisterStop else s
  if dropped = 0 then s else s.soDropped dropped lock

/-- Follows the demand of a function: entering demand is recorded and latches a MANUAL function (R318, R320). `ch`: 0 A, 1 B. -/
def State.pairEval (s : State) (p ch : Nat) : State :=
  let d := s.pairDemand p
  if d && !(s.bpair p).dem then
    let s := s.updBpair p (fun b => { b with dem := true, latched := b.latched || s.manual p })
    ((s.logN 0x0801 [p, ch, s.func p]).raise pBAN 0).banEval (s.pairLock p)
  else (s.updBpair p (fun b => { b with dem := d })).banEval false

/-- Faults of R319, R321: the function is held in demand and LOCKOUT is requested. -/
def State.pairFaulted (s : State) (p ch : Nat) : State := (((s.pairEval p ch).raise pBAN 3).lockout 1).banEval true

/-! ### Discrepancy (R319) -/

/-- Whether a difference is a fault: a band of ±0.25 ms round T_d is open. -/
def State.discrepNow (s : State) (p diffNs : Nat) : Bool × State :=
  if diffNs + 250000 ≤ s.tD p then (false, s) else if s.tD p + 250000 ≤ diffNs then (true, s) else s.freeBool

def State.setDiscrep (s : State) (p edge diffNs : Nat) : State :=
  if s.func p = 5 then { s with ban := { s.ban with resetBad := true } }
  else if (s.bpair p).discrep then s.updBpair p (fun b => { b with cycIn := false, cycled := false })
  else
    let s := s.updBpair p (fun b => { b with discrep := true, cycIn := false, cycled := false, latched := b.latched || s.manual p })
    (s.logN 0x0802 [p, edge, diffNs / 100000]).pairFaulted p 0

/-- The other channel has not followed. -/
def execDiscrep (p : BanPair) (diffUs : Nat) (s : State) : Host.Outcome State Fault Refusal :=
  let k := p.val
  match (s.bpair k).waiting with
  | some (t, e) =>
    if s.func k = 0 then .next s
    else
      let (f, s) := s.discrepNow k (usNs diffUs)
      if f then
        let s := s.reach (t + usNs diffUs)
        .next ((s.updBpair k (fun b => { b with waiting := none })).setDiscrep k (b2n (!e)) (usNs diffUs))
      else .next s
  | none => .next s

/-- Bookkeeping of one channel change: discrepancy, cycling, chatter. -/
def State.chChanged (s : State) (ch : Nat) (entering : Bool) : State :=
  let p := ch / 2
  let recent := s.now :: (s.safe ch).changes.filter (fun t => decide (s.now ≤ t + msNs 100))
  let s := s.updSafe ch (fun c => { c with demand := entering, changes := recent.take 16,
                                           quietSince := if entering then none else some s.now })
  let s := if 8 ≤ recent.length ∧ (s.bpair p).chatter = false then
      ((s.updBpair p (fun b => { b with chatter := true, latched := b.latched || s.manual p })).logN 0x0804
        [p, ch % 2, recent.length]).raise pBAN 3 else s
  let other := (s.safe (2 * p + (1 - ch % 2))).demand
  if other = entering then
    match (s.bpair p).waiting with
    | some (t, e) =>
      let s := s.updBpair p (fun b => { b with waiting := none })
      if e = entering then
        let (f, s) := s.discrepNow p (s.now - t)
        if f then s.setDiscrep p (b2n (!entering)) (s.now - t)
        else s.updBpair p (fun b =>
          { b with cycIn := if entering then b.discrep else b.cycIn, cycled := b.cycled || (!entering && b.discrep && b.cycIn) })
      else s
    | none => s
  else
    match (s.bpair p).waiting with
    | some _ => s.updBpair p (fun b => { b with waiting := none })
    | none => s.updBpair p (fun b => { b with waiting := some (s.now, entering) })

/-! ### Two-hand close (R323, R324) -/

def State.handPairs (s : State) (h : Nat) : List Nat := (List.range 8).filter (fun p => s.func p == 4 && s.fld pBAN (pairCfg p) 27 27 == h)
def State.handOn (s : State) (h : Nat) : Bool :=
  s.handPairs h != [] && (s.handPairs h).all (fun p => s.chDemand (2 * p) && s.chDemand (2 * p + 1))
def State.handOff (s : State) (h : Nat) : Bool := (s.handPairs h).all (fun p => !s.chDemand (2 * p) && !s.chDemand (2 * p + 1))

/-- CLOSE on the selected channel, unless the mode, the selection or a low SO output forbids it. -/
def State.thClose (s : State) : State :=
  let c := s.join.thSel
  if s.md = .commission ∧ s.join.thValid = true ∧ s.scor.st ≠ .split ∧ s.ban.so.getLsbD (s.soOf (c / 8)) = true then
    let s := s.closeChan c
    if s.chRole c = 3 then s else s.updStr (s.chStr c) (fun t => { t with openCmdAt := none })
  else s

/-- OPEN by urgent frame, and the weld check of R273. -/
def State.thOpen (s : State) (p : Nat) : State :=
  let c := s.join.thSel
  let s := s.logN 0x0810 [p, c, (s.now - s.ban.thSince) / 1000000]
  if s.closeCmd c then
    let s := s.openChans [c]
    if s.chRole c = 3 then { s with join := { s.join with feedOpenAt := some s.now } }
    else s.updStr (s.chStr c) (fun t => { t with openCmdAt := some s.now, weldRun := 0, weldHot := 0, weldDv := false })
  else s

/-- Follows the hands after a change of a channel of pair p. -/
def State.thEval (s : State) (p : Nat) : State :=
  let on := s.handOn 0 && s.handOn 1
  if s.ban.thOn then
    if on then s else { s with ban := { s.ban with thOn := false, thArmed := false, thFirst := none } }.thOpen p
  else if s.handOff 0 && s.handOff 1 then { s with ban := { s.ban with thArmed := true, thFirst := none } }
  else if on then
    match s.ban.thFirst with
    | some t =>
      let d := s.now - t
      let fr : Bool × State := if d + 250000 ≤ msNs 500 then (true, s) else if msNs 500 + 250000 ≤ d then (false, s) else s.freeBool
      let s := fr.2
      let s := { s with ban := { s.ban with thArmed := false, thFirst := none } }
      if fr.1 then { s with ban := { s.ban with thOn := true, thSince := s.now } }.thClose else s
    | none => s
  else if (s.handOn 0 || s.handOn 1) && s.ban.thArmed && s.ban.thFirst.isNone then
    { s with ban := { s.ban with thFirst := some s.now } }
  else s

/-- TH_SEL (R324). -/
def State.thSelect (s : State) (v : Word) : Except Refuse State :=
  let c := field v 6 0
  let x := s.chStr c
  let other := if s.chRole c = 1 then s.posOf x else s.negOf x
  let otherOpen := match other with | some d => !s.closeCmd d && !(s.coil d).aux | none => true
  if s.ban.thOn ∨ s.md ≠ .commission ∨ s.chRole c = 0 ∨ (s.chRole c ≠ 3 ∧ otherOpen = false) ∨
      (s.chRole c = 3 ∧ s.bfc.st ≠ .off) then .error .mode
  else .ok { s with join := { s.join with thSel := c, thValid := true } }

def execThSel (o : Origin) (v : Word) (s : State) : Host.Outcome State Fault Refusal := .next (s.served o pBAN 0x034 (s.thSelect v))

/-! ### Deliberate reset (R335) -/

/-- 0 demand, 1 length, 2 discrepancy, 3 cycling. -/
def State.resetRefused (s : State) (p cause : Nat) : State := (s.logN 0x080F [p, cause]).raise pBAN 8

/-- A stuck or chattering channel, or the cycling of R319, that does not yet allow the reset. -/
def State.resetHeld (s : State) : Option Nat :=
  if (List.range 16).any (fun c => s.func (c / 2) != 0 && s.chDemand c) ||
      range48.any (fun p => s.portEn p && (s.toneOf p).acting) || (List.range 4).any (fun r => s.safeEn r && (s.src r).demand) then some 0
  else if (List.range 16).any (fun c => (s.safe c).stuck && decide ((s.safe c).passes < 2)) ||
      (List.range 16).any (fun c => (s.bpair (c / 2)).chatter &&
        match (s.safe c).quietSince with | some t => decide (s.now < t + msNs 500) | none => true) then some 2
  else if (List.range 8).any (fun p => (s.bpair p).discrep && !(s.bpair p).cycled) then some 3
  else none

/-- An accepted reset: every Banister latch and fault, and the LOCKOUT causes Table 17.4 allows. -/
def State.resetAccept (s : State) (p : Nat) : State :=
  let m := bitsOf (fun k => (s.bpair k).latched || s.pairFault k || (s.bpair k).peer) 8
  let s := (s.logN 0x080E [p, m]).raise pBAN 8
  let s := foldS (List.range 8) (fun s k => s.updBpair k (fun b =>
    { b with latched := false, discrep := false, chatter := false, cycIn := false, cycled := false, peer := false })) s
  let s := foldS (List.range 16) (fun s c => s.updSafe c (fun x => { x with stuck := false })) s
  let s := foldS range48 (fun s k => s.updToneOf k (fun t => { t with latched := false })) s
  let s := foldS (List.range 4) (fun s r => s.updSrc r (fun t => { t with latched := false })) s
  let s := { s with ban := { s.ban with soFault := false } }
  let s := foldS (List.range 8) (fun s k => s.updBpair k (fun b => { b with dem := s.pairDemand k })) s
  let m := BitVec.ofNat 5 (bitsOf (fun c => s.mode.causes.getLsbD c && s.causeClears (c + 1) true) 5)
  let restart := s.mode.causes &&& 24#5
  let s := s.clearCauses m 0
  if restart ≠ 0#5 then s.restartDevice restart else s.banEval false

/-- The RESET pair has been released after a press of `d` ns. -/
def State.resetPressed (s : State) (p d : Nat) : State :=
  let bad := s.ban.resetBad
  let s := { s with ban := { s.ban with resetAt := none, resetBad := false } }
  if sNs 5 < d then s
  else if bad then s.resetRefused p 2
  else if d < msNs 100 then s.resetRefused p 1
  else
    match s.resetHeld with
    | some c => s.resetRefused p c
    | none => s.resetAccept p

/-! ### Channels -/

/-- What follows a change of a channel. -/
def State.chFollow (s : State) (ch : Nat) : State :=
  let p := ch / 2
  let s := s.pairEval p (ch % 2)
  if s.func p = 4 then s.thEval p
  else if s.func p = 5 then
    let a := (s.safe (2 * p)).demand
    let b := (s.safe (2 * p + 1)).demand
    if a && b then (if s.ban.resetAt.isNone then { s with ban := { s.ban with resetAt := some s.now } } else s)
    else if !a && !b then
      match s.ban.resetAt with
      | some t => s.resetPressed p (s.now - t)
      | none => { s with ban := { s.ban with resetBad := false } }
    else s
  else s

def execChannelDemand (ch : SafetyIn) (s : State) : Host.Outcome State Fault Refusal :=
  let c := ch.val
  if s.func (c / 2) = 0 ∨ (s.safe c).demand = true ∨ 3 ≤ s.land.landing then .next s
  else .next ((s.chChanged c true).chFollow c)

def execChannelRelease (ch : SafetyIn) (s : State) : Host.Outcome State Fault Refusal :=
  let c := ch.val
  if s.func (c / 2) = 0 ∨ (s.safe c).demand = false ∨ 3 ≤ s.land.landing then .next s
  else .next ((s.chChanged c false).chFollow c)

/-! ### Test pulses (R312–R314) -/

/-- The pulse of TPk at the next t with t mod 20 ms = 5k ms. -/
def execTestPulse (k : Fin 4) (s : State) : Host.Outcome State Fault Refusal :=
  if (s.tpOf k.val).drive then
    let at_ := (s.now + msNs 20 - 1 - msNs (5 * k.val)) / msNs 20 * msNs 20 + msNs (5 * k.val)
    let s := s.reach at_
    .next (((s.emit (.pulse "TP" k.val 400)).updTpOf k.val (fun t => { t with lastSeen := s.now, seenRun := t.seenRun + 1 })).banEval false)
  else .next s

/-- A channel judged after a pulse seen on its net; `lowUs`: how long it read low within 600 µs of the pulse start. -/
def execTestPulseCheck (ch : SafetyIn) (lowUs : Nat) (s : State) : Host.Outcome State Fault Refusal :=
  let c := ch.val
  let p := c / 2
  match s.tpSource c with
  | none => .next s
  | some k =>
    let s := s.updTpOf k (fun t => { t with lastSeen := s.now })
    if s.func p = 0 ∨ (s.safe c).demand = true then .next s
    else if 100 ≤ lowUs then
      let s := s.updSafe c (fun x => { x with misses := 0, passes := x.passes + 1, tpHeld := x.tpHeld && decide (x.passes < 1) })
      let s := if (List.range 16).any (fun d => s.tpSource d == some k && (s.safe d).tpHeld) then s
        else s.updTpOf k (fun t => { t with lost := false })
      .next (s.chFollow c)
    else
      let s := s.updSafe c (fun x => { x with misses := x.misses + 1, passes := 0 })
      if 2 ≤ (s.safe c).misses ∧ (s.safe c).stuck = false then
        let s := s.updSafe c (fun x => { x with stuck := true })
        let s := s.updBpair p (fun b => { b with latched := b.latched || s.manual p })
        .next ((s.logN 0x0803 [p, c % 2, k]).pairFaulted p (c % 2))
      else .next s

/-- No pulse on the net for 100 ms. -/
def execTpLost (k : Fin 4) (s : State) : Host.Outcome State Fault Refusal :=
  let j := k.val
  if (s.tpOf j).lost then .next s
  else
    let s := s.reach ((s.tpOf j).lastSeen + msNs 100)
    let s := s.updTpOf j (fun t => { t with lost := true, seenRun := 0 })
    let fed := (List.range 16).filter (fun c => s.tpSource c == some j && s.func (c / 2) != 0)
    let s := foldS fed (fun s c => s.updSafe c (fun x => { x with tpHeld := true, passes := 0 })) s
    let s := (s.logN 0x0805 [(fed.head?.getD 0) / 2, j]).raise pBAN 3
    .next (foldS fed (fun s c => s.chFollow c) s)

/-- The net has shown no low pulse for 30 ms. -/
def execTpDrive (k : Fin 4) (s : State) : Host.Outcome State Fault Refusal :=
  if s.start.powered = true ∧ (s.tpOf k.val).lastSeen + msNs 30 ≤ s.now then
    .next (s.updTpOf k.val (fun t => { t with drive := true }))
  else .next s

/-! ### Permit and partner (R326, R327) -/

def execPermitTimeout (s : State) : Host.Outcome State Fault Refusal :=
  if s.scor.permit = false ∧ s.active = true ∧ s.ban.permitActing = false then
    let s := s.reach (s.scor.withdrawnAt + msNs 20)
    let s := { s with ban := { s.ban with permitActing := true } }
    .next (((s.logN 0x080A [0x40, s.pair.role.code]).raise pBAN 1).banEval false)
  else .next s

/-- A BANISTER frame of the partner. -/
def execPairBanister (b : BanPeer) (s : State) : Host.Outcome State Fault Refusal :=
  let s := { s with ban := { s.ban with peer := b, peerValid := true } }
  let s := foldS (List.range 8) (fun s p =>
    let d := b.demand.getLsbD p && s.func p != 0 && !s.pairDemand p
    s.updBpair p (fun x => { x with peerSince := if d then some (x.peerSince.getD s.now) else none })) s
  let s := if b.lockout && !s.mode.causes.getLsbD 0 && !s.mode.reqCauses.getLsbD 0 then s.lockout 1 else s
  .next (s.banEval false)

def execPeerDisagree (p : BanPair) (s : State) : Host.Outcome State Fault Refusal :=
  let k := p.val
  match (s.bpair k).peerSince with
  | some t =>
    if s.ban.peerValid = true ∧ s.pairDemand k = false then
      let s := s.reach (t + s.tD k + msNs 5)
      let b := s.ban.peer
      let st := b2n (b.demand.getLsbD k) + at_ 1 (b2n (b.latched.getLsbD k)) + at_ 2 (b2n (b.fault.getLsbD k))
      let s := s.updBpair k (fun x => { x with peer := true, peerSince := none })
      .next (((s.logN 0x080B [0x41, k, st]).raise pBAN 5).banEval false)
    else .next s
  | none => .next s

/-- The partner source makes no demand once the pair link is lost. -/
def State.banLinkLost (s : State) : State := { s with ban := { s.ban with peerValid := false } }.banEval false

def State.ownBan (s : State) : BanPeer :=
  { demand := BitVec.ofNat 8 (bitsOf s.pairDemand 8), latched := BitVec.ofNat 8 (bitsOf (fun p => (s.bpair p).latched) 8),
    fault := BitVec.ofNat 8 (bitsOf s.pairFault 8), tones := BitVec.ofNat 48 (bitsOf s.toneActs 48),
    safe := BitVec.ofNat 4 (bitsOf s.safeActs 4), lockout := s.mode.causes.getLsbD 0 || s.mode.reqCauses.getLsbD 0 }

/-- Every 1 ms. -/
def execBanisterTx (s : State) : Host.Outcome State Fault Refusal :=
  if s.pair.hasPartner then
    let b := s.ownBan
    .next (s.sendPair 4 ([word b.demand.toNat, word b.latched.toNat, word b.fault.toNat] ++ mask48 b.tones ++
      [word b.safe.toNat, word (b2n b.lockout)]))
  else .next s

/-! ### Fault tones (R325) -/

/-- A fault tone is held on port p with its bits. -/
def State.toneOn (s : State) (p bits hop : Nat) : State :=
  let act := Nat.land bits (s.fld pBAN 0x020 3 0) != 0 && s.portEn p
  if act && !(s.toneOf p).acting then
    let s := s.setToneOf p { acting := true, latched := true }
    (((s.logN 0x0806 [0x10 + p, bits, hop]).raise pBAN 2).raise pBAN 0).banEval (s.bit pBAN (0x900 + 4 * p) 6)
  else if act then s
  else (s.updToneOf p (fun t => { t with acting := false })).banEval false
def State.toneOff (s : State) (p : Nat) : State :=
  if (s.toneOf p).acting then (s.updToneOf p (fun t => { t with acting := false })).banEval false else s

/-! ### SAFE frames (R328, R329) -/

/-- CRC over the identifier and bytes 0–3 (Table 12.3). -/
def safeCrc (xtd : Bool) (id : Nat) (b : List Byte) : Word := crc32c (leBytes 4 (id + at_ 31 (b2n xtd)) ++ b)

def State.safeDemandByte (s : State) : Nat := bitsOf (fun p => s.pairDemand p || (s.bpair p).latched) 8
def State.safeStateByte (s : State) : Nat :=
  s.ban.so.toNat + at_ 4 (b2n s.bfcEnHigh) + at_ 5 (b2n (s.md == .lockout)) + at_ 6 (b2n s.active) + at_ 7 (b2n (range48.any s.toneActs))

def execSafeFrameTx (s : State) : Host.Outcome State Fault Refusal :=
  let x := s.bit pBAN 0x030 31
  let id := s.fld pBAN 0x030 28 0
  let q := s.ban.safeSeq + 1
  let b := [BitVec.ofNat 8 s.safeDemandByte, BitVec.ofNat 8 s.safeStateByte] ++ leBytes 2 q.toNat
  let sent := id + if s.standby || s.pair.baseHold.isSome then 1 else 0
  let data := b ++ leBytes 4 (safeCrc x sent b).toNat
  let s := { s with ban := { s.ban with safeSeq := q } }
  .next (foldS [1, 2] (fun s n =>
    match s.ctlBuf n with
    | some k => s.bufQueue k (packWords false true x false false id 8 data)
    | none => s) s)

def newer16 (a b : Half) : Bool := let d := (a - b).toNat; 0 < d && d < 32768

/-- A SAFE source enters demand. -/
def State.safeOn (s : State) (r : Nat) (netB : Bool) : State :=
  let was := (s.src r).demand
  let s := s.updSrc r (fun t => { t with demand := true, latched := t.latched || s.bit pBAN (0xA04 + 16 * r) 7 })
  let s := s.when (!was) (fun s => (s.logN 0x0801 [0x50 + r, b2n netB, 0]).raise pBAN 0)
  s.banEval (!was && s.bit pBAN (0xA04 + 16 * r) 6)
def State.safeOff (s : State) (r : Nat) : State := (s.updSrc r (fun t => { t with demand := false })).banEval false

/-- A frame that source r takes. -/
def State.safeTake (s : State) (r : Nat) (netB plus : Bool) (f : CanFrame) : State :=
  let q : Half := BitVec.ofNat 16 (leAt f.data 2 2)
  let d := f.data.getD 0 0#8
  let t := s.src r
  let first := if plus then t.copyP else t.copy
  let twin := match first with
    | some (q', n, at_, _) => q' == q && n != netB && decide (s.now ≤ at_ + msNs 5)
    | none => false
  if twin then
    let other := match first with | some (_, _, _, d') => d' | none => 0#8
    let s := s.updSrc r (fun t => if plus then { t with copyP := none } else { t with copy := none })
    if other = d then
      let s := s.updSrc r (fun t => { t with single := false, mismatch := false })
      if d = 0#8 then s.safeOff r else s
    else
      let s := s.updSrc r (fun t => { t with mismatch := true })
      ((s.logN 0x0808 [0x50 + r, q.toNat, other.toNat, d.toNat]).raise pBAN 4).safeOn r netB
  else
    let last := if plus then t.seqB else t.seqA
    let isNew := match last with | some l => newer16 q l | none => true
    if isNew then
      let s := s.updSrc r (fun t => { t with seqA := if plus then t.seqA else some q, seqB := if plus then some q else t.seqB,
                                             lastAt := s.now, timeout := false,
                                             copy := if plus then t.copy else some (q, netB, s.now, d),
                                             copyP := if plus then some (q, netB, s.now, d) else t.copyP })
      if d = 0#8 then s else s.safeOn r netB
    else s

def execSafeFrame (netB : Bool) (f : CanFrame) (s : State) : Host.Outcome State Fault Refusal :=
  let s := s.fifo0Take f
  let id := f.id.toNat
  if f.data.length = 8 ∧ f.fdf = false ∧ (safeCrc f.xtd id (f.data.take 4)).toNat = leAt f.data 4 4 then
    .next (foldS (List.range 4) (fun s r =>
      let w := s.reg pBAN (0xA00 + 16 * r)
      let base := field w 28 0
      if s.safeEn r && (w.getLsbD 31 == f.xtd) && id == base then s.safeTake r netB false f
      else if s.safeEn r && (w.getLsbD 31 == f.xtd) && w.getLsbD 30 && id == base + 1 then s.safeTake r netB true f
      else s) s)
  else .next s

/-- The first copy that waits longest for its twin; whether it is one of identifier + 1. -/
def SafeSrc.waiting (t : SafeSrc) : Option (Bool × Bool × Nat × Byte) :=
  match t.copy, t.copyP with
  | some (_, n, a, d), some (_, m, b, e) => if a ≤ b then some (false, n, a, d) else some (true, m, b, e)
  | some (_, n, a, d), none => some (false, n, a, d)
  | none, some (_, m, b, e) => some (true, m, b, e)
  | none, none => none

/-- 5 ms without a twin: a single release copy is accepted. -/
def execSafeSingle (r : Fin 4) (s : State) : Host.Outcome State Fault Refusal :=
  let k := r.val
  match (s.src k).waiting with
  | some (plus, n, t, d) =>
    let s := s.reach (t + msNs 5)
    let s := s.updSrc k (fun x => if plus then { x with copyP := none } else { x with copy := none })
    if d = 0#8 then
      let s := s.updSrc k (fun x => { x with single := true })
      .next (((s.logN 0x0807 [0x50 + k, b2n (!n)]).raise pBAN 4).safeOff k)
    else .next s
  | none => .next s

def execSafeTimeout (r : Fin 4) (s : State) : Host.Outcome State Fault Refusal :=
  let k := r.val
  if s.safeEn k = true ∧ (s.src k).timeout = false then
    let last := (s.src k).lastAt
    let s := s.reach (last + msNs (s.fld pBAN 0x02C 31 16))
    let s := s.updSrc k (fun x => { x with timeout := true, copy := none, copyP := none })
    .next (((s.logN 0x0809 [0x50 + k, (s.now - last) / 1000000]).raise pBAN 4).safeOn k false)
  else .next s

/-! ### Outputs and walk (R331, R334) -/

/-- At the next device time with offset 250k ms in the second, a high output pulses low. -/
def execSoTestPulse (k : Fin 4) (s : State) : Host.Outcome State Fault Refusal :=
  let at_ := (s.now + sNs 1 - 1 - msNs (250 * k.val)) / sNs 1 * sNs 1 + msNs (250 * k.val)
  let s := (s.reach at_).banEval false
  if s.ban.so.getLsbD k.val then .next (s.emit (.pulse "SO" k.val 300)) else .next s

/-- The pad of output k (4: BFC_EN) has differed from the driven level in two consecutive checks. -/
def execSoFault (k : Fin 5) (read : Bool) (s : State) : Host.Outcome State Fault Refusal :=
  let driven := if k.val = 4 then s.bfcEnHigh else s.ban.so.getLsbD k.val
  if driven = read ∨ s.ban.soFault = true then .next s
  else
    let s := { s with ban := { s.ban with soFault := true } }
    .next ((((s.logN 0x080C [0x60 + k.val, k.val, b2n driven, b2n read]).raise pBAN 6).banEval true).lockout 1)

/-- BAN.CTRL.WALK: every output is held low while it runs. -/
def State.walkStart (s : State) : Except Refuse State :=
  if (s.md = .ready ∨ s.md = .commission) ∧ s.allOpen = true ∧ s.ban.walking = false ∧
      (List.range 8).all (fun p => !s.pairDemand p) = true ∧ range48.all (fun p => !(s.toneOf p).acting) = true ∧
      (List.range 4).all (fun r => !(s.safeEn r && (s.src r).demand)) = true then
    .ok ({ s with ban := { s.ban with walking := true } }.banEval false)
  else .error .mode

def execWalk (o : Origin) (s : State) : Host.Outcome State Fault Refusal := .next (s.served o pBAN 0x008 s.walkStart)

/-- The outcome of a walk. -/
def State.walkResult (s : State) (fail : Option Nat) : State :=
  let s := { s with ban := { s.ban with walking := false, walkPassed := fail.isNone } }
  match fail with
  | some n => (((s.logN 0x080D [n]).raise pBAN 7).banEval false).lockout 1
  | none => s.banEval false

def execWalkEnd (failedNode : Option Nat) (s : State) : Host.Outcome State Fault Refusal :=
  if s.ban.walking then .next (s.walkResult failedNode) else .next s

/-- MANUAL functions start latched on a device with no running partner (R334). -/
def State.banStart (s : State) : State :=
  let s := foldS (List.range 8) (fun s p => s.updBpair p (fun b => { b with latched := s.manual p, dem := s.pairDemand p })) s
  foldS (List.range 4) (fun s r => s.updSrc r (fun t => { t with latched := s.safeEn r && s.bit pBAN (0xA04 + 16 * r) 7 })) s

/-- The inputs are evaluated again after L3 or L4: the outputs stay low for FILTER and one test period (R309). -/
def State.banReturn (s : State) : State :=
  let f := (List.range 8).foldl (fun a p => Nat.max a (if s.func p = 0 then 0 else s.filterNs p)) 0
  { s with ban := { s.ban with riseAt := s.now + f + msNs 20 } }

end Sys2Proof.Machine
end

