-- ==== Sys2Proof/Machine/ChainOps.lean ====
section
/-! DEFINITION. Stack ports: frames, sequence numbers, enumeration, hop calibration, fault tone, breaks and silence (03). -/
namespace Sys2Proof.Machine

/-! ### Frames (R73–R75) -/

def frameHeader (f : ChainFrame) : List Byte :=
  [f.typ, BitVec.ofNat 8 (f.dir.toNat * 64 + f.hop.toNat), f.term, f.flags] ++ leBytes 2 f.seq.toNat ++ [f.len]
/-- PCRC: 0 where LEN is 0. -/
def pcrcOf (pl : List Byte) : Word := if pl = [] then 0#32 else crc32c pl
/-- Fills in LEN, HCRC and PCRC. -/
def mkFrame (typ dir hop : Nat) (term flags : Byte) (seq : Half) (pl : List Byte) : ChainFrame :=
  let f : ChainFrame := { typ := BitVec.ofNat 8 typ, dir := BitVec.ofNat 2 dir, hop := BitVec.ofNat 6 hop, term := term, flags := flags,
                          seq := seq, len := BitVec.ofNat 8 (pl.length / 2), payload := pl, hcrc := 0, pcrc := pcrcOf pl }
  { f with hcrc := crc8 (frameHeader f) }
end Sys2Proof.Machine

namespace Sys2Proof

/-- HCRC right and LEN at most 120. -/
def ChainFrame.headerOk (f : ChainFrame) : Bool := f.hcrc == Machine.crc8 (Machine.frameHeader f) && decide (f.len.toNat ≤ 120)
/-- Both checks (R75). -/
def ChainFrame.ok (f : ChainFrame) : Bool :=
  f.headerOk && f.payload.length == 2 * f.len.toNat && f.pcrc == Machine.pcrcOf f.payload
def ChainFrame.pl (f : ChainFrame) (off n : Nat) : Nat := Machine.leAt f.payload off n

end Sys2Proof

namespace Sys2Proof.Machine

/-! ### Frames as words, trace and sending -/

def padWords (l : List Byte) : List Word := wordsOf (l ++ List.replicate ((4 - l.length % 4) % 4) 0#8)
/-- A frame in the form of an RX buffer (R218), with the device time at its HCRC end. -/
def frameWords (f : ChainFrame) (ts : Nat) : List Word :=
  [word (f.typ.toNat + at_ 14 f.dir.toNat + at_ 8 f.hop.toNat + at_ 16 f.flags.toNat + at_ 25 f.len.toNat),
   word (f.seq.toNat + at_ 16 f.term.toNat), word ts] ++ padWords f.payload
/-- Line time of the bytes after HCRC, ns: payload and PCRC at 12 Mbit/s. -/
def afterHcrc (len : Nat) : Nat := (2 * len + 4) * 2000 / 3
/-- A running Stairwell trace shows a frame of its port and counts it (R469); fault tones only where the command asked for tones. -/
def State.traceFrame (s : State) (p : Nat) (f : ChainFrame) (ts : Nat) : State :=
  match s.stw.trace with
  | some (q, n, tones) =>
    if q = p ∧ (tones = true ∨ f.dir ≠ 3#2) then
      let s := s.emit (.textWords (frameWords f ts))
      { s with stw := { s.stw with trace := if n ≤ 1 then none else some (q, n - 1, tones) } }
    else s
  | none => s
/-- A frame whose last bit arrives now, for a running trace. -/
def State.traceRx (s : State) (p : Nat) (f : ChainFrame) : State := s.traceFrame p f (s.now - afterHcrc f.len.toNat)
/-- Sends a frame: preamble, delimiter and header take 80 bit periods of 12 Mbit/s to the end of HCRC. -/
def State.chainOut (s : State) (p : Nat) (f : ChainFrame) : State := (s.traceFrame p f (s.now + 6667)).emit (.chain p f)

/-! ### Ports and modules -/

def psPage (p : Nat) : Nat := pPSEQ + p / 4
/-- Port whose SEQ series p uses: the lower port of a dual-ended chain (R107). -/
def State.series (s : State) (p : Nat) : Nat := if s.dualUpper p then p - 1 else p
/-- The string of a port. -/
def State.strOfPort (s : State) (p : Nat) : Nat := s.series p
/-- Module 40 × port + hop − 1, by its address from the lower end. -/
def State.modOf (s : State) (p h : Nat) : Nat :=
  if s.dualUpper p then 40 * (p - 1) + ((s.port (p - 1)).hFound - h) else 40 * p + (h - 1)
/-- Hops a port serves now: up to the break on a BROKEN port, all from the lower end while a dual-ended chain is whole (R102, R109). -/
def State.hopsServed (s : State) (p : Nat) : Nat :=
  let t := s.port p
  if t.state = .broken then Nat.min t.breakHop t.hFound
  else if s.dualUpper p then 0 else t.hFound
/-- The device sends on the chain lines: a role that may, not while SYNCING, not in BOOT_HOLD. -/
def State.chainMay (s : State) : Bool :=
  !s.start.bootHold && (s.active || s.standby) && s.pair.sync != .syncing

/-- The next ad hoc SEQ of a port (R87). -/
def State.takeSeq (s : State) (p : Nat) : Half × State :=
  let k := s.series p
  ((s.port k).nextSeq, s.updPort k (fun t => { t with nextSeq := t.nextSeq + 1 }))

def flagRETRY : Byte := 1#8
def flagBCAST : Byte := 2#8

/-- Sends an ad hoc command, from the active device alone; an addressed one awaits its response. -/
def State.sendAdhoc (s : State) (p typ hop : Nat) (pl : List Byte) : State :=
  if s.active && s.chainMay then
    let (q, s) := s.takeSeq p
    let f := mkFrame typ 0 hop s.term (if hop = 0 then flagBCAST else 0#8) q pl
    let s := s.chainOut p f
    if hop = 0 then s else s.updPort p (fun t => { t with inFlight := t.inFlight ++ [{ frame := f, hop := hop }] })
  else s

/-- Broadcast CFG_WRITE of MCTRL: TOP clear, PAIRED only in a dual-ended chain (R84). -/
def State.writeMctrl (s : State) (p : Nat) (sleep : Bool) : State :=
  let v := at_ 1 (b2n sleep) + at_ 2 (b2n (s.dualUpper p || s.dualLower p))
  (s.sendAdhoc p 0x07 0 (leBytes 2 0 ++ leBytes 2 v)).updPort p (fun t => { t with silenceSleep := sleep })

/-! ### Fault tone (R100) -/

/-- Follows FLAGS[7:4] of a valid downward header. -/
def State.toneHeader (s : State) (p : Nat) (flags : Byte) (faultHop : Nat) : State :=
  let b := flags.toNat / 16
  -- comparator bits in the order of TONE_CFG: HW_OV, HW_UV, HW_OT, INT
  let s := s.updPort p (fun t => { t with setRun := if b = 0 then 0 else t.setRun + 1, clearRun := if b = 0 then t.clearRun + 1 else 0,
                                          chainSilent := false })
  let t := s.port p
  if 2 ≤ t.setRun then
    let new := !t.toneHeld
    let s := s.updPort p (fun t => { t with toneHeld := true, toneBits := BitVec.ofNat 4 b })
    let s := s.when new (fun s => s.raise (psPage p) (8 + p % 4))
    s.toneOn p b faultHop
  else if t.toneHeld && decide (4 ≤ t.clearRun) then
    (s.updPort p (fun t => { t with toneHeld := false, toneBits := 0 })).toneOff p
  else s

/-! ### Enumeration (R90–R93) -/

/-- ENUM may be sent: both contactors of the string open, active device (R91). -/
def State.mayEnum (s : State) (p : Nat) : Bool := s.strOpen (s.strOfPort p) && s.active

def State.startEnum (s : State) (p : Nat) : State :=
  if s.portEn p && s.mayEnum p && s.chainMay then
    let (q, s) := s.takeSeq p
    let s := s.chainOut p (mkFrame 0x01 0 0 s.term flagBCAST q [])
    let s := foldS (List.range 40) (fun s h => s.updMon (40 * p + h) (fun m => { m with answered := false })) s
    let s := foldS (List.range 40) (fun s h => s.updMod (40 * p + h) (fun m => { m with stack := 0, stackValid := false, stackSeen := false })) s
    let s := s.updSctx p (fun c => { c with noisyAt := none })
    s.updPort p (fun t => { t with state := .enumerating, hFound := 0, breakHop := 0, enumSeq := some q, enumGot := false,
                                   enumerated := false, inFlight := [], toRunning := false, echoFound := false, cleanTone := false })
  else s

/-- One ENUM response (Table 03.6). -/
def State.enumResponse (s : State) (p h : Nat) (f : ChainFrame) : State :=
  if (s.port p).state ≠ .enumerating ∨ f.payload.length < 16 ∨ h = 0 then s
  else
    let st := f.pl 12 1
    let s := s.updPort p (fun t => { t with hFound := Nat.max t.hFound h })
    if s.dualUpper p then s.updMon (s.modOf p h) (fun m => { m with high := f.pl 10 1 })
    else
      s.updMon (40 * p + (h - 1)) (fun m =>
        { m with answered := true, serial := BitVec.ofNat 64 (f.pl 0 8), version := BitVec.ofNat 16 (f.pl 8 2), cells := f.pl 13 1,
                 temps := f.pl 14 1, termValid := st % 2 == 1, term := BitVec.ofNat 8 (f.pl 11 1) })

/-- The term of R90 from the stored terms of every port. -/
def State.termFromMonitors (s : State) : Byte :=
  let ts := (s.portsUsed.flatMap (fun p => (List.range 40).filterMap (fun h =>
    let m := s.mon (40 * p + h); if m.answered && m.termValid then some m.term else none)))
  match ts with
  | [] => 1#8
  | r :: _ => (ts.foldl (fun best t => if newer8 t best then t else best) r) + 1#8

/-- HOP_CAL frames of a calibration: 16 to hop 1, 16 to H_found, 4 to each other hop; the active device reserves as many slots for
the standby (R87, R95, R114). -/
def State.sendHopcal (s : State) (p : Nat) : State :=
  let n := (s.port p).hFound
  let hops := (List.range n).flatMap (fun i => List.replicate (if i = 0 ∨ i + 1 = n then 16 else 4) (i + 1))
  let s := foldS hops (fun s h => s.sendAdhoc p 0x0F h []) s
  if s.active && s.pair.hasPartner then
    s.updPort (s.series p) (fun t => { t with nextSeq := t.nextSeq + BitVec.ofNat 16 hops.length })
  else s

/-- Comparator thresholds and TONE_CFG to hops 1 to H_found (items 24: HW_OV, HW_UV, HW_OT, HW_FILT, ENABLE). -/
def State.sendThresholds (s : State) (p : Nat) : State :=
  let v := fun k => ofSigned 16 (s.item 24 (8 * p + k))
  foldS (List.range (s.port p).hFound) (fun s i =>
    let s := s.sendAdhoc p 0x07 (i + 1) (leBytes 2 2 ++ leBytes 2 (v 0) ++ leBytes 2 (v 1) ++ leBytes 2 (v 2) ++ leBytes 2 (v 3))
    s.sendAdhoc p 0x0D (i + 1) [BitVec.ofNat 8 (v 4), 0#8]) s

def State.portBroken (s : State) (p hop : Nat) : State :=
  (s.updPort p (fun t => { t with state := .broken, breakHop := hop, downSince := s.now, echoFound := false, cleanTone := false })).raise
    (psPage p) (4 + p % 4)

/-- Steps 2–7 of R93. -/
def State.configurePort (s : State) (p : Nat) : State :=
  let n := (s.port p).hFound
  let ex := s.hExpect (s.series p)
  let s := s.updPort p (fun t => { t with enumGot := false, enumerated := true, authOwed := true, enumAt := s.now, silenceSleep := true, firstSample := true,
                                          tempEpoch := none })
  if 40 < n then s.updPort p (fun t => { t with state := .refused })
  else if ex < n then (s.updPort p (fun t => { t with state := .refused })).raise (psPage p) (20 + p % 4)
  else if n < ex then ((s.portBroken p n).sendThresholds p).sendHopcal p
  else
    let s := if s.dualUpper p || s.dualLower p then s.writeMctrl p true
      else s.sendAdhoc p 0x07 n (leBytes 2 0 ++ leBytes 2 3)
    (s.sendThresholds p).sendHopcal p

/-- The collection of ENUM responses ends. At start-up the term is set once every port has been collected (R90). -/
def State.enumDone (s : State) (p : Nat) : State :=
  let s := s.updPort p (fun t => { t with enumSeq := none, enumGot := true })
  if s.start.termSet then s.configurePort p
  else if s.portsUsed.all (fun q => (s.port q).state != .enumerating || (s.port q).enumGot) then
    let s := { s with pair := { s.pair with term := s.termFromMonitors }, start := { s.start with termSet := true } }
    foldS (s.portsUsed.filter (fun q => (s.port q).enumGot)) (fun s q => s.configurePort q) s
  else s

/-! ### Hop calibration (R95, R96, R114, R115) -/

def insNat (x : Nat) : List Nat → List Nat
  | [] => [x]
  | y :: t => if x ≤ y then x :: y :: t else y :: insNat x t
def sortNat (l : List Nat) : List Nat := l.foldr insNat []
/-- Median: the mean of the two middle values of an even number. -/
def median (l : List Nat) : Rat :=
  let m := sortNat l
  let n := m.length
  if n = 0 then 0
  else if n % 2 = 1 then (m.getD (n / 2) 0 : Rat) else ((m.getD (n / 2 - 1) 0 : Rat) + (m.getD (n / 2) 0 : Rat)) / 2

def State.leadUs (s : State) (p : Nat) : Nat := s.fld (psPage p) 0x100 15 0

/-- Round trips in ns by hop (index hop − 1): t_u, t_hop,cal (1/16 ns), RESID and BUDGET. -/
def State.calibrate (s : State) (p : Nat) (rtts : List (List Nat)) : State :=
  let n := (s.port p).hFound
  let r := fun h => median (rtts.getD (h - 1) [])
  let tu := (r 1 - 10000) / 2
  let th := if n ≤ 1 then 750 else (r n - r 1) / (2 * ((n : Rat) - 1))
  let e := fun (h : Nat) => absR ((r h - (2 * tu + 2 * ((h : Rat) - 1) * th + 10000)) / 2)
  let resid := (List.range n).foldl (fun m i => if i = 0 ∨ i + 1 = n then m else maxR m (e (i + 1))) 0
  let budget := 288 + 50 + ((s.leadUs p : Rat) + ((n : Rat) - 1) * mkRat 8 10) / 10 + resid
  let tu16 := (toUnits (tu * 16)).toNat
  let th16 := (toUnits (th * 16)).toNat
  let old := s.port p
  let shift := old.calibrated && decide (80 < absI ((th16 : Int) - old.tHop))
  let s := s.when shift (fun s => (s.logN 0x0101 [p, n, old.tHop, th16]).raise (psPage p) (16 + p % 4))
  let wide := decide (400 < resid) || decide (1000 < budget)
  let s := s.updPort p (fun t => { t with calibrated := true, resid := (toUnits resid).toNat, budget := (toUnits budget).toNat, alignWide := wide })
  let s := s.when wide (fun s => (s.log 0x0208 [word p, 0#32, rw resid, rw budget]).raise pCELL 5)
  if s.time.sampling && old.calibrated then s.updPort p (fun t => { t with newCal := some (tu16, th16) })
  else s.updPort p (fun t => { t with tU := tu16, tHop := th16 })

/-- The epoch series begins, or continues after DORMANT: the next number at the instant one period from now (R437, R452). -/
def State.startEpochs (s : State) : State :=
  if s.time.sampling || s.md == .dormant && !s.land.waking then s
  else
    let n := s.nextN
    { s with time := { s.time with sampling := true, tBase := ((s.now + s.tEpoch : Nat) : Int) - ((n.toNat * s.tEpoch : Nat) : Int) },
             prot := { s.prot with lastCommit := s.now } }

def State.musEn (s : State) (p : Nat) : Bool := s.bit pCELL (if p < 32 then 0x100 else 0x104) (p % 32)

/-- OPENWIRE to one wire of every module of the port (R123). -/
def State.testWireAll (s : State) (p w : Nat) : State :=
  let d := s.fld pCELL 0x028 15 8
  let s := foldS (List.range (s.port p).hFound) (fun s i =>
    if w ≤ (s.mon (40 * p + i)).cells then s.sendAdhoc p 0x06 (i + 1) ([BitVec.ofNat 8 w, 0#8] ++ leBytes 2 d) else s) s
  s.updPort p (fun t => { t with testWire := some w })

/-- A calibrated port enters RUNNING, or learns wire resistances first (R134). -/
def State.portRunning (s : State) (p : Nat) : State :=
  let s := s.updPort p (fun t => { t with testWire := none })
  if s.musEn p then s.updPort p (fun t => { t with learn := some (0, 0, 0), learnCmd := false })
  else s.updPort p (fun t => { t with state := .running })

/-- After a response or a lost test: the next wire once no test is open. -/
def State.testNext (s : State) (p : Nat) : State :=
  match (s.port p).testWire with
  | some w =>
    if (s.port p).inFlight.any (fun i => i.frame.typ == 0x06#8) then s
    else
      let top := (List.range (s.port p).hFound).foldl (fun a i => Nat.max a (s.mon (40 * p + i)).cells) 0
      if w < top then s.testWireAll p (w + 1) else s.portRunning p
  | none => s

/-- A calibration ends. -/
def State.hopcalDone (s : State) (p : Nat) (rtts : List (List Nat)) : State :=
  if (s.port p).hFound = 0 then s
  else
    let s := (s.calibrate p rtts).updPort p (fun t => { t with inFlight := t.inFlight.filter (fun i => i.frame.typ != 0x0F#8) })
    let s := s.startEpochs
    if (s.port p).state = .enumerating then s.testWireAll p 0 else s

def execHopcalDone (p : Port) (rtts : List (List Nat)) (s : State) : Host.Outcome State Fault Refusal := .next (s.hopcalDone p.val rtts)

def calState (t : PortState) : Bool := t == .running || t == .broken || t == .recovering

/-- Every 10 minutes. -/
def execHopcalPeriodic (p : Port) (s : State) : Host.Outcome State Fault Refusal :=
  if s.portEn p.val ∧ calState (s.port p.val).state = true then .next (s.sendHopcal p.val) else .next s

/-! ### Breaks and silence (R102–R105) -/

/-- The echo of H_found and a tone without BREAK have arrived. -/
def State.portRecover (s : State) (p : Nat) : State :=
  let t := s.port p
  if (t.state = .silent ∨ t.state = .broken) ∧ t.echoFound = true ∧ t.cleanTone = true then
    if s.now < t.downSince + sNs 1 then s.updPort p (fun t => { t with toRunning := true })
    else s.updPort p (fun t => { t with state := .recovering, breakHop := 0, echoFound := false, cleanTone := false })
  else s

/-- A tone frame. -/
def State.toneFrame (s : State) (p : Nat) (f : ChainFrame) : State :=
  let s := (s.traceRx p f).toneHeader p f.flags (f.pl 1 1)
  if f.flags.getLsbD 3 then
    let s := s.updPort p (fun t => { t with cleanTone := false, toRunning := false })
    if (s.port p).state = .running ∨ (s.port p).state = .recovering then s.portBroken p (f.pl 0 1)
    else if (s.port p).state = .broken then s.updPort p (fun t => { t with breakHop := f.pl 0 1 }) else s
  else (s.updPort p (fun t => { t with cleanTone := true })).portRecover p

def execTone (p : Port) (f : ChainFrame) (s : State) : Host.Outcome State Fault Refusal :=
  if f.ok ∧ f.dir = 3#2 then .next (s.toneFrame p.val f) else .next s

/-- A notice acts only where its refused TERM is the device term and the stored term is newer (R89). -/
def State.staleNotice (s : State) (p : Nat) (f : ChainFrame) : State :=
  let stored : Byte := BitVec.ofNat 8 (f.pl 0 1)
  if f.pl 1 1 = s.term.toNat ∧ newer8 stored s.term = true then (s.raise (psPage p) (12 + p % 4)).goPassive p stored
  else s.updPort p (fun t => { t with staleIgnored := t.staleIgnored + 1 })

def execStaleTerm (p : Port) (f : ChainFrame) (s : State) : Host.Outcome State Fault Refusal :=
  if f.ok then .next (((s.traceRx p.val f).toneHeader p.val f.flags 0).staleNotice p.val f) else .next s

/-- No valid downward header for 150 µs. -/
def execChainSilent (p : Port) (s : State) : Host.Outcome State Fault Refusal :=
  let k := p.val
  let t := s.port k
  if s.portEn k = false ∨ t.chainSilent = true ∨ t.state = .off ∨ t.state = .refused then .next s
  else
    let s := s.updPort k (fun t => { t with chainSilent := true, toneHeld := false, toneBits := 0, setRun := 0, clearRun := 0,
                                            toRunning := false, echoFound := false, cleanTone := false,
                                            downSince := if t.state = .broken then t.downSince else s.now,
                                            state := if calState t.state then .silent else t.state })
    -- a silent port carries no tone (Table 03.11)
    .next ((s.toneOff k).raise (psPage k) (k % 4))

/-- Every 10 ms while SILENT or BROKEN: 4-byte ECHOs to H_found and hop 1. -/
def execRecoveryProbe (p : Port) (s : State) : Host.Outcome State Fault Refusal :=
  let k := p.val
  let t := s.port k
  if (t.state = .silent ∨ t.state = .broken) ∧ 0 < t.hFound then
    .next ((s.sendAdhoc k 0x0E t.hFound [0#8, 0#8, 0#8, 0#8]).sendAdhoc k 0x0E 1 [0#8, 0#8, 0#8, 0#8])
  else .next s

/-- A RECOVERING port whose string is open is enumerated again. -/
def execReenumeration (p : Port) (s : State) : Host.Outcome State Fault Refusal :=
  if (s.port p.val).state = .recovering ∧ s.strOpen (s.strOfPort p.val) = true then .next (s.startEnum p.val) else .next s

/-- PSEQg.CTRL.HOPCAL and REENUM, as they take effect at the sample instant. -/
def State.hopcalNow (s : State) (p : Nat) : State := if calState (s.port p).state then s.sendHopcal p else s
def State.reenumNow (s : State) (p : Nat) : State := s.startEnum p

def execHopcal (o : Origin) (p : Port) (s : State) : Host.Outcome State Fault Refusal :=
  .next (s.toShadow o (psPage p.val) 0x008 (word (at_ (20 + p.val % 4) 1)))

def execReenum (o : Origin) (p : Port) (s : State) : Host.Outcome State Fault Refusal :=
  .next (s.shadowed o (psPage p.val) 0x008 (word (at_ (16 + p.val % 4) 1)) (s.strOpen (s.strOfPort p.val)))

/-! ### Responses -/

/-- The command a response answers leaves the list of those awaited. -/
def State.answered (s : State) (p : Nat) (f : ChainFrame) : Option InFlight × State :=
  let i := (s.port p).inFlight.find? (fun i => i.frame.seq == f.seq && i.frame.typ ||| 0x80#8 == f.typ)
  (i, s.updPort p (fun t => { t with inFlight := t.inFlight.eraseP (fun i => i.frame.seq == f.seq && i.frame.typ ||| 0x80#8 == f.typ) }))

/-- ECHO responses: the probes of R105, and a dual-ended or drill echo (R378). -/
def State.echoResponse (s : State) (p h : Nat) : State :=
  if h = (s.port p).hFound then (s.updPort p (fun t => { t with echoFound := true })).portRecover p else s

/-- Resend of R88. -/
def State.resend (s : State) (p : Nat) (i : InFlight) : State :=
  let f := mkFrame i.frame.typ.toNat 0 i.hop i.frame.term (i.frame.flags ||| flagRETRY) i.frame.seq i.frame.payload
  let s := s.updPort p (fun t => { t with resends := t.resends + 1, inFlight := t.inFlight.map (fun j =>
    if j.frame.seq = i.frame.seq then { j with frame := f, resends := j.resends + 1 } else j) })
  if s.chainMay then s.chainOut p f else s

end Sys2Proof.Machine
end

