-- ==== Sys2Proof/Machine/Sensing.lean ====
section
/-! DEFINITION. Cell sensing: conversions received, temperatures, reference checks, wire breaks, compensation, wire-resistance learning
(04). Voltages in 100 µV, temperatures in 0.1 °C, resistances in 10 µΩ. -/
namespace Sys2Proof.Machine

/-! ### Modules and settings -/

def modPort (m : Nat) : Nat := m / 40
def modHop (m : Nat) : Nat := m % 40 + 1
/-- Cells wired, as ENUM reported. -/
def State.nCells (s : State) (m : Nat) : Nat := (s.mon m).cells
def State.modsOf (s : State) (p : Nat) : List Nat := (List.range (s.port p).hFound).map (fun i => 40 * p + i)
def State.wbDelta (s : State) : Int := (s.fld pCELL 0x028 31 24 : Int) * 10
def State.wbEps (s : State) : Int := (s.fld pCELL 0x028 23 16 : Int) * 10
/-- T_BROKEN: by default the upper level-2 threshold (R118). -/
def State.tBroken (s : State) : Int :=
  match slook s.regs (regAddr pCELL 0x02C), slook s.gen.regs (regAddr pCELL 0x02C) with
  | none, none => (s.th 2 2).getD 500
  | _, _ => s.sfld pCELL 0x02C 31 16
/-- Cell table of a string (item 12). -/
def State.cellTable (s : State) (x : Nat) : Nat := (s.item 12 x).toNat

/-- The acquired epoch with this tag. -/
def State.rawUpd (s : State) (tag : Nat) (f : RawEpoch → RawEpoch) : State :=
  { s with acq := s.acq.map (fun r => if r.epoch.toNat % 65536 = tag then f r else r) }

/-! ### Responses -/

/-- READ_CELLS. -/
def State.cellsResponse (s : State) (m : Nat) (f : ChainFrame) : State :=
  s.rawUpd (f.pl 0 2) (fun r =>
    { r with volts := (List.range (s.nCells m)).foldl (fun v j => sput v (16 * m + j) (f.pl (2 + 2 * j) 2)) r.volts,
             shuttle := sput r.shuttle m (BitVec.ofNat 16 (f.pl 34 2)) })

/-- STACK_READ. -/
def State.stackResponse (s : State) (m : Nat) (f : ChainFrame) : State :=
  s.rawUpd (f.pl 0 2) (fun r => { r with stackVs := sput r.stackVs m (f.pl 2 4) })

/-! ### Temperatures (R117–R121) -/

/-- A sensor gives a valid value: read since start, and not broken. -/
def Temp.valid (t : Temp) : Bool := t.seen && !t.broken
/-- Value with which a sensor enters R119. -/
def State.tempEff (s : State) (i : Nat) : Int := if (s.temp i).valid then (s.temp i).value else s.tBroken

def State.tempBroken (s : State) (m i : Nat) (raw : Nat) : State :=
  if (s.temp (8 * m + i)).broken then s
  else
    ((s.updTemp (8 * m + i) (fun t => { t with broken := true, goodRun := 0 })).logN 0x0204 [modPort m, modHop m, i, raw]).raise pCELL 3

/-- One input of a READ_AUX response. -/
def State.tempRead (s : State) (m i raw : Nat) (e : Word) : State :=
  let k := 8 * m + i
  let v := toSigned 16 raw
  if raw = 0x7FFD then
    if (s.temp k).seen then
      let s := s.updTemp k (fun t => { t with notConv := true, notConvRun := t.notConvRun + 1, goodRun := 0 })
      if 3 ≤ (s.temp k).notConvRun then s.tempBroken m i raw else s
    else s
  else
    let op := raw == 0x7FFF
    let sh := raw == 0x7FFE
    let rg := !op && !sh && (decide (v < -500) || decide (1500 < v))
    let s := s.updTemp k (fun t => { t with open_ := op, short := sh, range := rg, notConv := false, notConvRun := 0, epoch := e })
    if op || sh || rg then (s.tempBroken m i raw).updTemp k (fun t => { t with seen := true, goodRun := 0 })
    else
      s.updTemp k (fun t => { t with value := v, seen := true, good := true, goodRun := t.goodRun + 1, broken := t.broken && decide (t.goodRun + 1 < 10) })

/-- Thresholds of levels 2–4 of the cell temperatures. -/
def State.nearThs (s : State) : List Int := [2, 3].flatMap (fun q => [2, 3, 4].filterMap (fun k => s.th q k))
def State.validTemps (s : State) (m : Nat) : List Int :=
  (List.range (s.mon m).temps).filterMap (fun i => let t := s.temp (8 * m + i); if t.valid then some t.value else none)

/-- NEAR_LIMIT after a read (R117). -/
def State.nearEval (s : State) (m : Nat) : State :=
  let k : Int := (s.fld pCELL 0x02C 15 8 : Int) * 10
  let vs := s.validTemps m
  let ths := s.nearThs
  let close := vs.any (fun v => ths.any (fun t => decide (absI (v - t) ≤ k)))
  let far := vs.all (fun v => ths.all (fun t => decide (k + 10 < absI (v - t))))
  s.updMod m (fun x =>
    let run := if far then x.nearRun + 1 else 0
    { x with near := close || (x.near && decide (run < 10)), nearRun := run })

/-- Reference check against 1.2500 V (R121). -/
def State.refEval (s : State) (m : Nat) (v : Nat) : State :=
  let d := absI ((v : Int) - 12500)
  let was := (s.mod m).refSuspect
  let s := s.updMod m (fun x => { x with refMv := v, refSuspect := decide (50 < d),
                                         refFault := decide (200 < d) || (x.refFault && decide (50 < d)) })
  if 50 < d ∧ was = false then (s.logN 0x0207 [modPort m, modHop m, v]).raise pCELL 6 else s

/-- The values of a READ_AUX response. -/
def State.auxTake (s : State) (m : Nat) (f : ChainFrame) : State :=
  let e := word (f.pl 0 2)
  let s := foldS (List.range (s.mon m).temps) (fun s i => s.tempRead m i (f.pl (2 + 2 * i) 2) e) s
  (s.nearEval m).refEval m (f.pl 20 2)
/-- READ_AUX. While an older epoch is not yet committed the response waits for the computation of its own epoch (R29). -/
def State.auxResponse (s : State) (m : Nat) (f : ChainFrame) : State :=
  match s.acq.reverse with
  | [] => s.auxTake m f
  | r :: t =>
    if t = [] ∧ s.computing = none then { s with acq := [{ r with tempsRead := m :: r.tempsRead }] }.auxTake m f
    else { s with acq := ({ r with tempsRead := m :: r.tempsRead, aux := r.aux ++ [(m, f)] } :: t).reverse }

/-- Sensors mapped to cell j (items 26, default sensor Tk to cells 2k and 2k + 1). -/
def State.sensorsOf (s : State) (m j : Nat) : List Nat :=
  let w := (s.item 26 (16 * s.cellTable (modPort m) + j)).toNat
  (List.range (s.mon m).temps).filter (fun i => if w = 0 then i == j / 2 else w / 2 ^ i % 2 == 1)

/-- Temperature of a cell, and whether a broken sensor enters it (R119). -/
def State.cellTemp (s : State) (m j : Nat) : Int × Bool :=
  let mine := s.sensorsOf m j
  let l := if mine = [] then List.range (s.mon m).temps else mine
  match l with
  | [] => (s.tBroken, true)
  | a :: t => (t.foldl (fun v i => if v < s.tempEff (8 * m + i) then s.tempEff (8 * m + i) else v) (s.tempEff (8 * m + a)),
      l.any (fun i => !(s.temp (8 * m + i)).valid))
/-- Lowest valid sensor of a module, none where no sensor is valid. -/
def State.modTMin (s : State) (m : Nat) : Option Int :=
  (s.validTemps m).foldl (fun a v => match a with | none => some v | some b => some (if v < b then v else b)) none

/-! ### Wires (R123–R131) -/

/-- Cells beside wire w of a module with n cells. -/
def wireCells (n w : Nat) : List Nat := (if w = 0 then [] else [w - 1]) ++ (if w < n then [w] else [])

/-- Asks for a suspicion test in the next epoch. -/
def State.suspect (s : State) (m w : Nat) : State :=
  s.updMod m (fun x => { x with suspect := if x.suspect.contains w then x.suspect else x.suspect ++ [w] })

def State.psc (s : State) : Bool := s.bit pCELL 0x108 0
def State.breaksOf (s : State) (x : Nat) : List (Nat × Nat) := (s.port x).breaks

/-- A confirmed break (R126–R130). -/
def State.confirmBreak (s : State) (m w : Nat) (a0 a1 b0 b1 : Int) : State :=
  let p := modPort m
  let n := s.nCells m
  let s := s.updWire (17 * m + w) (fun x => { x with broken := true, intactRun := 0 })
  let s := (s.log 0x0202 [word p, word (modHop m), word w, wordI a0, wordI a1, wordI b0, wordI b1]).raise pCELL 2
  let s := if w = 0 ∨ w = n then
      s.updCell (16 * m + (if w = 0 then 0 else n - 1)) (fun c => { c with stackDerived := true })
    else foldS (wireCells n w) (fun s j => s.updCell (16 * m + j) (fun c => { c with pairSum := true })) s
  -- 2.0 % on σ_rand at confirmation (R184)
  let s := foldS (if w = 0 then [0] else if w = n then [n - 1] else wireCells n w) (fun s j =>
    s.updCtx (16 * m + j) (fun c => { c with sigR := c.sigR + 2 })) s
  -- the zero BAL_SET of the next epoch (R126, R197)
  let s := s.updShutMod m (fun x => { x with zeroNext := true })
  let s := s.updPort p (fun t => { t with breaks := t.breaks ++ [(m, w)] })
  if s.psc && decide ((s.breaksOf p).length ≤ 1) then s
  else
    let s := s.updPort p (fun t => { t with wbOut := true, wbSince := some (t.wbSince.getD s.now) })
    (if s.isOpen p then s else s.softReq p .wireBreak).settle p

/-- One test result (R124). 0x8000 stands for a cell that does not exist. -/
def State.wireResult (s : State) (m w : Nat) (r0 r1 : Nat) : State :=
  let p := modPort m
  let v := [r0, r1].filter (· != 0x8000) |>.map (fun r => absI (toSigned 16 r))
  let i := 17 * m + w
  let x := s.wire i
  let (p0, p1) := (x.shift0, x.shift1)
  let (c0, c1) := (toSigned 16 r0, toSigned 16 r1)
  let s := s.updWire i (fun x => { x with shift0 := c0, shift1 := c1 })
  let brk := fun (s : State) =>
    let s := s.updWire i (fun x => { x with brokenRun := x.brokenRun + 1, inconclusive := 0, intactRun := 0 })
    if (s.wire i).broken then s
    else if 2 ≤ (s.wire i).brokenRun then s.confirmBreak m w p0 p1 c0 c1
    else s.suspect m w
  if v.any (fun a => decide (2000 < a)) then brk s
  else if v.all (fun a => decide (a < 20)) then
    s.updWire i (fun x => { x with brokenRun := 0, inconclusive := 0, intactRun := x.intactRun + 1 })
  else
    let new := !x.highr
    let s := s.updWire i (fun x => { x with highr := true, inconclusive := x.inconclusive + 1, intactRun := 0 })
    let s := s.when new (fun s => (s.log 0x0209 [word p, word (modHop m), word w, wordI c0, wordI c1]).raise pCELL 7)
    if 3 ≤ (s.wire i).inconclusive then brk s else s.suspect m w

/-- OPENWIRE response. -/
def State.wireResponse (s : State) (p m : Nat) (f : ChainFrame) : State :=
  if f.pl 0 1 ≤ s.nCells m then (s.wireResult m (f.pl 0 1) (f.pl 2 2) (f.pl 4 2)).testNext p else s

/-- WBCLR: accepted where the last two tests of every broken wire of each string named were intact (R129). -/
def State.wbClearable (s : State) (p : Nat) : Bool :=
  (s.breaksOf p).all (fun b => decide (2 ≤ (s.wire (17 * b.1 + b.2)).intactRun))
def State.wbClear (s : State) (o : Origin) (p : Nat) : State :=
  if !s.wbClearable p then s
  else
    let bs := s.breaksOf p
    let s := foldS bs (fun s b =>
      let s := s.updWire (17 * b.1 + b.2) (fun x => { x with broken := false, brokenRun := 0 })
      let s := foldS (List.range 16) (fun s j => s.updCell (16 * b.1 + j) (fun c => { c with pairSum := false, stackDerived := false })) s
      s.logN 0x0203 [p, modHop b.1, b.2, o.code]) s
    (s.updPort p (fun t => { t with breaks := [], wbOut := false, wbSince := none })).settle p

def maskPorts (high : Bool) (m : Word) : List Nat := (List.range 32).filter (fun i => m.getLsbD i) |>.map (fun i => i + if high then 32 else 0)

def execWbclr (o : Origin) (high : Bool) (mask : Word) (s : State) : Host.Outcome State Fault Refusal :=
  .next (s.shadowed o pCELL (if high then 0x024 else 0x020) mask ((maskPorts high mask).all s.wbClearable))

/-! ### Values of an epoch (R125–R127, R132) -/

/-- Shuttle current of a cell in A, by the running mask of its conversion. -/
def State.shutAmps (s : State) (mask : Half) (m j : Nat) : Rat :=
  if mask.getLsbD j then mkRat (s.shut (16 * m + j)).cmd 50 else 0

/-- Compensated reading of cell j and whether it was compensated (R132). -/
def State.compensate (s : State) (mask : Half) (m n j : Nat) (v : Nat) : Int × Bool :=
  let i := fun (k : Int) => if k < 0 ∨ (n : Int) ≤ k then (0 : Rat) else s.shutAmps mask m k.toNat
  let r := fun w => ((s.wire (17 * m + w)).res : Rat) / 10
  let d := (i j - i (j + 1)) * r (j + 1) - (i (j - 1) - i j) * r j
  (roundR ((v : Rat) + d), i (j - 1) != 0 || i j != 0 || i (j + 1) != 0)

/-- What an epoch gives a cell: value (100 µV, none for 0xFFFF) and sensing flags. -/
def State.cellValue (s : State) (r : RawEpoch) (m n j : Nat) : Option Int × Nat × Cell :=
  let k := 16 * m + j
  let c := s.cell k
  let mus := s.musEn (modPort m) && (s.mod m).tableValid
  let own := fun (i : Nat) => (slook r.volts (16 * m + i)).map (fun v =>
    if mus then s.compensate (sget 0#16 r.shuttle m) m n i v else ((v : Int), false))
  let tb := (s.cellTemp m j).2
  let base := at_ 6 (b2n tb) + at_ 7 (b2n (s.mod m).refSuspect)
  let done := fun (v : Option Int) (fl : Nat) (c : Cell) => (v, base + fl + at_ 5 (b2n (decide (0 < c.deviantLeft))),
    { c with flags := BitVec.ofNat 16 ((c.flags.toNat / 256) * 256 + base + fl + at_ 5 (b2n (decide (0 < c.deviantLeft)))) })
  if (s.mod m).refFault then done none 1 { c with heldRun := 0, raw := 0xFFFF, unmeasRun := c.unmeasRun + 1 }
  else if c.stackDerived then
    let others := (List.range n).filter (· != j)
    match slook r.stackVs m with
    | some st =>
      if others.all (fun i => (own i).isSome) then
        done (some ((st : Int) - others.foldl (fun a i => a + ((own i).map (·.1)).getD 0) 0)) 5 { c with unmeasRun := 0 }
      else done none 1 { c with unmeasRun := c.unmeasRun + 1 }
    | none => done none 1 { c with unmeasRun := c.unmeasRun + 1 }
  else if c.pairSum then
    let other := match (s.breaksOf (modPort m)).find? (fun b => b.1 == m && (wireCells n b.2).contains j) with
      | some b => if b.2 = j then j - 1 else j + 1
      | none => j
    match own j, own other with
    | some a, some b => done (some (roundR (((a.1 + b.1 : Int) : Rat) / 2))) 3 { c with unmeasRun := 0 }
    | _, _ => done none 1 { c with unmeasRun := c.unmeasRun + 1 }
  else if r.heldCells.contains k then
    if c.heldRun < 5 ∧ c.lastGood ≠ 0xFFFF then
      done (some c.lastGood) 16 { c with heldRun := c.heldRun + 1 }
    else done none 1 { c with heldRun := c.heldRun + 1, unmeasRun := c.unmeasRun + 1 }
  else
    match own j with
    | some (v, comp) =>
      done (some v) (at_ 3 (b2n comp)) { c with raw := v.toNat, lastGood := v.toNat, heldRun := 0, unmeasRun := 0 }
    | none => done none 1 { c with raw := 0xFFFF, heldRun := 0, unmeasRun := c.unmeasRun + 1 }

/-! ### Classification (R122, Table 04.4) -/

def medianI (l : List Int) : Rat :=
  let m := sortNat (l.map (fun v => (v + 1000000).toNat))
  median m - 1000000

/-- Patterns of Table 04.4: deviant cells and suspected wires; whether the stack path is mismatched. -/
def classify (n : Nat) (d : List (Option Rat)) (dd : Rat) (delta eps : Rat) : List Nat × List Nat × Bool :=
  let a := fun (j : Nat) => match d.getD j none with | some v => v | none => 0
  let big := (List.range n).filter (fun j => decide (delta ≤ absR (a j)))
  let quiet := fun (l : List Nat) => (List.range n).all (fun j => l.contains j || decide (absR (a j) < delta / 2))
  let small := decide (absR dd ≤ eps)
  match big with
  | [] => ([], if small then [] else [0, n], !small)
  | [j] =>
    if small && quiet [j] then ([j], [], false)
    else if j = 0 ∧ absR (dd + a 0) ≤ eps then ([], [0], false)
    else if j + 1 = n ∧ absR (dd + a j) ≤ eps then ([], [n], false)
    else ([j], wiresOf [j], false)
  | [i, j] =>
    if j = i + 1 ∧ a i * a j < 0 ∧ absR (a i + a j) ≤ delta / 2 ∧ small = true then ([], [j], false)
    else if j = i + 1 ∧ 0 < a i * a j ∧ small = true then ([i, j], [], false)
    else ([i, j], wiresOf [i, j], false)
  | l =>
    let run := decide (l.length = (l.getLastD 0) + 1 - (l.headD 0))
    let same := l.all (fun j => decide (0 < a j)) || l.all (fun j => decide (a j < 0))
    if run && same && small then (l, [], false) else (l, wiresOf l, false)
where wiresOf (l : List Nat) : List Nat := (l.flatMap (fun j => [j, j + 1])).eraseDups

/-- Values, flags and classification of a module in one epoch. -/
def State.moduleEpoch (s : State) (r : RawEpoch) (m : Nat) : State :=
  let p := modPort m
  let n := s.nCells m
  let vals := (List.range n).map (fun j => s.cellValue r m n j)
  let s := (vals.zipIdx).foldl (fun s v => s.setCell (16 * m + v.2)
    { v.1.2.2 with vPrev := v.1.2.2.v, v := match v.1.1 with | some x => x.toNat | none => 0xFFFF }) s
  let clean : List (Option Int) := vals.map (fun v => if v.2.1 % 2 = 1 ∨ v.2.1 / 16 % 2 = 1 then none else v.1)
  let stack := slook r.stackVs m
  let dNow : Option Int := match stack with
    | some st => if clean.all (·.isSome) then some ((st : Int) - clean.foldl (fun a v => a + v.getD 0) 0) else none
    | none => none
  let h := (s.mod m).hist
  let s := match stack with
    | some st => s.updMod m (fun x => { x with stack := word st, stackValid := true, stackSeen := true })
    | none => s.updMod m (fun x => { x with stackValid := false })
  let s := s.updMod m (fun x => { x with hist := ((clean, dNow) :: h).take 10 })
  let s := foldS (List.range n) (fun s j => s.updCell (16 * m + j) (fun c => { c with deviantLeft := c.deviantLeft - 1 })) s
  match h[9]? with
  | none => s
  | some (old, dOld) =>
    let ch : List (Option Int) := (List.range n).map (fun j =>
      match clean.getD j none, old.getD j none with | some a, some b => some (a - b) | _, _ => none)
    let got := ch.filterMap id
    if got = [] then s
    else
      let med := medianI got
      let d : List (Option Rat) := ch.map (fun c => c.map (fun v => (v : Rat) - med))
      let dd : Rat := match dNow, dOld with | some a, some b => ((a - b : Int) : Rat) | _, _ => 0
      let (dev, wires, mis) := classify n d dd s.wbDelta s.wbEps
      let at0 := fun (j : Nat) => rw ((d.getD j none).getD 0)
      let s := foldS dev (fun s j =>
        let s := if (s.cell (16 * m + j)).deviantLeft = 0 then
            (s.log 0x0205 [word p, word (modHop m), word j, at0 j, rw dd]).raise pCELL 0 else s
        s.updCell (16 * m + j) (fun c => { c with deviantLeft := 10, flags := c.flags ||| 32#16 })) s
      let s := foldS wires (fun s w =>
        let s := if (s.mod m).patterned.contains w ∨ mis = true then s else
          (s.log 0x0201 [word p, word (modHop m), word w, at0 (w - 1), at0 w, rw dd]).raise pCELL 1
        s.suspect m w) s
      let s := if mis && !(s.mod m).stackMismatch then
          let res := b2n (s.wire (17 * m)).broken + at_ 1 (b2n (s.wire (17 * m + n)).broken)
          (s.log 0x0206 [word p, word (modHop m), rw dd, word res]).raise pCELL 4 else s
      s.updMod m (fun x => { x with stackMismatch := mis, patterned := wires })

/-! ### Wire-resistance learning (R134, R135) -/

/-- Cells stepped: 0, 1, 3, 5 and so on up to the top cell. -/
def learnSteps (n : Nat) : List Nat :=
  let l := (List.range n).filter (fun j => j == 0 || j % 2 == 1)
  if l.contains (n - 1) then l else l ++ [n - 1]

/-- Port p learns: module, cell, and whether the next conversion has the shuttle on (even epochs of a step). -/
def State.learnCell (s : State) (p : Nat) : Option (Nat × Nat × Bool) :=
  match (s.port p).learn with
  | some (i, k, e) => let m := 40 * p + i; some (m, (learnSteps (s.nCells m)).getD k 0, e % 2 == 0)
  | none => none
/-- The phase after (i, k, e) on port p: 8 pairs of epochs a step, every step of every module. -/
def State.learnNext (s : State) (p i k e : Nat) : Option (Nat × Nat × Nat) :=
  if e < 15 then some (i, k, e + 1)
  else if k + 1 < (learnSteps (s.nCells (40 * p + i))).length then some (i, k + 1, 0)
  else if i + 1 < (s.port p).hFound then some (i + 1, 0, 0)
  else none

def State.startLearn (s : State) (p : Nat) : State :=
  if s.musEn p ∧ (s.port p).learn = none ∧ 0 < (s.port p).hFound then
    s.updPort p (fun t => { t with learn := some (0, 0, 0), learnCmd := false })
  else s
def State.wrlearn (s : State) : State := foldS s.portsUsed (fun s p => s.startLearn p) s

def execWrlearn (o : Origin) (s : State) : Host.Outcome State Fault Refusal := .next (s.toShadow o pCELL 0x008 1#32)
/-- Every 24 h. -/
def execWrlearnPeriodic (s : State) : Host.Outcome State Fault Refusal := .next s.wrlearn

/-- Resistances of a finished step on cell j: mean on-minus-off changes at 1 A. -/
def State.learnResult (s : State) (m j : Nat) : State :=
  let n := s.nCells m
  let k := (s.mod m).learnPairs
  if k = 0 then s
  else
    let dv := fun (i : Nat) => mkRat ((s.mod m).learnSum.getD i 0) k * 10
    let set := fun (s : State) (w : Nat) (r : Rat) => s.updWire (17 * m + w) (fun x => { x with res := (roundR r).toNat, valid := true })
    let s := if 0 < j then set s j (dv (j - 1)) else s
    let s := if j + 1 < n then set s (j + 1) (dv (j + 1)) else s
    let s := if j = 0 then set s 0 (-(dv 0) - dv 1) else s
    if j + 1 = n then set s n (-(dv j) - dv (j - 1)) else s

/-- A module's table is complete. -/
def State.learnModule (s : State) (m : Nat) : State :=
  let n := s.nCells m
  let hi := (List.range (n + 1)).filter (fun w => decide (2500 < (s.wire (17 * m + w)).res))
  let s := s.updMod m (fun x => { x with tableValid := (List.range (n + 1)).all (fun w => (s.wire (17 * m + w)).valid) })
  let s := foldS hi (fun s w => s.updWire (17 * m + w) (fun x => { x with highr := true })) s
  match hi with
  | [] => s.updMod m (fun x => { x with wireRecorded := false })
  | w :: _ =>
    if (s.mod m).wireRecorded then s
    else ((s.updMod m (fun x => { x with wireRecorded := true })).logN 0x0209
      [modPort m, modHop m, w, (s.wire (17 * m + w)).res]).raise pCELL 7

/-- One phase of learning with the values of the epoch that carried it; a pair without every reading or a current is not used. -/
def State.learnEpoch (s : State) (r : RawEpoch) (ph : Nat × Nat × Nat × Nat) : State :=
  let (p, i, k, e) := ph
  let m := 40 * p + i
  let n := s.nCells m
  let v : List Int := (List.range n).filterMap (fun j => (slook r.volts (16 * m + j)).map (fun x => (x : Int)))
  let sn := sget {} r.snaps (s.strOfPort p)
  let cur : Int := match sn.inst with | some u => toUnits (s.scaleI (s.strOfPort p) sn u) | none => 0
  let s := if e % 2 = 0 then
      let z := decide (e = 0)
      s.updMod m (fun x => { x with learnOn := if sn.inst.isSome then v else [], learnI := cur, learnSum := if z then [] else x.learnSum, learnPairs := if z then 0 else x.learnPairs })
    else if sn.inst.isSome ∧ v.length = n ∧ (s.mod m).learnOn.length = n ∧ absI (cur - (s.mod m).learnI) < 500 then
      let sum := (List.range n).map (fun j => (s.mod m).learnSum.getD j 0 + (s.mod m).learnOn.getD j 0 - v.getD j 0)
      s.updMod m (fun x => { x with learnPairs := x.learnPairs + 1, learnSum := sum })
    else s
  if e < 15 then s
  else
    let steps := learnSteps n
    let s := s.learnResult m (steps.getD k 0)
    if k + 1 < steps.length then s
    else
      let s := s.learnModule m
      if i + 1 < (s.port p).hFound then s
      else s.updPort p (fun t => { t with state := if t.state = .enumerating then .running else t.state })

end Sys2Proof.Machine
end

