-- ==== Sys2Proof/Machine/Estimator.lean ====
section
/-! DEFINITION. State estimation: cell tables, counting, rest and pseudo-rest corrections, model identification, floors, capacity
learning, summaries (06). SOC, σ, ε_C and D in %, charge in C, capacity in Ah, voltages in mV, resistances in mΩ, times in s. -/
namespace Sys2Proof.Machine

/-! ### Cell tables (R161) -/

/-- Index of a string's cell table among those of the generation, 15 where it has none. -/
def State.tabIx (s : State) (x : Nat) : Nat :=
  ((List.range 15).find? (fun i => s.item 14 (1050 * i + 1) == 1 && s.item 14 (1050 * i) == s.item 12 x)).getD 15
def State.tabHw (s : State) (x k : Nat) : Nat := (s.item 14 (1050 * s.tabIx x + k)).toNat
def State.tabOk (s : State) (x : Nat) : Bool := decide (s.tabIx x < 15)
def State.tBp (s : State) (x : Nat) : List Int :=
  if s.tabOk x then (List.range 5).map (fun i => toSigned 16 (s.tabHw x (2 + i))) else [-100, 50, 150, 250, 450]
def State.tRelax (s : State) (x : Nat) : List Nat :=
  if s.tabOk x then (List.range 5).map (fun i => s.tabHw x (7 + i)) else [14400, 7200, 3600, 1800, 1200]
def State.hSwing (s : State) (x : Nat) : Rat := if s.tabOk x ∧ s.tabHw x 37 ≠ 0 then mkRat (s.tabHw x 37) 100 else 5
def State.etaC (s : State) (x : Nat) : Rat := if s.tabOk x ∧ s.tabHw x 38 ≠ 0 then mkRat (s.tabHw x 38) 10000 else 1

/-- Segment and fraction of temperature t between ascending breakpoints, clamped at the ends. -/
def bpPos (bp : List Int) (t : Int) : Nat × Rat :=
  let n := bp.length
  if t ≤ bp.getD 0 0 then (0, 0)
  else if bp.getD (n - 1) 0 ≤ t then (n - 1, 0)
  else
    let i := ((List.range (n - 1)).find? (fun i => decide (t < bp.getD (i + 1) 0))).getD 0
    (i, mkRat (t - bp.getD i 0) (bp.getD (i + 1) 0 - bp.getD i 0).toNat)
def between (p : Nat × Rat) (f : Nat → Rat) : Rat := if p.2 = 0 then f p.1 else f p.1 + p.2 * (f (p.1 + 1) - f p.1)

/-- Branches at a temperature: discharge and charge, 101 points each, mV. -/
def State.branches (s : State) (x : Nat) (t : Int) : List Rat × List Rat :=
  let p := bpPos (s.tBp x) t
  let f := fun (off k : Nat) => between p (fun i => mkRat (s.tabHw x (off + 101 * i + k)) 10)
  ((List.range 101).map (f 40), (List.range 101).map (f 545))
def blend (h : Rat) (b : List Rat × List Rat) : List Rat := List.zipWith (fun d c => (1 - h) * d + h * c) b.1 b.2

/-- Segment that holds a SOC. -/
def socSeg (soc : Rat) : Nat := if soc ≤ 0 then 0 else Nat.min soc.floor.toNat 99
/-- Slope in mV per % of the segment that holds a SOC. -/
def slopeAt (c : List Rat) (soc : Rat) : Rat := c.getD (socSeg soc + 1) 0 - c.getD (socSeg soc) 0
/-- Curve at a SOC, clamped outside 0 to 100 %. -/
def curveAt (c : List Rat) (soc : Rat) : Rat :=
  let x := clampR 0 100 soc
  c.getD (socSeg x) 0 + (x - (socSeg x : Rat)) * slopeAt c x
/-- SOC at which a curve takes a voltage, clamped to 0 to 100 %; the lower end of a flat piece. -/
def curveInv (c : List Rat) (v : Rat) : Rat :=
  if v ≤ c.getD 0 0 then 0 else if c.getD 100 0 ≤ v then 100 else
    let k := ((List.range 100).find? (fun k => decide (v ≤ c.getD (k + 1) 0))).getD 99
    let m := c.getD (k + 1) 0 - c.getD k 0
    if m = 0 then (k : Rat) else (k : Rat) + (v - c.getD k 0) / m

/-- Model of the table at a temperature: R0, R1, τ1, R2, τ2. -/
def State.tabModel (s : State) (x : Nat) (t : Int) : List Rat :=
  let p := bpPos (s.tBp x) t
  let f := fun (j : Nat) => between p (fun i => ((s.tabHw x (12 + 5 * i + j) : Nat) : Rat))
  [f 0 / 1000, f 1 / 1000, f 2 / 10, f 3 / 1000, f 4 / 10]
def State.relaxAt (s : State) (x : Nat) (t : Int) : Rat :=
  between (bpPos (s.tBp x) t) (fun i => (((s.tRelax x).getD i 0 : Nat) : Rat))

/-! ### Settings -/

/-- I_REST of a string, mA (R160). -/
def State.iRest (s : State) (x : Nat) : Rat := minR (s.cNom x * 5) ((s.fld pEST 0x020 31 16 : Rat) * 10)
def State.gT (s : State) : Rat := (s.fld pEST 0x030 31 22 : Rat) / 1000
def State.gQ (s : State) : Rat := (s.fld pEST 0x030 21 12 : Rat) / 1000
def State.epsG (s : State) : Rat := (s.fld pEST 0x030 11 0 : Rat) / 1000
def State.vFull (s : State) : Rat := (s.fld pEST 0x024 31 16 : Rat) / 10
def State.vShut (s : State) : Rat := (s.fld pEST 0x024 15 0 : Rat) / 10
def State.slopeMin (s : State) : Rat := (s.fld pEST 0x038 31 16 : Rat) / 100
def State.sigmaV (s : State) : Rat := (s.fld pEST 0x038 15 0 : Rat) / 100
def State.slopeLearn (s : State) : Rat := (s.fld pEST 0x034 15 0 : Rat) / 100
def State.tSec (s : State) : Rat := mkRat s.time.tEpochMs 1000
/-- PS_EPOCHS (R169). -/
def State.psEpochs (s : State) : Nat := s.fld pEST 0x104 23 16 * 60000 / s.time.tEpochMs
def State.modelDiv (s : State) : Nat := s.fld pEST 0x100 15 0

/-! ### Temperature of a cell for the estimator (R160) -/

/-- A valid reading since start from a sensor that enters the cell's temperature. -/
def State.tempGood (s : State) (m j : Nat) : Bool :=
  let mine := s.sensorsOf m j
  (if mine = [] then List.range (s.mon m).temps else mine).any (fun i => (s.temp (8 * m + i)).good)
def State.estTemp (s : State) (m j : Nat) : Int := if s.tempGood m j then (s.cellTemp m j).1 else 250

/-! ### What an epoch brings -/

/-- Current of a string in an epoch. -/
structure StrIn where
  /-- Charge with I_hold × t_gap, C. -/
  q : Rat
  iMean : Option Rat
  iInst : Option Rat
  gap : Bool
  /-- 100 × I_bound × t_gap / 3600 (R157). -/
  sigGap : Rat
  deriving DecidableEq, Repr

/-- What one cell is computed from in an epoch. -/
structure CellIn where
  x : Nat
  m : Nat
  j : Nat
  /-- Sample instant and number of the epoch. -/
  t : Nat
  n : Nat
  str : StrIn
  /-- Charge the shuttles of the module give the cell, its growth of σ_rand × C, and |charge| (R187, R188). -/
  qSh : Rat
  sSh : Rat
  qAbs : Rat
  /-- Voltage, none where UNMEASURED; it is the cell's own; it is HELD; an exclusion of R162 holds; UNMEASURED or HELD. -/
  v : Option Rat
  own : Bool
  held : Bool
  excl : Bool
  temp : Int
  tGood : Bool
  /-- The rest clock, s; a new temperature reading. -/
  clock : Rat
  tNew : Bool
  /-- The epoch is computed in catch-up form (R494). -/
  late : Bool
  deriving DecidableEq, Repr

/-! ### Counting and uncertainty (R156–R159, R187, R188) -/

def Ctx.sigmaInt (c : Ctx) (epsG : Rat) : Rat :=
  let ss := (c.epsC + epsG) / 100 * absR c.acc
  minR (sqrtR (c.sigR * c.sigR + ss * ss)) 50

def State.countCell (s : State) (k : CellIn) (c : Ctx) : Ctx × Rat :=
  let q := if 0 < k.str.q then s.etaC k.x * k.str.q else k.str.q
  let cap := if c.cap = 0 then 1 else c.cap
  let dsoc := 100 * (q + k.qSh) / (3600 * cap)
  let broken := (s.cell (16 * k.m + k.j)).pairSum || (s.cell (16 * k.m + k.j)).stackDerived
  let gt := if broken then 4 * s.gT else s.gT
  let sr := c.sigR + gt * s.tSec / 3600 + s.gQ * absR dsoc / 100 + k.str.sigGap / cap + 100 * k.sSh / (3600 * cap)
  let h := clampR 0 1 (c.h + dsoc / s.hSwing k.x)
  let soc := clampR (-5) 105 (c.soc + dsoc)
  let rest := c.rest.map (fun p => { p with q := p.q + q, qsh := p.qsh + k.qAbs, void := p.void || k.str.gap })
  let c := { c with soc := soc, acc := c.acc + dsoc, h := h, sigR := sr, aRef := c.aRef + absR dsoc, counted := c.counted + dsoc,
                    thru := c.thru + absR q / 3600, rest := rest }
  ({ c with sig := c.sigmaInt s.epsG }, dsoc)

/-! ### Corrections (R162, R165, R169) -/

/-- SOC_ocv, σ_ocv and slope at a voltage; none where a condition of R162 on the voltage or the slope fails. -/
def State.ocvAt (s : State) (x : Nat) (t : Int) (h v : Rat) (range : Bool) : Option (Rat × Rat × Rat) :=
  let b := s.branches x t
  let c := blend h b
  let soc := curveInv c v
  let m := slopeAt c soc
  if (range && (decide (v < c.getD 0 0) || decide (c.getD 100 0 < v))) || decide (m < s.slopeMin) || decide (m ≤ 0) then none
  else
    let w := (curveAt b.2 soc - curveAt b.1 soc) * minR h (1 - h)
    some (soc, sqrtR (s.sigmaV * s.sigmaV + w * w) / m, m)

/-- σ at or below 20 % clears UNKNOWN; D then takes its target at once (R177, R185). -/
def Ctx.clearUnknown (c : Ctx) (epsG : Rat) : Ctx :=
  let r := c.sigmaInt epsG
  let span := c.sHi - c.sLo
  let c := { c with sig := r }
  if c.unknown && decide (r * 100 ≤ 20 * span) then { c with unknown := false, fresh := true } else c

/-- The correction of R162 with its anchor. -/
def Ctx.ocvCorrect (c : Ctx) (epsG soc sig : Rat) : Ctx :=
  let d := c.sig * c.sig + sig * sig
  let k := if d = 0 then 0 else c.sig * c.sig / d
  ({ c with soc := c.soc + k * (soc - c.soc), sigR := sqrtR (1 - k) * c.sig, acc := 0, forcedZero := false, aRef := 0 }).clearUnknown epsG

/-- Capacity learning from the previous rest point to a new one (R165). -/
def State.capLearn (s : State) (k : CellIn) (c : Ctx) (a : RestPt) (soc sig : Rat) : State × Ctx :=
  let d := soc - a.soc
  let most := s.fld pEST 0x034 23 16 * 86400
  if absR d < (s.fld pEST 0x034 31 24 : Rat) ∨ a.void = true ∨ sNs most < k.t - a.at_ ∨ (s.mon k.m).unverified = true ∨
      c.cap * 72 < a.qsh ∨ d = 0 then (s, c)
  else
    let cm := a.q / (36 * d)
    let head := [word (modPort k.m), word (modHop k.m), word k.j]
    if cm ≤ 0 ∨ c.cap < 5 * absR (cm - c.cap) then
      ((s.log 0x0404 (head ++ [rw (cm * 100), rw (c.cap * 100)])).raise pEST 8, c)
    else
      let em := 100 * sqrtR (a.sigma * a.sigma + sig * sig) / absR d + s.epsG
      let w := c.epsC * c.epsC + em * em
      let kc := if w = 0 then 0 else c.epsC * c.epsC / w
      let cap := c.cap + kc * (cm - c.cap)
      let e := c.epsC * sqrtR (1 - kc)
      ((s.log 0x0403 (head ++ [rw (c.cap * 100), rw (cap * 100), rw (e * 1000)])).raise pEST 7,
        { c with cap := cap, epsC := e, new_ := false })

/-- The rest correction of a cell that becomes AT_REST, and what follows from it. -/
def State.restCell (s : State) (k : CellIn) (c : Ctx) : State × Ctx :=
  let c := { c with restTried := true }
  match k.v with
  | none => (s, c)
  | some v =>
    if k.excl then (s, c)
    else
      match s.ocvAt k.x k.temp c.h v true with
      | none => (s, c)
      | some (soc, sig, m) =>
        let c := { c.ocvCorrect s.epsG soc sig with lastRest := some k.t }
        if m < s.slopeLearn ∨ (s.mon k.m).unverified = true then (s, c)
        else
          let (s, c) := match c.rest with
            | some a => s.capLearn k c a soc sig
            | none => (s, c)
          (s, { c with rest := some { soc := soc, sigma := sig, at_ := k.t, q := 0, qsh := 0, void := false } })

/-- The pseudo-rest correction of R169. -/
def State.pseudoCell (s : State) (k : CellIn) (c : Ctx) : Ctx :=
  let period := s.fld pEST 0x104 23 16 * 60
  let recent := match c.lastRest with | some t => decide (k.t < t + sNs period) | none => false
  if !c.modelValid || c.atRest || recent || k.excl || !k.tGood then c
  else
    match s.ocvAt k.x k.temp c.h (c.u + c.eocv) false with
    | none => c
    | some (soc, _, m) =>
      let sp := ((s.fld pEST 0x108 31 16 : Rat) / 100 + sqrtR c.eSq) / m
      let d := c.sig * c.sig + sp * sp
      let w := if d = 0 then 0 else (s.fld pEST 0x104 31 24 : Rat) / 100 * (c.sig * c.sig) / d
      ({ c with soc := c.soc + w * (soc - c.soc), sigR := sqrtR ((1 - w) * (1 - w) * c.sig * c.sig + w * w * sp * sp),
                acc := 0 }).clearUnknown s.epsG

/-! ### Model identification (R167, R168) -/

def dot (a b : List Rat) : Rat := (List.zipWith (· * ·) a b).foldl (· + ·) 0
def p0 : List (List Rat) := (List.range 6).map (fun i => (List.range 6).map (fun j => if i = j then Config.rlsDiagonal else 0))
def matVec (p : List (List Rat)) (v : List Rat) : List Rat := p.map (dot v)

/-- R0, R1, τ1, R2, τ2 and the OCV offset of θ; none unless both poles are real and lie in (0, 1). The faster pole is the first. -/
def modelOf (theta : List Rat) (tm : Rat) : Option (List Rat × Rat) :=
  let t := fun (i : Nat) => theta.getD i 0
  let disc := t 1 * t 1 + 4 * t 2
  if disc ≤ 0 then none
  else
    let r := sqrtR disc
    let (a, b) := ((t 1 - r) / 2, (t 1 + r) / 2)
    if a ≤ 0 ∨ 1 ≤ a ∨ b ≤ 0 ∨ 1 ≤ b ∨ a = b then none
    else
      let num := fun (z : Rat) => (t 4 + t 3 * t 1) * z + t 5 + t 3 * t 2
      let r1 := num a / ((a - b) * (1 - a))
      let r2 := num b / ((b - a) * (1 - b))
      some ([t 3, r1, -tm / lnR a, r2, -tm / lnR b], t 0 / (1 - t 1 - t 2))

/-- θ of a model (R179). -/
def thetaOf (r0 r1 tau1 r2 tau2 tm : Rat) : List Rat :=
  let a := if tau1 = 0 then 0 else expNeg (tm / tau1)
  let b := if tau2 = 0 then 0 else expNeg (tm / tau2)
  [0, a + b, -(a * b), r0, -(r0 * (a + b)) + r1 * (1 - a) + r2 * (1 - b), r0 * a * b - r1 * (1 - a) * b - r2 * (1 - b) * a]

def State.tm (s : State) : Rat := (s.modelDiv : Rat) * s.tSec

/-- Restarts the identification from the parameters held. -/
def State.rlsReset (s : State) (c : Ctx) : Ctx :=
  { c with theta := thetaOf c.r0 c.r1 c.tau1 c.r2 c.tau2 s.tm, p := p0, y1 := 0, y2 := 0, i1 := 0, i2 := 0, sumV := 0, sumQ := 0,
           nSum := 0, nV := 0, excMean := 0, excVar := 0, eSq := 0, modelSince := none, modelValid := false }

/-- The conditions of R168 in a model period. -/
def State.modelOk (s : State) (k : CellIn) (c : Ctx) : Bool :=
  let tab := s.tabModel k.x k.temp
  let exc := (s.fld pEST 0x104 7 0 : Rat) / 100 * s.cNom k.x
  let res := (s.fld pEST 0x104 15 8 : Rat) / 10
  match modelOf c.theta s.tm with
  | none => false
  | some (p, _) =>
    let g := fun (i : Nat) => p.getD i 0
    let inR := fun (i : Nat) => decide (tab.getD i 0 ≤ 4 * g i) && decide (g i ≤ 4 * tab.getD i 0)
    let inT := fun (i : Nat) => decide (1/2 ≤ g i) && decide (g i ≤ 5000)
    decide (exc * exc ≤ c.excVar) && decide (c.eSq ≤ res * res) && inT 2 && inT 4 && inR 0 && inR 1 && inR 3

/-- The update of R167 with one model period: Σ V, Q, epochs, epochs with a voltage, U. -/
def State.modelUpdate (s : State) (k : CellIn) (c : Ctx) (per : List Rat) : Ctx :=
  let lam : Rat := 1 - (s.fld pEST 0x100 31 16 : Rat) / 1000000
  let i := per.getD 1 0 / (per.getD 2 1 * s.tSec)
  let u := per.getD 4 0
  let mean := lam * c.excMean + (1 - lam) * i
  let var := lam * c.excVar + (1 - lam) * (i - mean) * (i - mean)
  let (sumV, nV) := (per.getD 0 0, per.getD 3 0)
  let c := { c with excMean := mean, excVar := var, u := u }
  if nV = 0 then { c with i2 := c.i1, i1 := i }
  else
    let y := sumV / nV - u
    let phi := [1, c.y1, c.y2, i, c.i1, c.i2]
    let e := y - dot phi c.theta
    let exc := (s.fld pEST 0x104 7 0 : Rat) / 100 * s.cNom k.x
    let pp := matVec c.p phi
    let den := lam + dot phi pp
    let go := decide (exc * exc ≤ var) && den != 0
    let g := pp.map (· / den)
    let theta := if go then List.zipWith (fun t w => t + w * e) c.theta g else c.theta
    let p := if go then List.zipWith (fun row w => List.zipWith (fun v z => (v - w * z) / lam) row pp) c.p g else c.p
    let c := { c with theta := theta, p := p, eSq := lam * c.eSq + (1 - lam) * e * e, y2 := c.y1, y1 := y, i2 := c.i1, i1 := i }
    if s.modelOk k c then
      match modelOf c.theta s.tm with
      | some (m, off) =>
        let since := c.modelSince.getD k.t
        { c with modelSince := some since, modelValid := decide (since + sNs (60 * s.fld pEST 0x108 15 0) ≤ k.t),
                 r0 := m.getD 0 0, r1 := m.getD 1 0, tau1 := m.getD 2 0, r2 := m.getD 3 0, tau2 := m.getD 4 0, eocv := off }
      | none => c
    else { c with modelSince := none, modelValid := false }

/-- Sums of the running period. A period that ends is updated with, after those that an epoch in catch-up form deferred (R494). -/
def State.modelCell (s : State) (k : CellIn) (c : Ctx) : Ctx :=
  let c := { c with sumQ := c.sumQ + k.str.q, nSum := c.nSum + 1, sumV := c.sumV + k.v.getD 0, nV := c.nV + b2n k.v.isSome }
  let c := if s.modelDiv = 0 ∨ k.n % s.modelDiv ≠ 0 then c
    else
      let u := curveAt (blend c.h (s.branches k.x k.temp)) c.soc
      { c with periods := c.periods ++ [[c.sumV, c.sumQ, (c.nSum : Rat), (c.nV : Rat), u]], sumQ := 0, nSum := 0, sumV := 0, nV := 0 }
  if k.late then c else { c.periods.foldl (fun d per => s.modelUpdate k d per) c with periods := [] }

/-- R0, R1, τ1, R2, τ2 in use: identified while MODEL_VALID, else the table's. -/
def State.modelUse (s : State) (k : CellIn) (c : Ctx) : List Rat :=
  if c.modelValid then [c.r0, c.r1, c.tau1, c.r2, c.tau2] else s.tabModel k.x k.temp

/-- RC states at the end of the epoch. -/
def State.rcCell (s : State) (k : CellIn) (c : Ctx) : Ctx :=
  let p := s.modelUse k c
  let i := k.str.iMean.getD 0
  let f := fun (v r tau : Rat) => if tau = 0 then r * i else let e := expNeg (s.tSec / tau); v * e + r * i * (1 - e)
  { c with v1 := f c.v1 (p.getD 1 0) (p.getD 2 0), v2 := f c.v2 (p.getD 3 0) (p.getD 4 0) }

/-! ### Scale, floors and report (R163, R164, R173, R174) -/

/-- S_lo and S_hi; 0 and 100 where the table gives no span. I_REF_DIS and I_TAPER in C of C_NOM. -/
def State.scaleCell (s : State) (x : Nat) (t : Int) (m : List Rat) : Rat × Rat :=
  let b := s.branches x t
  let rdc := m.getD 0 0 + m.getD 1 0 + m.getD 3 0
  let lo := curveInv b.1 (s.vShut + (s.fld pEST 0x028 31 16 : Rat) / 1000 * s.cNom x * rdc)
  let hi := curveInv b.2 (s.vFull - (s.fld pEST 0x028 15 0 : Rat) / 1000 * s.cNom x * rdc)
  if lo < hi then (lo, hi) else (0, 100)

def Ctx.rc (c : Ctx) : Rat := 100 * (c.soc - c.sLo) / (c.sHi - c.sLo)
def Ctx.sigRep (c : Ctx) : Rat := c.sig * 100 / (c.sHi - c.sLo)
/-- ε_C widened by a re-anchoring step Δ (R173 step 2). -/
def Ctx.widen (c : Ctx) (delta : Rat) : Rat :=
  let a := if c.aRef < 20 then 20 else c.aRef
  let w := 100 * delta / (2 * a)
  minR 10 (sqrtR (c.epsC * c.epsC + w * w))

/-- Forced zero (R174). -/
def State.forceZero (s : State) (k : CellIn) (c : Ctx) (v : Rat) : State × Ctx :=
  let s := (s.log 0x0402 [word (modPort k.m), word (modHop k.m), word k.j, rw (c.rc * 100), rw (v * 10)]).raise pEST 1
  (s, { c with epsC := c.widen (c.rc * (c.sHi - c.sLo) / 100), soc := c.sLo, d := 0, forcedZero := true, counted := 0 })

/-- Floor and EMPTY_HOLD (R173): the context and the floor in force. -/
def State.emptyCell (s : State) (k : CellIn) (c : Ctx) : State × Ctx × Option Rat :=
  match k.v, k.str.iInst with
  | some v, some i =>
    let p := s.modelUse k c
    let vir := v - i * p.getD 0 0 - c.v1 - c.v2
    let x := curveInv (blend c.h (s.branches k.x k.temp)) vir
    let socv := 100 * (x - c.sLo) / (c.sHi - c.sLo)
    if socv < 2 then (s, c, none)
    else
      let f := maxR (1/2) (socv - 2 * c.sigRep)
      if c.rc ≤ 0 ∧ c.emptyHold = false then
        let dl := x - c.soc
        let was := c.sigRep
        let c := { c with epsC := c.widen dl, soc := x, sigR := sqrtR (c.sig * c.sig + dl * dl / 4), acc := 0, emptyHold := true, counted := 0 }
        let c := { c with sig := c.sigmaInt s.epsG }
        let s := (s.log 0x0401 [word (modPort k.m), word (modHop k.m), word k.j, rw (socv * 100), rw (f * 100), rw (was * 100),
          rw (c.sigRep * 100)]).raise pEST 0
        (s, c, some f)
      else (s, c, some f)
  | _, _ => (s, c, none)

/-- D and the flags that end (R164, R173, R174). -/
def State.reportCell (s : State) (c : Ctx) (dsoc : Rat) (floor : Option Rat) (forced : Bool) : Ctx :=
  let span := c.sHi - c.sLo
  let target := match floor with | some f => maxR c.rc f | none => c.rc
  let dc := 100 * dsoc / span
  let step := (s.fld pEST 0x02C 15 0 : Rat) / 100 * s.tSec / 60
  let d := if c.unknown then 50
    else if forced then 0
    else if c.fresh then clampR 0 100 target
    else clampR 0 100 (c.d + dc + clampR (-step) step (target - c.d - dc))
  let left := decide (1 ≤ c.counted)
  let met := c.emptyHold && decide (c.rc ≤ d)
  { c with d := d, fresh := c.fresh && c.unknown, emptyHold := c.emptyHold && !left && !met, forcedZero := c.forcedZero && !left }

/-- One cell in one epoch, in the order of R175. -/
def State.estCell (s : State) (k : CellIn) : State :=
  let ix := 16 * k.m + k.j
  let c := s.ctx ix
  if !c.started then s
  else
    let (c, dsoc) := s.countCell k c
    let rest := k.tGood && decide (0 < k.clock) && decide (s.relaxAt k.x k.temp ≤ k.clock)
    let c := { c with atRest := rest, restTried := c.restTried && decide (0 < k.clock) }
    let (s, c) :=
      if (rest && !c.restTried) || (c.correctFirst && k.tGood) then s.restCell k { c with correctFirst := false }
      else if s.psEpochs ≠ 0 ∧ k.n % s.psEpochs = 0 then (s, s.pseudoCell k c)
      else (s, c)
    let c := { s.modelCell k c with correctFirst := false }
    let c := s.rcCell k c
    let sc := if k.tNew || c.fresh then s.scaleCell k.x k.temp (s.modelUse k c) else (c.sLo, c.sHi)
    let c := { c with sLo := sc.1, sHi := sc.2 }
    -- a PAIR_SUM cell stands with half its pair sum (R174)
    let low := match k.v with | some v => ((k.own && !k.held) || (s.cell ix).pairSum) && decide (v ≤ s.vShut) | none => false
    let c := { c with shutRun := if low then c.shutRun + 1 else 0 }
    let force := low && decide (3 ≤ c.shutRun) && decide (0 < c.rc)
    let (s, c, fl) :=
      if force then (let (s, c) := s.forceZero k c (k.v.getD 0); (s, c, none))
      else if c.rc ≤ 10 ∧ k.own = true then s.emptyCell k c
      else (s, c, none)
    let c := s.reportCell c dsoc fl force
    let un := (s.mon k.m).unverified
    let bits := b2n c.atRest + at_ 1 (b2n c.modelValid) + at_ 2 (b2n c.restored) + at_ 3 (b2n c.unknown) + at_ 4 (b2n c.new_) +
      at_ 5 (b2n un) + at_ 6 (b2n c.forcedZero) + at_ 7 (b2n c.emptyHold)
    let relax := if s.est.restore < 2 then
        (match k.v with | some v => (k.t, toUnits (v * 10) |>.toNat) :: c.relax.filter (fun e => decide (k.t ≤ e.1 + sNs 60)) | none => c.relax)
      else []
    (s.setCtx ix { c with restored := false, relax := relax }).updCell ix (fun e =>
      { e with flags := BitVec.ofNat 16 (e.flags.toNat % 256 + 256 * bits) })

/-- A cell that has no context yet shows UNKNOWN, and the restore wait gathers its voltages. -/
def State.waitCell (s : State) (m j t : Nat) (v : Nat) : State :=
  let ix := 16 * m + j
  if (s.ctx ix).started then s
  else
    let s := if v = 0xFFFF then s else s.updCtx ix (fun c =>
      { c with relax := (t, v) :: c.relax.filter (fun e => decide (t ≤ e.1 + sNs 60)) })
    s.updCell ix (fun e => { e with flags := BitVec.ofNat 16 (e.flags.toNat % 256 + 0x0800 + at_ 13 (b2n (s.mon m).unverified)) })

/-! ### Shuttle charge of an interval (R187, R188, R194–R196) -/

/-- Part in ns of the interval from a to b that the intervals of a list take. -/
def overlap (a b : Nat) (l : List (Nat × Nat)) : Nat := l.foldl (fun t e => t + (Nat.min b e.2 - Nat.max a e.1)) 0
/-- Time in ns a shuttle ran between two instants, with its current: newest segment first. Tests of the module pause it (R196). -/
def segRun (ps : List (Nat × Nat)) (a b : Nat) : List (Nat × Nat × Int) → Nat → List (Nat × Int)
  | [], _ => []
  | (f, u, i) :: t, cap =>
    let e := Nat.min (Nat.min u cap) b
    let st := Nat.max f a
    (if st < e then [(e - st - overlap st e ps, i)] else []) ++ segRun ps a b t f
/-- An OPENWIRE has left at instant t for hop h of port p: the module's shuttles pause from its arrival until the test ends. -/
def State.wirePause (s : State) (p h m t : Nat) : State :=
  let f := t + ((s.port p).tU + (h - 1) * (s.port p).tHop) / 16
  s.updShutMod m (fun x => { x with pauses := (f, f + msNs (s.fld pCELL 0x028 15 8)) :: x.pauses.take 7 })

/-- Pieces (ton in s, current in A) of a cell's shuttle in the interval from a to b that ends with epoch n. The balance pause, from
150 µs before a conversion to 50 µs after it, is excluded unless measure-under-shuttle is enabled. -/
def State.shutPieces (s : State) (a b n m j : Nat) : List (Rat × Rat) :=
  let p := modPort m
  let temp := (s.modsOf p).any (fun i => (s.mod i).near) || (s.port p).tempEpoch == some (word (n - 1))
  let (a, b) := if s.musEn p then (a, b) else (a + (if temp then 250000 else 100000), b - 150000)
  (segRun (s.shutMod m).pauses a b (s.shut (16 * m + j)).segs b).map (fun e => (mkRat e.1 1000000000, mkRat e.2 50))

/-- q_sh, σ_rand growth (A s) and |q_sh| of the cells of a module between two instants. -/
def State.shutCharge (s : State) (a b e m : Nat) : List (Rat × Rat × Rat) :=
  let n := s.nCells m
  let eta : Rat := (s.fld pBAL 0x100 15 0 : Rat) / 1000
  let v := fun (j : Nat) => let w := (s.cell (16 * m + j)).vPrev; if w = 0xFFFF then (0 : Rat) else (w : Rat)
  let vs := (List.range n).foldl (fun t j => t + v j) 0
  let ps := (List.range n).map (fun j => s.shutPieces a b e m j)
  let give := (ps.zipIdx).foldl (fun t p => p.1.foldl (fun t e =>
    let sj := if vs = 0 ∨ eta = 0 then 0 else if 0 < e.2 then eta * e.2 * v p.2 / vs else e.2 * v p.2 / (eta * vs)
    t + sj * e.1) t) (0 : Rat)
  let grow := fun (e : Rat × Rat) => if e.2 = 0 then 0 else (absR e.2 / 100 + 1/200) * e.1
  let each := ps.map (fun l => l.foldl (fun t e => t + grow e) 0)
  let sum := each.foldl (· + ·) 0
  let full := ps.foldl (fun t l => l.foldl (fun t e => t + absR e.2 * e.1) t) (0 : Rat)
  (List.range n).map (fun j =>
    let q := give - (ps.getD j []).foldl (fun t e => t + e.2 * e.1) 0
    let g := if (s.shutMod m).unanswered then full
      else each.getD j 0 + (if n = 0 then 0 else (sum - each.getD j 0) / (n : Rat))
    (q, g, absR q))

/-! ### Strings (R157, R160, R170, R171) -/

/-- Current input of string x in the acquired epoch r. -/
def State.strIn (s : State) (r : RawEpoch) (x : Nat) : StrIn :=
  let n := sget {} r.snaps x
  let p := (s.chan x).prev.getD {}
  let (q, i) := s.chargeOf x p n
  let dG := n.g - p.g
  let gap := decide (0 < dG) || (s.chan x).prev.isNone
  let tGap : Rat := mkRat dG 10000000
  let hold : Rat := mkRat (s.sctx x).iHold 1000
  let lim := fun (j : Nat) => absR (mkRat (sget 0 s.limits (4 * x + j)) 1000)
  let bound := maxR (lim 0) (lim 1)
  let lost := decide (n.flags % 2 = 1)
  { q := q / 1000000 + hold * tGap, iMean := if lost then none else i.map (· / 1000), iInst := n.inst.map (fun u => s.scaleI x n u / 1000),
    gap := gap, sigGap := 100 * bound * tGap / 3600 }

/-- Rest clock, I_hold and the noise of the start-up judging. -/
def State.strClock (s : State) (x t : Nat) (k : StrIn) : State :=
  let quiet := match k.iMean with | some i => decide (absR i * 1000 < s.iRest x) | none => false
  s.updSctx x (fun c =>
    { c with rest := if quiet && !k.gap then c.rest + s.tEpoch else 0, noRest := c.noRest + s.tEpoch,
             iHold := if k.gap then c.iHold else toUnits ((k.iMean.getD 0) * 1000), noisyAt := if quiet then c.noisyAt else some t })

/-- Cells of a string: (module, cell). -/
def State.cellsOf (s : State) (x : Nat) : List (Nat × Nat) :=
  (s.modsOf x).flatMap (fun m => (List.range (s.nCells m)).map (fun j => (m, j)))

/-- The estimator region of the epoch for string x. -/
def State.estString (s : State) (r : RawEpoch) (x tPrev : Nat) : State :=
  let k := s.strIn r x
  let s := s.strClock x r.t k
  let clock := mkRat (s.sctx x).rest 1000000000
  let s := foldS (s.modsOf x) (fun s m =>
    let sh := s.shutCharge tPrev r.t r.epoch.toNat m
    foldS (List.range (s.nCells m)) (fun s j =>
      let c := s.cell (16 * m + j)
      let f := c.flags.toNat
      let fb := fun (i : Nat) => f / 2 ^ i % 2 == 1
      let e := sh.getD j (0, 0, 0)
      let v : Option Rat := if fb 0 && !(fb 1) && !(fb 2) then none else if c.v = 0xFFFF then none else some (mkRat c.v 10)
      if (s.ctx (16 * m + j)).started then
        s.estCell { x := x, m := m, j := j, t := r.t, n := r.epoch.toNat, str := k, qSh := e.1, sSh := e.2.1, qAbs := e.2.2, v := v,
                    own := !(fb 0) && !(fb 1) && !(fb 2), held := fb 4, excl := fb 0 || fb 1 || fb 2 || fb 4 || fb 6 || fb 7,
                    temp := s.estTemp m j, tGood := s.tempGood m j, clock := clock, tNew := r.tempsRead.contains m, late := r.catchup }
      else s.waitCell m j r.t c.v) s) s
  let cs := s.cellsOf x
  let all := cs != [] && cs.all (fun e => (s.ctx (16 * e.1 + e.2)).atRest)
  s.updSctx x (fun c => { c with noRest := if all then 0 else c.noRest, restReq := c.restReq && !all })

/-- D and σ of a cell as reported. -/
def State.dOf (s : State) (i : Nat) : Rat := if (s.ctx i).unknown then 50 else (s.ctx i).d
def State.sigOf (s : State) (i : Nat) : Rat := if (s.ctx i).unknown then 50 else minR 50 (s.ctx i).sigRep

/-- REST_REQ (R170). -/
def execRestReq (x : Str) (s : State) : Host.Outcome State Fault Refusal :=
  let k := x.val
  let h := s.fld pEST 0x03C 15 0
  if h ≠ 0 ∧ sNs (3600 * h) ≤ (s.sctx k).noRest ∧ (s.sctx k).restReq = false then
    let most := (s.cellsOf k).foldl (fun a e => maxR a (s.relaxAt k (s.estTemp e.1 e.2))) 0
    let w := (most / 60).ceil.toNat * 60
    let s := s.updSctx k (fun c => { c with restReq := true })
    .next (({ s with est := { s.est with restWindow := w } }.logN 0x0408 [k, w]).raise pEST 6)
  else .next s

/-- Every 720 h of operation (R166). -/
def execCapDrift (s : State) : Host.Outcome State Fault Refusal :=
  .next { s with ctxs := s.ctxs.map (fun e => (e.1, if e.2.started then { e.2 with epsC := if 10 < e.2.epsC then e.2.epsC else minR 10 (e.2.epsC + 1/10) } else e.2)),
                 est := { s.est with drift := 0 } }

end Sys2Proof.Machine
end

