-- ==== Sys2Proof/Machine/EstImage.lean ====
section
/-! DEFINITION. Starting and keeping estimator contexts: fallback start, context images, restore slots, module swap (R176–R184, R36,
R419). -/
namespace Sys2Proof.Machine

/-! ### Starting a context (R176) -/

/-- A cell is found AT_REST: its string quiet throughout the wait and the judging interval, its voltage steady over the interval,
which covers at least 10 s. -/
def State.foundAtRest (s : State) (m j : Nat) : Bool :=
  let x := modPort m
  let l := (s.ctx (16 * m + j)).relax.filter (fun e => decide (s.now ≤ e.1 + sNs 60))
  let vs := l.map (·.2)
  let hi := vs.foldl Nat.max 0
  let lo := vs.foldl Nat.min 0xFFFF
  let from_ := Nat.min s.est.restoreFrom (s.now - sNs 60)
  let quiet := match (s.sctx x).noisyAt with | some t => decide (t < from_) | none => true
  let span := (l.headD (0, 0)).1 - (l.getLastD (0, 0)).1
  quiet && decide (sNs 10 ≤ span) && decide ((hi - lo) * 10 ≤ s.fld pEST 0x020 15 0)

/-- Model of the table and the identification restarted. -/
def State.freshModel (s : State) (m j : Nat) (c : Ctx) : Ctx :=
  let p := s.tabModel (modPort m) (s.estTemp m j)
  let c := { c with r0 := p.getD 0 0, r1 := p.getD 1 0, tau1 := p.getD 2 0, r2 := p.getD 3 0, tau2 := p.getD 4 0 }
  let sc := s.scaleCell (modPort m) (s.estTemp m j) p
  s.rlsReset { c with sLo := sc.1, sHi := sc.2 }

/-- A context without any source: C_NOM, CAP_SIG0 (item 28/0, 0.001 %, default 3.0 %), SOC at the midpoint of the scale, UNKNOWN. -/
def State.blankCtx (s : State) (m j : Nat) : Ctx :=
  let c := s.freshModel m j { started := true, cap := s.cNom (modPort m), epsC := (s.itemOr 28 0 3000 : Rat) / 1000 }
  { c with soc := (c.sLo + c.sHi) / 2 }

/-- SOC_ocv and σ_ocv of a cell now, where R162 allows a correction. -/
def State.ocvNow (s : State) (m j : Nat) (h : Rat) : Option (Rat × Rat) :=
  let c := s.cell (16 * m + j)
  let f := c.flags.toNat
  let bad := [0, 1, 2, 4, 6, 7].any (fun i => f / 2 ^ i % 2 == 1)
  if bad ∨ c.v = 0xFFFF ∨ s.tempGood m j = false then none
  else (s.ocvAt (modPort m) (s.estTemp m j) h (mkRat c.v 10) true).map (fun e => (e.1, e.2.1))

/-- Fallback 3 of R176. -/
def State.fallbackCell (s : State) (m j : Nat) : State :=
  let c := s.blankCtx m j
  let c := if s.foundAtRest m j then
      match s.ocvNow m j c.h with
      | some (soc, sig) => { c.ocvCorrect s.epsG soc sig with atRest := true, restTried := true, lastRest := some s.now }
      | none => c
    else c
  s.setCtx (16 * m + j) c

/-! ### Module swap (R182) -/

/-- A module answers with another serial: its contexts restart, NEW. -/
def State.moduleSwap (s : State) (m : Nat) (serial : DWord) : State :=
  let old := (s.mon m).ctxSerial
  let s := s.updMon m (fun x => { x with ctxSerial := serial, opHours := 0, opFrom := s.now })
  let s := foldS (List.range 16) (fun s j => (s.fallbackCell m j).updCtx (16 * m + j) (fun c => { c with new_ := true })) s
  (s.log 0x0407 ([word (modPort m), word (modHop m)] ++ two old.toNat ++ two serial.toNat)).raise pEST 5

/-- Compares a reported serial with the one in the contexts: another one restarts them at the next epoch. -/
def State.serialSeen (s : State) (m : Nat) (serial : DWord) : State :=
  s.updMon m (fun x => { x with swap := if x.ctxSerial ≠ 0#64 ∧ x.ctxSerial ≠ serial then some (serial, s.nextN) else none })
/-- Swaps whose epoch has come. -/
def State.applySwaps (s : State) (n : Word) : State :=
  foldS (s.portsUsed.flatMap s.modsOf) (fun s m =>
    match (s.mon m).swap with
    | some (serial, a) => if newer32 a n then s else (s.moduleSwap m serial).updMon m (fun x => { x with swap := none })
    | none => s) s

/-! ### Context images (Tables 06.6–06.8) -/

def nat16 (r : Rat) : Nat := satU 16 (toUnits r).toNat

/-- Cell record of 32 bytes. -/
def State.cellRecord (s : State) (m j : Nat) : List Byte :=
  let c := s.ctx (16 * m + j)
  let ex := decide (j < s.nCells m)
  let fl := b2n ex + at_ 1 (b2n c.modelValid) + at_ 2 (b2n c.new_) + at_ 3 (b2n c.unknown) + at_ 4 (b2n c.forcedZero) + at_ 5 (b2n c.emptyHold)
  if !ex then List.replicate 32 0#8
  else
    leBytes 4 (ofSigned 32 (toUnits (c.soc * 10000000))) ++ leBytes 2 (nat16 (c.sig * 1000)) ++ leBytes 2 (nat16 (c.epsC * 1000)) ++
    leBytes 4 (satU 32 (toUnits (c.cap * 1000)).toNat) ++ leBytes 2 (nat16 (c.r0 * 1000)) ++ leBytes 2 (nat16 (c.r1 * 1000)) ++
    leBytes 2 (nat16 (c.tau1 * 10)) ++ leBytes 2 (nat16 (c.r2 * 1000)) ++ leBytes 2 (nat16 (c.tau2 * 10)) ++
    leBytes 2 (nat16 (c.h * 65535)) ++ leBytes 4 (satU 32 (toUnits (c.thru * 10)).toNat) ++ leBytes 2 fl ++ [0#8, 0#8]

def zeros (n : Nat) : List Byte := List.replicate n 0#8

/-- OP_HOURS of a module. -/
def State.opHours (s : State) (m : Nat) : Nat := (s.mon m).opHours + (s.now - (s.mon m).opFrom) / sNs 3600

def State.moduleRecord (s : State) (m : Nat) : List Byte :=
  leBytes 8 (s.mon m).ctxSerial.toNat ++ [BitVec.ofNat 8 (modHop m), BitVec.ofNat 8 (s.nCells m), 0#8, 0#8] ++
    leBytes 4 (s.opHours m) ++ zeros 16 ++ (List.range 16).flatMap (s.cellRecord m)

/-- Image of port p after the epoch. -/
def State.imageOf (s : State) (p : Nat) (epoch : Word) : List Byte :=
  let body := (s.modsOf p).flatMap s.moduleRecord
  let n := (s.port p).hFound
  let h := leBytes 4 0x43580601 ++ [1#8, BitVec.ofNat 8 p, BitVec.ofNat 8 n, 0#8] ++ leBytes 4 epoch.toNat ++
    leBytes 8 s.gen.sectionId.toNat ++ zeros 4 ++ leBytes 4 ((s.sctx p).noRest / 1000000000) ++
    [BitVec.ofNat 8 s.gen.slot] ++ zeros 3 ++ leBytes 4 (544 * n) ++ leBytes 4 (crc32c body).toNat ++ leBytes 4 s.gen.id.toNat ++ zeros 16
  h ++ leBytes 4 (crc32c h).toNat ++ body

/-- Steps 1 to 4 of Table 06.9: none where they pass, else (step, reason). -/
def State.imageCheck (s : State) (l : List Byte) : Option (Nat × Nat) :=
  let p := leAt l 5 1
  let n := leAt l 6 1
  let zero := fun (off len : Nat) => ((l.drop off).take len).all (· == 0#8)
  if (crc32c (l.take 60)).toNat ≠ leAt l 60 4 ∨ leAt l 0 4 ≠ 0x43580601 ∨ leAt l 4 1 ≠ 1 ∨ zero 7 1 = false ∨ zero 29 3 = false ∨
      zero 44 16 = false then some (1, 1)
  else if leAt l 12 8 ≠ s.gen.sectionId.toNat then some (2, 2)
  else if s.portEn p = false ∨ n ≠ (s.port p).hFound then some (3, 3)
  else if leAt l 32 4 ≠ 544 * n ∨ (crc32c ((l.drop 64).take (544 * n))).toNat ≠ leAt l 36 4 then some (4, 4)
  else none

/-- Context of a cell record. `age`: hours, none where unknown. Items 28/1 and 28/2: SD_RATE and SD_SIG, 0.001 % per hour. -/
def State.ctxOf (s : State) (m j : Nat) (b : List Byte) (age : Option Rat) : Ctx :=
  let w := fun (off : Nat) => ((leAt b off 2 : Nat) : Rat)
  let fl := leAt b 28 2
  let bit := fun (i : Nat) => fl / 2 ^ i % 2 == 1
  let old := s.ctx (16 * m + j)
  let soc := (toSigned 32 (leAt b 0 4) : Rat) / 10000000
  let (dSoc, dSig) := match age with | some a => (a * s.itemOr 28 1 2 / 1000, a * s.itemOr 28 2 1 / 1000) | none => (0, 10)
  let c : Ctx :=
    { started := true, soc := soc - dSoc, sigR := w 4 / 1000 + dSig, epsC := w 6 / 1000, cap := ((leAt b 8 4 : Nat) : Rat) / 1000,
      r0 := w 12 / 1000, r1 := w 14 / 1000, tau1 := w 16 / 10, r2 := w 18 / 1000, tau2 := w 20 / 10, h := w 22 / 65535,
      thru := ((leAt b 24 4 : Nat) : Rat) / 10, new_ := bit 2, unknown := bit 3, forcedZero := bit 4, emptyHold := bit 5,
      d := old.d, fresh := !old.started || old.unknown, atRest := old.atRest, restTried := old.restTried, relax := old.relax }
  let sc := s.scaleCell (modPort m) (s.estTemp m j) (s.tabModel (modPort m) (s.estTemp m j))
  let c := s.rlsReset { c with sLo := sc.1, sHi := sc.2 }
  { c with sig := c.sigmaInt s.epsG }

/-- Steps 5 to 7 for one module of an image at its apply epoch. `late`: only UNKNOWN cells are taken. `mirror`: an image of R181, whose
contexts the active device already runs: no check at rest, not RESTORED. Answers the cells taken. -/
def State.applyModule (s : State) (m : Nat) (b : List Byte) (age : Option Rat) (late mirror : Bool) : State × Nat :=
  let serial := BitVec.ofNat 64 (leAt b 0 8)
  if !(s.mon m).verified && !mirror then (s.updMon m (fun x => { x with unverified := true }), 0)
  else if !mirror && (serial != (s.mon m).serial || leAt b 9 1 != s.nCells m) then (s.moduleSwap m (s.mon m).serial, 0)
  else
    let s := s.updMon m (fun x => { x with ctxSerial := serial, opHours := leAt b 12 4, opFrom := s.now })
    let tol : Rat := (s.fld pEST 0x040 7 0 : Rat) / 10
    let (s, n, rej, dev) := (List.range (s.nCells m)).foldl (fun (acc : State × Nat × Nat × Rat) j =>
      let (s, n, rej, dev) := acc
      let ix := 16 * m + j
      if late && !(s.ctx ix).unknown then (s, n, rej, dev)
      else
        let c := s.ctxOf m j ((b.drop (32 + 32 * j)).take 32) age
        if mirror then (s.setCtx ix c, n + 1, rej, dev)
        else if s.foundAtRest m j then
          match s.ocvNow m j c.h with
          | some (soc, sig) =>
            let d := absR (c.soc - soc)
            if d * d ≤ tol * tol * (c.sig * c.sig + sig * sig) then
              (s.setCtx ix { c with restored := true, correctFirst := true }, n + 1, rej, dev)
            else
              (s.setCtx ix { c with soc := soc, sigR := sig, acc := 0, sig := sig, restored := true }, n + 1, rej + 1, maxR dev d)
          | none => (s.setCtx ix { c with restored := true }, n + 1, rej, dev)
        else (s.setCtx ix { c with restored := true }, n + 1, rej, dev)) (s, 0, 0, 0)
    let s := if rej = 0 then s else (s.log 0x0406 [word (modPort m), word (modHop m), word rej, rw (dev * 100)]).raise pEST 4
    (s, n)

/-- A whole image at its apply epoch (R36, R179, R181). -/
def State.applyImage (s : State) (i : StagedImage) (mirror : Bool) : State :=
  let l := i.bytes
  let p := i.port
  let age : Option Rat := if leAt l 20 4 = 0xFFFFFFFF then none else some (mkRat (leAt l 20 4) 3600)
  let late := i.late
  let (s, n) := (s.modsOf p).zipIdx.foldl (fun (acc : State × Nat) e =>
    let (t, k) := acc.1.applyModule e.1 ((l.drop (64 + 544 * e.2)).take 544) age late mirror
    (t, acc.2 + k)) (s, 0)
  let s := s.updSctx p (fun c => { c with noRest := leAt l 24 4 * 1000000000 })
  let bit : BitVec 48 := 1#48 <<< p
  let est := if i.fromPartner then { s.est with mirrored := s.est.mirrored + n, portsMirrored := s.est.portsMirrored ||| bit }
    else { s.est with restored := s.est.restored + n }
  { s with est := { est with portsDone := s.est.portsDone ||| bit } }

/-- Swaps and images whose epoch has come. -/
def State.applyStaged (s : State) (n : Word) : State :=
  let due := fun (i : StagedImage) => match i.apply with | some a => !newer32 a n | none => true
  let now := s.est.staged.filter due
  let s := { s.applySwaps n with est := { s.est with staged := s.est.staged.filter (fun i => !due i) } }
  foldS now (fun s i => s.applyImage i i.apply.isNone) s

/-! ### Restore slots (R419) -/

/-- A write into the restore window. -/
def State.restoreWrite (s : State) (addr : Nat) (v : Word) : Except Refuse State :=
  let k := addr / 0x8000 % 16
  let r := s.rslot k
  if r.st = .validating then .error .mode
  else
    .ok (s.setRslot k { r with mem := r.mem.writeWord (addr % 0x8000 / 4 * 4) v, written := true,
                               st := if r.st = .submitted then .submitted else .empty, step := if r.st = .submitted then r.step else 0,
                               reason := if r.st = .submitted then r.reason else 0, apply := if r.st = .submitted then r.apply else 0 })

def execRestoreSlotWrite (addr v : Word) (s : State) : Host.Outcome State Fault Refusal :=
  match s.restoreWrite addr.toNat v with
  | .ok t => .next (t.answer .host 0 [])
  | .error e => .next (s.answer .host e.code [])

/-- The next submitted image starts its validation. -/
def State.validateNext (s : State) : State :=
  match s.rqueue with
  | k :: _ => if (s.rslot k).st = .submitted then s.updRslot k (fun r => { r with st := .validating }) else s
  | [] => s

/-- HOST.RSUBMIT. -/
def State.rsubmit (s : State) (v : Word) : Except Refuse State :=
  let k := field v 3 0
  let r := s.rslot k
  if !r.written || (r.st != .empty) then .error .format
  else .ok ({ s.updRslot k (fun r => { r with st := .submitted }) with rqueue := s.rqueue ++ [k] }).validateNext

def execRsubmit (o : Origin) (v : Word) (s : State) : Host.Outcome State Fault Refusal := .next (s.served o pHOST 0x024 (s.rsubmit v))

/-- Result of a slot. -/
def State.slotResult (s : State) (k : Nat) (st : SlotState) (step reason : Nat) (apply : Half) : State :=
  (({ s.updRslot k (fun r => { r with st := st, step := step, reason := reason, apply := apply }) with
      rqueue := s.rqueue.drop 1 }).raise pHOST 3).validateNext

/-- Late images serve only UNKNOWN cells of a string that has not closed since start (R177). -/
def State.lateOk (s : State) (p : Nat) : Bool :=
  (s.str p).closedAt == 0 && (s.str p).st != .closed && (s.cellsOf p).any (fun e => (s.ctx (16 * e.1 + e.2)).unknown)

/-- The image under validation is decided: staged with its apply epoch and mirrored, or refused. -/
def execImageValidated (s : State) : Host.Outcome State Fault Refusal :=
  match s.rqueue with
  | [] => .next s
  | k :: _ =>
    if (s.rslot k).st ≠ .validating then .next s
    else
      let l := (s.rslot k).mem.read 0 21824
      let p := leAt l 5 1
      let refuse := fun (step reason : Nat) =>
        ((s.logN 0x0405 [p, 0, step, reason]).raise pEST 3).slotResult k .refused step reason 0
      match s.imageCheck l with
      | some (st, r) => .next (refuse st r)
      | none =>
        if s.est.portsMirrored.getLsbD p then .next (refuse 0 5)
        else if 2 ≤ s.est.restore ∧ s.lateOk p = false then .next (refuse 0 6)
        else
          let a := s.nextN
          let bytes := l.take (64 + 544 * leAt l 6 1)
          let im : StagedImage := { port := p, bytes := bytes, apply := some a, fromPartner := false, slot := some k,
                                     late := decide (2 ≤ s.est.restore) }
          let s := { s with est := { s.est with staged := s.est.staged ++ [im] } }
          let s := if s.pair.hasPartner then s.sendPair 0x12 (word 1 :: a :: wordsOf bytes) else s
          .next (s.slotResult k .applied 0 0 (a.setWidth 16))

/-! ### Captured images (R180) and the end of the wait (R177) -/

/-- EST.CTRL.IMG_NOW, RESTORE_DONE: epoch-aligned writes. -/
def execImgNow (o : Origin) (s : State) : Host.Outcome State Fault Refusal := .next (s.toShadow o pEST 0x008 2#32)
def execRestoreDone (o : Origin) (s : State) : Host.Outcome State Fault Refusal := .next (s.toShadow o pEST 0x008 1#32)

/-- Ports captured after epoch n, on the active device; a dual-ended string counts under its lower port. -/
def State.captureDue (s : State) (n : Word) : List Nat :=
  let m := s.fld pEST 0x040 15 8 * 60000 / s.time.tEpochMs
  if !s.active then []
  else if s.est.imgNow then s.strings
  else if m = 0 then []
  else s.strings.filter (fun p => n.toNat % m == p * m / 48)

/-- The restore wait ends: cells without a context start by fallback (R176). Code 2 complete or RESTORE_DONE, 3 timeout. -/
def State.restoreEndNow (s : State) (code : Nat) : State :=
  if s.est.restore = 1 then
    let cs := (s.portsUsed.flatMap s.cellsOf)
    let todo := cs.filter (fun e => !(s.ctx (16 * e.1 + e.2)).started)
    let s := foldS todo (fun s e => s.fallbackCell e.1 e.2) s
    let s := foldS (s.portsUsed.flatMap s.modsOf) (fun s m =>
      s.updMon m (fun x => { x with ctxSerial := if x.ctxSerial = 0#64 then x.serial else x.ctxSerial })) s
    let unk := (cs.filter (fun e => (s.ctx (16 * e.1 + e.2)).unknown)).length
    let ocv := (todo.filter (fun e => (s.ctx (16 * e.1 + e.2)).atRest)).length
    let cx : Store Ctx := s.ctxs.map (fun e => (e.1, { e.2 with relax := [] }))
    let s := { s with est := { s.est with restore := code }, ctxs := cx }
    (s.logN 0x0409 [s.est.mirrored, s.est.restored, ocv, unk]).raise pEST 2
  else s

/-- Every port in use restored or mirrored. -/
def State.restoreComplete (s : State) : Bool := s.portsUsed.all (fun p => s.est.portsDone.getLsbD p)

/-- S_lo and S_hi of every context under a new generation (R163). -/
def State.rescaleAll (s : State) : State :=
  foldS (s.portsUsed.flatMap s.cellsOf) (fun s e =>
    let c := s.ctx (16 * e.1 + e.2)
    let t := s.estTemp e.1 e.2
    let sc := s.scaleCell (modPort e.1) t (if c.modelValid then [c.r0, c.r1, c.tau1, c.r2, c.tau2] else s.tabModel (modPort e.1) t)
    if c.started then s.setCtx (16 * e.1 + e.2) { c with sLo := sc.1, sHi := sc.2 } else s) s

end Sys2Proof.Machine
end

