-- ==== Sys2Proof/Machine/Auth.lean ====
section
/-! DEFINITION. Module authentication (R482–R486). -/
namespace Sys2Proof.Machine

/-- CHALLENGE of port p and hop h for an epoch (R482). -/
def State.challenge (s : State) (p h : Nat) (e : Word) : List Byte :=
  let key := match s.keySet with | some k => k.challenge | none => zeros 32
  (hmac key (leBytes 8 s.gen.sectionId.toNat ++ leBytes 4 e.toNat ++ leBytes 8 (s.tOf e) ++
    [s.term, BitVec.ofNat 8 p, BitVec.ofNat 8 h])).take 12

/-- MAC a compatible monitor answers (R483). -/
def State.monitorMac (s : State) (chal serial : List Byte) : List Byte :=
  let key := match s.keySet with | some k => k.plant | none => zeros 32
  (hmac (hmac key ([0x41#8, 0x4B#8, 0x31#8, 0x36#8] ++ serial)) (chal ++ serial)).take 8

/-- The module has been challenged in the epoch in progress. -/
def State.challengedNow (s : State) (m : Nat) : Bool := s.auth.sent.any (fun e => e.1 == m && e.2.1 == s.time.epoch)

/-- Sends one challenge, from the active device alone; at most one to a monitor in an epoch. -/
def State.authChallenge (s : State) (p h : Nat) : State :=
  let m := s.modOf p h
  if !s.active then s
  else if s.challengedNow m then
    { s with auth := { s.auth with round := if s.auth.round.contains m then s.auth.round else s.auth.round ++ [m] } }
  else
    let sent := (m, s.time.epoch, s.tOf s.time.epoch, s.term) :: s.auth.sent.filter (fun e => e.2.1 == s.time.epoch)
    { s.sendAdhoc p 0x09 h (s.challenge p h s.time.epoch) with
      auth := { s.auth with sent := sent, round := s.auth.round.filter (· != m) } }

/-- One challenge to every module of a port. -/
def State.authPort (s : State) (p : Nat) : State :=
  foldS (List.range (s.hopsServed p)) (fun s i => s.authChallenge p (i + 1)) s

/-- Modules owed a challenge: sent at the sample instant of the next epoch. -/
def State.authPending (s : State) : State :=
  foldS s.auth.round (fun s m => s.authChallenge (modPort m) (modHop m)) s

/-- A full round ends once nothing is owed and no challenge awaits its response. -/
def State.roundCheck (s : State) : State :=
  if s.auth.roundOn && s.auth.round == [] && s.portsUsed.all (fun p => !(s.port p).inFlight.any (fun i => i.frame.typ == 0x09#8)) then
    { s with auth := { s.auth with roundOn := false } }.raise pAUTH 2
  else s

/-- A module becomes UNVERIFIED; with POLICY 2 its closed string opens by a soft disconnect (R486). -/
def State.unverify (s : State) (m : Nat) : State :=
  let x := modPort m
  let s := s.updMon m (fun c => { c with unverified := true })
  let s := if s.fld pAUTH 0x020 31 30 = 2 ∧ s.closed x = true then s.softReq x .site else s
  s.settle x

/-- Table 19.5 on an AUTH_CHAL response from hop h of port p. -/
def State.authResponse (s : State) (p h : Nat) (f : ChainFrame) : State :=
  let m := s.modOf p h
  let sb := f.payload.take 8
  let serial : DWord := BitVec.ofNat 64 (f.pl 0 8)
  let mac := (f.payload.drop 8).take 8
  let e := s.time.epoch
  let good := [e, e - 1#32].any (fun k => s.monitorMac (s.challenge p h k) sb == mac)
  let s := s.updMon m (fun c => { c with authTries := 0 })
  let s := if good && serial == (s.mon m).serial then
      let was := (s.mon m).unverified
      let s := s.updMon m (fun c => { c with verified := true, unverified := false })
      let s := if was then s.logN 0x0D12 [modPort m, modHop m] else s
      (s.serialSeen m serial).settle (modPort m)
    else
      ((s.log 0x0D10 ([word (modPort m), word (modHop m)] ++ two serial.toNat)).raise pAUTH 0).unverify m
  s.roundCheck

/-- No response after the resends: challenged again in the next epoch, at most 10 times. -/
def State.authNoAnswer (s : State) (p h : Nat) : State :=
  let m := s.modOf p h
  let n := (s.mon m).authTries + 1
  let s := s.updMon m (fun c => { c with authTries := n })
  let s := (s.logN 0x0D11 [modPort m, modHop m, n]).raise pAUTH 1
  if n < 11 then { s with auth := { s.auth with round := if s.auth.round.contains m then s.auth.round else s.auth.round ++ [m] } }
  else
    let s := s.updMon m (fun c => { c with authTries := 0 })
    (if (s.mon m).verified then s else s.unverify m).roundCheck

/-- Every module in use, in port and hop order. -/
def State.modulesInUse (s : State) : List Nat := (s.portsUsed.filter (fun p => !s.dualUpper p)).flatMap s.modsOf

/-- AUTH.CTRL.ROUND. -/
def State.authRound (s : State) : State :=
  let s := { s with auth := { s.auth with roundOn := true } }
  (foldS s.modulesInUse (fun s m => s.authChallenge (modPort m) (modHop m)) s).roundCheck

def execRound (o : Origin) (s : State) : Host.Outcome State Fault Refusal :=
  .next (s.served o pAUTH 0x008 (if s.active then .ok s.authRound else .error .mode))

/-- The rotation interval expires: the next module in port and hop order; deferred under shedding stage 2 by at most 10 minutes. -/
def execAuthChallengeDue (s : State) : Host.Outcome State Fault Refusal :=
  let ms := s.modulesInUse
  if !s.active || ms == [] then .next s
  else
    let since := s.auth.deferredSince.getD s.now
    if 2 ≤ s.mgmt.shed ∧ s.now < since + sNs 600 then .next { s with auth := { s.auth with deferredSince := some since } }
    else
      let c := if s.auth.cursor < ms.length then s.auth.cursor else 0
      let m := ms.getD c 0
      let s := { s with auth := { s.auth with cursor := (c + 1) % ms.length, deferredSince := none } }
      .next (s.authChallenge (modPort m) (modHop m))

end Sys2Proof.Machine
end

