-- ==== Sys2Proof/Machine/Landing.lean ====
section
/-! DEFINITION. Landings: the governor, entry and exit, waking (17). -/
namespace Sys2Proof.Machine

/-! ### Landing in force (R444–R449) -/

/-- Changes the landing, counting the residence. -/
def State.setLanding (s : State) (k : Nat) : State :=
  let d := s.now - s.land.since
  { s with land := { s.land with landing := k, since := s.now,
                                 residence := sput s.land.residence s.land.landing (sget 0 s.land.residence s.land.landing + d) } }

def State.landMax (s : State) : Nat := s.fld pLAND 0x008 2 0
/-- The load of each of the latest 16 epochs allows L1 (R448). -/
def State.lightLoad (s : State) : Bool :=
  decide (16 ≤ s.load.last16.length) && s.load.last16.all (fun l => decide (l ≤ s.fld pLAND 0x008 15 8))
/-- L0, or L1 in its place. -/
def State.baseLanding (s : State) : Nat :=
  if s.md = .start ∨ s.md = .dormant ∨ s.landMax = 0 ∨ s.lightLoad = false then 0 else 1

/-- Launch offset of SAMPLE before t_N, ns (R98). -/
def State.launchLead (s : State) (p : Nat) : Nat :=
  let t := s.port p
  (t.tU + (t.hFound - 1) * t.tHop) / 16 + usNs (s.leadUs p)

def minList : List Nat → Option Nat
  | [] => none
  | a :: t => some (t.foldl Nat.min a)

/-- Launches of SAMPLE still to come in the next two epochs. -/
def State.launchesAhead (s : State) : List Nat :=
  if s.time.sampling then
    s.portsUsed.flatMap (fun p =>
      if (s.port p).calibrated then
        [s.nextT - s.launchLead p, s.nextT + s.tEpoch - s.launchLead p].filter (fun t => decide (s.now ≤ t))
      else [])
  else []
def State.timersAhead (s : State) (es : List Nat) : List Nat := es.filterMap (fun e => (s.eng e).timer)
/-- TIMED launches that SLEEP does not hold. -/
def State.canLaunches (s : State) : List Nat :=
  (List.range 4).flatMap (fun x =>
    if s.fld (canPage x) 0x008 5 4 = 0 ∧ (s.can x).mode = .active then
      (List.range 64).filterMap (fun b =>
        let t := s.buf (64 * x + b)
        if t.st = .queued ∧ t.timed = true then some t.launch else none)
    else [])

/-- Time to the next event that landing k would stop; none where none is known. -/
def State.tNext (s : State) (k : Nat) : Option Nat :=
  (minList (if k = 2 then s.launchesAhead ++ s.timersAhead (List.range 14) else s.canLaunches ++ s.timersAhead [13])).map (· - s.now)
def exitNs (k : Nat) : Nat := if k = 2 then 150000 else if k = 3 then 2000000 else 40000000
def breakEvenNs (k : Nat) : Nat := if k = 2 then 300000 else if k = 3 then 20000000 else 2000000000
/-- The mode permits landing k (Table 17.1). -/
def State.landPermitted (s : State) (k : Nat) : Bool :=
  decide (k ≤ s.landMax) &&
    (if s.md = .dormant then decide (3 ≤ k) && !s.land.waking else if s.md = .start then false else k == 2) &&
    (k != 4 || !(s.syncT.lock || (List.range 4).any (fun x => s.fld (canPage x) 0x008 5 4 == 2)))
def State.landFits (s : State) (k : Nat) : Bool :=
  s.landPermitted k &&
    (match s.tNext k with
     | none => true
     | some t => decide (exitNs k + 100000 ≤ t) && decide (breakEvenNs k ≤ t))

/-- Takes n entries out of the append FIFO. -/
def State.galDrain (s : State) : State := foldS (List.range s.gal.fifo.length) (fun s _ => s.galTake) s

/-- Entry into L3 or L4: the FIFO is drained, controllers with a wake mode sleep, the outputs are low (R309, R400, R449). -/
def State.enterDeep (s : State) (k : Nat) : State :=
  let s := foldS (List.range 4) (fun s x =>
    if s.fld (canPage x) 0x008 5 4 = 0 then s else s.updCan x (fun c => { c with mode := .sleep, asleep := true })) s.galDrain
  (s.setLanding k).banEval false

/-- A decision of the governor (R446). -/
def State.landDecide (s : State) : State :=
  let k := if s.landFits 4 then 4 else if s.landFits 3 then 3 else if s.landFits 2 then 2 else s.baseLanding
  let t := s.tNext (if s.md = .dormant then 3 else 2)
  let s := { s with land := { s.land with next := satU 32 ((t.getD (2 ^ 32 * 1000)) / 1000),
                                          exitAt := if k < 2 then none else t.map (fun d => s.now + d - exitNs k - 100000) } }
  if 3 ≤ k then s.enterDeep k else if s.land.landing = k then s else s.setLanding k

/-- MODE of CTRL. -/
def canModeOf (n : Nat) : CanMode := if n = 1 then .active else if n = 2 then .listen else if n = 3 then .sleep else .off

/-- Back from L3 or L4: the charge counts go on, the controllers return to their MODE, the inputs are evaluated again (R151, R309,
R400). -/
def State.leaveDeep (s : State) : State :=
  let n := (s.now - s.land.since) / 100
  let s := foldS s.strings (fun s x => s.updChan x (fun c => if c.lost then c else { c with g := c.g + n })) s
  let s := foldS (List.range 4) (fun s x =>
    if (s.can x).asleep then s.updCan x (fun c => { c with mode := canModeOf (s.fld (canPage x) 0x008 1 0), asleep := false }) else s) s
  ((s.setLanding 0).banReturn).banEval false

/-- The device comes to L0, or L1 in its place. -/
def State.toFull (s : State) : State :=
  let s := { s with land := { s.land with exitAt := none } }
  if 3 ≤ s.land.landing then s.leaveDeep else if s.land.landing = s.baseLanding then s else s.setLanding s.baseLanding
/-- An event not known in advance wakes the data plane from L2 (R447). -/
def State.wakeL2 (s : State) : State := if s.land.landing = 2 then s.toFull else s

/-! ### Steps 6 and 7 (R437, R452) -/

/-- Every port in use: wake pulse, then enumeration. -/
def State.portsStart (s : State) : State :=
  if s.chainMay && s.active then
    foldS s.portsUsed (fun s p => (s.emit (.wakePulse p)).startEnum p) s
  else s

/-- The wake sequence of the device that runs it. -/
def State.wakeSequence (s : State) : State := s.portsStart

/-- Starts the wake sequence, or the wait of the device that was not ACTIVE at entry (R454). -/
def State.startWake (s : State) : State :=
  let s := { s with land := { s.land with waking := true }
                    mode := { s.mode with trans := match s.mode.trans with
                                                   | some t => if t.target = Mode.dormant then none else some t
                                                   | none => none } }
  if s.land.wasActive then s.wakeSequence
  else { s with pair := { s.pair with role := .standby, sync := .syncing, joinStep := 0, waitUntil := some (s.now + sNs 10) } }

/-- The section is dormant, or on its way there. -/
def State.dormantOr (s : State) : Bool :=
  !s.land.waking && (s.md == .dormant || (match s.mode.trans with | some t => t.target == Mode.dormant | none => false))

/-- The WAKE record of a wake. -/
def State.wakeRecord (s : State) : State :=
  if s.land.wakeRec then
    { s with land := { s.land with wakeRec := false, wakePayload := 0 } }.log 0x0C09
      [word s.land.wakeSrc, word s.land.wakePort, s.land.wakePayload]
  else s

/-- Wake slot 0: the device comes to L0 and the wake sequence starts (R221, R451). -/
def State.wakeDevice (s : State) : State :=
  let deep := decide (3 ≤ s.land.landing)
  if deep || s.dormantOr then
    let s := s.toFull.when deep (fun s => s.raise pLAND 0)
    let s := { s with land := { s.land with wakeRec := true, pendPorts := 0, pendOther := 0 } }
    if s.dormantOr then s.startWake else s
  else s
/-- Wake slot 1: WAKE_OUT (R418). -/
def State.assertWakeOut (s : State) : State := { s with dev := { s.dev with wakeOut := true } }

/-- A LOCKOUT request while dormant runs the wake sequence (Table 17.5). -/
def State.lockWake (s : State) : State :=
  if s.dormantOr && s.mode.reqCauses != 0#5 then s.toFull.startWake else s

/-- The governor's wake timer: the device leaves the landing ahead of the next known event. -/
def execLandingExit (s : State) : Host.Outcome State Fault Refusal :=
  match s.land.exitAt with
  | some t => .next (s.reach t).toFull
  | none => .next s

end Sys2Proof.Machine
end

