-- ==== Sys2Proof/Machine/Shuttle.lean ====
section
/-! DEFINITION. The balancing planner: errors, selection, budgets, BAL_SET frames and their responses (07). Currents in units of
20 mA, positive cell to stack. -/
namespace Sys2Proof.Machine

/-! ### Settings -/

def State.etaSh (s : State) : Rat := (s.fld pBAL 0x100 15 0 : Rat) / 1000
/-- Dead band of a string, Ah. -/
def State.balDead (s : State) (x : Nat) : Rat := (s.fld pBAL 0x020 23 16 : Rat) / 10000 * s.cNom x
def State.planDiv (s : State) : Nat := s.fld pBAL 0x020 31 24
/-- Module temperature: highest sensor, broken ones at T_BROKEN (R193). -/
def State.modTMax (s : State) (m : Nat) : Int :=
  match (List.range (s.mon m).temps).map (fun i => s.tempEff (8 * m + i)) with
  | [] => s.tBroken
  | a :: t => t.foldl (fun x y => if x < y then y else x) a
/-- Power budget of a module, W. -/
def State.modPower (s : State) (m : Nat) : Rat :=
  let p : Rat := (s.fld pBAL 0x028 15 0 : Rat) / 1000
  let hi := s.sfld pBAL 0x02C 31 16
  let lo := s.sfld pBAL 0x02C 15 0
  let t := s.modTMax m
  if t ≤ lo then p else if hi ≤ t then 0 else p * mkRat (hi - t) (hi - lo).toNat
/-- Energy budget per 24 h, Wh. -/
def State.eDay (s : State) : Rat := (s.fld pBAL 0x028 31 16 : Rat) / 100

/-! ### Errors (R189, R191) -/

/-- Conditions of Table 07.2 on a module. -/
def State.modBarred (s : State) (m : Nat) : Bool :=
  let x := modPort m
  let w := (List.range (s.nCells m + 1)).map (fun w => s.wire (17 * m + w))
  (s.breaksOf x).any (fun b => b.1 == m) || (s.musEn x && (w.any (·.highr) || !(s.mod m).tableValid)) ||
    (match s.learnCell x with | some l => l.1 == m | none => false) ||
    [0, 1, 2, 3].any (fun q => decide (2 ≤ s.lvl x q)) || decide (s.sfld pBAL 0x02C 31 16 ≤ s.modTMax m) || (s.shutMod m).spent

/-- A cell is eligible. -/
def State.balEligible (s : State) (m j : Nat) : Bool :=
  let f := (s.cell (16 * m + j)).flags.toNat
  let bad := [0, 1, 2, 4, 6, 7].any (fun i => f / 2 ^ i % 2 == 1)
  let c := s.ctx (16 * m + j)
  !bad && c.started && !c.unknown && decide (s.sigOf (16 * m + j) ≤ (s.fld pBAL 0x020 15 8 : Rat) / 10)

def meanL (l : List Rat) : Rat := if l = [] then 0 else l.foldl (· + ·) 0 / (l.length : Rat)

/-- Charge errors e_j in Ah of the eligible cells of a module (Table 07.1); none with fewer than two. -/
def State.balErrors (s : State) (m : Nat) : List (Nat × Rat) :=
  if s.modBarred m then []
  else
    let cs := (List.range (s.nCells m)).filter (s.balEligible m)
    if cs.length < 2 then []
    else
      let d := fun (j : Nat) => s.dOf (16 * m + j)
      let c := fun (j : Nat) => (s.ctx (16 * m + j)).cap
      let t := s.fld pBAL 0x020 1 0
      let q := fun (j : Nat) => if t = 0 then (100 - d j) * c j / 100 else if t = 1 then d j * c j / 100 else d j
      let mean := meanL (cs.map q)
      cs.map (fun j => (j, if t = 0 then mean - q j else if t = 1 then q j - mean else (q j - mean) * c j / 100))

/-! ### Selection (R192, R193) -/

/-- The voltage of a cell lets a shuttle of this direction run. -/
def State.balVolt (s : State) (m j : Nat) (toStack : Bool) : Bool :=
  let v : Rat := mkRat (s.cell (16 * m + j)).v 10
  if toStack then decide (s.vShut + 50 < v) else decide (v < s.vFull - 20)

/-- Loss in W of a shuttle of `i` units on a cell. -/
def State.balLoss (s : State) (m j : Nat) (i : Int) : Rat :=
  let v : Rat := mkRat (s.cell (16 * m + j)).v 10000
  let a : Rat := mkRat (absI i) 50
  if s.etaSh = 0 then 0 else if 0 < i then a * v * (1 - s.etaSh) else a * v * (1 / s.etaSh - 1)

def insErr (a : Nat × Rat) : List (Nat × Rat) → List (Nat × Rat)
  | [] => [a]
  | b :: t => if absR b.2 < absR a.2 then a :: b :: t else b :: insErr a t

/-- Cells in descending |e|, each at I_MAX until the budget ends; the last may run lower, down to 200 mA. -/
def State.balTake (s : State) (m : Nat) (top : Nat) : List (Nat × Rat) → Rat → List (Nat × Int)
  | [], _ => []
  | (j, e) :: t, left =>
    let sgn : Int := if 0 < e then 1 else -1
    let unit := s.balLoss m j sgn
    let full := unit * top
    if full ≤ left then (j, sgn * top) :: s.balTake m top t (left - full)
    else
      let n := if unit ≤ 0 then top else (left / unit).floor.toNat
      if 10 ≤ n then [(j, sgn * n)] else []

/-- The plan of a module. -/
def State.planModule (s : State) (m : Nat) : List (Nat × Int) :=
  let dead := s.balDead (modPort m)
  let es := (s.balErrors m).filter (fun e =>
    let p := (s.shut (16 * m + e.1)).plan
    let goes := p ≠ 0 ∧ (decide (0 < p) = decide (0 < e.2))
    (decide (dead < absR e.2) || (decide goes && decide (dead / 2 < absR e.2))) && s.balVolt m e.1 (decide (0 < e.2)))
  s.balTake m (s.fld pBAL 0x024 7 0) (es.foldr insErr []) (s.modPower m)

/-- Steps 1 and 4 of R192 and Table 07.2 in every epoch: a cell stops and is not restarted before the next plan. -/
def State.balStops (s : State) (m : Nat) : State :=
  let es := s.balErrors m
  let dead := s.balDead (modPort m)
  foldS (List.range (s.nCells m)) (fun s j =>
    let p := (s.shut (16 * m + j)).plan
    if p = 0 then s
    else
      let keep := match es.find? (fun e => e.1 == j) with
        | some e => decide (dead / 2 < absR e.2) && (decide (0 < p) == decide (0 < e.2)) && s.balVolt m j (decide (0 < p))
        | none => false
      if keep then s else s.updShut (16 * m + j) (fun x => { x with plan := 0 })) s

/-- Loss of the interval in the 15 min bins of a module, and its budget (R193). -/
def State.balEnergy (s : State) (m : Nat) (wh : Rat) : State :=
  let b := s.now / sNs 900
  let old := (s.shutMod m).bins.filter (fun e => decide (b < e.1 + 96))
  let bins := match old with
    | e :: t => if e.1 = b then (b, e.2 + wh) :: t else (b, wh) :: old
    | [] => if wh = 0 then [] else [(b, wh)]
  let sum := bins.foldl (fun a e => a + e.2) 0
  let was := (s.shutMod m).spent
  let spent := if was then decide (s.eDay * 9 / 10 ≤ sum) else decide (s.eDay ≤ sum) && decide (0 < sum)
  let s := s.updShutMod m (fun x => { x with bins := bins, spent := spent })
  if spent && !was then (s.log 0x040A [word (modPort m), word (modHop m), rw (sum * 100)]).raise pBAL 0 else s

/-- Loss of a module between two instants, Wh. -/
def State.balLossBetween (s : State) (a b e m : Nat) : Rat :=
  (List.range (s.nCells m)).foldl (fun t j =>
    (s.shutPieces a b e m j).foldl (fun t p => t + s.balLoss m j (toUnits (p.2 * 50)) * p.1 / 3600) t) 0

/-! ### Planning (R190, R198, R199) -/

/-- Capacity-weighted mean D of cells. -/
def State.meanD (s : State) (cs : List (Nat × Nat)) : Rat :=
  let c := cs.foldl (fun a e => a + (s.ctx (16 * e.1 + e.2)).cap) 0
  if c = 0 then meanL (cs.map (fun e => s.dOf (16 * e.1 + e.2)))
  else cs.foldl (fun a e => a + (s.ctx (16 * e.1 + e.2)).cap * s.dOf (16 * e.1 + e.2)) 0 / c
def State.modCells (s : State) (m : Nat) : List (Nat × Nat) := (List.range (s.nCells m)).map (fun j => (m, j))

/-- MODULE_SPREAD, at most one a day per module. -/
def State.spreadCheck (s : State) (m : Nat) (strMean : Rat) : State :=
  let d := s.meanD (s.modCells m) - strMean
  let day := s.now / sNs 86400
  if 2 < absR d ∧ (s.shutMod m).spreadDay ≠ some day then
    ((s.updShutMod m (fun x => { x with spreadDay := some day })).log 0x040C [word (modPort m), word (modHop m), rw (d * 100)]).raise pBAL 2
  else s

/-- Sets the plan of every cell of a string's modules. -/
def State.setPlan (s : State) (ms : List Nat) (f : Nat → List (Nat × Int)) : State :=
  foldS ms (fun s m =>
    let l := f m
    foldS (List.range (s.nCells m)) (fun s j => s.updShut (16 * m + j) (fun x =>
      { x with plan := ((l.find? (fun e => e.1 == j)).map (·.2)).getD 0, missRun := 0 })) s) s

def State.planList (s : State) : List Shuttle :=
  s.modulesInUse.flatMap (fun m => (List.range (s.nCells m)).filterMap (fun j =>
    let p := (s.shut (16 * m + j)).plan
    if p = 0 then none else some { module := m, cell := j, cur := p }))
def shuttleWord (x : Shuttle) : Word := word (at_ 16 x.module + at_ 8 x.cell + ofSigned 8 x.cur)

/-- The planner after the estimator of epoch n, whose interval began at instant a. -/
def State.planEpoch (s : State) (n : Word) (a b : Nat) (late : Bool) : State :=
  let ms := s.modulesInUse
  let s := foldS ms (fun s m => s.balEnergy m (s.balLossBetween a b n.toNat m)) s
  let s := foldS s.strings (fun s x =>
    let mean := s.meanD (s.cellsOf x)
    foldS (s.modsOf x) (fun s m => s.spreadCheck m mean) s) s
  if !s.md.running || !s.bit pBAL 0x008 0 then
    foldS ms (fun s m => (s.setPlan [m] (fun _ => [])).updShutMod m (fun x => { x with had := false })) s
  else
    let due := decide (s.planDiv ≠ 0 ∧ n.toNat % s.planDiv = 0) || s.bal.planOwed
    let s := { s with bal := { s.bal with planOwed := due && late } }
    if due && !late && s.active then
      let s := s.setPlan ms s.planModule
      if s.pair.hasPartner then s.sendPair 0x11 (n :: s.planList.map shuttleWord) else s
    else foldS ms (fun s m => s.balStops m) s

/-- Latest planning epoch before epoch e. -/
def State.planBefore (s : State) (e : Nat) : Nat := if s.planDiv = 0 then 0 else (e - 1) / s.planDiv * s.planDiv

/-- A standby without the mirrored plan of the latest planning epoch sends no BAL_SET. -/
def State.planMissing (s : State) : Bool :=
  s.standby && (match s.bal.mirrored with | some p => decide (p.1.toNat < s.planBefore s.time.epoch.toNat) | none => true)

/-! ### BAL_SET (R194–R197) -/

/-- One byte of a BAL_SET. -/
def balByte (i : Int) : Byte := BitVec.ofNat 8 (if i < 0 then 128 + (-i).toNat else i.toNat)
def State.balTmax (s : State) : Nat := Nat.min 255 (3 * s.time.tEpochMs + 5)

/-- Currents of the BAL_SET of a module in this epoch. -/
def State.balCurrents (s : State) (m : Nat) : List Int :=
  (List.range 16).map (fun j => if (s.shutMod m).zeroNext then 0 else (s.shut (16 * m + j)).plan)

def balPayload (cur : List Int) (tmax : Nat) : List Byte := cur.map balByte ++ [3#8, BitVec.ofNat 8 tmax]

/-- A module gets a scheduled BAL_SET in this epoch: not one whose wires are being learned. -/
def State.balDue (s : State) (m : Nat) : Bool :=
  if s.bal.stale || !s.md.running || (match s.learnCell (modPort m) with | some l => l.1 == m | none => false) then false
  else (s.shutMod m).had || (s.shutMod m).zeroNext || (List.range 16).any (fun j => (s.shut (16 * m + j)).plan != 0)

/-- A BAL_SET has left at instant t for hop h of port p: the shuttles run from its arrival until LIFE or TMAX ends. -/
def State.balSent (s : State) (p h m t : Nat) (cur : List Int) : State :=
  let f := t + ((s.port p).tU + (h - 1) * (s.port p).tHop) / 16
  let u := Nat.min (s.tOf s.time.epoch + 3 * s.tEpoch) (f + msNs s.balTmax)
  let s := foldS (List.range (s.nCells m)) (fun s j =>
    let i := cur.getD j 0
    s.updShut (16 * m + j) (fun x => if i = 0 ∧ x.segs = [] then { x with cmd := 0 } else { x with cmd := i, segs := (f, u, i) :: x.segs.take 7 })) s
  s.updShutMod m (fun x => { x with had := cur.any (· != 0), zeroNext := false })

def setCur (i : Int) : List (Nat × Nat × Int) → List (Nat × Nat × Int)
  | [] => []
  | (f, u, _) :: t => (f, u, i) :: t

/-- The running mask of a BAL_SET response against what was commanded (R197). -/
def State.balResponse (s : State) (m : Nat) (f : ChainFrame) : State :=
  let mask : Half := BitVec.ofNat 16 (f.pl 0 2)
  let n := s.nCells m
  let cmd := bitsOf (fun j => (s.shut (16 * m + j)).cmd != 0) n
  let s := s.updShutMod m (fun x => { x with unanswered := false })
  let s := foldS (List.range n) (fun s j =>
    let x := s.shut (16 * m + j)
    if x.cmd ≠ 0 ∧ mask.getLsbD j = false then
      let k := x.missRun + 1
      s.setShut (16 * m + j) { x with segs := setCur 0 x.segs, missRun := k,
                                      plan := if 3 ≤ k then 0 else x.plan }
    else if x.cmd = 0 ∧ mask.getLsbD j = true then
      let prev := ((x.segs.drop 1).find? (fun e => e.2.2 != 0)).map (·.2.2)
      (s.setShut (16 * m + j) { x with segs := setCur (prev.getD 0) x.segs }).updShutMod m (fun y => { y with zeroNext := true })
    else s.setShut (16 * m + j) { x with missRun := 0 }) s
  if cmd = mask.toNat % 2 ^ n then s
  else (s.logN 0x040B [modPort m, modHop m, cmd, mask.toNat]).raise pBAL 1

/-- No response after the resends. -/
def State.balLost (s : State) (m : Nat) : State := s.updShutMod m (fun x => { x with unanswered := true })

end Sys2Proof.Machine
end

