-- ==== Sys2Proof/Machine/ChainRx.lean ====
section
/-! DEFINITION. Consumers of chain responses (R219), and the RX and TX buffer layouts (R217, R218). -/
namespace Sys2Proof.Machine

/-- Response TYPE of an EMIT slot. -/
def slotType (slot : Nat) : Byte := 0x80#8 ||| ([0x03#8, 0x0C#8, 0x04#8, 0x06#8, 0x05#8, 0x01#8, 0x09#8, 0x0F#8].getD slot 0#8)

/-- A monitor's ENUM response, with the check of its serial (R182). -/
def State.enumConsume (s : State) (p h : Nat) (f : ChainFrame) : State :=
  let s := s.enumResponse p h f
  if s.dualUpper p ∨ h = 0 ∨ 40 < h ∨ f.payload.length < 16 then s
  else s.serialSeen (40 * p + (h - 1)) (BitVec.ofNat 64 (f.pl 0 8))

/-- Hands a response to the consumer of a slot; a refusal (FLAGS.ERR) carries no data. -/
def State.consume (s : State) (slot p : Nat) (f : ChainFrame) : State :=
  let h := f.hop.toNat
  let m := s.modOf p h
  if f.flags.getLsbD 2 ∨ h = 0 ∨ 40 < h then s
  else if slot = 0 then s.cellsResponse m f
  else if slot = 1 then s.stackResponse m f
  else if slot = 2 then s.auxResponse m f
  else if slot = 3 then s.wireResponse p m f
  else if slot = 4 then s.balResponse m f
  else if slot = 5 then s.enumConsume p h f
  else if slot = 6 then s.authResponse p h f
  else s

/-- Slot of a response TYPE. -/
def typeSlot (t : Byte) : Option Nat := (List.range 8).find? (fun k => slotType k == t)

/-! ### Buffers -/

/-- RX buffer of a frame whose last bit arrives now (R218). -/
def rxBuffer (f : ChainFrame) (now : Nat) : List Word := frameWords f (now - afterHcrc f.len.toNat)
/-- The frame an RX buffer holds. -/
def rxFrame (b : List Word) : ChainFrame :=
  let w := b.getD 0 0#32
  let v := b.getD 1 0#32
  let len := field w 31 25
  mkFrame (field w 7 0) (field w 15 14) (field w 13 8) (BitVec.ofNat 8 (field v 23 16)) (BitVec.ofNat 8 (field w 23 16))
    (BitVec.ofNat 16 (field v 15 0)) ((bytesOf (b.drop 3)).take (2 * len))

/-- Stores a frame in a free RX buffer of its port; with none free it is dropped and counted. -/
def State.rxPut (s : State) (p : Nat) (f : ChainFrame) : State × Bool :=
  let r := s.rxp p
  match (List.range 8).find? (fun b => !r.unread.contains b && r.held != some b) with
  | some b => (s.setRxp p { r with bufs := sput r.bufs b (rxBuffer f s.now), unread := r.unread ++ [b] }, true)
  | none => (s.updPort p (fun t => { t with rxDrop := t.rxDrop + 1 }), false)

end Sys2Proof.Machine
end

