-- ==== Sys2Proof/Machine/Operands.lean ====
section
/-! DEFINITION. Operand forms of the stair-code instructions (Tables 08.2, 08.3) and the registers (R204). -/
namespace Sys2Proof.Machine

/-- Register of an engine: s0 reads 0. -/
def Eng.reg (g : Eng) (r : RegIx) : Word := if r = 0 then 0#32 else sget 0#32 g.regs r.val
/-- A write to s0 is discarded. -/
def Eng.setReg (g : Eng) (r : RegIx) (v : Word) : Eng := if r = 0 then g else { g with regs := sset 0#32 g.regs r.val v }

/-- Operand value: mode 0b10 sign-extends, mode 0b11 shifts left by 16. -/
def Eng.opS (g : Eng) : Opnd → Word
  | .reg a => g.reg a
  | .imm a => word a.val
  | .ext w => w.signExtend 32
  | .extHi w => (w.zeroExtend 32) <<< 16
/-- Operand value of AND, OR, XOR, SHL, SHR and SRA: mode 0b10 zero-extends. -/
def Eng.opZ (g : Eng) : Opnd → Word
  | .reg a => g.reg a
  | .imm a => word a.val
  | .ext w => w.zeroExtend 32
  | .extHi w => (w.zeroExtend 32) <<< 16
/-- Extension words of an operand: "(+1)" of Table 08.4. -/
def opExt : Opnd → Nat
  | .reg _ => 0
  | .imm _ => 0
  | .ext _ => 1
  | .extHi _ => 1
def offExt : Option Half → Nat
  | none => 0
  | some _ => 1
/-- Address of LD, ST and LDC: sA plus the sign-extended offset, modulo 2^32 (R209). -/
def Eng.addr (g : Eng) (a : RegIx) (off : Option Half) : Nat :=
  (g.reg a + (match off with | some w => w.signExtend 32 | none => 0#32)).toNat

end Sys2Proof.Machine
end

