-- ==== Sys2Proof/Machine/Flags.lean ====
section
/-! DEFINITION. Arithmetic of the stair code: saturation, the sticky DIV0, comparisons, TLERP (R205, R208, R210). -/
namespace Sys2Proof.Machine

/-- Saturation to 0x8000_0000 and 0x7FFF_FFFF. -/
def sat32 (i : Int) : Word := wordI (satI32 i)
/-- MULQ: the signed 64-bit product shifted right arithmetically by 16, saturated. -/
def mulqW (a b : Word) : Word := sat32 (Int.fdiv (a.toInt * b.toInt) 65536)
/-- DIV truncates toward zero and saturates; division by zero gives the extreme of the sign of the dividend. -/
def divW (a b : Word) : Word :=
  if b = 0#32 then (if 0 ≤ a.toInt then 0x7FFFFFFF#32 else 0x80000000#32) else sat32 (Int.tdiv a.toInt b.toInt)
/-- DIV sets the sticky DIV0 bit on a zero divisor. -/
def Eng.div0Of (g : Eng) (b : Word) : Bool := g.div0 || b == 0#32
def minW (a b : Word) : Word := if b.toInt < a.toInt then b else a
def maxW (a b : Word) : Word := if a.toInt < b.toInt then b else a
/-- Shift counts are the operand modulo 32. -/
def shamt (b : Word) : Nat := b.toNat % 32
def condS (c : Cond) (a b : Word) : Bool :=
  match c with
  | .eq => a == b
  | .ne => a != b
  | .lt => decide (a.toInt < b.toInt)
  | .ge => decide (b.toInt ≤ a.toInt)
def condU (c : Cond) (a b : Word) : Bool :=
  match c with
  | .eq => a == b
  | .ne => a != b
  | .lt => decide (a.toNat < b.toNat)
  | .ge => decide (b.toNat ≤ a.toNat)

/-- Segment of TLERP: y at x between breakpoints; the quotient truncates toward zero. -/
def tlerpSeg : List Int → List Int → Int → Int
  | x1 :: x2 :: xs, y1 :: y2 :: ys, x =>
    if x < x2 then y1 + Int.tdiv ((y2 - y1) * (x - x1)) (x2 - x1) else tlerpSeg (x2 :: xs) (y2 :: ys) x
  | _, y :: _, _ => y
  | _, [], _ => 0
/-- TLERP on breakpoints and values. -/
def tlerpTab (xs ys : List Int) (x : Int) : Int :=
  match xs, ys with
  | x1 :: _, y1 :: _ => if x ≤ x1 then y1 else tlerpSeg xs ys x
  | _, _ => 0
/-- ⌈log2 n⌉. -/
def clog2 (n : Nat) : Nat := if n ≤ 1 then 0 else (n - 1).log2 + 1

end Sys2Proof.Machine
end

