-- ==== Sys2Proof/Machine/Limit.lean ====
section
/-! DEFINITION. What an epoch gives a string, the default limit program, and the stages of the published limits (R171, R235–R240).
Limits in mA and W; slot 4s + j, s = 48 the section; j: charge current, discharge current, charge power, discharge power. -/
namespace Sys2Proof.Machine

/-! ### Values of a string (R236, R239, R241) -/

def maxO (a : Option Int) (b : Int) : Option Int := match a with | some x => some (if x < b then b else x) | none => some b
def minO (a : Option Int) (b : Int) : Option Int := match a with | some x => some (if b < x then b else x) | none => some b

/-- Entry of a cell voltage into V_max (up) or V_min: PAIR_SUM moved toward the limit by PAIR_MARGIN / 2, STACK_DERIVED by
STACK_MARGIN. -/
def State.vEntry (s : State) (i : Nat) (up : Bool) : Option Int :=
  let c := s.cell i
  let f := c.flags.toNat
  if c.v = 0xFFFF then none
  else
    let d : Int := if f / 2 % 2 = 1 then (s.fld pCELL 0x030 31 16 : Int) / 2 else if f / 4 % 2 = 1 then (s.fld pCELL 0x030 15 0 : Int) else 0
    some (if up then (c.v : Int) + d else (c.v : Int) - d)

/-- A cell UNMEASURED other than as PAIR_SUM or STACK_DERIVED. -/
def State.cellUnmeas (s : State) (i : Nat) : Bool :=
  let f := (s.cell i).flags.toNat
  f % 2 == 1 && f / 2 % 2 == 0 && f / 4 % 2 == 0

/-- A sense fault of a module: its end-wire tests were intact and the mismatch is unresolved. -/
def State.mismatchOpen (s : State) (m : Nat) : Bool :=
  let n := s.nCells m
  (s.mod m).stackMismatch && [0, n].all (fun w => !(s.wire (17 * m + w)).broken && decide (0 < (s.wire (17 * m + w)).intactRun))

/-- The values of string x in the epoch r being computed. -/
def State.strEpoch (s : State) (r : RawEpoch) (x : Nat) : StrEp :=
  let ms := s.modsOf x
  let cs := (s.cellsOf x).map (fun e => 16 * e.1 + e.2)
  let k := s.strIn r x
  let ts := (s.cellsOf x).map (fun e => (s.cellTemp e.1 e.2).1)
  let lows := ms.filterMap s.modTMin
  let un := cs.filter s.cellUnmeas
  let sense := fun (i : Nat) => (s.mod (i / 16)).refFault || decide (5 < (s.cell i).heldRun)
  let st := (s.port x).state
  let full := ms.length == s.hExpect x && ms != [] && ms.all (fun m => (s.mod m).stackSeen)
  let d := cs.map s.dOf
  let covered := s.hopsServed x + (if s.dualLower x then s.hopsServed (x + 1) else 0)
  let lost := decide ((sget {} r.snaps x).flags % 2 = 1)
  { vStr := if full then some (ms.foldl (fun a m => a + (s.mod m).stack.toNat) 0) else none
    vMax := cs.foldl (fun a i => match s.vEntry i true with | some v => maxO a v | none => a) none
    vMin := cs.foldl (fun a i => match s.vEntry i false with | some v => minO a v | none => a) none
    tMax := ts.foldl maxO none
    tMin := lows.foldl minO none
    noSensor := ms.any (fun m => (s.modTMin m).isNone)
    tRead := ms.any (fun m => r.tempsRead.contains m)
    dMin := d.foldl minR 100
    dMax := d.foldl maxR 0
    dMean := s.meanD (s.cellsOf x)
    sigMax := cs.foldl (fun a i => maxR a (s.sigOf i)) 0
    capMin := match cs with | [] => 0 | i :: t => t.foldl (fun a j => minR a (s.ctx j).cap) (s.ctx i).cap
    capSum := cs.foldl (fun a i => a + (s.ctx i).cap) 0
    unknown := cs.any (fun i => (s.ctx i).unknown)
    unmeas := un != []
    pairSum := cs.any (fun i => (s.cell i).flags.toNat / 2 % 2 == 1)
    derived := cs.any (fun i => (s.cell i).flags.toNat / 4 % 2 == 1)
    forced := cs.any (fun i => (s.ctx i).forcedZero)
    chainLost := st == .silent || decide (st = .broken) && decide (covered < s.hExpect x) || un.any (fun i => !sense i)
    senseLost := un.any sense || ms.any s.mismatchOpen
    curLost := lost
    iMean := k.iMean.map (fun i => toUnits (i * 1000))
    iInst := k.iInst.map (fun i => toUnits (i * 1000))
    q := if lost then none else some (toUnits (s.chargeOf x ((s.chan x).prev.getD {}) (sget {} r.snaps x)).1)
    gap := k.gap }

/-! ### TLERP (R210) on a list of breakpoints and values -/

/-- Truncation of a quotient toward zero. -/
def divT (a b : Int) : Int := Int.tdiv a b

def tlerp : List (Int × Int) → Int → Int
  | [], _ => 0
  | [(_, y)], _ => y
  | (x1, y1) :: (x2, y2) :: t, x =>
    if x ≤ x1 then y1
    else if x < x2 then satI32 (y1 + divT ((y2 - y1) * (x - x1)) (x2 - x1))
    else tlerp ((x2, y2) :: t) x

/-- Table 09.3a: temperatures in 0.1 °C or SOC in 0.01 %, values in 0.01 % of the rating. -/
def tcHot : List (Int × Int) := [(350, 10000), (450, 5000), (500, 2500), (550, 0)]
def tcCold : List (Int × Int) := [(-100, 0), (0, 1000), (100, 5000), (150, 10000)]
def tdHot : List (Int × Int) := [(450, 10000), (500, 5000), (550, 2500), (600, 0)]
def tdCold : List (Int × Int) := [(-300, 0), (-200, 2500), (0, 8000), (100, 10000)]
def scTab : List (Int × Int) := [(9000, 10000), (9500, 5000), (9800, 2000), (10000, 500)]

/-! ### The default limit program (R236–R239) -/

def State.closedIn (_s : State) (r : RawEpoch) : List Nat := range48.filter (fun x => r.sv.closed.getLsbD x)

/-- The string feeds the converter, which is neither OFF nor LATCHED. -/
def State.feeds (s : State) (r : RawEpoch) (x : Nat) : Bool :=
  r.sv.conv != .off && r.sv.conv != .latched && s.feedStr == some x

/-- Charge and discharge current limits of a string, mA. A term of which the string has no value sets no bound (the limits then
stay below those of the previous epoch, R238). -/
def State.romCurrent (s : State) (r : RawEpoch) (x : Nat) : Int × Int :=
  let e := s.ep x
  let (rc, rd) := (s.rateChg x, s.rateDis x)
  let part := fun (rate y : Int) => mkRat (rate * y) 10000
  let mSig := minR ((s.fld pLIM 0x028 31 24 : Rat) / 10 * e.sigMax * 100) (s.fld pLIM 0x028 23 8 : Rat)
  let soc := toUnits (e.dMax * 100 + mSig)
  let taper := fun (rate num den : Int) => if den = 0 then (if 0 < num then (rate : Rat) else 0) else (rate : Rat) * clampR 0 1 (mkRat num den.toNat)
  let hot := fun (rate : Int) (t : List (Int × Int)) => match e.tMax with | some v => part rate (tlerp t v) | none => (rate : Rat)
  let cold := fun (rate : Int) (t : List (Int × Int)) => match e.tMin with | some v => part rate (tlerp t v) | none => 0
  let unk := fun (rate : Int) => if e.unknown then mkRat (rate * s.fld pLIM 0x028 7 0) 100 else (rate : Rat)
  let feed := fun (rate : Int) => if s.feeds r x then maxR 0 ((rate : Rat) - Config.convRatedInput * 1000) else (rate : Rat)
  let vc := match e.vMax with | some v => taper rc ((s.fld pLIM 0x020 31 16 : Int) - v) (s.fld pLIM 0x020 15 0) | none => (rc : Rat)
  let vd := match e.vMin with | some v => taper rd (v - (s.fld pEST 0x024 15 0 : Int)) (s.fld pLIM 0x024 15 0) | none => (rd : Rat)
  let chg := [hot rc tcHot, (if e.noSensor then 0 else cold rc tcCold), part rc (tlerp scTab soc), vc, unk rc, feed rc].foldl minR (rc : Rat)
  let dis := [hot rd tdHot, cold rd tdCold, vd, unk rd, feed rd].foldl minR (rd : Rat)
  (toUnits chg, toUnits dis)

/-- Ceiling of a slot (R220): LIM.CEILs_I and LIM.CEILs_P; those of the section default to the sum of the strings'. -/
def State.ceiling (s : State) (slot : Nat) : Int :=
  let k := slot / 4
  let j := slot % 4
  let raw := fun (k : Nat) => s.fld pLIM (0x800 + 8 * k + (if j < 2 then 0 else 4)) (if j % 2 = 0 then 31 else 15) (if j % 2 = 0 then 16 else 0)
  let given := (slook s.gen.regs (regAddr pLIM (0x800 + 8 * 48 + (if j < 2 then 0 else 4)))).isSome
  let v := if k = 48 ∧ given = false then Nat.min (s.strings.foldl (fun a x => a + raw x) 0) 0xFFFF else raw k
  (v : Int) * (if j < 2 then 100 else 1000)

/-- A value emitted to a slot. -/
def State.emitLimit (s : State) (slot : Nat) (v : Int) : State := s.updSlotOf slot (fun c => { c with value := v, emitted := true })

/-- Emits the four slots of a string. -/
def State.romString (s : State) (r : RawEpoch) (x : Nat) : State :=
  let (c, d) := s.romCurrent r x
  let hold := fun (j : Nat) (v : Int) => if (s.ep x).unmeas ∧ (s.slotOf (4 * x + j)).prev < v then (s.slotOf (4 * x + j)).prev else v
  let (c, d) := (hold 0 c, hold 1 d)
  let w := fun (i : Int) => match (s.ep x).vStr with | some v => toUnits (mkRat (i * v) 10000000) | none => 0
  ((((s.emitLimit (4 * x) c).emitLimit (4 * x + 1) d).emitLimit (4 * x + 2) (hold 2 (w c))).emitLimit (4 * x + 3) (hold 3 (w d)))

/-- The whole default program. -/
def State.romLimits (s : State) (r : RawEpoch) : State :=
  let s := foldS s.strings (fun s x => s.romString r x) s
  foldS [0, 1, 2, 3] (fun s j =>
    let sum := (s.closedIn r).foldl (fun (a : Int) x => a + (s.slotOf (4 * x + j)).value) 0
    s.emitLimit (192 + j) (clampI 0 (s.ceiling (192 + j)) sum)) s

/-! ### Stages 1 to 5 (Table 09.1) -/

/-- Slots of the strings in use and of the section. -/
def State.limitSlots (s : State) : List Nat := (s.strings ++ [48]).flatMap (fun x => [4 * x, 4 * x + 1, 4 * x + 2, 4 * x + 3])

/-- Stages 1 and 2 for one slot: a slot not emitted carries the previous epoch's value once, then 0; clamp to the ceiling. -/
def State.stageSlot (s : State) (slot : Nat) : State × Int :=
  let c := s.slotOf slot
  let k := slot / 4
  let stale := !c.emitted
  let v1 : Int := if c.emitted then c.value else if c.stale then 0 else c.prev
  let top := s.ceiling slot
  let v2 := clampI 0 top v1
  let clip := decide (top < v1)
  let s := s.setSlotOf slot { c with emitted := false, value := 0, stale := stale, clipped := clip, prev := v1 }
  let s := if clip && !c.clipped then (s.log 0x050A [word k, word slot, wordI v1, wordI top]).raise pLIM 1 else if clip then s.raise pLIM 1 else s
  (if stale then s.raise pLIM 0 else s, v2)

/-- Levels of a string in a direction from the status vector, INSUL and the section level among them. -/
def svLevel (r : RawEpoch) (x : Nat) (chg : Bool) : Nat :=
  let l := fun (y q : Nat) => sget 0 r.sv.levels (16 * y + q)
  ((List.range 9).filter (fun q => if chg then chgDir q else disDir q)).foldl (fun a q => Nat.max a (l x q)) (Nat.max (l 48 9) (l 48 10))

/-- Stages 3 and 4 on a string's value. -/
def State.stageString (s : State) (r : RawEpoch) (x j : Nat) (v : Int) : Int :=
  let chg := j % 2 == 0
  let p := s.port x
  let v := if p.wbOut || (s.str x).openByProt then 0 else v
  let v := if !chg && (s.ep x).forced then 0 else v
  let v := if !p.wbOut && decide (p.breaks.length = 1) && s.psc then toUnits (mkRat v 2) else v
  let k := svLevel r x chg
  if 3 ≤ k then 0 else if k = 2 then toUnits (mkRat (v * s.fld pPROT 0x024 7 0) 100) else v

/-! ### Share limit (R240) -/

/-- The share filter of the epoch. -/
def State.shareUpdate (s : State) (r : RawEpoch) : State :=
  let cl := s.closedIn r
  let n : Rat := cl.length
  let s := foldS range48 (fun s x => if cl.contains x then s else if (s.str x).share = 0 then s else s.updStr x (fun t => { t with share := 0 })) s
  let s := foldS cl (fun s x => if (s.str x).share = 0 then s.updStr x (fun t => { t with share := 1 / n }) else s) s
  let known := cl.all (fun x => (s.ep x).iMean.isSome)
  let i := fun (x : Nat) => (absI ((s.ep x).iMean.getD 0) : Rat) / 1000
  let sum := cl.foldl (fun a x => a + i x) 0
  let least := (s.fld pLIM 0x02C 15 0 : Rat) / 1000 * cl.foldl (fun a x => a + s.cNom x) 0
  let tau : Rat := s.fld pLIM 0x02C 31 16
  let a := if tau = 0 then 1 else 1 - expNeg (s.tSec / tau)
  foldS cl (fun s x =>
    let w := (s.str x).share
    let w := if known && decide (least ≤ sum) && decide (0 < sum) then w + a * (i x / sum - w) else w
    s.updStr x (fun t => { t with share := clampR (1 / (2 * n)) 1 w })) s

/-- Stage 5: the section's limits, in the order of j. -/
def State.sectionLimits (s : State) (r : RawEpoch) (lim : Store Int) (sec : List Int) : List Int :=
  let cl := s.closedIn r
  if cl = [] ∨ r.sv.mode = .joining then [0, 0, 0, 0]
  else
    let vMean := meanL (cl.map (fun x => (((s.ep x).vStr.getD 0 : Nat) : Rat) / 10000))
    let share := fun (j : Nat) => cl.foldl (fun (a : Option Rat) x =>
      let w := (s.str x).share
      let v := if w = 0 then 0 else ((sget 0 lim (4 * x + j) : Int) : Rat) / w
      some (match a with | some b => minR b v | none => v)) none
    (List.range 4).map (fun j =>
      let own := sec.getD j 0
      let sh : Rat := (share (j % 2)).getD 0
      let bound := if j < 2 then toUnits sh else toUnits (sh / 1000 * vMean)
      let k := svLevel r 48 (j % 2 == 0)
      let own := if 3 ≤ k then 0 else own
      if bound < own then bound else own)

/-- LIMIT_PUBLISH: the limits of epoch r enter the limit region. -/
def State.publish (s : State) (r : RawEpoch) : State :=
  let s := s.shareUpdate r
  let (s, vals) := s.limitSlots.foldl (fun (acc : State × Store Int) k =>
    let (t, v) := acc.1.stageSlot k
    (t, sput acc.2 k v)) (s, [])
  let stale := s.limitSlots.filter (fun k => (s.slotOf k).stale)
  let s := if stale = [] then s else s.log 0x0509 [48#32, word stale.length, r.epoch]
  let lim := s.strings.foldl (fun (l : Store Int) x => [0, 1, 2, 3].foldl (fun l j =>
    sput l (4 * x + j) (s.stageString r x j (sget 0 vals (4 * x + j)))) l) ([] : Store Int)
  let sec := s.sectionLimits r lim ((List.range 4).map (fun j => sget 0 vals (192 + j)))
  { s with limits := (sec.zipIdx).foldl (fun l v => sput l (192 + v.2) v.1) lim }

end Sys2Proof.Machine
end

