-- ==== Sys2Proof/Machine/HallMap.lean ====
section
/-! DEFINITION. Layout of a Hall bank: what each 32-bit word holds for the epoch in work (Tables 16.1–16.3, R405–R408). -/
namespace Sys2Proof.Machine

def intW (i : Int) : Word := wordI i
/-- A current or charge, 0x8000_0000 where UNMEASURED. -/
def optW (o : Option Int) : Word := match o with | some i => wordI i | none => 0x80000000#32
def u16 (x : Rat) : Nat := satU 16 (toUnits x).toNat
def s16 (i : Int) : Nat := ofSigned 16 i

def PortState.code : PortState → Nat
  | .off => 0
  | .enumerating => 1
  | .running => 2
  | .silent => 3
  | .broken => 4
  | .recovering => 5
  | .refused => 6

/-- Flags of a channel in epoch r with GAP (CUR.CHSTATc [7:0]). -/
def State.curFlags (s : State) (r : RawEpoch) (x : Nat) : Nat :=
  let n := sget {} r.snaps x
  let p := (s.chan x).prev
  n.flags + at_ 5 (b2n (p.isNone || decide ((p.getD {}).g < n.g)))

/-- Header and status vector (Table 16.2), word index. -/
def State.hallHeader (s : State) (r : RawEpoch) (commit w : Nat) : Word :=
  let v := r.sv
  if w = 0 then r.epoch
  else if w = 1 then word (s.gen.slot + at_ 8 v.term.toNat + at_ 16 v.role.code + at_ 20 v.mode.code + at_ 24 v.cause)
  else if w = 2 then lo32 r.t
  else if w = 3 then hi32 r.t
  else if w = 4 then lo32 commit
  else if w = 5 then hi32 commit
  else if w = 6 then word (r.epoch.toNat % 24 + at_ 8 (b2n r.overrun) + at_ 9 (b2n (s.strings.any (fun x => s.curFlags r x / 32 % 2 == 1))) +
    at_ 10 (b2n r.gapBefore))
  else if w = 7 then word (s.time.tEpochMs * 1000)
  else if w = 8 then word (bitsOf s.portEn 32)
  else if w = 9 then word (bitsOf (fun i => s.portEn (i + 32)) 16)
  else if w = 10 then word (v.closed.toNat % 2 ^ 32)
  else if w = 11 then word (v.closed.toNat / 2 ^ 32)
  else if w = 12 then s.gen.id
  else if 64 ≤ w ∧ w < 68 then word (v.close.toNat / 2 ^ (32 * (w - 64)) % 2 ^ 32)
  else if 68 ≤ w ∧ w < 72 then word (v.aux.toNat / 2 ^ (32 * (w - 68)) % 2 ^ 32)
  else if w = 72 then word (v.conv.code + at_ 8 v.nAct + at_ 16 v.fcause + at_ 28 v.sec.code)
  else if w = 73 then intW v.vOut
  else if w = 74 then intW v.vIn
  else if w = 75 then intW v.iOut
  else if w = 76 then intW v.power
  else if w = 77 then intW v.peakV
  else if w = 78 then intW v.peakI
  else if w = 80 then word (v.so.toNat + at_ 4 (b2n v.bfcEn) + at_ 5 (b2n v.tone) + at_ 8 v.demand.toNat + at_ 16 v.latched.toNat)
  else 0

/-- Protection region. -/
def State.hallProt (_s : State) (r : RawEpoch) (w : Nat) : Word :=
  if w = 128 then word r.sv.zero
  else if w = 129 then word r.sv.insKohm
  else if 192 ≤ w ∧ w < 241 then sget 0#32 r.sv.lvlWords (w - 192)
  else 0

/-- Limits region: the limits published last (R408). -/
def State.hallLimits (s : State) (w : Nat) : Word :=
  if w < 452 then wordI (sget 0 s.limits (w - 256))
  else if 456 ≤ w ∧ w < 505 then
    let k := 4 * (w - 456)
    word (bitsOf (fun j => (s.slotOf (k + j)).stale) 4 + at_ 4 (bitsOf (fun j => (s.slotOf (k + j)).clipped) 4))
  else 0

/-- Current region: word i of string x. -/
def State.hallCurrent (s : State) (r : RawEpoch) (x i : Nat) : Word :=
  let n := sget {} r.snaps x
  if !s.strUse x then 0
  else if i = 0 then word (ofSigned 64 n.a % 2 ^ 32)
  else if i = 1 then word (ofSigned 64 n.a / 2 ^ 32)
  else if i = 2 then lo32 n.b
  else if i = 3 then hi32 n.b
  else if i = 4 then word n.g
  else if i = 5 then optW (s.ep x).iInst
  else if i = 6 then optW (s.ep x).iMean
  else if i = 7 then optW (s.ep x).q
  else if i = 8 then word (s.curFlags r x)
  else 0

/-- String record (Table 16.3). -/
def State.hallString (s : State) (r : RawEpoch) (x i : Nat) : Word :=
  let e := s.ep x
  let c := s.sctx x
  if !s.strUse x then 0
  else if i = 0 then word (u16 (e.dMin * 100))
  else if i = 1 then word (u16 (e.dMax * 100))
  else if i = 2 then word (u16 (e.dMean * 100))
  else if i = 3 then word (u16 (e.sigMax * 100))
  else if i = 4 then rw (e.capMin * 100)
  else if i = 5 then intW (e.tMax.getD 0)
  else if i = 6 then intW (e.tMin.getD 0)
  else if i = 7 then intW (e.vMax.getD 0)
  else if i = 8 then intW (e.vMin.getD 0)
  else if i = 9 then (match e.vStr with | some v => rw (mkRat v 10) | none => 0)
  else if i = 10 then word (c.rest / 1000000000)
  else if i = 11 then word (c.noRest / 1000000000)
  else if i = 12 then word ((s.port x).state.code + at_ 4 (sget .opened r.sv.joins x).code + at_ 8 (s.port x).hFound)
  else if i = 13 then
    let l := (s.modsOf x).map (fun m => s.meanD (s.modCells m) - e.dMean)
    match l with | [] => 0 | a :: t => rw ((t.foldl maxR a) * 100)
  else if i = 14 then word ((s.cellsOf x).filter (fun c => (s.ctx (16 * c.1 + c.2)).unknown)).length
  else 0

/-- Strings in service: in use and not BLOCKED (R171). -/
def State.inServiceStr (s : State) : List Nat := s.strings.filter (fun x => (s.str x).st != .blocked)
/-- REST_REQ mask. -/
def State.restMask (s : State) : Nat := bitsOf (fun x => (s.sctx x).restReq) 48

/-- Section record. -/
def State.hallSection (s : State) (i : Nat) : Word :=
  let xs := s.inServiceStr
  let cap := xs.foldl (fun a x => a + (s.ep x).capSum) 0
  let mean := if cap = 0 then 0 else xs.foldl (fun a x => a + (s.ep x).capSum * (s.ep x).dMean) 0 / cap
  if i = 10 then word (s.restMask % 2 ^ 32)
  else if i = 11 then word (s.restMask / 2 ^ 32)
  else if i = 15 then word (if s.restMask = 0 then 0 else s.est.restWindow)
  else if xs = [] then 0
  else if i = 0 then word (u16 ((xs.foldl (fun a x => minR a (s.ep x).dMin) 100) * 100))
  else if i = 1 then word (u16 ((xs.foldl (fun a x => maxR a (s.ep x).dMax) 0) * 100))
  else if i = 2 then word (u16 (mean * 100))
  else if i = 3 then word (u16 ((xs.foldl (fun a x => maxR a (s.ep x).sigMax) 0) * 100))
  else if i = 4 then rw ((match xs with | [] => 0 | a :: t => t.foldl (fun m x => minR m (s.ep x).capMin) (s.ep a).capMin) * 100)
  else 0

/-- Temperature word of input i of module m in epoch n (R407). -/
def State.hallTemp (s : State) (n : Word) (m i : Nat) : Word :=
  let t := s.temp (8 * m + i)
  if (s.mon m).temps ≤ i then 0
  else
    let v := if t.broken then s.tBroken else t.value
    let age := satU 8 (n - t.epoch).toNat
    word (s16 v + at_ 16 (b2n t.open_ + at_ 1 (b2n t.short) + at_ 2 (b2n t.range) + at_ 3 (b2n t.notConv) + at_ 4 (b2n (s.mod m).near)) +
      at_ 24 (if t.seen then age else 255))

/-- Slice region of epoch n: word index from its start. -/
def State.hallSlice (s : State) (n : Word) (w : Nat) : Word :=
  let k := n.toNat % 24
  if w < 640 then
    let m := 40 * (2 * k + w / 320) + w % 320 / 8
    if w % 320 / 8 < (s.port (2 * k + w / 320)).hFound then s.hallTemp n m (w % 8) else 0
  else
    let q := (w - 640) / 320
    let i := (w - 640) % 320 * 2
    let cap := fun (i : Nat) =>
      let m := 40 * (2 * k + q) + i / 16
      if i % 16 < s.nCells m ∧ i / 16 < (s.port (2 * k + q)).hFound then u16 ((s.ctx (16 * m + i % 16)).cap * 100) else 0
    word (cap i + at_ 16 (cap (i + 1)))

/-- A cell position of the topology. -/
def State.cellThere (s : State) (i : Nat) : Bool :=
  let m := i / 16
  decide (m % 40 < (s.port (m / 40)).hFound) && decide (i % 16 < s.nCells m)

/-- Cell region: first or second word of cell i. -/
def State.hallCell (s : State) (i : Nat) (second : Bool) : Word :=
  if !s.cellThere i then (if second then 0 else 0xFFFF#32)
  else
    let c := s.cell i
    if second then word (u16 (s.sigOf i * 100) + at_ 16 c.flags.toNat) else word (c.v % 65536 + at_ 16 (u16 (s.dOf i * 100)))

/-- Word w of the bank of epoch r (Table 16.1). -/
def State.hallWord (s : State) (r : RawEpoch) (commit w : Nat) : Word :=
  if w < 128 then s.hallHeader r commit w
  else if w < 256 then s.hallProt r w
  else if w < 512 then s.hallLimits w
  else if w < 0x440 then (if (w - 512) / 12 < 48 then s.hallCurrent r ((w - 512) / 12) ((w - 512) % 12) else 0)
  else if w < 0x740 then s.hallString r ((w - 0x440) / 16) (w % 16)
  else if w < 0x750 then s.hallSection (w % 16)
  else if w < 0x800 then 0
  else if w < 0xD00 then s.hallSlice r.epoch (w - 0x800)
  else if w < 0x1000 then 0
  else if w < 0x1000 + 2 * 30720 then s.hallCell ((w - 0x1000) / 2) (w % 2 == 1)
  else 0

/-- What an unlisted word of a bank reads as: a cell word 0 reads voltage 0xFFFF. -/
def hallDefault (w : Nat) : Word := if 0x1000 ≤ w ∧ w < 0x1000 + 2 * 30720 ∧ w % 2 = 0 then 0xFFFF#32 else 0

/-- Words that may differ from their default in the present topology. -/
def State.hallIndex (s : State) : List Nat :=
  List.range 0xD00 ++ (range48.filter (fun p => (s.port p).hFound != 0)).flatMap (fun p =>
    (List.range (1280 * 1)).map (fun i => 0x1000 + 1280 * p + i))

/-- The whole bank of epoch r. -/
def State.buildBank (s : State) (r : RawEpoch) (commit : Nat) : Bank :=
  { epoch := r.epoch, words := s.hallIndex.filterMap (fun w =>
      let v := s.hallWord r commit w
      if v = hallDefault w then none else some (w, v)) }

def Bank.get (b : Bank) (w : Nat) : Word := match slook b.words w with | some v => v | none => hallDefault w

/-- The newest bank. -/
def State.newestBank (s : State) : Option Bank := s.hall.newest.map (fun k => sget {} s.hall.banks k)

end Sys2Proof.Machine
end

