-- ==== Sys2Proof/Machine/Engine.lean ====
section
/-! DEFINITION. The stair-code engines: activation, triggers, budgets, faults, address maps, instructions, CODE loading (08). -/
namespace Sys2Proof.Machine

/-! ### Budgets and stops (R202, R215, R225, R228) -/

/-- Budget of an engine's window, units. -/
def State.budget (s : State) (e : Nat) : Nat :=
  if e < 12 then 2000 * s.time.tEpochMs else if e = 12 then 20000 * s.time.tEpochMs else 2000

/-- The engine runs an instruction next: activated, not in a WAIT, not stopped, with units left. -/
def State.engCan (s : State) (e : Nat) : Bool :=
  (s.eng e).running && (s.eng e).wait.isNone && !(s.eng e).stopped && decide ((s.eng e).units < s.budget e)

/-- The fallback condition is met: cause 0 budget, 1 fault. The ROM program runs from the next window. -/
def State.engFall (s : State) (e cause : Nat) : State :=
  let g := s.eng e
  if g.source = .rom ∨ g.falling = true then s
  else
    (((s.updEng e (fun g => { g with fallback := true, falling := true })).log 0x0E44 [word e, word cause, g.imgCrc]).raise pCODE 2)

/-- Consequence of a stop of the wake checker: as if both wake slots had been emitted (Table 08.6). -/
def State.stopWake (s : State) (e : Nat) : State := if e = 13 then s.wakeDevice.assertWakeOut.wakeRecord else s

/-- The engine stops until the next window. -/
def State.engStop (s : State) (e : Nat) : State :=
  (s.updEng e (fun g => { g with running := false, wait := none, stopped := true, ext := 4 })).stopWake e

/-- A fault at program word pc. Causes of ENGINE_FAULT in the order of Table 08.11: 0 opcode, 1 access, 2 stack, 3 wait, 4 slot. A
ROM program restarts at its next trigger with cleared registers and data memory. -/
def State.engFault (s : State) (e pc cause : Nat) : State :=
  let s := ((s.updEng e (fun g => { g with faults := Nat.min 255 (g.faults + 1) })).logN 0x0E42 [e, pc, cause]).raise pCODE 3
  if (s.eng e).source = .rom then
    (s.updEng e (fun g => { g with running := false, wait := none, regs := [], data := [] })).stopWake e
  else (s.engFall e 1).engStop e

/-- A window begins: units counted anew, a stop ends, a fallback takes effect. The units of a ROM program are not given: its
last window shows a free number of them within the budget. -/
def State.engWindow (s : State) (e : Nat) : State :=
  let rom := (s.eng e).source == .rom || (s.eng e).source == .romExt
  let (w, s) := if rom then s.freeWord else (0#32, s)
  let used := if rom then Nat.max (s.eng e).units (w.toNat % (s.budget e + 1)) else (s.eng e).units
  s.updEng e (fun g =>
    let g := { g with lastUnits := used, units := 0, outRun := if g.out then g.outRun else 0, out := false, stopped := false }
    if g.falling then { g.rom with next := g.next, fallback := true, falling := false, outRun := 0 } else g)

/-! ### Activation (R213, R214, R227) -/

def lowBit (m : Nat) : Option Nat := (List.range 6).find? (fun b => m / 2 ^ b % 2 == 1)
def trigMask (b : Nat) : BitVec 6 := 1#6 <<< b

/-- Consumes a trigger bit; one that arrived late sets EPOCH_LATE. -/
def Eng.take (g : Eng) (b : Nat) : Eng :=
  let g := { g with trig := g.trig &&& ~~~(trigMask b) }
  if b = 0 ∨ b = 4 then { g with epochLate := g.late, late := false } else g

/-- The ROM program of the wake checker: any pending unmasked source wakes the device and asserts WAKE_OUT (R226). -/
def State.romWake (s : State) : State := s.wakeDevice.assertWakeOut.wakeRecord

/-- A halted engine with a full program serves its lowest pending trigger; an unused one is consumed. -/
def engServe (e : Nat) : Nat → State → State
  | 0, s => s
  | n + 1, s =>
    let g := s.eng e
    if g.running || (g.stopped && e != 13) || !(g.source == .genImage || g.source == .codeImage) then s
    else
      match lowBit (Nat.land g.trig.toNat (engTriggers e)) with
      | none => s
      | some b =>
        let v := (sget 0#16 g.prog b).toNat
        let s := s.updEng e (fun g => g.take b)
        if v = 0 then engServe e n s
        else
          -- a window of the wake checker is one activation (R202)
          let s := if e = 13 then s.engWindow 13 else s
          if (s.eng e).source = .rom then s.romWake
          else s.updEng e (fun g => { g with running := true, pc := v, stack := [] })

/-- A WAIT that holds a pending event of its mask returns the lowest. -/
def State.engResume (s : State) (e : Nat) : State :=
  let g := s.eng e
  match g.wait with
  | some w =>
    match lowBit (Nat.land g.trig.toNat w.mask) with
    | some b => s.updEng e (fun g => { (g.take b).setReg w.d (word b) with wait := none })
    | none => s
  | none => s

/-- The engine runs its ROM program now. -/
def Eng.inRom (g : Eng) : Bool := g.source == .rom || (g.source == .romExt && g.ext == 4)

/-- Raises trigger bit b of engine e. -/
def State.engTrigger (s : State) (e b : Nat) : State :=
  let s := ((if e < 13 then s.wakeL2 else s).engInstall e)
  let s := if e = 13 ∧ (s.eng 13).falling = true ∧ (s.eng 13).running = false then s.engWindow 13 else s
  let g := s.eng e
  if g.inRom then (if e = 13 ∧ (b = 5 ∨ b = 2) then s.romWake else s)
  else
    let waits := match g.wait with | some w => w.mask / 2 ^ b % 2 == 1 | none => false
    let s := s.updEng e (fun g =>
      { g with trig := g.trig ||| trigMask b,
               merged := if g.trig.getLsbD b then Nat.min 255 (g.merged + 1) else g.merged,
               late := g.late || ((b == 0 || b == 4) && g.running && !waits) })
    if g.running then s.engResume e else engServe e 7 s

/-- The scheduled frames of a port have been answered or have timed out. -/
def State.schedDone (s : State) (p : Nat) : Bool :=
  let t := s.port p
  !(t.inFlight.any (fun i => decide ((i.frame.seq - t.blockS).toNat < t.blockM)))

/-- s3–s15 as the ROM leaves them at its call: free values. -/
def State.romRegs (s : State) (e : Nat) : State :=
  foldS ([3, 4, 5, 6, 7, 8, 9, 10, 11, 12, 13, 14, 15] : List RegIx) (fun s r =>
    let (w, s) := s.freeWord
    s.updEng e (fun g => g.setReg r w)) s

/-- The ROM calls the extension for the next port whose scheduled frames are done. -/
def engExt (e : Nat) : Nat → State → State
  | 0, s => s
  | n + 1, s =>
    let g := s.eng e
    if g.source != .romExt || g.running || g.stopped || decide (4 ≤ g.extNext) then s
    else
      let k := g.extNext
      if !s.portEn (4 * e + k) then engExt e n (s.updEng e (fun g => { g with extNext := k + 1 }))
      else if s.schedDone (4 * e + k) then
        let s := (s.updEng e (fun g => { g with saved := g.regs })).romRegs e
        s.updEng e (fun g =>
          { (g.setReg 1 (word k)).setReg 2 s.time.epoch with
              ext := k, extNext := k + 1, running := true, pc := (sget 0#16 g.prog 0).toNat, stack := [0], trig := 0 })
      else s
/-- The extension returns to the ROM. -/
def State.extReturn (s : State) (e : Nat) : State :=
  engExt e 5 (s.updEng e (fun g => { g with regs := g.saved, saved := [], ext := 4, running := false, wait := none, stack := [] }))

/-- The activation ends: a waiting image is installed, pending triggers are served. -/
def State.engHalt (s : State) (e : Nat) : State :=
  let s := (s.updEng e (fun g => { g with running := false, wait := none })).engInstall e
  let s := if e = 13 then s.updEng 13 (fun g => { g with lastUnits := g.units }) else s
  let s := engServe e 7 s
  if e = 13 then s.wakeRecord.when (s.md == .dormant && !s.land.waking) (·.landDecide) else s

/-! ### Executing an instruction -/

/-- Advances past an instruction of `ws` words and `u` units, then applies its effect, which is given its program word. -/
def State.insn (s : State) (e : Nat) (ws u : Nat) (f : Nat → State → State) : State :=
  if s.engCan e then f (s.eng e).pc (s.updEng e (fun g => { g with pc := g.pc + ws, units := g.units + u })) else s

/-- An ALU instruction: `f` of sD and the operand. -/
def State.alu (s : State) (e : Nat) (d : RegIx) (op : Opnd) (u : Nat) (val : Eng → Opnd → Word) (f : Word → Word → Word) : State :=
  s.insn e (1 + opExt op) (u + opExt op) (fun _ s => s.updEng e (fun g => g.setReg d (f (g.reg d) (val g op))))

def execMov (e : Engine) (d : RegIx) (op : Opnd) (s : State) : Host.Outcome State Fault Refusal := .next (s.alu e.val d op 1 Eng.opS (fun _ b => b))
def execAdd (e : Engine) (d : RegIx) (op : Opnd) (s : State) : Host.Outcome State Fault Refusal := .next (s.alu e.val d op 1 Eng.opS (fun a b => a + b))
def execSub (e : Engine) (d : RegIx) (op : Opnd) (s : State) : Host.Outcome State Fault Refusal := .next (s.alu e.val d op 1 Eng.opS (fun a b => a - b))
def execMul (e : Engine) (d : RegIx) (op : Opnd) (s : State) : Host.Outcome State Fault Refusal := .next (s.alu e.val d op 2 Eng.opS (fun a b => a * b))
def execMulq (e : Engine) (d : RegIx) (op : Opnd) (s : State) : Host.Outcome State Fault Refusal := .next (s.alu e.val d op 2 Eng.opS mulqW)
def execDiv (e : Engine) (d : RegIx) (op : Opnd) (s : State) : Host.Outcome State Fault Refusal :=
  .next (s.insn e.val (1 + opExt op) (16 + opExt op) (fun _ s => s.updEng e.val (fun g =>
    { g.setReg d (divW (g.reg d) (g.opS op)) with div0 := g.div0Of (g.opS op) })))
def execAnd (e : Engine) (d : RegIx) (op : Opnd) (s : State) : Host.Outcome State Fault Refusal := .next (s.alu e.val d op 1 Eng.opZ (fun a b => a &&& b))
def execOr (e : Engine) (d : RegIx) (op : Opnd) (s : State) : Host.Outcome State Fault Refusal := .next (s.alu e.val d op 1 Eng.opZ (fun a b => a ||| b))
def execXor (e : Engine) (d : RegIx) (op : Opnd) (s : State) : Host.Outcome State Fault Refusal := .next (s.alu e.val d op 1 Eng.opZ (fun a b => a ^^^ b))
def execShl (e : Engine) (d : RegIx) (op : Opnd) (s : State) : Host.Outcome State Fault Refusal :=
  .next (s.alu e.val d op 1 Eng.opZ (fun a b => a <<< shamt b))
def execShr (e : Engine) (d : RegIx) (op : Opnd) (s : State) : Host.Outcome State Fault Refusal :=
  .next (s.alu e.val d op 1 Eng.opZ (fun a b => a >>> shamt b))
def execSra (e : Engine) (d : RegIx) (op : Opnd) (s : State) : Host.Outcome State Fault Refusal :=
  .next (s.alu e.val d op 1 Eng.opZ (fun a b => a.sshiftRight (shamt b)))
def execMin (e : Engine) (d : RegIx) (op : Opnd) (s : State) : Host.Outcome State Fault Refusal := .next (s.alu e.val d op 1 Eng.opS minW)
def execMax (e : Engine) (d : RegIx) (op : Opnd) (s : State) : Host.Outcome State Fault Refusal := .next (s.alu e.val d op 1 Eng.opS maxW)
/-- CLAMP: A 15 is an illegal form. -/
def execClamp (e : Engine) (d a : RegIx) (s : State) : Host.Outcome State Fault Refusal :=
  .next (s.insn e.val 1 2 (fun pc s =>
    if a = 15 then s.engFault e.val pc 0
    else s.updEng e.val (fun g => g.setReg d (minW (maxW (g.reg d) (g.reg a)) (g.reg (a + 1))))))

/-! ### Address maps (Table 08.7) -/

def State.engstatWord (s : State) (e : Nat) : Word :=
  let g := s.eng e
  word (b2n g.div0 + at_ 1 (b2n g.epochLate) + at_ 8 (satU 8 g.merged))
def State.portWord (s : State) (p : Nat) : Word := word ((s.port p).hFound % 64 + at_ 8 (s.port p).state.code)

/-- System words; TIMER and the words the manual does not define read a free value. -/
def State.sysRead (s : State) (e i : Nat) : Word × State :=
  if i = 0 then (s.time.epoch, s)
  else if i = 1 then (lo32 s.now, s.updEng e (fun g => { g with timeHi := hi32 s.now }))
  else if i = 2 then ((s.eng e).timeHi, s)
  else if i = 3 then (s.engstatWord e, s)
  else if i = 5 ∧ e < 12 then (word (b2n s.active + at_ 8 s.term.toNat), s)
  else if i = 6 ∧ e < 12 ∨ i = 5 ∧ e = 12 then (word s.md.code, s)
  else if i = 6 ∧ e = 12 then (word (s.time.tEpochMs * 1000), s)
  else if i = 5 ∧ e = 13 then (word (s.land.pendPorts.toNat % 2 ^ 32), s)
  else if i = 6 ∧ e = 13 then (word (s.land.pendPorts.toNat / 2 ^ 32), s)
  else if i = 7 ∧ e = 13 then (word s.land.pendOther.toNat, s)
  else if i = 8 ∧ e = 13 then (word (s.land.mask.toNat % 2 ^ 32), s)
  else if i = 9 ∧ e = 13 then (word (s.land.mask.toNat / 2 ^ 32), s)
  else if 8 ≤ i ∧ i < 12 ∧ e < 12 then (s.portWord (4 * e + (i - 8)), s)
  else if 12 ≤ i ∧ i < 16 ∧ e < 12 then (sget 0#32 (s.eng e).reserve (i - 12), s)
  else s.freeWord

/-- Word of the Hall bank being assembled. -/
def State.assembling (s : State) (w : Nat) : Word :=
  match s.computing with
  | some r => s.hallWord r 0 w
  | none => (sget {} s.hall.banks s.hall.writing).get w

/-- Words below 0x100 of an engine with an extension are the ROM's (R226, R227): their content is not given. -/
def Eng.romWord (g : Eng) (a : Nat) : Bool := g.source == .romExt && decide (a < 0x100)

/-- LD: the word, and the state after the access; none for an unmapped or unreadable address. -/
def State.engRead (s : State) (e a : Nat) : Option (Word × State) :=
  if (s.eng e).romWord a then some s.freeWord
  else if a < dataWords e then some (sget 0#32 (s.eng e).data a, s)
  else if e < 12 ∧ 0x1000 ≤ a ∧ a < 0x1400 then some (sget 0#32 (s.txb (16 * e + (a - 0x1000) / 64)).words ((a - 0x1000) % 64), s)
  else if e < 12 ∧ 0x2000 ≤ a ∧ a < 0x2800 then
    some ((sget [] (s.rxp (4 * e + (a - 0x2000) / 512)).bufs ((a - 0x2000) / 64 % 8)).getD ((a - 0x2000) % 64) 0#32, s)
  else if 0x3000 ≤ a ∧ a < (if e < 12 then 0x3020 else 0x3010) then some (s.sysRead e (a - 0x3000))
  else if e = 12 ∧ 0x10000 ≤ a ∧ a < 0x20000 then some (s.assembling (a - 0x10000), s)
  else none

/-- ST; none for an unmapped or read-only address. -/
def State.engWrite (s : State) (e a : Nat) (v : Word) : Option State :=
  if a < dataWords e then some (s.updEng e (fun g => { g with data := sset 0#32 g.data a v }))
  else if e < 12 ∧ 0x1000 ≤ a ∧ a < 0x1400 then
    some (s.updTxb (16 * e + (a - 0x1000) / 64) (fun b => { b with words := sset 0#32 b.words ((a - 0x1000) % 64) v, fresh := true }))
  else if a = 0x3004 then
    some (s.updEng e (fun g => { g with timer := if v = 0#32 then none else some (s.now + usNs v.toNat) }))
  else if e < 12 ∧ 0x300C ≤ a ∧ a < 0x3010 then some (s.updEng e (fun g => { g with reserve := sset 0#32 g.reserve (a - 0x300C) v }))
  else none

def execLd (e : Engine) (d a : RegIx) (off : Option Half) (s : State) : Host.Outcome State Fault Refusal :=
  let ad := (s.eng e.val).addr a off
  let u := (if e.val = 12 ∧ 0x10000 ≤ ad ∧ ad < 0x20000 then 6 else 2) + offExt off
  .next (s.insn e.val (1 + offExt off) u (fun pc s =>
    match s.engRead e.val ad with
    | some (w, s) => s.updEng e.val (fun g => g.setReg d w)
    | none => s.engFault e.val pc 1))
def execSt (e : Engine) (d a : RegIx) (off : Option Half) (s : State) : Host.Outcome State Fault Refusal :=
  .next (s.insn e.val (1 + offExt off) (2 + offExt off) (fun pc s =>
    match s.engWrite e.val ((s.eng e.val).addr a off) ((s.eng e.val).reg d) with
    | some s => s
    | none => s.engFault e.val pc 1))
def execLdc (e : Engine) (d a : RegIx) (off : Option Half) (s : State) : Host.Outcome State Fault Refusal :=
  .next (s.insn e.val (1 + offExt off) (2 + offExt off) (fun pc s =>
    let ad := (s.eng e.val).addr a off
    if ad < constWords e.val then
      if (s.eng e.val).romWord ad then let (w, s) := s.freeWord; s.updEng e.val (fun g => g.setReg d w)
      else s.updEng e.val (fun g => g.setReg d (sget 0#32 g.consts ad))
    else s.engFault e.val pc 1))

/-! ### Control flow (R208, R211, R212) -/

def State.branch (s : State) (e : Nat) (taken : Bool) (target : Half) : State :=
  s.insn e 2 3 (fun _ s => s.when taken (fun s => s.updEng e (fun g => { g with pc := target.toNat })))
def execBr (e : Engine) (d a : RegIx) (c : Cond) (target : Half) (s : State) : Host.Outcome State Fault Refusal :=
  .next (s.branch e.val (condS c ((s.eng e.val).reg d) ((s.eng e.val).reg a)) target)
def execBru (e : Engine) (d a : RegIx) (c : Cond) (target : Half) (s : State) : Host.Outcome State Fault Refusal :=
  .next (s.branch e.val (condU c ((s.eng e.val).reg d) ((s.eng e.val).reg a)) target)
def execCall (e : Engine) (target : Half) (s : State) : Host.Outcome State Fault Refusal :=
  .next (s.insn e.val 2 3 (fun pc s =>
    if 4 ≤ (s.eng e.val).stack.length then s.engFault e.val pc 2
    else s.updEng e.val (fun g => { g with stack := g.pc :: g.stack, pc := target.toNat })))
/-- RET; at depth 1 of an extension it returns to the ROM. -/
def execRet (e : Engine) (s : State) : Host.Outcome State Fault Refusal :=
  .next (s.insn e.val 1 2 (fun pc s =>
    match (s.eng e.val).stack with
    | [] => s.engFault e.val pc 2
    | r :: t =>
      if (s.eng e.val).ext < 4 ∧ t = [] then s.extReturn e.val
      else s.updEng e.val (fun g => { g with pc := r, stack := t })))
def execHalt (e : Engine) (s : State) : Host.Outcome State Fault Refusal :=
  .next (s.insn e.val 1 1 (fun _ s => if (s.eng e.val).ext < 4 then s.extReturn e.val else s.engHalt e.val))
def execTlerp (e : Engine) (d a : RegIx) (table : Half) (s : State) : Host.Outcome State Fault Refusal :=
  let c := fun (i : Nat) => (sget 0#32 (s.eng e.val).consts (table.toNat + i)).toInt
  let n := (sget 0#32 (s.eng e.val).consts table.toNat).toNat % 256
  .next (s.insn e.val 2 (12 + clog2 n) (fun _ s => s.updEng e.val (fun g =>
    g.setReg d (sat32 (tlerpTab ((List.range n).map (fun i => c (1 + i))) ((List.range n).map (fun i => c (1 + n + i)))
      (g.reg a).toInt)))))
/-- WAIT: an event already pending is taken at once. -/
def execWait (e : Engine) (d : RegIx) (mask : Half) (s : State) : Host.Outcome State Fault Refusal :=
  .next (s.insn e.val 2 3 (fun pc s =>
    let m := Nat.land mask.toNat (engTriggers e.val)
    let t := ((s.eng e.val).reg d).toNat
    if m = 0 ∧ t = 0 then s.engFault e.val pc 3
    else (s.updEng e.val (fun g => { g with wait := some ⟨m, if t = 0 then none else some (s.now + usNs t), d⟩ })).engResume e.val))
/-- A WAIT ends at its timeout: sD holds 0xFF. -/
def execWaitTimeout (e : Engine) (s : State) : Host.Outcome State Fault Refusal :=
  match (s.eng e.val).wait with
  | some w =>
    match w.deadline with
    | some t => .next ((s.reach t).updEng e.val (fun g => { g.setReg w.d 0xFF#32 with wait := none }))
    | none => .next s
  | none => .next s
def execEngineTimer (e : Engine) (s : State) : Host.Outcome State Fault Refusal :=
  match (s.eng e.val).timer with
  | some t =>
    let s := (s.reach t).updEng e.val (fun g => { g with timer := none })
    let s := if e = 13 ∧ (3 ≤ s.land.landing ∨ s.dormantOr = true) then { s with land := { s.land with wakeSrc := 4 } } else s
    .next (s.engTrigger e.val 2)
  | none => .next s
/-- The budget of a window is exhausted. The units of a ROM program are not given: its exhaustion is asserted. -/
def execBudgetOut (e : Engine) (s : State) : Host.Outcome State Fault Refusal :=
  let k := e.val
  let g := s.eng k
  if g.stopped ∨ (!(g.source == .rom || g.source == .romExt) && !(g.running && decide (s.budget k ≤ g.units))) = true then .next s
  else
    let s := ((s.updEng k (fun g => { g with out := true, outRun := g.outRun + 1 })).log 0x0E43
      [word k, s.time.epoch, word g.pc]).raise pCODE 1
    .next ((s.when (decide (3 ≤ (s.eng k).outRun)) (fun s => s.engFall k 0)).engStop k)

/-! ### SEND, RECV, EMIT (R217–R223) -/

/-- Payload of a TX buffer. -/
def txPayload (b : TxChain) : List Byte :=
  let len := field (sget 0#32 b.words 0) 31 25
  (bytesOf ((List.range 63).map (fun i => sget 0#32 b.words (i + 1)))).take (2 * len)
/-- Status of SEND for buffer b of a port (Table 08.8). -/
def State.sendStatus (s : State) (e p b : Nat) : Nat :=
  let t := s.txb (4 * p + b)
  let w := sget 0#32 t.words 0
  let ty := field w 7 0
  let sched := field w 24 24 == 1
  if t.queued then 3
  else if (ty == 1 && !s.mayEnum p) ||
      (s.md != .commission && ((ty == 0x0E && decide (25 < field w 31 25)) || (ty == 8 && decide (24 < leAt (txPayload t) 2 2)))) ||
      (sched && decide ((s.eng e).ext < 4)) then 4
  else if !sched && s.standby then 1
  else if sched && decide ((s.port p).blockM ≤ (s.port p).blockUsed) then 2
  else 0
/-- Sends an accepted buffer. -/
def State.sendBuffer (s : State) (p b : Nat) : State :=
  let t := s.txb (4 * p + b)
  let w := sget 0#32 t.words 0
  let ty := field w 7 0
  let bc := field w 16 16 == 1
  let s := s.updTxb (4 * p + b) (fun t => { t with queued := true })
  if ty = 1 then s.startEnum p
  else
    let (q, s) := if field w 24 24 = 1 then
        ((s.port p).blockS + BitVec.ofNat 16 (s.port p).blockUsed, s.updPort p (fun t => { t with blockUsed := t.blockUsed + 1 }))
      else s.takeSeq p
    let f := mkFrame ty 0 (field w 13 8) s.term ((if bc then flagBCAST else 0#8) ||| (if field w 17 17 = 1 then flagRETRY else 0#8)) q
      (txPayload t)
    let s := s.updTxb (4 * p + b) (fun t => { t with seq := q })
    let s := s.when s.chainMay (fun s => s.chainOut p f)
    if bc then s else s.updPort p (fun t => { t with inFlight := t.inFlight ++ [{ frame := f, hop := field w 13 8 }] })
/-- A number a program may give only up to n: a larger one acts as a free one of the range. -/
def State.ranged (s : State) (v n : Nat) : Nat × State :=
  if v < n then (v, s) else let (w, s) := s.freeWord; (w.toNat % n, s)
def execSend (e : Engine) (d a : RegIx) (s : State) : Host.Outcome State Fault Refusal :=
  .next (s.insn e.val 1 4 (fun pc s =>
    if 12 ≤ e.val then s.engFault e.val pc 0
    else
      let (i, s) := s.ranged ((s.eng e.val).reg a).toNat 16
      let p := 4 * e.val + i / 4
      let st := s.sendStatus e.val p (i % 4)
      let s := s.when (st == 0) (fun s => s.sendBuffer p (i % 4))
      s.updEng e.val (fun g => g.setReg d (word st))))
/-- The last bit of a queued buffer has left; word 61 takes the end of its HCRC. -/
def execTxdone (p : Port) (b : Fin 4) (s : State) : Host.Outcome State Fault Refusal :=
  let k := 4 * p.val + b.val
  if (s.txb k).queued then
    let t := s.now - afterHcrc (field (sget 0#32 (s.txb k).words 0) 31 25)
    .next ((s.updTxb k (fun x => { x with queued := false, words := sset 0#32 x.words 61 (lo32 t) })).engTrigger (p.val / 4) 3)
  else .next s
def execRecv (e : Engine) (d a : RegIx) (s : State) : Host.Outcome State Fault Refusal :=
  .next (s.insn e.val 1 2 (fun pc s =>
    if 12 ≤ e.val then s.engFault e.val pc 0
    else
      let (k, s) := s.ranged ((s.eng e.val).reg a).toNat 4
      let r := s.rxp (4 * e.val + k)
      match r.unread with
      | b :: t => (s.setRxp (4 * e.val + k) { r with unread := t, held := some b }).updEng e.val (fun g => g.setReg d (word (8 * k + b)))
      | [] => (s.setRxp (4 * e.val + k) { r with held := none }).updEng e.val (fun g => g.setReg d 0xFFFFFFFF#32)))

/-- EMIT of a port sequencer: RX buffer to consumer. -/
def State.emitChain (s : State) (e slot v : Nat) : State :=
  let (i, s) := s.ranged v 32
  let p := 4 * e + i / 8
  let f := rxFrame (sget [] (s.rxp p).bufs (i % 8))
  if f.typ = slotType slot then s.consume slot p f else s.updPort p (fun t => { t with emitMismatch := t.emitMismatch + 1 })
/-- EMIT of the wake checker. -/
def State.emitWake (s : State) (slot : Nat) (v : Word) : State :=
  if slot = 2 then { s with land := { s.land with wakePayload := v } }
  else if v = 0#32 then s
  else if slot = 0 then s.wakeDevice else s.assertWakeOut
/-- EMIT; modes 0b01 and 0b11 are illegal forms. -/
def execEmit (e : Engine) (d : RegIx) (slot : Opnd) (s : State) : Host.Outcome State Fault Refusal :=
  .next (s.insn e.val (1 + opExt slot) (2 + opExt slot) (fun pc s =>
    let k := ((s.eng e.val).opZ slot).toNat
    let v := (s.eng e.val).reg d
    match slot with
    | .imm _ => s.engFault e.val pc 0
    | .extHi _ => s.engFault e.val pc 0
    | _ =>
      if slotMax e.val < k then s.engFault e.val pc 4
      else if e.val < 12 then s.emitChain e.val k v.toNat
      else if e.val = 12 then s.emitLimit k (v.toNat : Int)
      else s.emitWake k v))

/-! ### CODE page (R230, R232) -/

def State.codeRefuse (s : State) (e r w : Nat) : State :=
  ({ s with code := { s.code with result := 3, reason := r, errWord := w, waiting := none } }.logN 0x0E41 [e, r, w]).raise pCODE 4
/-- CODE.DATA: one word at ADDR, then ADDR + 4. -/
def State.codeData (s : State) (v : Word) : Except Refuse State :=
  if s.md ≠ .commission then .error .mode
  else
    let a := s.fld pCODE 0x020 15 0
    .ok ({ s with code := { s.code with buf := s.code.buf.writeWord a v } }.setReg pCODE 0x020 (word ((a + 4) % 65536)))
def execCodeData (o : Origin) (v : Word) (s : State) : Host.Outcome State Fault Refusal := .next (s.served o pCODE 0x024 (s.codeData v))
/-- The staged image. -/
def State.codeImage (s : State) : List Byte :=
  let h := s.code.buf.read 0 20
  s.code.buf.read 0 (Nat.min 65536 (imgLen h))
/-- CODE.CTRL.LOAD; in a pair the verified image goes to the partner, whose verdict decides. -/
def State.codeLoad (s : State) (o : Origin) : Except Refuse State :=
  if !s.unlockedFor o pCODE then .error .lock
  else if s.md ≠ .commission then .error .mode
  else
    let l := s.codeImage
    let e := leAt l 4 1
    match verifyImage l with
    | some (r, w) => .ok (s.codeRefuse e r w)
    | none =>
      let s := { s with code := { s.code with result := 1, reason := 0, errWord := 0 } }
      if s.pair.hasPartner then
        .ok ({ s with code := { s.code with waiting := some l } }.sendPair 0x21 (12#32 :: wordsOf l))
      else .ok { s with code := { s.code with ready := some l } }
def execLoad (o : Origin) (s : State) : Host.Outcome State Fault Refusal := .next (s.served o pCODE 0x008 (s.codeLoad o))
def State.codeAbort (s : State) : Except Refuse State :=
  .ok { s with code := { s.code with buf := [], waiting := none, result := 0, reason := 0, errWord := 0 } }
def execCodeAbort (o : Origin) (s : State) : Host.Outcome State Fault Refusal := .next (s.served o pCODE 0x008 s.codeAbort)
/-- The partner's verdict on the mirrored image. -/
def execPartnerVerify (ok : Bool) (s : State) : Host.Outcome State Fault Refusal :=
  match s.code.waiting with
  | some l =>
    if ok ∧ s.md = .commission then .next { s with code := { s.code with waiting := none, ready := some l } }
    else .next (s.codeRefuse (leAt l 4 1) 8 0)
  | none => .next s

/-- At a sample instant: a loaded image goes to its engines; outside COMMISSION the programs of R231 return (R232, R233). -/
def State.codeInstant (s : State) : State :=
  let s := match s.code.ready with
    | some l =>
      if s.md = .commission then
        let s := foldS (imgEngines (leAt l 4 1)) (fun s e => (s.updEng e (fun g => { g with next := some (l, .codeImage) })).engInstall e) s
        { s with code := { s.code with ready := none, result := 2 } }
      else { s with code := { s.code with ready := none, result := 0 } }
    | none => s
  if s.md = .commission then s
  else foldS (List.range 14) (fun s e => if (s.eng e).fromCode then (s.engGeneration e).engInstall e else s) s

end Sys2Proof.Machine
end

