-- ==== Sys2Proof/Machine/Chain.lean ====
section
/-! DEFINITION. Reception on the chain ports and response timeouts (R67, R75, R88, R218). -/
namespace Sys2Proof.Machine

/-- Responses that a ROM program takes; the rest stays for the extension. -/
def romTakes (f : ChainFrame) : Bool := f.dir != 1#2 || f.typ == 0x8E#8 || (typeSlot f.typ).isSome

/-- The ROM program takes a stored frame and frees its buffer. -/
def State.romRead (s : State) (p : Nat) (f : ChainFrame) : State :=
  let s := s.updRxp p (fun r => { r with unread := r.unread.dropLast, held := r.unread.getLast? })
  match typeSlot f.typ with
  | some k => s.consume k p f
  | none => s

/-- A frame that passed its checks: its buffer, and its reader. A copy of a response already taken is not read again. -/
def State.chainStore (s : State) (p : Nat) (f : ChainFrame) (again : Bool) : State :=
  let (s, ok) := s.rxPut p f
  let e := p / 4
  if !ok then s
  else if (s.eng e).source == .rom || ((s.eng e).source == .romExt && romTakes f) then
    if (s.eng e).stopped then s
    else if again then s.updRxp p (fun r => { r with unread := r.unread.dropLast, held := r.unread.getLast? })
    else s.romRead p f
  else s.engTrigger e 1

/-- A downward frame of port p. -/
def State.chainRx (s : State) (p : Nat) (f : ChainFrame) : State :=
  let s := (s.wakeL2.traceRx p f).toneHeader p f.flags 0
  let (i, s) := s.answered p f
  let s := if f.dir = 1#2 ∧ f.typ = 0x8E#8 then s.echoResponse p f.hop.toNat else s
  let s := s.chainStore p f (f.flags.getLsbD 1 && s.active && i.isNone)
  -- a configuration or test that was the last one awaited lets the port go on
  let s := if f.typ = 0x86#8 then s.testNext p else s
  engExt (p / 4) 5 s

/-- A frame other than a tone that passes HCRC, PCRC and LEN (R75); tones act through R100 alone. -/
def execChainFrame (p : Port) (f : ChainFrame) (s : State) : Host.Outcome State Fault Refusal :=
  if f.ok ∧ f.dir ≠ 0#2 ∧ f.dir ≠ 3#2 ∧ s.portEn p.val = true then .next (s.chainRx p.val f) else .next s

/-- Both resends have failed. -/
def State.retryOut (s : State) (p : Nat) (i : InFlight) : State :=
  let s := (s.updPort p (fun t => { t with inFlight := t.inFlight.filter (fun j => j.frame.seq != i.frame.seq) })).raise (psPage p) (24 + p % 4)
  let m := s.modOf p i.hop
  if i.frame.typ = 0x06#8 then s.testNext p
  else if i.frame.typ = 0x09#8 then s.authNoAnswer p i.hop
  else if i.frame.typ = 0x05#8 then s.balLost m
  else s

/-- The response timeout of a command, or the end of the collection of ENUM responses. -/
def State.respTimeout (s : State) (p : Nat) (seq : Half) : State :=
  if (s.port p).enumSeq = some seq then s.enumDone p
  else
    match (s.port p).inFlight.find? (fun i => i.frame.seq == seq) with
    | some i => engExt (p / 4) 5 (if i.resends < 2 then s.resend p i else s.retryOut p i)
    | none => s
def execResponseTimeout (p : Port) (seq : Half) (s : State) : Host.Outcome State Fault Refusal := .next (s.respTimeout p.val seq)

end Sys2Proof.Machine
end

