-- ==== Sys2Proof/Machine/Cores.lean ====
section
/-! DEFINITION. The safety core pair (13): comparison, mismatch, self-test, single operation of a core, split and rejoin, debug. -/
namespace Sys2Proof.Machine

/-! ### Permit (R343) -/

/-- The permit is withdrawn. -/
def State.permitOff (s : State) : State :=
  if s.scor.permit then { s with scor := { s.scor with permit := false, withdrawnAt := s.now }, pair := { s.pair with revertSince := none } } else s
/-- The permit returns. A standby that is ELIGIBLE again waits REVERT_T anew (R377). -/
def State.permitOn (s : State) : State :=
  if s.scor.compOk then { s with scor := { s.scor with permit := true, unresolved := false }, ban := { s.ban with permitActing := false } }.revertRestart else s

/-! ### Handover request (R368) -/

/-- The first whole millisecond from t on at least 50 µs away from every launch. -/
def pickMs : Nat → Nat → List Nat → Nat
  | 0, t, _ => t
  | n + 1, t, ls => if ls.any (fun l => decide (l < t + 50000 ∧ t < l + 50000)) then pickMs n (t + 1000000) ls else t
def State.handoverAt (s : State) : Nat := pickMs 50 ((s.now + 500000 + 999999) / 1000000 * 1000000) s.launchesAhead
/-- Sends a handover request; causes 0 MISMATCH, 1 LOCKOUT, 2 REVERT, 3 SWAP, 4 RESTART as in the HANDOVER record. -/
def State.askHandover (s : State) (cause tries : Nat) : State :=
  let t := s.handoverAt
  { s with pair := { s.pair with handover := some { instant := t, cause := cause, tries := tries, accepted := false } } }.sendPair 3 (0#32 :: two t)
/-- A device of a pair, active, with a synchronised partner. -/
def State.pairedActive (s : State) : Bool := s.pair.role == .active && s.pair.hasPartner && s.pair.partnerSynced
/-- The handover a failure of this device asks for. -/
def State.failOver (s : State) (cause : Nat) : State :=
  if s.pairedActive && s.pair.partnerEligible && s.pair.handover.isNone then s.askHandover cause 1 else s

/-! ### LOCKOUT of a device cause (R350, R366) -/

/-- LOCKOUT of cause CORE (4) or SELFTEST (5) on a standby: the device alone, without an opening. -/
def State.lockoutAlone (s : State) (cause : Nat) : State :=
  let s := (s.logN 0x0C03 [cause, s.md.code]).raise pMODE 2
  let s := { s with mode := { s.mode with reqCauses := s.mode.reqCauses ||| (1#5 <<< (cause - 1)),
                                          reqFirst := if s.mode.reqFirst = 0 then cause else s.mode.reqFirst } }.enterLockout
  { s with pair := { s.pair with role := .unavailable, changed := true } }
/-- LOCKOUT of a device cause: a standby locks out alone, an active device of a pair hands over and
locks out alone after it, else the section goes to LOCKOUT. -/
def State.deviceLockout (s : State) (cause : Nat) : State :=
  if s.standby then s.lockoutAlone cause
  else
    let s := s.failOver 1
    if s.pair.handover.isSome then { s with pair := { s.pair with lockCause := cause } } else s.lockout cause

/-! ### Mismatch (R348) -/

def MisCause.code : MisCause → Nat
  | .sig => 1
  | .lag => 2
  | .gate => 3
  | .input => 4
  | .coreFault => 5

/-- MISMATCH record and counters; `w` is the number of the mismatched window. -/
def State.misRecord (s : State) (c : MisCause) (detail w : Nat) (m k : DWord) : State :=
  let s := { s with scor := { s.scor with cause := some c, detail := detail, misWindow := w, sigMain := m, sigChk := k,
                                          mismatches := Nat.min 255 (s.scor.mismatches + 1) } }
  (s.log 0x0901 ([word c.code, word w] ++ two m.toNat ++ two k.toNat)).raise pSCOR 0
/-- A mismatch: the permit goes, the pair self-tests for 12 ms, an active device asks its partner to take over. -/
def State.mismatch (s : State) (c : MisCause) (detail w : Nat) (m k : DWord) : State :=
  let s := (s.misRecord c detail w m k).permitOff
  { s with scor := { s.scor with unresolved := true, st := .selftest, selftestEnd := s.now + msNs 12, rejoin := 0, resuming := false } }.failOver 0
/-- A mismatch in window 2 or 3 of a rejoin leaves the pair split. -/
def State.rejoinFailed (s : State) (c : MisCause) (detail w : Nat) (m k : DWord) : State :=
  let n := s.scor.rejoin
  let s := s.misRecord c detail w m k
  ({ s with scor := { s.scor with st := .split, rejoin := 0 } }).logN 0x0908 [0, n]

/-! ### Windows (R341, R346) -/

/-- W, ns. -/
def State.winNs (s : State) : Nat := Nat.max 1 (s.fld pSCOR 0x020 31 24) * 250000
def State.agreeMode (s : State) : Bool := s.bit pSCOR 0x020 23

/-- Counts the differing inputs of a tick; answers whether one has differed in three consecutive windows. -/
def State.disagree (s : State) (l : List (Nat × Word × Word)) : State × Bool :=
  let run := l.map (fun d => (d.1, sget 0 s.scor.disRun d.1 + 1))
  let s := { s with scor := { s.scor with disagreements := Nat.min 65535 (s.scor.disagreements + l.length),
                                          disRun := run.foldl (fun st e => sput st e.1 e.2) [] } }
  (foldS l (fun s d => (s.log 0x090A [word d.1, d.2.1, d.2.2]).raise pSCOR 6) s, run.any (fun e => decide (3 ≤ e.2)))

/-- A mismatch found within window now / W, whose signatures are still open and not among what the command brings: free words. -/
def State.openMismatch (s : State) (c : MisCause) (detail : Nat) : State :=
  let (a, s) := s.freeWord
  let (b, s) := s.freeWord
  let (d, s) := s.freeWord
  let (e, s) := s.freeWord
  let w := s.now / s.winNs
  if s.scor.st = .rejoining ∧ 2 ≤ s.scor.rejoin then s.rejoinFailed c detail w (a ++ b) (d ++ e)
  else (s.mismatch c detail w (a ++ b) (d ++ e)).lockWake

/-- The comparison at the tick that ends a window: none where the window passes. -/
def compareWindow (mainClosed checkerClosed : Bool) (m k : DWord) (input : Bool) : Option MisCause :=
  if !mainClosed || !checkerClosed then some .lag else if m ≠ k then some .sig else if input then some .input else none

/-- One comparison in a state that compares, at the tick that ends window w. -/
def State.compared (s : State) (bad : Option MisCause) (w : Nat) (m k : DWord) : State :=
  match s.scor.st, bad with
  | .dual, some c => s.mismatch c 0 w m k
  | .dual, none => if s.scor.resuming then { s with scor := { s.scor with resuming := false } }.permitOn else s
  | .rejoining, some c => s.rejoinFailed c 0 w m k
  | .rejoining, none =>
    if s.scor.rejoin = 2 then { s with scor := { s.scor with rejoin := 3 } }
    else ((({ s with scor := { s.scor with st := .dual, rejoin := 0 } }.permitOn).logN 0x0908 [1, 3]).raise pSCOR 3)
  | _, _ => s

/-- Window tick k: it ends window k - 1. -/
def execWindowTick (mainClosed checkerClosed : Bool) (sigMain sigChecker : DWord) (differing : List (Nat × Word × Word)) (s : State) :
    Host.Outcome State Fault Refusal :=
  if s.scor.compOk then
    let k := Nat.max (s.scor.window + 1) (s.now / s.winNs)
    let s := s.reach (k * s.winNs)
    let s := { s with scor := { s.scor with window := k } }
    let both := s.scor.st == .dual || (s.scor.st == .rejoining && decide (2 ≤ s.scor.rejoin))
    let (s, input) := if both && s.agreeMode then s.disagree differing else (s, false)
    let s := if s.scor.st = .rejoining ∧ s.scor.rejoin = 1 then { s with scor := { s.scor with rejoin := 2 } }
      else if both then s.compared (compareWindow mainClosed checkerClosed sigMain sigChecker input) (k - 1) sigMain sigChecker else s
    let s := if s.scor.expiring ∧ s.closedList = [] then { s with scor := { s.scor with expiring := false } }.lockout 4 else s
    .next ((s.banEval false).lockWake)
  else .next s

/-- A gated output was not written by both cores within 100 µs, or not equally (R340). -/
def execGateTimeout (s : State) : Host.Outcome State Fault Refusal :=
  if s.scor.st = .dual ∨ (s.scor.st = .rejoining ∧ 2 ≤ s.scor.rejoin) then .next (s.openMismatch .gate 0) else .next s

/-- A core's own fault. -/
def execCoreFault (checker : Bool) (s : State) : Host.Outcome State Fault Refusal :=
  let iso := if checker then s.scor.chkIso else s.scor.mainIso
  match s.scor.st with
  | .selftest => .next s
  | .noCore => .next s
  | _ => if iso then .next s else .next (s.openMismatch .coreFault (b2n checker))

/-! ### Self-tests (Table 13.5, R351, R352) -/

def State.singleMax (s : State) : Nat := s.fld pSCOR 0x020 9 0

/-- A core becomes ISOLATED. The failing test is not among what the command brings: a free word. -/
def State.isolate (s : State) (checker : Bool) : State :=
  let done := if checker then s.scor.chkIso else s.scor.mainIso
  if done then s
  else
    let (w, s) := s.freeWord
    let s := (s.log 0x0903 [word (b2n checker), w]).raise pSCOR 4
    { s with scor := if checker then { s.scor with chkIso := true } else { s.scor with mainIso := true } }

/-- The surviving core runs single. -/
def State.runSingle (s : State) (checkerLives : Bool) : State :=
  let first := s.scor.singleSince.isNone
  let s := { s with scor := { s.scor with st := if checkerLives then .singleChecker else .singleMain, rejoin := 0,
                                          singleSince := some (s.scor.singleSince.getD s.now) } }.permitOn
  let s := if first then s.logN 0x0904 [b2n checkerLives, s.singleMax] else s
  if s.singleMax = 0 then s.deviceLockout 4 else s

def execCoreSelftestEnd (mainPass checkerPass : CorePass) (s : State) : Host.Outcome State Fault Refusal :=
  if s.scor.st = .selftest then
    let m := mainPass && !s.scor.mainIso
    let c := checkerPass && !s.scor.chkIso
    let s := (s.logN 0x0902 [b2n m, b2n c, (s.now + msNs 12 - s.scor.selftestEnd) / 1000]).raise pSCOR 1
    if m && c then
      let again := s.scor.transAt.any (fun t => decide (s.now < t + sNs 86400))
      let s := { s with scor := { s.scor with st := .rejoining, rejoin := 1, rejoinOfSplit := false, transAt := (s.now :: s.scor.transAt).take 256 } }
      .next ((s.when again (fun s => s.deviceLockout 4)).lockWake)
    else if m then .next ((s.isolate true).runSingle false).lockWake
    else if c then .next ((s.isolate false).runSingle true).lockWake
    else
      let s := (s.isolate false).isolate true
      let s := { s with scor := { s.scor with st := .noCore } }
      if s.standby then .next (s.lockoutAlone 4) else .next ((s.failOver 1).lockoutAtOnce 4).lockWake
  else .next s

def State.singleCore (s : State) : Bool := s.scor.st == .singleMain || s.scor.st == .singleChecker

/-- The survivor's self-test every 600 s; CLOSE is held for its 12 ms. -/
def execSingleSelftest (pass : CorePass) (s : State) : Host.Outcome State Fault Refusal :=
  if s.singleCore then
    let s := { s with scor := { s.scor with holdUntil := s.now + msNs 12 } }
    .next (if pass then s else (s.deviceLockout 4).lockWake)
  else .next s

def execSingleExpired (s : State) : Host.Outcome State Fault Refusal :=
  match s.scor.singleSince with
  | some t =>
    if s.singleCore = false ∨ s.scor.singleExpired = true then .next s
    else
      let s := s.reach (t + sNs (3600 * s.singleMax))
      let s := ({ s with scor := { s.scor with singleExpired := true } }.logN 0x0905 [s.pair.role.code]).raise pSCOR 5
      if s.standby then .next (s.lockoutAlone 4)
      else
        let s := foldS s.closedList (fun s x => s.softReq x .core) s
        .next { s with scor := { s.scor with expiring := true } }
  | none => .next s

/-! ### Split and rejoin (R353) -/

def State.coreSplit (s : State) (o : Origin) : Except Refuse State :=
  if s.scor.st = .dual ∧ (s.md = .dormant ∨ s.md = .commission ∨ s.md = .ready) then
    .ok (({ s.permitOff with scor := { s.permitOff.scor with st := .split } }.logN 0x0907 [o.code]).raise pSCOR 2)
  else .error .mode
def execSplit (o : Origin) (s : State) : Host.Outcome State Fault Refusal := .next (s.served o pSCOR 0x008 (s.coreSplit o))

def State.coreRejoin (s : State) : Except Refuse State :=
  if s.scor.st = .split then .ok { s with scor := { s.scor with st := .rejoining, rejoin := 1, rejoinOfSplit := true } } else .error .mode
def execRejoin (o : Origin) (s : State) : Host.Outcome State Fault Refusal := .next (s.served o pSCOR 0x008 s.coreRejoin)

/-! ### Debug with replay (R354) -/

/-- The main core halts: a session begins. -/
def State.debugHalt (s : State) : State :=
  { s.permitOff with scor := { s.permitOff.scor with st := .halted, actions := 1 }, stw := { s.stw with halted := true } }
/-- Comparison restarts at the next tick; the session ends with its record. -/
def State.debugResume (s : State) : State :=
  if s.scor.st = .halted then
    let s := (s.logN 0x0909 [2, s.scor.actions]).raise pSCOR 7
    { s with scor := { s.scor with st := .dual, resuming := true, actions := 0 }, stw := { s.stw with halted := false } }
  else s
def State.debugAction (s : State) : State := { s with scor := { s.scor with actions := s.scor.actions + 1 } }

end Sys2Proof.Machine
end

