-- ==== Sys2Proof/Machine/Flows.lean ====
section
/-! DEFINITION. The Hall's banks and pins (R30, R31, R409–R411) and the flow engine (R420–R425). -/
namespace Sys2Proof.Machine

/-! ### Banks and pins -/

/-- The bank of a pin in force. -/
def State.pinned (s : State) : Option Nat := match s.hall.pin with | some p => if p.released then none else p.bank | none => none

/-- A pin after a commit into bank w: a pin that waited takes it; the fourth commit releases a pin. -/
def Pin.commit (p : Pin) (w : Nat) : Pin :=
  if p.released then p
  else
    match p.bank with
    | none => { p with bank := some w, age := 0 }
    | some _ => { p with age := p.age + 1, released := decide (4 ≤ p.age + 1) }

/-- Commits a bank in one step (R30). -/
def State.commitBank (s : State) (b : Bank) : State :=
  let w := s.hall.writing
  let was := s.hall.pin
  let pin := was.map (fun p => p.commit w)
  let gone := match was, pin with | some p, some q => !p.released && q.released | _, _ => false
  let owner := match was with | some p => [p.owner] | none => []
  let s := { s with hall := { s.hall with banks := sput s.hall.banks w b, former := s.hall.newest, newest := some w, pin := pin,
                                          stale := if gone then s.hall.stale ++ owner else s.hall.stale } }
  let ok := fun (k : Nat) => decide (k ≠ w) && s.pinned != some k
  let next := ((List.range 3).find? (fun k => ok k && s.hall.former != some k)).getD (((List.range 3).find? ok).getD 0)
  let s := { s with hall := { s.hall with writing := next } }.raise pHALL 0
  s.when gone (fun s => s.raise pHALL 1)

/-- OPEN at the sample instant: pins the newest bank for its origin. -/
def State.hallOpenNow (s : State) (o : Origin) : State :=
  { s with hall := { s.hall with pin := some { owner := o, bank := s.hall.newest, age := 0, released := false }
                                 stale := s.hall.stale.filter (fun x => x != o) } }
def State.hallCloseNow (s : State) (o : Origin) : State :=
  { s with hall := { s.hall with pin := match s.hall.pin with
                                        | some p => if p.owner = o then none else some p
                                        | none => none
                                 stale := s.hall.stale.filter (fun x => x != o) } }

/-- A pin of another origin is in force. -/
def State.pinOther (s : State) (o : Origin) : Bool :=
  match s.hall.pin with
  | some p => !p.released && p.owner != o
  | none => false

/-- HALL.CTRL (R410): accepted for the next sample instant. -/
def State.hallOpen (s : State) (o : Origin) : Except Refuse State :=
  if s.pinOther o then .error .mode else .ok (s.toShadow o pHALL 0x008 1#32)
def execHallOpen (o : Origin) (s : State) : Host.Outcome State Fault Refusal :=
  match s.hallOpen o with
  | .ok t => .next t
  | .error r => .next (s.refuse o pHALL 0x008 r)
def execHallClose (o : Origin) (s : State) : Host.Outcome State Fault Refusal := .next (s.toShadow o pHALL 0x008 2#32)

/-- Word of the Hall window as an origin reads it: none where its reads are STALE. -/
def State.hallRead (s : State) (o : Origin) (w : Nat) : Option Word :=
  if s.hall.stale.contains o then none
  else
    let k := match s.hall.pin with
      | some p => if p.owner = o ∧ p.released = false then (match p.bank with | some b => some b | none => s.hall.newest) else s.hall.newest
      | none => s.hall.newest
    match k with
    | some b => some (Bank.get (sget {} s.hall.banks b) w)
    | none => some 0#32

/-! ### Flow descriptors (Table 16.7) -/

def FlowSt.w (f : FlowSt) (k : Nat) : Word := f.desc.getD k 0#32
def FlowSt.en (f : FlowSt) : Bool := (f.w 0).getLsbD 31
def FlowSt.pair (f : FlowSt) : Bool := (f.w 0).getLsbD 30
def FlowSt.sink (f : FlowSt) : Nat := field (f.w 0) 29 28
def FlowSt.ctl (f : FlowSt) : Nat := field (f.w 0) 27 26
def FlowSt.trig (f : FlowSt) : Nat := field (f.w 0) 25 24
def FlowSt.n (f : FlowSt) : Nat := field (f.w 0) 23 16
def FlowSt.region (f : FlowSt) : Nat := field (f.w 0) 15 12
def FlowSt.full (f : FlowSt) : Bool := field (f.w 0) 11 8 == 1
def FlowSt.phase (f : FlowSt) : Nat := field (f.w 0) 7 0
def FlowSt.count (f : FlowSt) : Nat := field (f.w 2) 31 16
def FlowSt.start (f : FlowSt) : Nat := field (f.w 2) 15 0
def FlowSt.delta (f : FlowSt) : Nat := field (f.w 3) 31 16
def FlowSt.bufs (f : FlowSt) : List Nat := (List.range (field (f.w 3) 7 0)).map (fun i => 64 * f.ctl + (field (f.w 3) 15 8 + i) % 64)

/-- A descriptor a register write or staging accepts (R420–R425). -/
def descOk (f : FlowSt) : Bool :=
  !f.en ||
  (decide (f.sink < 3) && decide (f.trig < 3) && decide (f.region < 12) && decide (field (f.w 0) 11 8 < 2) &&
   (f.trig != 0 || (decide (0 < f.n) && decide (f.phase < f.n))) &&
   (f.trig != 1 || (f.region != 3 && f.region != 4 && f.region != 11)) &&
   (f.trig != 2 || (decide (1 ≤ f.n) && decide (f.n ≤ 4))) &&
   (f.sink != 2 || (f.region == 11 && f.trig == 2 && f.n == 2)) &&
   (f.sink != 0 || !f.full || (f.w 1).getLsbD 31))

/-! ### Elements (Table 16.8) -/

def Bank.words4 (b : Bank) (w n : Nat) : List Byte := bytesOf ((List.range n).map (fun i => b.get (w + i)))
def half (w : Word) (high : Bool) : List Byte := leBytes 2 (if high then w.toNat / 65536 else w.toNat % 65536)
/-- Bytes of element i; empty where it is not in the epoch's slice. -/
def Bank.elem (b : Bank) (region i : Nat) : List Byte :=
  let k := b.epoch.toNat % 24
  if region = 0 then b.words4 i 1
  else if region = 1 then b.words4 (128 + i) 1
  else if region = 2 then b.words4 (256 + i) 1
  else if region = 3 then b.words4 (512 + 12 * i) 12
  else if region = 4 then b.words4 (0x440 + 16 * i) 16
  else if region = 5 then half (b.get (0x1000 + 2 * i)) false
  else if region = 6 then half (b.get (0x1000 + 2 * i)) true
  else if region = 7 then half (b.get (0x1000 + 2 * i + 1)) false
  else if region = 8 then half (b.get (0x1000 + 2 * i + 1)) true
  else if region = 9 then (if i / 640 = k then b.words4 (0x800 + i % 640) 1 else [])
  else if region = 10 then (if i / 1280 = k then half (b.get (0x800 + 640 + i % 1280 / 2)) (i % 2 == 1) else [])
  else []
def FlowSt.elems (f : FlowSt) (b : Bank) : List (Nat × List Byte) :=
  ((List.range f.count).map (fun i => (f.start + i, b.elem f.region (f.start + i)))).filter (fun e => !e.2.isEmpty)

/-- The element differs from its value at the last emission by more than DELTA. -/
def FlowSt.moved (f : FlowSt) (e : Nat × List Byte) : Bool :=
  match slook f.lastElems e.1 with
  | none => true
  | some w =>
    if f.region = 0 ∨ f.region = 1 ∨ f.region = 8 then w != word (ofLe e.2)
    else
      let n := 8 * e.2.length
      let d := toSigned n (ofLe e.2) - toSigned n (w.toNat % 2 ^ n)
      decide ((f.delta : Int) < absI d)

/-! ### Events (Table 16.9) -/

/-- Event code of a flow happened between two banks; `imgs`: ports captured. -/
def eventNow (f : FlowSt) (old b : Bank) (imgs : List Nat) : Bool :=
  let same := fun (l : List Nat) => l.all (fun w => old.get w == b.get w)
  if f.n = 1 then !same [0x74A, 0x74B, 0x74F]
  else if f.n = 2 then imgs.any (fun p => decide (f.start ≤ p) && decide (p < f.start + f.count))
  else if f.n = 3 then
    let g := fun (x : Bank) => (field (x.get 1) 15 8, field (x.get 1) 19 16, field (x.get 1) 23 20)
    g old != g b
  else (List.range 48).any (fun x => field (old.get (0x44C + 16 * x)) 7 4 != field (b.get (0x44C + 16 * x)) 7 4)

/-- A flow emits for the epoch of bank b (R421). -/
def FlowSt.fires (f : FlowSt) (old b : Bank) (imgs : List Nat) : Bool :=
  if f.trig = 0 then decide (f.n ≠ 0) && b.epoch.toNat % f.n == f.phase
  else if f.trig = 1 then
    (f.elems b).any f.moved || f.emitted == 0 && f.lastEpoch == 0#32 || (f.n != 0 && decide (f.n ≤ (b.epoch - f.lastEpoch).toNat))
  else eventNow f old b imgs

/-! ### Emission (R422–R425) -/

def dlcFor (fdf : Bool) (n : Nat) : Nat := ((List.range 16).find? (fun d => decide (n ≤ dlcLen fdf d))).getD (if fdf then 15 else 8)
def padTo (l : List Byte) (n : Nat) : List Byte := l ++ zeros (n - l.length)
/-- Pieces of n elements. -/
def pieces {α : Type} (n : Nat) : Nat → List α → List (List α)
  | 0, _ => []
  | k + 1, l => if l.length ≤ n then [l] else l.take n :: pieces n k (l.drop n)

/-- Buffer words of the CAN frames of an emission. -/
def State.flowFrames (s : State) (f : FlowSt) (epoch : Word) (data : List Byte) : List (List Word) :=
  let fd := (f.w 1).getLsbD 31
  let pack := fun (d : List Byte) =>
    packWords false f.pair ((f.w 1).getLsbD 29) fd ((f.w 1).getLsbD 30) (field (f.w 1) 28 0) (dlcFor fd d.length) (padTo d (dlcLen fd (dlcFor fd d.length)))
  if f.full then
    let ps := pieces 56 4096 data
    (ps.zip (List.range ps.length)).map (fun e =>
      pack (leBytes 4 epoch.toNat ++ [s.term, BitVec.ofNat 8 (at_ 7 (b2n (e.2 + 1 == ps.length)))] ++ leBytes 2 e.2 ++ padTo e.1 56))
  else [pack ([s.term, BitVec.ofNat 8 epoch.toNat] ++ data)]

def State.bufFree (s : State) (k : Nat) : Bool := (s.buf k).st != .queued && (s.buf k).st != .sending
/-- Waiting frames of flow i take free buffers of the flow, in order. -/
def flowFeed (i : Nat) : Nat → State → State
  | 0, s => s
  | n + 1, s =>
    match (s.flow i).queue with
    | [] => s
    | q :: t =>
      match (s.flow i).bufs.find? s.bufFree with
      | none => s
      | some k =>
        let s := (s.bufQueue k q.2).updBuf k (fun b => { b with flow := some i })
        flowFeed i n (s.updFlow i (fun f => { f with queue := t }))

/-- Frames of the previous emission not yet SENT are withdrawn and counted LATE. -/
def State.flowWithdraw (s : State) (i : Nat) : State :=
  let f := s.flow i
  let ks := f.bufs.filter (fun k => (s.buf k).flow == some i && !s.bufFree k)
  if ks.isEmpty ∧ f.queue.isEmpty then s
  else
    let s := foldS ks (fun s k => s.bufDrop k .withdrawn) s
    (s.updFlow i (fun f => { f with queue := [], late := Nat.min 0xFFFF (f.late + 1) })).raise pFLOW 0

/-- Host FIFO parts of an emission. -/
def State.flowHost (s : State) (i : Nat) (epoch : Word) (data : List Byte) : State :=
  let ws := wordsOf (padTo data ((data.length + 3) / 4 * 4))
  let ps := pieces 252 8192 ws
  foldS (ps.zip (List.range ps.length)) (fun s e =>
    s.hostPush 1 ([epoch, word (at_ 24 s.term.toNat + i), word (at_ 31 (b2n (e.2 + 1 == ps.length)) + e.2)] ++ e.1)) s

/-- One emission of data; `port`: that of an image, else 48. -/
def State.flowSend (s : State) (i : Nat) (epoch : Word) (data : List Byte) (port : Nat) : State :=
  let f := s.flow i
  if f.sink = 1 then s.flowHost i epoch data
  else if f.sink = 2 then
    if s.active then s.sendPair 0x12 (0#32 :: 0#32 :: wordsOf (padTo data ((data.length + 3) / 4 * 4))) else s
  else if s.active || (f.pair && s.standby) then
    let s := if f.region = 11 then s.updFlow i (fun f => { f with queue := f.queue.filter (fun q => q.1 != port) }) else s.flowWithdraw i
    let fs := (s.flowFrames f epoch data).map (fun w => (port, w))
    flowFeed i 4096 (s.updFlow i (fun f => { f with queue := f.queue ++ fs }))
  else s

/-- A flow emits for bank b. -/
def State.flowEmit (s : State) (i : Nat) (b : Bank) (imgs : List Nat) : State :=
  let f := s.flow i
  let s := s.updFlow i (fun f => { f with emitted := (f.emitted + 1) % 65536, lastEpoch := b.epoch })
  if f.region = 11 then
    foldS (imgs.filter (fun p => decide (f.start ≤ p) && decide (p < f.start + f.count)))
      (fun s p => s.flowSend i b.epoch (sget [] s.est.images p) p) s
  else
    let es := f.elems b
    let s := s.updFlow i (fun f => { f with lastElems := es.foldl (fun l e => if e.2.length ≤ 4 then sput l e.1 (word (ofLe e.2)) else l) f.lastElems })
    s.flowSend i b.epoch (es.flatMap (·.2)) 48

/-- The flow engine on the newest bank, in ascending flow number. -/
def State.flowEngine (s : State) (old : Bank) (imgs : List Nat) : State :=
  match s.newestBank with
  | none => s
  | some b =>
    foldS (List.range 512) (fun s i =>
      let f := s.flow i
      if f.en && f.fires old b imgs then s.flowEmit i b imgs else s) s

/-- A buffer of a flow has been sent: the next frame that waits takes it. -/
def State.flowNext (s : State) (k : Nat) : State :=
  match (s.buf k).flow with
  | some i => flowFeed i 64 s
  | none => s

/-- FLOW.DESCw of the selected flow, as it takes effect. -/
def State.flowDesc (s : State) (i w : Nat) (v : Word) : State := s.updFlow i (fun f => { f with desc := f.desc.set w v })
end Sys2Proof.Machine
end

