-- ==== Sys2Proof/Machine/GenSwitch.lean ====
section
/-! DEFINITION. The settings generation switch: proposal, switch epoch, reload of fields and overrides (R35, R51, R476). -/
namespace Sys2Proof.Machine

/-- First epoch whose sample instant lies at or after t. -/
def State.epochFrom (s : State) (t : Nat) : Word :=
  let p : Int := s.tEpoch
  if s.time.sampling = false ∨ p = 0 then s.nextN
  else
    let n := ((t : Int) - s.time.tBase + p - 1) / p
    if n ≤ (s.time.epoch.toNat : Int) then s.nextN else wordI n

/-- A field of a register under a new generation: a walled override is kept or clipped, any other "gen" field reloads. -/
def reloadField (pg off : Nat) (old new v : Word) (f : Fld) : Nat × Bool :=
  let x := field v f.hi f.lo
  let o := field old f.hi f.lo
  let n := field new f.hi f.lo
  if f.gen = false then (x, false)
  else if f.wall = .none ∨ x = o then (n, false)
  else if outward pg off f n x then (n, true)
  else (x, false)

/-- The register after the switch, and whether an override was clipped. -/
def reloadWord (pg off : Nat) (old new v : Word) : Word × Bool :=
  match regFlds pg off with
  | some fs => fs.foldl (fun a f => let r := reloadField pg off old new v f; (setField a.1 f.hi f.lo r.1, a.2 || r.2)) (v, false)
  | none => (v, false)

/-- Overrides under the new generation: `t` is the state before. Answers whether any was clipped. -/
def State.reloadRegs (s t : State) : State × Bool :=
  t.regs.foldl (fun (a : State × Bool) e =>
    let pg := e.1 / 4096
    let off := e.1 % 4096
    let r := reloadWord pg off (t.genWord pg off) (a.1.genWord pg off) e.2
    let u := a.1.setReg pg off r.1
    if r.2 then (u.log 0x0D05 [word pg, word off, e.2, a.1.genWord pg off], true) else (u, a.2)) (s, false)

/-- A "gen" value of the page has changed. -/
def State.pageChanged (s t : State) (pg : Nat) : Bool :=
  (genAddrs.filter (fun a => a / 4096 == pg)).any (fun a => s.reg pg (a % 4096) != t.reg pg (a % 4096))

/-- The generation of slot k comes into force at the sample instant of epoch n. -/
def State.switchGen (t : State) (k : Nat) (n : Word) : State :=
  let tn := t.tOf n
  let s := t.loadGen k
  let s := { s with time := { s.time with tBase := (tn : Int) - (n.toNat : Int) * (s.tEpoch : Int) } }
  let (s, clipped) := s.reloadRegs t
  let s := { s with dev := { s.dev with clipped := clipped } }.when clipped (fun s => s.raise pDEV 2)
  let s := foldS (List.range 0x2C) (fun s pg => if s.pageChanged t pg then s.bumpCfg pg else s) s
  let s := foldS (List.range 256) (fun s b =>
    if (s.buf b).st = .queued ∧ s.bufOwner (b / 64) (b % 64) ≠ t.bufOwner (b / 64) (b % 64) then s.bufDrop b .withdrawn else s) s
  let s := foldS (List.range 14) (fun s e => (s.engGeneration e).engInstall e) s.rescaleAll
  let s := foldS range48 (fun s p => s.updPort p (fun x => { x with enumerated := false })) s
  let s := s.setSlotState k { s.slotState k with switched := true }
  let s := t.banReload s
  let s := { s with sw := {}, syncT := { s.syncT with conflict := false }, start := { s.start with onlyG0 := false } }
  ((s.logN 0x0D03 [t.otp.inForce, k, n.toNat]).raise pOTP 2).lockAll

/-- The switch due at epoch n. -/
def State.switchDue (s : State) (n : Word) : Option Nat :=
  if s.sw.confirmed = some n then s.sw.asked.orElse (fun _ => s.pendingSlot) else none

/-- A proposal that has not been confirmed by its epoch is dropped (R35). -/
def State.dropProposal (s : State) (n : Word) : State :=
  match s.sw.proposed with
  | some m => if newer32 m n then s else { s with sw := { s.sw with asked := none, proposed := none } }
  | none => s

/-- The Banister and the cores accept the pending generation now (R310, R344). -/
def State.switchAccepted (s : State) (k : Nat) : Bool :=
  let f := (s.slotState k).flags
  s.md == .ready || s.md == .commission || (f / 2 % 2 == 0 && f / 4 % 2 == 0)

/-- The active device proposes the switch epoch once both devices have committed and accepted the generation; in single operation it
is confirmed at once. -/
def execGenSwitchPropose (s : State) : Host.Outcome State Fault Refusal :=
  match s.sw.asked with
  | none => .next s
  | some k =>
    -- a joining device whose generation differs switches alone (R363 step 2)
    if s.pair.genMismatch = true ∧ s.switchAccepted k = true then
      let s := s.switchGen k s.nextN
      .next { s with pair := { s.pair with genMismatch := s.gen.id != s.pair.partnerGen } }
    else if s.active = false ∨ s.switchAccepted k = false ∨ s.sw.confirmed.isSome = true ∨ s.pair.genMismatch = true ∨
        s.pair.compatFault = true then .next s
    else
      let n := s.epochFrom (s.now + s.tEpoch)
      let id := genIdOf (s.slotState k).bytes
      if s.pair.hasPartner then
        if s.sw.partnerHas = some id ∧ s.pair.linkDown = false then
          .next ({ s with sw := { s.sw with proposed := some n } }.sendPair 5 [id, n])
        else .next s
      else .next { s with sw := { s.sw with confirmed := some n } }

end Sys2Proof.Machine
end

