-- ==== Sys2Proof/Machine/Modes.lean ====
section
/-! DEFINITION. Modes: guards, requests, transitions, resets of LOCKOUT causes; the join and contactor commands (10, 17). -/
namespace Sys2Proof.Machine

/-! ### Guards (Table 17.3) -/

/-- A Banister source is in demand or latched. -/
def State.banSource (s : State) : Bool :=
  (List.range 8).any s.pairActs || range48.any s.toneActs || (List.range 4).any s.safeActs || s.ban.permitActing || s.partnerActs ||
    s.ban.partnerActing
def State.guardHolds (s : State) (dest : Mode) (g : Nat) : Bool :=
  if g = 0 then s.active
  else if g = 1 then !(s.pair.hasPartner && s.pair.partnerSyncing) && s.pair.handover.isNone
  else if g = 2 then s.scor.permit && s.scor.st != .split
  else if g = 3 then s.ban.so == 15#4 && s.ban.bfcEn && !s.banSource
  else if g = 4 then (if dest = .dormant then !s.anyLevel 2 && !s.prot.dataStall else !s.closeForbidden)
  else if g = 5 then s.bfc.st == .off
  else if g = 6 then decide (2 ≤ s.est.restore)
  else if g = 7 then s.strings.any (fun x => s.armed x && s.meets276 x)
  else if g = 8 then decide (s.gen.slot ≠ 0) && !s.pair.genMismatch && s.sw.confirmed.isNone
  else if g = 9 then
    s.allOpen && range48.all (fun x => (s.str x).st != .opening) && s.join.feedOpenAt.isNone && !s.join.feedWeld &&
      (dest != .joining || (match s.feedCh with | some c => !(s.qd (c / 8)).lost | none => true))
  else if g = 10 then
    s.portsUsed.all (fun p => (s.port p).state != .enumerating && (s.port p).state != .recovering &&
      (s.md != .commission || (s.port p).enumerated))
  else s.ban.walkPassed
/-- Guards of a transition (Table 17.2). -/
def guardsOf (m dest : Mode) : List Nat :=
  match m, dest with
  | .commission, .ready => [2, 8, 9, 10, 11]
  | .ready, .commission => [0, 5, 9]
  | .ready, .joining => [0, 1, 2, 3, 4, 5, 6, 7, 8, 9]
  | .ready, .dormant => [0, 1, 4, 5, 9, 10]
  | _, _ => []
/-- Guards that fail, as the bits of MODE.GUARD. -/
def State.failed (s : State) (dest : Mode) : BitVec 12 :=
  BitVec.ofNat 12 ((guardsOf s.md dest).foldl (fun a g => if s.guardHolds dest g then a else a + 2 ^ g) 0)

/-! ### Requests (R428) -/

/-- A refused request: the failing guards and one record. -/
def State.modeRefused (s : State) (dest : Mode) (f : BitVec 12) : State :=
  ({ s with mode := { s.mode with guardReq := dest.code, guardFailed := f } }.logN 0x0C02 [dest.code, f.toNat]).raise pMODE 1
/-- A request of an origin at a register; `ok` makes the transition where every check passes. -/
def State.modeReq (s : State) (o : Origin) (pg off : Nat) (dest : Mode) (legal : Bool) (ok : State → State) : State :=
  let f := s.failed dest
  if legal && f == 0#12 && s.active && s.mode.trans.isNone then s.served o pg off (.ok (ok s))
  else (s.modeRefused dest f).refuse o pg off .mode
def State.setTrans (s : State) (dest : Mode) (origin : Nat) (afterOpenings : Bool) : State :=
  { s with mode := { s.mode with trans := some { target := dest, origin := origin, afterOpenings := afterOpenings } } }

/-- Captures the images of every port in use (R180). -/
def State.captureImages (s : State) (ps : List Nat) (n : Word) : State :=
  foldS ps (fun s p => { s with est := { s.est with images := sput s.est.images p (s.imageOf p n) } }) s

/-- Flows of context images publish the ports captured, for the newest epoch (R180, R421). -/
def State.publishImages (s : State) (ps : List Nat) : State :=
  match s.newestBank with
  | none => s
  | some b =>
    foldS (List.range 512) (fun s i =>
      let f := s.flow i
      if f.en && f.trig == 2 && f.n == 2 && f.fires b b ps then s.flowEmit i b ps else s) s

/-- Dormant entry, steps 1 to 4 (R450). Items 27: PERIOD and the wake thresholds of WAKECHK_SET. -/
def State.dormantEntry (s : State) (o : Origin) (without : List Nat) : State :=
  let ps := s.portsUsed
  let n := (s.newestBank.map (fun b => b.epoch)).getD 0#32
  let s := (s.captureImages s.strings n).publishImages s.strings
  let s := foldS ps (fun s p => s.writeMctrl p true) s
  let k := fun i => leBytes 2 (ofSigned 16 (s.item 27 i))
  let s := foldS ps (fun s p => s.sendAdhoc p 0x0B 0 (k 0 ++ k 1 ++ k 2 ++ k 3)) s
  let s := foldS ps (fun s p =>
    let s := s.sendAdhoc p 0x0A 0 [0#8, 0#8]
    if without.contains p then (s.sendAdhoc p 0x0A 0 [0#8, 0#8]).sendAdhoc p 0x0A 0 [0#8, 0#8] else s) s
  let m := fun (f : Nat → Bool) => two (bitsOf f 48)
  let s := s.log 0x0C0B (m (fun p => ps.contains p && !without.contains p) ++ m (fun p => ps.contains p && without.contains p))
  let s := { s with land := { s.land with wasActive := s.active } }
  s.setTrans .dormant o.code false
def State.askDormant (s : State) (o : Origin) (without : List Nat) : State :=
  s.modeReq o pMODE 0x008 .dormant (s.md == .ready) (fun s => s.dormantEntry o without)
def execReqDormant (o : Origin) (portsWithoutEcho : List Nat) (s : State) : Host.Outcome State Fault Refusal :=
  .next (s.askDormant o portsWithoutEcho)
def State.askCommission (s : State) (o : Origin) : State :=
  s.modeReq o pMODE 0x008 .commission (s.md == .ready) (fun s =>
    (foldS s.portsUsed (fun s p => s.writeMctrl p true) s).setTrans .commission o.code false)
def execReqCommission (o : Origin) (s : State) : Host.Outcome State Fault Refusal := .next (s.askCommission o)
/-- REQ READY from COMMISSION, JOINING or ONLINE. -/
def State.siteReady (s : State) (o : Origin) : State :=
  if s.md = .joining ∧ s.active = true then s.served o pMODE 0x008 (.ok (s.joinAbort 1))
  else
    s.modeReq o pMODE 0x008 .ready (s.md == .commission || s.md == .online) (fun s =>
      if s.md = .commission then s.setTrans .ready o.code false
      else (foldS s.closedList (fun s x => s.softReq x .site) s).setTrans .ready o.code true)
def execReqReady (o : Origin) (s : State) : Host.Outcome State Fault Refusal := .next (s.siteReady o)

/-! ### Transitions at a sample instant -/

/-- Entry into JOINING: the first string is chosen and FEED closes (Table 10.6). -/
def State.joinBegin (s : State) : State :=
  let s := { s with join := { s.join with sec := .feed, tries := 0, feedProven := false, first := 0 } }
  match s.chooseFirst with
  | some x =>
    let s := { s with join := { s.join with first := x } }.effFollow
    let s := s.log 0x0610 [48#32, word x, word ((s.hep x).vStr.getD 0), s.armWord 0x028, s.armWord 0x02C]
    (match s.feedCh with | some c => s.closeChan c | none => s)
  | none => s

/-- Start-up ends (Table 17.6): the STARTUP record. -/
def State.startEnds (s : State) : State :=
  let e := s.start.ends ++ [(s.now - s.start.poweredAt) / 1000000]
  { s with start := { s.start with step := 0, ends := e } }.logN 0x0C06 e

/-- A step ends and step n begins. -/
def State.stepTo (s : State) (n : Nat) : State :=
  { s with start := { s.start with step := n, ends := s.start.ends ++ [(s.now - s.start.poweredAt) / 1000000] } }
/-- STARTUP_FAIL: step and failure, the failures of a step numbered in the order of Table 17.7. -/
def State.stepFail (s : State) (n f : Nat) : State := s.logN 0x0C07 [n, f]
def State.atStep (s : State) (n : Nat) : Bool := s.start.step == n && !s.start.bootHold

/-- The end of step 8: READY at the next sample instant, unless LOCKOUT is in force or asked for. -/
def State.stepEight (s : State) : State :=
  if s.atStep 8 then
    let s := s.startCompleted.stepTo 9
    if s.md = .lockout then s.startEnds
    else if s.mode.reqCauses ≠ 0#5 then s
    else { s with mode := { s.mode with trans := some { target := .ready, origin := 0 } } }
  else s

/-- What a mode does as it takes effect. -/
def State.modeEffect (s : State) (t : Transition) : State :=
  let s := { s with mode := { s.mode with trans := none } }
  let s := if t.target = .ready ∧ s.join.sec = .run then { s with join := { s.join with sec := .idle } } else s
  let woke := s.land.waking && t.target == .ready
  let s := if woke then { s with land := { s.land with waking := false } } else s
  let s := if s.md = .start then s.startEnds else s
  let s := if t.target = s.md then s else s.setMode t.target t.origin
  if t.target = .joining ∧ s.active = true then s.joinBegin else s

/-- The transition due at a sample instant. `switched`: a generation has come into force at it, so the guards are evaluated
again (Table 17.5). -/
def State.transDue (s : State) (switched : Bool) : State :=
  match s.mode.trans with
  | none => s
  | some t =>
    if t.afterOpenings && !s.openingsDone then s
    else if t.target = .lockout then
      (if s.land.waking then s else s.enterLockout.when (s.atStep 9) State.startEnds)
    else if s.land.waking && t.target != .ready then s
    else if switched && s.failed t.target != 0#12 then
      { s with mode := { s.mode with trans := none } }.modeRefused t.target (s.failed t.target)
    else s.modeEffect t

/-! ### Remote reset (R434, R435) -/

/-- The checks of R434: none where they pass, else the reason (0 CAUSE, 1 EPOCH, 2 MAC). -/
def State.rrCheck (s : State) (causes : BitVec 5) : Option Nat :=
  let newest := s.newestBank.map (fun b => b.epoch)
  let e := s.mode.rrEpoch
  let admits := (List.range 5).all (fun c => !causes.getLsbD c ||
    (s.mode.causes.getLsbD c && (c == 3 || c == 4 || s.causeClears (c + 1) false)))
  let epochOk := match newest with
    | some n => !newer32 e n && decide ((n - e).toNat ≤ 200) && (s.mode.rrLast == 0#32 || newer32 e s.mode.rrLast)
    | none => false
  let msg := leBytes 8 s.gen.sectionId.toNat ++ leBytes 4 e.toNat ++ leBytes 1 causes.toNat
  if causes = 0#5 ∨ admits = false then some 0
  else if epochOk = false then some 1
  else if s.macOk msg s.mode.rrMac0 s.mode.rrMac1 then none else some 2
/-- GO: causes 4 and 5 restart the device; the others are cleared. `kind`: 1 host, 2 CAN. -/
def State.remoteReset (s : State) (causes : BitVec 5) (kind : Nat) : State :=
  let s := { s with mode := { s.mode with rrLast := s.mode.rrEpoch } }
  let now := causes &&& 7#5
  let later := causes &&& 24#5
  let s := s.clearCauses now kind
  if later = 0#5 then s else s.restartDevice later
def State.rrRefused (s : State) (r : Nat) : State := (s.log 0x0C05 [word r, s.mode.rrEpoch]).raise pMODE 4
def State.rrGo (s : State) (o : Origin) (causes : BitVec 5) (kind : Nat) : State :=
  let s := { s with mode := { s.mode with rrCauses := causes } }
  match s.rrCheck causes with
  | some r => (s.rrRefused r).refuse o pMODE 0x024 .auth
  | none => s.served o pMODE 0x024 (.ok (s.remoteReset causes kind))
def execRrGo (o : Origin) (causes : BitVec 5) (s : State) : Host.Outcome State Fault Refusal := .next (s.rrGo o causes 1)
/-- The frame of R435 (items 21/9 and 21/10: identifier with bit 29 for extended, and controller), as the four writes of R434. -/
def execCanRemoteReset (f : CanFrame) (s : State) : Host.Outcome State Fault Refusal :=
  let id := s.item 21 9
  if s.mgmt.restarting = false ∧ f.fdf = true ∧ f.data.length = 16 ∧ (f.id.toNat : Int) = id % 2 ^ 29 ∧ (b2n f.xtd : Int) = id / 2 ^ 29 % 2 then
    let w := fun i => word (leAt f.data i 4)
    let s := { s with mode := { s.mode with rrEpoch := w 0, rrMac0 := w 8, rrMac1 := w 12 } }
    .next (s.rrGo .mgmt (BitVec.ofNat 5 (leAt f.data 4 1)) 2)
  else .next s

/-! ### Join and contactor commands (R273, R278, R281, R282) -/

def State.joinStart (s : State) (o : Origin) : State :=
  s.modeReq o pJOIN 0x008 .joining (s.md == .ready && !s.pair.fault) (fun s =>
    { s.setTrans .joining o.code false with join := { s.join with startedAt := s.now } })
def execJoinCtrlStart (o : Origin) (s : State) : Host.Outcome State Fault Refusal := .next (s.joinStart o)
def State.joinAbortReq (s : State) : Except Refuse State := if s.md = .joining then .ok (s.joinAbort 1) else .error .mode
def execJoinCtrlAbort (o : Origin) (s : State) : Host.Outcome State Fault Refusal := .next (s.served o pJOIN 0x008 s.joinAbortReq)
/-- Site request for one string: soft, and the string is disarmed. -/
def State.siteOpen (s : State) (x : Nat) : State :=
  let s := s.softReq x .site
  let s := s.updStr x (fun t => { t with siteOpen := (s.waitOf x).waiting })
  s.disarm x 5
def State.joinOpen (s : State) (high : Bool) (mask : Word) : Except Refuse State :=
  .ok (foldS ((maskPorts high mask).filter s.strUse) (fun s x => s.siteOpen x) s)
def execJoinOpen (o : Origin) (high : Bool) (mask : Word) (s : State) : Host.Outcome State Fault Refusal :=
  .next (s.served o pJOIN (if high then 0x034 else 0x030) (s.joinOpen high mask))
/-- ACT.CTRL.WELD_CLR with STRING. -/
def State.weldClear (s : State) (sel : Nat) : Except Refuse State :=
  if 48 ≤ sel ∧ sel ≠ 63 then .error .format
  else
    let aux := fun (c : Nat) => (s.coil c).aux
    if sel = 63 then
      if (optL s.feedCh).any aux then .error .mode else .ok { s with join := { s.join with feedWeld := false } }
    else if (s.chansOf sel).any aux then .error .mode
    else .ok ((s.updStr sel (fun t => { t with weldNeg := false, weldPos := false })).settle sel)
def execWeldClr (o : Origin) (sel : BitVec 6) (s : State) : Host.Outcome State Fault Refusal :=
  .next (s.served o pACT 0x008 (s.weldClear sel.toNat))

/-! ### Converter commands (R295, R296) -/

def execBfcClear (o : Origin) (v : Word) (s : State) : Host.Outcome State Fault Refusal := .next (s.served o pBFC 0x024 (s.bfcClear o v))
/-- A telemetry value in the unit of BFC.TEL: 10 mV, mA, W, 0.1 °C. -/
def telWord (q : Nat) (v : Rat) : Word := rw (if q < 2 then v * 100 else if q = 3 ∨ 10 ≤ q then v else v * 1000)
/-- A read of a peak word answers the held value. -/
def execPeakRead (o : Origin) (q : Fin 16) (s : State) : Host.Outcome State Fault Refusal :=
  let (v, t) := s.peakTake o q.val
  .next (t.answer o 0 [telWord q.val v])

end Sys2Proof.Machine
end

