-- ==== Sys2Proof/Machine/Epoch.lean ====
section
/-! DEFINITION. The epoch (01, 04, 20): sample instant, SAMPLE launch, scheduled frames, computation, commit. -/
namespace Sys2Proof.Machine

/-! ### Status vector (R20, R37) -/

def mask128 (f : Nat → Bool) : BitVec 128 := BitVec.ofNat 128 (bitsOf f 128)
/-- Highest level in force anywhere. -/
def State.topLevel (s : State) : Nat := (List.range 49).foldl (fun a x => Nat.max a (s.maxLevel x)) s.secLevel
/-- PROT.LVLs. -/
def State.lvlWord (s : State) (x : Nat) : Word :=
  if x = 48 then word (s.lvl 48 9 + at_ 3 s.prot.stallLevel)
  else word (at_ 31 (b2n (s.waitOf x).waiting) + at_ 30 (b2n (s.str x).openByProt) + at_ 29 (b2n (s.latchedOut x)) +
    (List.range 9).foldl (fun a q => a + at_ (3 * q) (s.lvl x q)) 0)
/-- Word 0x200 of the Hall. -/
def State.zeroWord (s : State) : Nat :=
  b2n s.zeroChg + at_ 1 (b2n s.zeroDis) + at_ 2 (b2n s.anyWait) + at_ 3 (b2n (decide (s.topLevel = 5))) + at_ 4 (b2n s.prot.dataStall) +
    at_ 5 (b2n s.prot.insStale) + at_ 8 s.topLevel
/-- A sparse array of the values of f that differ from d. -/
def gather {α : Type} [DecidableEq α] (d : α) (l : List Nat) (f : Nat → α) : Store α :=
  l.filterMap (fun i => if f i = d then none else some (i, f i))
def State.avgOf (s : State) (q : Nat) : Int := (telWord q (s.telOf q).avg1).toInt
def State.peakOf (s : State) (q : Nat) : Int := (telWord q (s.telOf q).peak).toInt

/-- The status vector as it stands. -/
def State.vector (s : State) : StatusVec :=
  { mode := s.md, role := s.pair.role, term := s.pair.term, cause := s.mode.first,
    close := mask128 s.closeCmd, aux := mask128 (fun c => (s.coil c).aux),
    closed := BitVec.ofNat 48 (bitsOf s.closed 48), conv := s.bfc.st, nAct := s.nAct, fcause := s.bfc.cause, sec := s.join.sec,
    vOut := s.avgOf 0, vIn := s.avgOf 1, iOut := s.avgOf 2, power := s.avgOf 3, peakV := s.peakOf 0, peakI := s.peakOf 2,
    so := s.ban.so, bfcEn := s.ban.bfcEn, tone := range48.any (fun p => (s.toneOf p).acting),
    demand := BitVec.ofNat 8 (bitsOf s.pairDemand 8), latched := BitVec.ofNat 8 (bitsOf (fun p => (s.bpair p).latched) 8),
    levels := gather 0 (List.range 785) (fun i => if i = 778 then s.secLevel else if i % 16 < 10 then s.lvl (i / 16) (i % 16) else 0),
    zero := s.zeroWord, insKohm := s.prot.insKohm, lvlWords := gather 0#32 (List.range 49) s.lvlWord,
    joins := gather .opened range48 (fun x => (s.str x).st), vBus := s.vBusNow }

/-- Peaks begin anew at a sample instant. -/
def State.peaksReset (s : State) : State :=
  { s with bfc := { s.bfc with tel := s.bfc.tel.map (fun e => (e.1, { e.2 with peak := 0 })) } }

/-! ### Writes that take effect at the sample instant (R52, Table 02.5) -/

/-- The effect of a write to a data-plane or time-base page. -/
def State.shadowEffect (s : State) (w : ShadowWrite) : State :=
  let v := w.value
  if w.offset = 0x010 then s.evtClear w.page v
  else if w.offset = 0x014 then s.updPage w.page (fun p => { p with evten := v })
  else if w.page = pHALL ∧ w.offset = 0x008 then (s.when (v.getLsbD 0) (·.hallOpenNow w.origin)).when (v.getLsbD 1) (·.hallCloseNow w.origin)
  else if w.page = pFLOW ∧ 0x800 ≤ w.offset ∧ w.offset < 0x810 then s.flowDesc (s.fld pFLOW 0x020 8 0) ((w.offset - 0x800) / 4) v
  else if pPSEQ ≤ w.page ∧ w.page < pCELL ∧ w.offset = 0x008 then
    foldS (List.range 4) (fun s k =>
      let p := 4 * (w.page - pPSEQ) + k
      ((s.when (v.getLsbD (16 + k)) (fun s => s.reenumNow p)).when (v.getLsbD (20 + k)) (fun s => s.hopcalNow p))) s
  else if w.page = pCELL ∧ w.offset = 0x008 then s.when (v.getLsbD 0) (·.wrlearn)
  else if w.page = pCELL ∧ (w.offset = 0x020 ∨ w.offset = 0x024) then foldS (maskPorts (w.offset == 0x024) v) (fun s p => s.wbClear w.origin p) s
  else if w.page = pCUR ∧ w.offset = 0x008 then s.when (v.getLsbD 0) (·.offlearn)
  else if w.page = pEST ∧ w.offset = 0x008 then
    ((s.when (v.getLsbD 0) (fun s => (s.restoreEndNow 2).stepEight)).when (v.getLsbD 1) (fun s => { s with est := { s.est with imgNow := true } }))
  else s.storeReg w.page w.offset v
/-- Every accepted write, in its order; CFGSEQ of its page counts it (R58). -/
def State.applyShadow (s : State) : State :=
  foldS s.shadow (fun s w => if w.offset = 0x010 then s.shadowEffect w else (s.shadowEffect w).bumpCfg w.page) { s with shadow := [] }

/-! ### Scheduled frames (R87, R111, Table 04.1) -/

/-- The port is served with scheduled frames. -/
def State.portServed (s : State) (p : Nat) : Bool :=
  s.portEn p && decide (0 < s.hopsServed p) &&
    (calState (s.port p).state || ((s.port p).state == .enumerating && (s.port p).learn.isSome))
def State.hops (s : State) (p : Nat) : List Nat := (List.range (s.hopsServed p)).map (· + 1)
/-- Hops the temperature schedule names for epoch n (R116). -/
def State.auxHops (s : State) (p : Nat) (n : Word) : List Nat :=
  (s.hops p).filter (fun h => (s.mod (s.modOf p h)).near ||
    (match (s.port p).tempEpoch with | some e => decide ((n - e).toNat < 4 ∧ h % 4 = (n - e).toNat) | none => false))
def State.stackHops (s : State) (p : Nat) (n : Word) : List Nat :=
  (s.hops p).filter (fun h => decide (5 ≤ s.time.tEpochMs) || h % 4 == n.toNat % 4 ||
    (s.breaksOf (s.strOfPort p)).any (fun b => b.1 == s.modOf p h))
/-- Test of a lane of `l` (hop, wire) in epoch n, spread over e epochs. -/
def laneTest (l : List (Nat × Nat)) (e : Nat) (n : Word) : List (Nat × Nat) :=
  let w := l.length
  let e := Nat.max e w
  if w = 0 then []
  else
    let r := n.toNat % e
    let i := (r * w + e - 1) / e
    if i * e / w = r then (l[i]?).toList else []
/-- Rotation tests of epoch n (R123): hop and wire order, in at most four lanes of whole modules; a module with a suspicion test is
skipped. -/
def State.rotation (s : State) (p : Nat) (n : Word) : List (Nat × Nat) :=
  let hs := s.hops p
  let wires := fun (h : Nat) => (List.range (s.nCells (s.modOf p h) + 1)).map (fun w => (h, w))
  let total := (hs.flatMap wires).length
  let e := Nat.max 1 (s.fld pCELL 0x028 7 0 * 1000 / s.time.tEpochMs)
  let k := Nat.max 1 (Nat.min 4 ((total + e - 1) / e))
  ((List.range k).flatMap (fun l => laneTest ((hs.filter (fun h => (h - 1) * k / hs.length == l)).flatMap wires) e n)).filter
    (fun t => (s.mod (s.modOf p t.1)).suspect == [])

/-- Frames 2 to 6 of Table 04.1 for epoch n: TYPE, hop, payload. -/
def State.schedule (s : State) (p : Nat) (n : Word) : List (Nat × Nat × List Byte) :=
  let tag := leBytes 2 n.toNat
  (s.hops p).map (fun h => (0x03, h, tag)) ++ (s.stackHops p n).map (fun h => (0x0C, h, tag)) ++
    (s.auxHops p n).map (fun h => (0x04, h, [])) ++
    ((s.hops p).filter (fun h => s.balDue (s.modOf p h))).map (fun h => (0x05, h, balPayload (s.balCurrents (s.modOf p h)) s.balTmax)) ++
    (s.rotation p n).map (fun t => (0x06, t.1, [BitVec.ofNat 8 t.2, 0#8] ++ leBytes 2 (s.fld pCELL 0x028 15 8)))

/-- Downward line time of a scheduled frame, ns (Table 04.1). -/
def lineNs (typ : Nat) : Nat :=
  if typ = 3 then 34300 else if typ = 0x0C then 15700 else if typ = 4 then 26300 else if typ = 5 then 11700 else 14300

/-- Sends one scheduled frame with the next SEQ of the block. -/
def State.sendSched (s : State) (p typ hop : Nat) (pl : List Byte) : State :=
  let t := s.port p
  let f := mkFrame typ 0 hop s.term 0#8 (t.blockS + BitVec.ofNat 16 t.blockUsed) pl
  (s.chainOut p f).updPort p (fun t => { t with blockUsed := t.blockUsed + 1, inFlight := t.inFlight ++ [{ frame := f, hop := hop }] })

/-- The group's sequencer runs its ROM program, alone or with an extension. -/
def State.romPort (s : State) (p : Nat) : Bool :=
  let g := s.eng (p / 4)
  (g.source == .rom || g.source == .romExt) && !g.stopped

/-- Sends the schedule of epoch n on a port: one frame after the other from 50 µs after t_N. -/
def State.sendSchedule (s : State) (p : Nat) (n : Word) : State :=
  if s.chainMay && s.portServed p && s.romPort p then
    ((s.schedule p n).foldl (fun (a : State × Nat) f =>
      let m := a.1.modOf p f.2.1
      let s := a.1.sendSched p f.1 f.2.1 f.2.2
      (if f.1 = 5 then s.balSent p f.2.1 m a.2 (a.1.balCurrents m) else if f.1 = 6 then s.wirePause p f.2.1 m a.2 else s, a.2 + lineNs f.1)) (s, s.tOf n + 50000)).1
  else s

/-- Suspicion tests of a port: the first wire asked for in each module; sent by the active device alone. -/
def State.sendSuspicion (s : State) (p : Nat) : State :=
  if s.portServed p && s.romPort p then
    foldS (s.hops p) (fun s h =>
      let m := s.modOf p h
      match (s.mod m).suspect with
      | w :: rest =>
        ((s.sendAdhoc p 0x06 h ([BitVec.ofNat 8 w, 0#8] ++ leBytes 2 (s.fld pCELL 0x028 15 8))).updMod m (fun x => { x with suspect := rest })).wirePause
          p h m (s.tOf s.time.epoch + 50000)
      | [] => s) s
  else s

/-- Current of a learning step: 1.000 A cell to stack on one cell in the on epochs (R134). -/
def learnCurrents (j e : Nat) : List Int := (List.range 16).map (fun i => if i = j ∧ e % 2 = 0 then 50 else 0)
/-- The learning phase that epoch n carries joins it, and the BAL_SET of the next phase is sent. -/
def State.learnInstant (s : State) (p : Nat) (t : Nat) : State :=
  match (s.port p).learn with
  | none => s
  | some (i, k, e) =>
    let nxt := if (s.port p).learnCmd then s.learnNext p i k e else some (i, k, e)
    let s := s.updPort p (fun t => { t with learn := nxt, learnCmd := nxt.isSome })
    match nxt with
    | none => s
    | some (i, k, e) =>
      let m := 40 * p + i
      let cur := learnCurrents ((learnSteps (s.nCells m)).getD k 0) e
      (s.sendAdhoc p 0x05 (i + 1) (balPayload cur s.balTmax)).balSent p (i + 1) m (t + 50000) cur

/-- SEQ block of a port at t_N (R87, R224): m covers the SAMPLE and the schedule, or is RESERVEk of an expert program. -/
def State.blockCount (s : State) (p : Nat) (n : Word) : Nat :=
  if s.romPort p then (if s.portServed p then 1 + (s.schedule p n).length else 1)
  else (sget 0#32 (s.eng (p / 4)).reserve (p % 4)).toNat % 65536
def State.setBlock (s : State) (p : Nat) (q : Half) (m : Nat) : State :=
  s.updPort p (fun t => { t with blockS := q, blockM := m, blockUsed := 1, nextSeq := q + BitVec.ofNat 16 m })

/-- Blocks of every port: the active device reserves and mirrors them; a standby uses those that BLOCK names for the epoch. -/
def State.reserveBlocks (s : State) (n : Word) : State :=
  if s.active then
    let ps := s.portsUsed.filter (fun p => !s.dualUpper p || decide (0 < s.hopsServed p))
    let s := foldS ps (fun s p => s.setBlock p (s.port (s.series p)).nextSeq (s.blockCount p n)) s
    s.when s.pair.hasPartner (fun s => s.sendPair 0x10 (n :: ps.flatMap (fun p =>
      [word (p + at_ 16 (s.port p).blockS.toNat), word (s.port p).blockM])))
  else if s.pair.blockEpoch = n then
    foldS s.pair.blocks (fun s b => s.setBlock b.1 b.2.1 b.2.2.toNat) s
  else foldS s.portsUsed (fun s p => s.updPort p (fun t => { t with blockM := 0, blockUsed := 1 })) s

/-- What the sequencers send for epoch n. A standby without the epoch's blocks sends nothing yet. -/
def State.sendEpoch (s : State) (n : Word) : State :=
  if s.active || s.pair.blockEpoch == n then foldS s.portsUsed (fun s p => s.sendSchedule p n) s else s

/-! ### SAMPLE (R98, R116, R223) -/

/-- SEL of the ROM program for epoch m, and whether it starts a temperature round. -/
def State.romSel (s : State) (p : Nat) (m : Word) : Nat × Bool :=
  let per := s.fld pCELL 0x02C 7 0
  let round := (s.port p).firstSample || (per != 0 && m.toNat % per == 0)
  let near := (s.hops p).any (fun h => (s.mod (s.modOf p h)).near)
  (1 + at_ 1 (b2n (round || near)) + 4 + at_ 3 (b2n (s.musEn p)), round)

/-- Payload of the SAMPLE of port p for epoch m, and whether it starts a temperature round. -/
def State.samplePayload (s : State) (p : Nat) (m : Word) : List Byte × Bool :=
  let t := s.port p
  let fill := fun (l : List Byte) =>
    ((((l.set 0 (BitVec.ofNat 8 t.hFound)).set 2 (BitVec.ofNat 8 m.toNat)).set 3 (BitVec.ofNat 8 (m.toNat / 256))).set 6
      (BitVec.ofNat 8 t.tHop)).set 7 (BitVec.ofNat 8 (t.tHop / 256))
  let std := fun (sel : Nat) => fill ([0#8, BitVec.ofNat 8 sel, 0#8, 0#8] ++ leBytes 2 (s.leadUs p) ++ [0#8, 0#8])
  let g := s.eng (p / 4)
  if g.source == .genImage || g.source == .codeImage then
    if (s.txb (4 * p)).fresh then
      let l := fill (txPayload (s.txb (4 * p)))
      (l, leAt l 1 1 / 2 % 2 == 1)
    else (std 5, false)
  else if g.stopped then (std 5, false)
  else let (sel, round) := s.romSel p m; (std sel, round)

/-- The epoch whose SAMPLE is launched in the epoch in progress: the next one, or the one after it where the launch lies more than one
period ahead (R98). -/
def State.launchFor (s : State) (p : Nat) : Word := if s.launchLead p ≤ s.tEpoch then s.nextN else nextEpoch s.nextN

/-- Launches the SAMPLE of a port with the first SEQ of the block. -/
def State.sampleLaunch (s : State) (p : Nat) : State :=
  if s.time.sampling && s.chainMay && s.portServed p && !(s.port p).sampleSent && (s.active || (s.port p).blockM != 0) then
    let m := s.launchFor p
    let at_ := (if s.launchLead p ≤ s.tEpoch then s.nextT else s.nextT + s.tEpoch) - s.launchLead p
    let s := (s.reach at_).wakeL2
    let (pl, round) := s.samplePayload p m
    let (q, s) := if (s.port p).blockM = 0 then s.takeSeq p else ((s.port p).blockS, s)
    let f := mkFrame 0x02 0 0 s.term flagBCAST q pl
    let s := (s.chainOut p f).updTxb (4 * p) (fun b => { b with fresh := false, words := sset 0#32 b.words 61 (lo32 s.now), seq := q })
    s.updPort p (fun t => { t with sampleSent := true, firstSample := t.firstSample && !(leAt pl 1 1 / 2 % 2 == 1),
                                   tempEpoch := if round then some m else t.tempEpoch })
  else s
def execSampleLaunch (p : Port) (s : State) : Host.Outcome State Fault Refusal := .next (s.sampleLaunch p.val)

/-! ### Sample instant (R27, R32, R143) -/

/-- Cells whose conversion falls within an open-wire test, or beside a learning step while the module has no table (R125, R134). -/
def State.heldNow (s : State) : List Nat :=
  s.portsUsed.flatMap (fun p =>
    ((s.port p).inFlight.filter (fun i => i.frame.typ == 0x06#8)).flatMap (fun i =>
      let m := s.modOf p i.hop
      (wireCells (s.nCells m) (i.frame.pl 0 1)).map (fun j => 16 * m + j)) ++
    (match (s.port p).learn, (s.port p).learnCmd with
     | some (i, k, e), true =>
       let m := 40 * p + i
       let j := (learnSteps (s.nCells m)).getD k 0
       if e % 2 = 0 ∧ (s.mod m).tableValid = false then
         ((List.range (s.nCells m)).filter (fun c => decide (c ≤ j + 1 ∧ j ≤ c + 1))).map (fun c => 16 * m + c)
       else []
     | _, _ => []))

/-- The epoch as acquired. -/
def State.rawNow (s : State) (n : Word) (t : Nat) : RawEpoch :=
  { epoch := n, t := t, sv := s.sv, snaps := gather {} range48 (fun c => (s.chan c).snap), heldCells := s.heldNow,
    learn := s.portsUsed.filterMap (fun p => match (s.port p).learn, (s.port p).learnCmd with | some ph, true => some (p, ph) | _, _ => none) }

/-- Takes the epoch into the acquisition stage: the oldest not yet started goes where all three places are taken (R493). -/
def State.acquire (s : State) (r : RawEpoch) : State :=
  match s.acq with
  | [a, b, c] =>
    let s := foldS a.learn (fun s ph => s.updPort ph.1 (fun t => { t with learn := some (0, 0, 0), learnCmd := false })) s
    { s with acq := [{ b with gapBefore := true }, c, r] }
  | l => { s with acq := l ++ [r] }

/-- What a port does at t_N besides its frames. -/
def State.portInstant (s : State) (t p : Nat) : State :=
  let s := s.updPort p (fun x =>
    { x with state := if x.toRunning then .running else x.state, breakHop := if x.toRunning then 0 else x.breakHop, toRunning := false,
             tU := (x.newCal.getD (x.tU, x.tHop)).1, tHop := (x.newCal.getD (x.tU, x.tHop)).2, newCal := none, sampleSent := false })
  let x := s.port p
  -- R94
  if x.silenceSleep && s.md.running && decide (x.enumAt + sNs 60 ≤ t) && calState x.state then s.writeMctrl p false else s

/-- The PSEQ windows take the data memories as at the instant (CODE registers). -/
def State.showData (s : State) : State :=
  foldS (List.range 12) (fun s e => s.updEng e (fun g =>
    { g with shown := g.data, shownRom := (if g.source = .rom then 2 else if g.source = .romExt then 1 else 0),
             shownFree := g.shownFree + 1 })) s

/-- Port sequencers and limit engine at t_N: windows begin, EPOCH triggers. -/
def State.enginesInstant (s : State) : State :=
  foldS (List.range 12) (fun s e =>
    let s := s.engWindow e
    let s := s.updEng e (fun g => { g with extNext := 0 })
    engExt e 5 (s.engTrigger e 0)) s

def State.authInstant (s : State) : State :=
  let s := s.authPending
  if s.md = .start ∨ s.land.waking then s
  else foldS (s.portsUsed.filter (fun p => (s.port p).authOwed && (s.port p).state == .running)) (fun s p =>
    (s.updPort p (fun t => { t with authOwed := false })).authPort p) s

def execSampleInstant (cur : List CurIn) (s : State) : Host.Outcome State Fault Refusal :=
  if s.time.sampling then
    let n := s.nextN
    let t := s.nextT
    let was := s.md
    let s := (s.reach t).wakeL2
    let sw := s.switchDue n
    let s := match sw with | some k => s.switchGen k n | none => s.dropProposal n
    let s := (s.transDue sw.isSome).applyShadow
    let s := if s.acq = [] ∧ s.computing = none then s.applyStaged n else s
    let s := s.snapshotCur cur t
    let s := { s with time := { s.time with epoch := n }, sv := s.vector }
    let s := foldS s.portsUsed (fun s p => s.portInstant t p) s.peaksReset
    let s := s.acquire (s.rawNow n t)
    let s := { s with bal := { s.bal with stale := s.planMissing } }
    let s := (s.codeInstant).reserveBlocks n
    let s := s.showData.enginesInstant.sendEpoch n
    let s := foldS s.portsUsed (fun s p => (s.sendSuspicion p).learnInstant p t) s
    let s := s.authInstant
    -- the epoch in which DORMANT takes effect is the last one sampled (R452)
    if s.md = .dormant ∧ was ≠ .dormant then .next { s with time := { s.time with sampling := false }, clkDrive := 0#6 } else .next s
  else .next s

/-! ### Computation (R32, R216, R494) -/

/-- The cell, current and estimator regions of epoch r. -/
def State.computeRegions (s : State) (r : RawEpoch) : State :=
  let last := s.est.lastT.getD (r.t - s.tEpoch)
  let s := foldS r.aux (fun s a => s.auxTake a.1 a.2) s
  let s := foldS s.modulesInUse (fun s m => s.moduleEpoch r m) s
  let s := r.learn.foldl (fun s ph => s.learnEpoch r ph) s
  let s := foldS s.strings (fun s x => s.estString r x last) s
  let s := foldS s.strings (fun s x => s.setEp x (s.strEpoch r x)) s
  let s := s.planEpoch r.epoch last r.t r.catchup
  { s with est := { s.est with lastT := some r.t, drift := s.est.drift + s.tEpoch } }

/-- The oldest acquired epoch is computed with the readings it holds; from t_{N+1} on in catch-up form. -/
def execEpochComputation (s : State) : Host.Outcome State Fault Refusal :=
  match s.computing, s.acq with
  | none, r :: rest =>
    let r := { r with catchup := decide (r.t + s.tEpoch ≤ s.now) }
    .next ((({ s with acq := rest, computing := some r }).wakeL2.applyStaged r.epoch).computeRegions r)
  | _, _ => .next s

/-- The regions are complete: DATA triggers the limit engine; in ROM the default program runs. -/
def execDataTrigger (s : State) : Host.Outcome State Fault Refusal :=
  match s.computing with
  | some r =>
    if r.ready then .next s
    else
      let s := { s with computing := some { r with ready := true } }.engWindow 12
      if (s.eng 12).inRom then .next ((s.engInstall 12).romLimits r) else .next (s.engTrigger 12 4)
  | none => .next s

/-! ### Commit (R30, R491–R494) -/

def State.loadWords (s : State) (r : RawEpoch) (busyUs late : Nat) : State :=
  let l := satU 8 (toUnits (mkRat (busyUs * 100000) s.tEpoch)).toNat
  let s := { s with load := { s.load with load := l, max := Nat.max s.load.max l, catchup := r.catchup,
                                          catchups := if r.catchup then Nat.min 65535 (s.load.catchups + 1) else s.load.catchups,
                                          overruns := if 0 < late then Nat.min 65535 (s.load.overruns + 1) else s.load.overruns,
                                          last16 := (l :: s.load.last16).take 16 } }
  if 0 < late then (s.log 0x0E30 [word (b2n r.catchup), r.epoch, word busyUs, word late, word s.acq.length]).raise pTIME 0 else s

/-- Images captured with epoch r (R180, R494). -/
def State.captureEpoch (s : State) (r : RawEpoch) : State × List Nat :=
  let due := s.portsUsed.filter (fun p => (s.captureDue r.epoch).contains p || s.est.capOwed.getLsbD p)
  if r.catchup then ({ s with est := { s.est with capOwed := BitVec.ofNat 48 (bitsOf (fun p => due.contains p) 48) } }, [])
  else if due = [] then (s, [])
  else ({ s with est := { s.est with imgNow := false, capOwed := 0 } }.captureImages due r.epoch, due)

/-- The completed epoch is committed; `busyUs`: its busy time; `lateUs`: how long after t_{N+1} its work ended. Nothing happens before the
limit engine has ended its activation or its window (R216). -/
def execEpochCommit (busyUs lateUs : Nat) (s : State) : Host.Outcome State Fault Refusal :=
  match s.computing with
  | some r =>
    if r.ready = false ∨ ((s.eng 12).running = true ∧ (s.eng 12).stopped = false) then .next s
    else
      let due := r.t + s.tEpoch
      let s := if 0 < lateUs then s.reach (due + usNs lateUs) else s
      let late := if due < s.now then Nat.max 1 ((s.now - due) / 1000) else 0
      let r := { r with overrun := decide (0 < late) }
      let s := s.publish r
      let old := s.newestBank.getD {}
      let s := s.commitBank (s.buildBank r s.now)
      let s := { s with hEp := s.sEp, hCtx := s.ctxs, computing := none, join := { s.join with vBus := r.sv.vBus } }.effFollow
      let s := foldS range48 (fun s c => s.updChan c (fun x => { x with prev := some (sget {} r.snaps c) })) s
      let s := foldS s.strings (fun s x => s.joinEpoch x) s
      let s := s.stallEnd
      let s := { s with prot := { s.prot with lastCommit := s.now, lastCommitEpoch := r.epoch } }
      let s := s.loadWords r busyUs late
      let (s, imgs) := s.captureEpoch r
      .next ((s.flowEngine old imgs).landDecide)
  | none => .next s

end Sys2Proof.Machine
end

