-- ==== Sys2Proof/Machine/Supply.lean ====
section
/-! DEFINITION. A transmitted CAN frame and a CAN error (15), the supply and the junction temperature (21). -/
namespace Sys2Proof.Machine

/-- The frame of a buffer has been sent (R388): SENT, or the content written meanwhile is queued as a new frame. A flow's next frame
takes the free buffer (R422). The loop delay is measured at FD frames sent with BRS; its value is free. -/
def State.txSent (s : State) (x b : Nat) : State :=
  let k := 64 * x + b
  let t := s.buf k
  let s := (s.emit (.can x (s.frameOf t))).updCan x (fun c => { c with tec := c.tec - 1 })
  let s := if (t.w 1).getLsbD 4 && (t.w 1).getLsbD 5 then
      let (w, s) := s.freeWord
      s.updCan x (fun c => { c with loop := w.toNat % 256 })
    else s
  match t.rewrite with
  | some ws =>
    s.updBuf k (fun t => t.fresh s.now ws)
  | none => (s.updBuf k (fun t => { t with st := .sent, doomed := none, att := none })).flowNext k

def execCanTxSent (x : CanIx) (b : BufIx) (s : State) : Host.Outcome State Fault Refusal :=
  if s.canUp x.val = true ∧ s.canOffer x.val = some b.val then .next (s.txSent x.val b.val) else .next s

/-- A bus error: the counting of ISO 11898-1 (log 21), error-passive and bus-off (R390). A flow's next frame takes a buffer that the failed attempt leaves free. -/
def execCanError (x : CanIx) (err : CanErr) (transmitting : Bool) (s : State) : Host.Outcome State Fault Refusal :=
  let k := x.val
  if s.canUp k then
    let code := match err with
      | .bitRec => 1 | .bitDom => 2 | .stuff => 3 | .form => 4 | .crc => 5 | .ack => 6
    let was := s.can k
    let tec := if transmitting then (if err = .ack ∧ was.errPassive = true then was.tec else was.tec + 8) else was.tec
    let rec_ := if transmitting then was.rxErr else was.rxErr + (if err = .bitDom then 8 else 1)
    let s := s.updCan k (fun c => { c with lastErr := code, tec := tec, rxErr := rec_ })
    let s := match transmitting, s.canOffer k with
      | true, some b => if (s.buf (64 * k + b)).st = .sending then (s.attemptFailed k b).flowNext (64 * k + b) else s
      | _, _ => s
    let s := if !was.errPassive && (s.can k).errPassive then
        (s.logN 0x0B03 [k, tec, rec_]).raise (canPage k) 5 else s
    if 255 < tec then
      .next (((s.updCan k (fun c => { c with busOff := true, busOffAt := s.now, recovering := false })).logN 0x0B01
        [k, tec, rec_, code]).raise (canPage k) 6)
    else .next s
  else .next s

/-! ### Supply (R507, R508) -/

/-- VIN above 65 V. Above 100 V, or above 65 V for longer than 400 ms, the manual does not define the behaviour. -/
def execVinSurge (peak10mV durationMs : Nat) (s : State) : Host.Outcome State Fault Refusal :=
  if 10000 < peak10mV ∨ 400 < durationMs then .fault .supplyBeyondRating
  else if peak10mV ≤ 6500 then .next s
  else .next ({ s with supply := { s.supply with vin := peak10mV, vinSurge := true,
                                                 surgePeak := Nat.max peak10mV (if s.supply.vinSurge then s.supply.surgePeak else 0) } }.raise pTHERM 1)

/-- VIN is back at 65 V: the VIN_SURGE record holds the peak (10 mV) and the duration (ms). -/
def execVinSurgeEnd (durationMs : Nat) (s : State) : Host.Outcome State Fault Refusal :=
  if 400 < durationMs then .fault .supplyBeyondRating
  else if s.supply.vinSurge then
    .next ({ s with supply := { s.supply with vin := 6500, vinSurge := false, surgePeak := 0 } }.logN 0x0E51 [s.supply.surgePeak, durationMs])
  else .next s

/-- VAUX3_OUT is overloaded for more than 10 ms. -/
def execVauxFault (currentMa : Nat) (s : State) : Host.Outcome State Fault Refusal :=
  if s.supply.vauxFault then .next s
  else .next (({ s with supply := { s.supply with vauxFault := true } }.logN 0x0E52 [currentMa]).raise pTHERM 2)

/-- The output tries again: it stays on once the overload has ended. -/
def execVauxRetry (overload : Bool) (s : State) : Host.Outcome State Fault Refusal :=
  .next { s with supply := { s.supply with vauxFault := s.supply.vauxFault && overload } }

/-! ### Junction temperature (R518), 0.1 °C -/

def State.setTj (s : State) (tj : Int) : State :=
  { s with supply := { s.supply with tj := tj, tjMax := if s.supply.tjMax < tj then tj else s.supply.tjMax } }

def execTjHigh (tj : Int) (s : State) : Host.Outcome State Fault Refusal :=
  let s := s.setTj tj
  if s.supply.tjHigh = true ∨ tj < 1250 then .next s
  else .next (({ s with supply := { s.supply with tjHigh := true } }.log 0x0E50 [wordI tj]).raise pTHERM 0)

def execTjHighClear (tj : Int) (s : State) : Host.Outcome State Fault Refusal :=
  let s := s.setTj tj
  .next { s with supply := { s.supply with tjHigh := s.supply.tjHigh && decide (1200 ≤ tj) } }

end Sys2Proof.Machine
end

