-- ==== Sys2Proof/Machine/Startup.lean ====
section
/-! DEFINITION. Power, reset and the steps of start-up (17, 21), and waking from DORMANT. -/
namespace Sys2Proof.Machine

/-! ### Power and reset (R436, R437, R504) -/

/-- VIN crosses 7.8 V rising. PCC counts the start (R457). -/
def execPowerOn (s : State) : Host.Outcome State Fault Refusal :=
  if s.start.powered then .next s
  else .next { s with start := { s.start with powered := true, step := 1, poweredAt := s.now }, gal := { s.gal with pcc := s.gal.pcc + 1 },
                      supply := { s.supply with vin := 780 } }

/-- VIN below 7.2 V: retained state is lost; at least 16 entries of the append FIFO are stored from hold-up. -/
def execVinUndervoltage (s : State) : Host.Outcome State Fault Refusal :=
  if s.start.powered then .next (s.coldStart 0 false) else .next s

/-- A low pulse of `lowNs`: ignored below 1 µs, free up to 10 µs, a cold start from step 2 from 10 µs on. -/
def execResetN (lowNs : Nat) (s : State) : Host.Outcome State Fault Refusal :=
  if s.start.powered = false ∨ lowNs < 1000 then .next s
  else if lowNs < 10000 then
    let (b, s) := s.freeBool
    if b then .next (s.coldStart 2 true) else .next s
  else .next (s.coldStart 2 true)

/-! ### Steps 1 to 5 -/

def execStartupSupplySettled (s : State) : Host.Outcome State Fault Refusal :=
  if s.atStep 1 then .next (s.stepTo 2) else .next s

/-- BOOT_HOLD: MODE.STAT reads START with STEP 3 (R441). -/
def State.bootHoldNow (s : State) : State := { s with start := { s.start with bootHold := true, step := 3 } }

def execStartupStrapsRead (pairRoleHigh bootSelHigh : Bool) (s : State) : Host.Outcome State Fault Refusal :=
  if s.atStep 2 then
    let s := s.stepTo 3
    let s := { s with start := { s.start with primary := !pairRoleHigh, bootSel := bootSelHigh } }
    if bootSelHigh then .next (s.stepFail 2 0).bootHoldNow else .next s
  else .next s

/-- Starts an image: the start counts until it completes. -/
def FwSt.run (f : FwSt) (b : Bool) : FwSt :=
  let n := if b then f.failB else f.failA
  { f with runningB := b, goodRuns := if n ≠ 0 ∨ b ≠ f.runningB then 0 else f.goodRuns,
           failA := if b then f.failA else f.failA + 1, failB := if b then f.failB + 1 else f.failB }

/-- Step 3: the preferred image, or else the other, is checked and started (R441); the repeat journal is applied (R460). -/
def execFirmwareImageChecked (s : State) : Host.Outcome State Fault Refusal :=
  if s.atStep 3 then
    let s := { s.journalReplay with fw := s.fw.countStart }
    let b := s.fw.preferredB
    let r := fwCheck s.otp.svnMin (s.fwImage b)
    if r = 0 then .next ({ s with fw := s.fw.run b }.stepTo 4)
    else if fwCheck s.otp.svnMin (s.fwImage (!b)) = 0 then
      let s := { s with fw := s.fw.run (!b) }
      .next ((s.log 0x0C08 [word (b2n (!b)), s.fwVersion, word r]).stepTo 4)
    else .next (s.stepFail 3 0).bootHoldNow
  else .next s

/-- Step 4. The CAN controllers take their MODE. -/
def execGenerationSelected (s : State) : Host.Outcome State Fault Refusal :=
  if s.atStep 4 then
    let s := s.selectGen
    let s := { s with start := { s.start with onlyG0 := s.otp.inForce == 0 } }
    let s := if s.otp.inForce = 0 then s.stepFail 4 0 else s
    let s := foldS (List.range 4) (fun s x => s.updCan x (fun c => { c with mode := canModeOf (s.fld (canPage x) 0x008 1 0) })) s
    let s := foldS (List.range 14) (fun s e => (s.engGeneration e).engInstall e) s
    .next (s.stepTo 5)
  else .next s

/-- The partner shows the ACTIVE half-period. -/
def State.activePartner (s : State) : Bool := !s.pair.aliveLost && s.pair.alivePeriod == 125

/-- Begins the join of a running partner (R363). -/
def State.beginJoin (s : State) : State :=
  { s with pair := { s.pair with hasPartner := true, joinStep := 0, sync := .none, waitUntil := none, joining := true,
                                 joinAt := s.now } }.sendPair 0x21 [0#32, word (b2n s.start.primary), s.fwVersion, s.fwCompatMin, s.fwCompatMax]

/-- The device becomes ACTIVE and starts its ports; its term comes from the monitors (R90). -/
def State.becomeFirst (s : State) : State :=
  { s with pair := { s.pair with role := if s.gen.single then .singleOp else .active, waitUntil := none, changed := true } }.portsStart

/-- The role at the end of the self-tests (R8, R362). -/
def State.takeRole (s : State) : State :=
  if s.gen.single then s.becomeFirst
  else if s.activePartner then s.beginJoin
  else if s.start.primary then s.becomeFirst
  else { s with pair := { s.pair with waitUntil := some (s.now + sNs 10) } }

/-- Step 5: memory BIST, comparator test (`failedPattern`), Banister walk (`walkFail`: failed node). A cause that this restart was to
clear is cleared (R433). -/
def execStartupSelftestPassed (bistOk : Bool) (failedPattern walkFail : Option Nat) (s : State) : Host.Outcome State Fault Refusal :=
  if s.atStep 5 then
    let s := if s.activePartner then s else s.banStart
    let s := { s with scor := { s.scor with st := .dual, compOk := failedPattern.isNone, permit := failedPattern.isNone, detail := failedPattern.getD s.scor.detail } }
    let s := s.walkResult walkFail
    let s := if walkFail.isSome then s.stepFail 5 2 else s
    let s := match failedPattern with
      | some n => let (w, s) := s.freeWord; (((s.log 0x0906 [word n, w]).stepFail 5 1)).lockout 4
      | none => s
    let s := if bistOk then s else (s.stepFail 5 0).lockout 5
    let pass := bistOk && failedPattern.isNone && walkFail.isNone
    let s := if pass ∧ s.start.leaving ≠ 0#5 then
        { s with start := { s.start with leaving := 0 } }.logN 0x0C04 [s.start.leaving.toNat, 3] else s
    if s.start.onlyG0 then
      -- steps 6 to 8 are skipped; the epoch series starts, so that later transitions have their instants
      let s := { s with pair := { s.pair with role := if s.start.primary then .active else s.pair.role } }
      if pass then .next (s.startEnds.setMode .commission 0).startEpochs else .next s.startEnds.startEpochs
    else if s.activePartner && !(bistOk && failedPattern.isNone) then
      .next { (s.stepTo 6).startEpochs with pair := { s.pair with role := .unavailable } }
    else .next (s.stepTo 6).takeRole
  else .next s

/-- A secondary that has seen no ACTIVE partner for 10 s. -/
def execRoleWaitTimeout (s : State) : Host.Outcome State Fault Refusal :=
  match s.pair.waitUntil with
  | some t => if s.pair.role = .starting then .next (s.reach t).becomeFirst else .next s
  | none => .next s

/-! ### Steps 6 to 9, and the same steps of the wake sequence (R452) -/

/-- Every port in use is RUNNING or in a failed state. -/
def State.portsDone (s : State) : Bool :=
  s.portsUsed.all (fun p => (s.port p).state != .enumerating && (s.port p).state != .off)
/-- Challenges to every module of the ports that run. -/
def State.authStart (s : State) : State :=
  foldS (s.portsUsed.filter (fun p => (s.port p).authOwed && (s.port p).state == .running)) (fun s p =>
    (s.updPort p (fun t => { t with authOwed := false })).authPort p) s
def State.portsFailed (s : State) : Bool := s.portsUsed.any (fun p => (s.port p).state != .running)

/-- With no port calibrated the epoch series starts here. -/
def execPortsStarted (s : State) : Host.Outcome State Fault Refusal :=
  if s.atStep 6 && s.active && s.portsDone then
    let s := if s.portsFailed then s.stepFail 6 0 else s
    .next ((s.startEpochs.stepTo 7).authStart)
  else if s.land.waking && s.active && s.portsDone then .next s.startEpochs.authStart
  else .next s

/-- No challenge is owed or awaits its answer. -/
def State.authDone (s : State) : Bool :=
  s.auth.round == [] && s.portsUsed.all (fun p => !((s.port p).inFlight.any (fun i => i.frame.typ == 0x09#8)))

/-- Step 7 ends and the restore wait begins. -/
def execModulesAuthenticated (s : State) : Host.Outcome State Fault Refusal :=
  if s.atStep 7 && s.authDone then
    let s := if s.modulesInUse.any (fun m => (s.mon m).unverified) then s.stepFail 7 0 else s
    let s := s.stepTo 8
    .next { s with est := { s.est with restore := 1, restoreFrom := s.now, restoreEnd := s.now + sNs (s.fld pEST 0x040 31 16) } }
  else .next s

/-- Completion, else the timeout. -/
def execRestoreWaitEnd (s : State) : Host.Outcome State Fault Refusal :=
  if s.est.restore = 1 then
    if s.restoreComplete then .next (s.restoreEndNow 2).stepEight
    else
      let s := s.reach s.est.restoreEnd
      let s := if s.atStep 8 then s.stepFail 8 0 else s
      .next (s.restoreEndNow 3).stepEight
  else .next s

/-! ### Wake sources (R451, R453, R401, R402) -/

/-- The device is in a deep landing or dormant: wake sources act. -/
def State.asleep (s : State) : Bool := decide (3 ≤ s.land.landing) || s.dormantOr
/-- A source raises the WAKE trigger; in L4 the device first comes to L3. -/
def State.wakeTrigger (s : State) (src port : Nat) : State :=
  let s := if s.land.landing = 4 then s.setLanding 3 else s
  { s with land := { s.land with wakeSrc := src, wakePort := if src = 1 then port else s.land.wakePort } }.engTrigger 13 5

def execWakeTone (p : Port) (s : State) : Host.Outcome State Fault Refusal :=
  let s := { s with land := { s.land with patternAt := sput s.land.patternAt p.val s.now } }
  if s.asleep && s.portEn p.val && !s.land.mask.getLsbD p.val then
    .next ({ s with land := { s.land with pendPorts := s.land.pendPorts ||| (1#48 <<< p.val) } }.wakeTrigger 1 p.val)
  else .next s

/-- A wake pattern without a gap longer than 100 µs for more than 20 ms. -/
def execWakePatternMask (p : Port) (durationMs : Nat) (s : State) : Host.Outcome State Fault Refusal :=
  let s := { s with land := { s.land with patternAt := sput s.land.patternAt p.val s.now } }
  if durationMs ≤ 20 ∨ s.land.mask.getLsbD p.val = true then .next s
  else .next (({ s with land := { s.land with mask := s.land.mask ||| (1#48 <<< p.val) } }.logN 0x0C0A [p.val, durationMs]).raise pLAND 1)

/-- WAKE_IN: edges only. -/
def execWakeIn (s : State) : Host.Outcome State Fault Refusal :=
  if s.asleep then .next ({ s with land := { s.land with pendOther := s.land.pendOther ||| 16#5 } }.wakeTrigger 3 0) else .next s

/-- The wake sequence has ended: READY follows at the next sample instant, or the LOCKOUT that waits for it. -/
def execWakeSequenceDone (s : State) : Host.Outcome State Fault Refusal :=
  if s.land.waking && s.active && s.portsDone && s.authDone then
    if s.mode.reqCauses ≠ 0#5 then .next { s with land := { s.land with waking := false } }
    else .next { s with mode := { s.mode with trans := some { target := .ready, origin := 0 } } }
  else .next s

/-- W1C of LAND.WMASK0/1; `quiet`: ports that have shown no wake pattern for 100 ms. -/
def State.wmaskRearm (s : State) (high : Bool) (mask quiet : Word) : Except Refuse State :=
  if (mask &&& ~~~quiet) ≠ 0#32 then .error .mode
  else
    let m : BitVec 48 := if high then mask.setWidth 48 <<< 32 else mask.setWidth 48
    .ok { s with land := { s.land with mask := s.land.mask &&& ~~~m } }
def execWmaskRearm (o : Origin) (high : Bool) (mask quiet : Word) (s : State) : Host.Outcome State Fault Refusal :=
  .next (s.served o pLAND (if high then 0x024 else 0x020) (s.wmaskRearm high mask quiet))

/-- A frame matches the wake filter (R401). -/
def State.wakeMatches (s : State) (x : Nat) (f : CanFrame) : Bool :=
  let id := s.reg (canPage x) 0x034
  let w := fun k => (s.reg (canPage x) (0x038 + 4 * k)).toNat
  let m := w 0 % 2 ^ 29
  let pat := leBytes 4 (w 1) ++ leBytes 4 (w 2)
  let msk := leBytes 4 (w 3) ++ leBytes 4 (w 4)
  Nat.land f.id.toNat m == Nat.land (id.toNat % 2 ^ 29) m && f.xtd == id.getLsbD 29 && !(f.fdf && f.brs) &&
    (List.range (Nat.min 8 f.data.length)).all (fun i => (f.data.getD i 0 &&& msk.getD i 0) == (pat.getD i 0 &&& msk.getD i 0))

/-- A sleeping controller sees a dominant edge (`none`) or a frame. In L4 only the edge wakes. -/
def execCanWake (x : CanIx) (frame : Option CanFrame) (s : State) : Host.Outcome State Fault Refusal :=
  let k := x.val
  let md := s.fld (canPage k) 0x008 5 4
  let l4 := decide (s.land.landing = 4)
  let hit := match frame with
    | none => md == 1 || (l4 && md != 0)
    | some f => md == 2 && !l4 && s.wakeMatches k f
  if (s.can k).mode = .sleep ∧ (s.can k).wakeMasked = false ∧ hit = true then
    let id := match frame with | some f => f.id.toNat | none => 0
    let s := (s.logN 0x0B07 [k, md, id]).raise (canPage k) 8
    let s := match frame with | some f => s.fifo0Put k ⟨f, s.now⟩ | none => s
    if s.asleep then .next ({ s with land := { s.land with pendOther := s.land.pendOther ||| (1#5 <<< k) } }.wakeTrigger 2 0) else .next s
  else .next s

/-- A dominant level held for more than 5 ms. -/
def execWakeMasked (x : CanIx) (durationUs : Nat) (s : State) : Host.Outcome State Fault Refusal :=
  let k := x.val
  if durationUs ≤ 5000 ∨ (s.can k).wakeMasked = true then .next s
  else .next (((s.updCan k (fun c => { c with wakeMasked := true })).logN 0x0B08 [k, durationUs]).raise (canPage k) 7)

/-- The waiting device of R454 has seen no ACTIVE heartbeat for 10 s. -/
def execDormantRoleTimeout (s : State) : Host.Outcome State Fault Refusal :=
  match s.pair.waitUntil with
  | some t =>
    if s.land.waking && s.pair.role == .standby then
      let s := s.reach t
      .next { s with pair := { s.pair with role := .active, term := s.term + 1#8, sync := .none, waitUntil := none, changed := true } }.wakeSequence
    else .next s
  | none => .next s

end Sys2Proof.Machine
end

