-- ==== Sys2Proof/Machine/Pair.lean ====
section
/-! DEFINITION. The device pair (14): pair-link messages, roles, joining, mirroring, handover, takeover, drill, restart. -/
namespace Sys2Proof.Machine

/-! ### Link and heartbeat paths (R356, R360) -/

/-- A valid frame of the partner has arrived: the data link carries again. -/
def State.linkHeard (s : State) : State :=
  let p := s.pair
  let out := if p.linkDown then (s.now - p.downAt) / 1000000 else p.lastOutage
  { s with pair := { p with linkDown := false, lane0Down := false, lane1Down := false, partnerLost := false, lastOutage := out } }

/-- ELIGIBLE (R361). -/
def State.eligible (s : State) : Bool :=
  s.standby && (s.pair.sync == .synced || s.pair.sync == .degraded) && s.md != .lockout && s.scor.permit && s.scor.st != .selftest
/-- Why a device is not ELIGIBLE: 0 sync state, 1 LOCKOUT, 2 permit, 3 self-test. -/
def State.whyNot (s : State) : Nat :=
  if !s.standby || !(s.pair.sync == .synced || s.pair.sync == .degraded) then 0
  else if s.md = .lockout then 1 else if s.scor.st = .selftest then 3 else 2

/-- 4-byte ECHO to hop 1 of every port in use (R370). -/
def State.termProbe (s : State) : State := foldS s.portsUsed (fun s p => s.sendAdhoc p 0x0E 1 [0#8, 0#8, 0#8, 0#8]) s

/-- The active role under term T + 1 (R368, R371): SEQ goes on from the mirrored NEXT_SEQ, the converter by its mirrored state. -/
def State.becomeActive (s : State) : State :=
  let s := s.pair.nextSeq.foldl (fun s e => s.updPort e.1 (fun t => if newer16 e.2 t.nextSeq then { t with nextSeq := e.2 } else t)) s
  { s with pair := { s.pair with role := .active, term := s.term + 1#8, sync := .none, lastEpoch := s.time.epoch, skew := 0,
                                 revertSince := none, stopRefresh := false, handover := none, changed := true },
           syncT := { s.syncT with lastTx := none } }.convTakeover

/-- The partner is lost while this device is the standby, PASSIVE or UNAVAILABLE: takeover or none (R370, R375). -/
def State.takeover (s : State) : State :=
  if s.eligible then
    let t := s.term
    let y := s.pair.sync.code
    let s := (s.becomeActive.logN 0x0A07 [t.toNat, (t + 1#8).toNat, s.time.epoch.toNat, y]).raise pPAIR 7
    { s with pair := { s.pair with baseHold := some (s.now + msNs 10), takeovers := Nat.min 65535 (s.pair.takeovers + 1) } }.termProbe
  else
    ({ s with pair := { s.pair with stopRefresh := true } }.logN 0x0A0B [s.whyNot]).raise pPAIR 9

/-- Both paths are silent (R360): the partner is lost. -/
def State.partnerGone (s : State) : State :=
  let s := { s with pair := { s.pair with partnerLost := true, hasPartner := false, partnerSynced := false, partnerSyncing := false, partnerEligible := false,
                                          handover := none, joining := false } }
  let s := match s.pair.lockCause with
    | 0 => s
    | c => { s with pair := { s.pair with lockCause := 0 } }.lockout c
  match s.pair.role with
  | .standby => s.takeover
  | .passive => s.takeover
  | .unavailable => s.takeover
  | _ => s

/-- A drill ended without its checks: result 4 refused (Table 14.8). -/
def State.drillRefused (s : State) : State :=
  let s := { s with pair := { s.pair with drill := 0, drillResult := 4 } }
  (s.logN 0x0A0D [2, 0, 0]).raise pPAIR 10

/-- The data link is down: an outage begins. `lanes`: LANE_DOWN marks. -/
def State.linkLost (s : State) : State :=
  if s.pair.linkDown then s
  else
    let lanes := b2n s.pair.lane0Down + 2 * b2n s.pair.lane1Down
    let s := { s with pair := { s.pair with linkDown := true, downAt := s.now } }
    let s := ((s.logN 0x0A09 [lanes, s.pair.lastOutage]).raise pPAIR 2).banLinkLost
    let s := if s.sw.confirmed.isNone ∧ s.sw.proposed.isSome then { s with sw := { s.sw with asked := none, proposed := none } } else s
    let s := if s.standby ∧ s.pair.sync = .synced then { s with pair := { s.pair with sync := .degraded, revertSince := none } } else s
    let s := { s with pair := { s.pair with joining := false, joinStep := if s.pair.joining then 0 else s.pair.joinStep } }
    let s := if s.pair.drill = 1 ∧ s.pair.handover.isSome then { s with pair := { s.pair with handover := none } }.drillRefused else s
    if s.pair.aliveLost && s.md != .dormant then s.partnerGone else s

def execLaneDown (k : Fin 2) (s : State) : Host.Outcome State Fault Refusal :=
  let down := if k = 0 then s.pair.lane0Down else s.pair.lane1Down
  if down ∨ s.gen.single = true then .next s
  else
    let s := { s with pair := if k = 0 then { s.pair with lane0Down := true } else { s.pair with lane1Down := true } }.raise pPAIR 1
    .next (if s.pair.lane0Down && s.pair.lane1Down then s.linkLost else s)

/-- A path has carried nothing for 3 ms. Partner loss is not evaluated in DORMANT (R454). -/
def execPathSilent (alive : Bool) (s : State) : Host.Outcome State Fault Refusal :=
  if s.gen.single ∨ s.md = .dormant then .next s
  else if alive then
    if s.pair.aliveLost then .next s
    else
      let r := match s.pair.partnerRole with | some r => r.code | none => 7
      let s := ({ s with pair := { s.pair with aliveLost := true, alivePeriod := 0 } }.logN 0x0A0A [r]).raise pPAIR 3
      .next (if s.pair.linkDown then s.partnerGone else s)
  else .next s.linkLost

/-! ### Joining (R362, R363) -/

/-- The device is to join: START after its self-tests, PASSIVE, or a standby that waits to synchronise. -/
def State.joinDue (s : State) : Bool :=
  !s.pair.joining && !s.pair.fault && !s.pair.compatFault && !s.pair.genMismatch &&
    ((s.pair.role == .starting && s.start.step == 6) || s.pair.role == .passive || (s.standby && s.pair.sync == .syncing))

/-- A half-period on PL_ALIVE_IN: 125, 250 or 500 µs within ±1 % (R359); any other shows no role. -/
def aliveClass (us : Nat) : Nat :=
  ([125, 250, 500].find? (fun n => decide (99 * n ≤ 100 * us ∧ 100 * us ≤ 101 * n))).getD 0
def execPlAliveEdge (halfPeriodUs : Nat) (s : State) : Host.Outcome State Fault Refusal :=
  if s.gen.single then .next s
  else
    let s := { s with pair := { s.pair with aliveLost := false, alivePeriod := aliveClass halfPeriodUs, partnerLost := false } }
    .next (if s.activePartner && s.joinDue then s.beginJoin else s)

/-- R7: the partner reports the same strap. -/
def State.strapCheck (s : State) (primary : Bool) : State :=
  if primary = s.start.primary ∧ s.pair.fault = false then
    ({ s with pair := { s.pair with fault := true } }.logN 0x0A01 [b2n s.start.primary, b2n primary]).raise pPAIR 0
  else s

/-- A joining device that is refused stays in READY (R6, R7, R363). -/
def State.stayReady (s : State) : State :=
  let s := { s with pair := { s.pair with joining := false } }.raise pPAIR 0
  if s.md = .start then s.startEnds.setMode .ready 0 else s

/-- R6: each version lies within the other's range. -/
def State.compatibleWith (s : State) (version lo hi : Word) : Bool :=
  decide (s.fwCompatMin.toNat ≤ version.toNat ∧ version.toNat ≤ s.fwCompatMax.toNat ∧ lo.toNat ≤ s.fwVersion.toNat ∧
    s.fwVersion.toNat ≤ hi.toNat)

/-- Takes wear counts where the own ones are lower (R274). -/
def State.wearMerge (s : State) (l : List (Nat × Nat × Nat × Nat)) : State :=
  foldS l (fun s e =>
    let k := s.coil e.1
    let s := s.updCoil e.1 (fun k => { k with ops := Nat.max k.ops e.2.1, underLoad := Nat.max k.underLoad e.2.2.1, iInt := Nat.max k.iInt e.2.2.2 })
    let s := if k.ops < e.2.1 then s.wearCheck e.1 true else s
    if k.underLoad < e.2.2.1 then s.wearCheck e.1 false else s) s

/-- Mirrored join state (R282): a string this device is opening on its own decision keeps its state. -/
def State.mirrorJoin (s : State) (sec : JoinSec) (strings : List (Nat × JoinSt)) (closes : List (Nat × Half)) : State :=
  let s := { s with join := { s.join with sec := sec } }
  let s := foldS strings (fun s e => s.updStr e.1 (fun t => if t.st = .opening then t else { t with st := e.2 })) s
  foldS (List.range 128) (fun s c =>
    let k := s.coil c
    match closes.find? (fun e => e.1 == c) with
    | some (_, q) =>
      if k.closeSeq.isSome ∨ (k.openedAt.isSome = true ∧ newer16 q (BitVec.ofNat 16 s.acSeq) = false) then s
      else s.updCoil c (fun k => { k with closeSeq := some q.toNat, openedAt := none, closedAt := none })
    | none => if k.closeSeq.isSome then s.updCoil c (fun k => { k with closeSeq := none }) else s) s

/-- Mirrored converter state and FAULT word (R303). -/
def State.mirrorConv (s : State) (st : ConvSt) (w : Word) : State :=
  { s with bfc := { s.bfc with st := st, fseq := field w 31 24, cause := field w 23 16, also := field w 15 8, detail := field w 7 0 } }

/-- A plan of the active device (R198). -/
def State.mirrorPlan (s : State) (e : Word) (p : List Shuttle) : State :=
  let s := { s with bal := { s.bal with mirrored := some (e, p) } }
  s.setPlan s.modulesInUse (fun m => (p.filter (fun x => x.module == m)).map (fun x => (x.cell, x.cur)))

/-- The own Gallery counter is at least n + 1 (R365). -/
def State.raiseSeq (s : State) (n : Word) : State :=
  let q := seqNext n.toNat
  if newer32 (word q) (word s.gal.nextSeq) then { s with gal := { s.gal with nextSeq := q } } else s

/-- LOCKOUT causes of a section that the partner reports (R366): new ones are taken, those it has left are cleared here too. A standby
takes a LOCKOUT in force at once. The kind of reset is not mirrored: a free word. -/
def State.mirrorLockout (s : State) (md : Mode) (causes : BitVec 5) : State :=
  let c := if md = .lockout then causes &&& 7#5 else 0#5
  let gone := s.pair.partnerCauses &&& ~~~c
  let s := { s with pair := { s.pair with partnerCauses := c } }
  let s := foldS (List.range 3) (fun s i => if c.getLsbD i then s.lockout (i + 1) else s) s
  let s := if s.standby ∧ s.mode.reqCauses &&& c ≠ 0#5 ∧ s.md ≠ .lockout then s.enterLockout else s
  if gone &&& s.mode.causes = 0#5 then s else let (w, s) := s.freeWord; s.clearCauses gone (w.toNat % 3)

/-- The port results of enumeration are not in the mirrored set of Table 14.4: a port that this device has not enumerated itself is
taken as RUNNING with the hop count of the generation. -/
def State.portsMirrored (s : State) : State :=
  foldS s.portsUsed (fun s p => s.updPort p (fun t =>
    if t.hFound = 0 then { t with state := .running, hFound := s.hExpect (s.series p), enumerated := true, enumAt := s.now } else t)) s

/-- The partner's mode is due at the next sample instant (R439); READY where only device causes hold the partner in LOCKOUT (R366). -/
def State.joinMode (s : State) : State :=
  let m := if s.pair.partnerMode = .lockout ∧ s.mode.reqCauses = 0#5 then Mode.ready else s.pair.partnerMode
  if m = s.md then s
  else { s with mode := { s.mode with trans := some { target := m, origin := 0 } } }
/-- Step 6: SYNCED. -/
def State.joinComplete (s : State) : State :=
  let n := (s.ctxs.filter (fun e => e.2.started)).length
  let s := { s with pair := { s.pair with sync := .synced, joining := false, joinStep := 6, stopRefresh := false,
                                          revertSince := some s.now }
                    land := { s.land with waking := false } }
  let s := (s.logN 0x0A04 [(s.now - s.pair.joinAt) / 1000000, n]).raise pPAIR 4
  (s.restoreEndNow 2).portsMirrored.startCompleted.joinMode

/-- An item of the sequence, taken in its order. -/
def State.joinItem (s : State) (i : SyncItem) : State :=
  let k := s.pair.joinStep
  let step := fun (s : State) (n : Nat) => { s with pair := { s.pair with joinStep := n } }
  match i with
  | .hello primary version lo hi =>
    if k ≠ 0 then s
    else if primary = s.start.primary then (s.strapCheck primary).stayReady
    else if s.compatibleWith version lo hi then step s 1
    else
      ({ s with pair := { s.pair with compatFault := true } }.log 0x0A02 [s.fwVersion, version]).stayReady
  | .generation id =>
    if k ≠ 1 then s
    else
      let s := { s with pair := { s.pair with partnerGen := id } }
      if id = s.gen.id then step s 2
      else
        ({ s with pair := { s.pair with genMismatch := true, role := .standby, sync := .syncing } }.log 0x0A03 [s.gen.id, id]).stayReady
  | .time now epoch tBase =>
    if k ≠ 2 then s
    else
      let run := s.now - s.pair.joinAt
      let s := s.correct 3 ((s.now : Int) - now)
      let s := { s with time := { s.time with epoch := epoch, tBase := tBase, sampling := true },
                        pair := { s.pair with role := .standby, sync := .syncing, joinAt := s.now - run } }
      step s 3
  | .status term mode causes _ latched wear =>
    if k ≠ 3 then s
    else
      let s := { s with pair := { s.pair with term := term, partnerMode := mode, changed := true },
                        ban := { s.ban with partnerActing := false } }
      let s := foldS (List.range 8) (fun s p => s.updBpair p (fun b => { b with latched := latched.getLsbD p })) s
      let c := if mode = .lockout then causes &&& 7#5 else 0#5
      let s := { s with mode := { s.mode with reqCauses := s.mode.reqCauses ||| c }, pair := { s.pair with partnerCauses := c } }
      step ((s.wearMerge wear).banEval false) 4
  | .image bytes =>
    if k ≠ 4 then s
    else s.applyImage { port := leAt bytes 5 1, bytes := bytes, apply := none, fromPartner := true } true
  | .plan p => if k ≠ 4 then s else s.mirrorPlan s.time.epoch p
  | .join sec strings closes => if k ≠ 4 then s else s.mirrorJoin sec strings closes
  | .converter st w => if k ≠ 4 then s else s.mirrorConv st w
  | .gallerySeq n => if k ≠ 4 then s else s.raiseSeq n
  | .code _ => s
  | .complete => if k ≠ 4 then s else s.joinComplete

/-- The code of STATE's generation word: the generation this device has committed and accepted, else the one in force. -/
def State.acceptedGen (s : State) : Word :=
  match s.sw.asked.orElse (fun _ => s.pendingSlot) with
  | some k => if s.switchAccepted k then genIdOf (s.slotState k).bytes else s.gen.id
  | none => s.gen.id
def State.closesNow (s : State) : List (Nat × Half) :=
  (List.range 128).filterMap (fun c => (s.coil c).closeSeq.map (fun q => (c, BitVec.ofNat 16 q)))
def State.wearNow (s : State) : List Word :=
  (List.range 128).flatMap (fun c =>
    if s.chRole c = 0 then [] else [word c, word (s.coil c).ops, word (s.coil c).underLoad, word (s.coil c).iInt])
def State.faultWord (s : State) : Word := word (at_ 24 s.bfc.fseq + at_ 16 s.bfc.cause + at_ 8 s.bfc.also + s.bfc.detail)

/-- The items the active device sends to a joining partner, in order. -/
def State.joinAnswer (s : State) : State :=
  let s := s.sendPair 0x21 [0#32, word (b2n s.start.primary), s.fwVersion, s.fwCompatMin, s.fwCompatMax]
  let s := s.sendPair 0x21 [1#32, s.gen.id]
  let s := s.sendPair 0x21 ([2#32] ++ two s.now ++ [s.time.epoch] ++ two s.time.tBase.toNat)
  let lat := bitsOf (fun p => (s.bpair p).latched) 8
  let s := s.sendPair 0x21 ([3#32, word s.term.toNat, word s.md.code, word s.mode.causes.toNat, word s.mode.first, word lat] ++ s.wearNow)
  let s := foldS (s.portsUsed.filter (fun p => !s.dualUpper p)) (fun s p => s.sendPair 0x21 (4#32 :: wordsOf (s.imageOf p s.time.epoch))) s
  let s := s.sendPair 0x21 (5#32 :: s.planList.map shuttleWord)
  let s := s.sendPair 0x21 ([6#32, word s.join.sec.code] ++ s.strings.map (fun x => word (x + at_ 8 (s.str x).st.code)) ++
    s.closesNow.map (fun e => word (e.1 + at_ 16 e.2.toNat)))
  let s := s.sendPair 0x21 [7#32, word s.bfc.st.code, s.faultWord]
  let s := s.sendPair 0x21 [8#32, word s.galNewest]
  s.sendPair 0x21 [9#32]

/-- A CODE image of the partner (R232): verified and installed here too in COMMISSION, else both refuse it. -/
def State.codeMirror (s : State) (l : List Byte) : State :=
  let ok := s.md == .commission && (verifyImage l).isNone
  let s := s.sendPair 0x21 [13#32, word (b2n ok)]
  if ok then { s with code := { s.code with result := 1, reason := 0, errWord := 0, ready := some l } } else s.codeRefuse (leAt l 4 1) 8 0

def execSync (item : SyncItem) (s : State) : Host.Outcome State Fault Refusal :=
  if s.gen.single then .next s
  else
    let s := { s.linkHeard with pair := { s.linkHeard.pair with asm := serase s.linkHeard.pair.asm 0x21 } }
    match item with
    | .code l => .next (s.codeMirror l)
    | .hello primary version lo hi =>
      if s.active then
        let s := { s with pair := { s.pair with hasPartner := true } }.strapCheck primary
        .next (if s.pair.fault ∨ s.compatibleWith version lo hi = false then s.sendPair 0x21
          [0#32, word (b2n s.start.primary), s.fwVersion, s.fwCompatMin, s.fwCompatMax] else s.joinAnswer)
      else .next (if s.pair.joining then s.joinItem item else s)
    | _ => .next (if s.pair.joining then s.joinItem item else s)

/-- 5 ms without a segment: the partly assembled message is discarded; an incomplete SYNC restarts the sequence (R358). -/
def execSegmentTimeout (typ : Byte) (s : State) : Host.Outcome State Fault Refusal :=
  let s := { s with pair := { s.pair with asm := serase s.pair.asm typ.toNat } }
  .next (if typ = 0x21#8 ∧ s.pair.joining = true then s.beginJoin else s)

/-! ### HEARTBEAT, TIME (R360, R364) -/

/-- A HEARTBEAT frame. A standby takes the active device's term at once (Table 14.4); a device that acts as active and sees a newer
one becomes PASSIVE (R373). -/
def execHeartbeat (h : Heartbeat) (s : State) : Host.Outcome State Fault Refusal :=
  if s.gen.single then .next s
  else
    let s := s.linkHeard
    let s := { s with pair := { s.pair with partnerRole := some h.role, partnerTerm := h.term, partnerMode := h.mode,
                                            partnerEligible := h.eligible, partnerSynced := h.role == Role.standby && h.sync == SyncSt.synced,
                                            partnerSyncing := h.role == Role.standby && h.sync == SyncSt.syncing,
                                            hasPartner := true } }.strapCheck h.primary
    if newer8 h.term s.term && s.active then .next (s.goPassive 768 h.term)
    else
      let s := if s.standby ∧ s.pair.sync ≠ .syncing ∧ h.role = .active ∧ newer8 h.term s.term = true then
          { s with pair := { s.pair with term := h.term } } else s
      .next (if h.role = .active ∧ s.joinDue = true then s.beginJoin else s)

def execHeartbeatTx (s : State) : Host.Outcome State Fault Refusal :=
  if s.gen.single then .next s
  else
    .next (s.sendPair 1 [word s.pair.role.code, word s.term.toNat, s.time.epoch, word s.md.code, word s.pair.sync.code,
      word (b2n s.eligible + 2 * b2n s.start.primary)])

/-- A TIME frame: `received` on the own clock; `echoOf` and `echoRx`: the own TIME it echoes and the partner's time at its receipt. -/
def execTime (sentAt echoOf echoRx received : Nat) (s : State) : Host.Outcome State Fault Refusal :=
  if s.gen.single then .next s
  else
    let s := s.linkHeard.reach received
    let rt : Int := ((received : Int) - echoOf) - ((sentAt : Int) - echoRx)
    let d : Nat := if echoOf = 0 then s.pair.delay else (rt / 2).toNat
    let off : Int := (received : Int) - sentAt - d
    let s := { s with pair := { s.pair with timeSent := sentAt, timeRx := received, delay := d, skew := if s.standby then off else 0 } }
    if s.standby then
      if s.pair.sync = .degraded ∧ (1000000 < off ∨ off < -1000000) then .next (s.restartDevice 0)
      else .next (s.correct 3 off)
    else .next s

def execTimeTx (s : State) : Host.Outcome State Fault Refusal :=
  if s.gen.single then .next s
  else .next (s.sendPair 2 (two s.now ++ two s.pair.timeSent ++ two s.pair.timeRx))

/-! ### Mirrored items (Table 14.4) -/

/-- The generation words of a STATE message (R35): the active device learns what its partner has accepted and its confirmation; the
standby confirms a switch epoch proposed for the generation it has accepted. -/
def State.mirrorSwitch (s : State) (id epoch : Word) : State :=
  let s := { s with pair := { s.pair with partnerGen := id } }
  if s.active then
    let s := { s with sw := { s.sw with partnerHas := some id } }
    match s.sw.proposed, s.sw.asked with
    | some n, some k =>
      if n = epoch ∧ id = genIdOf (s.slotState k).bytes then { s with sw := { s.sw with confirmed := some n, proposed := none } } else s
    | _, _ => s
  else if epoch = 0#32 ∨ s.sw.confirmed.isSome = true then s
  else
    match s.sw.asked.orElse (fun _ => s.pendingSlot) with
    | some k =>
      if id = genIdOf (s.slotState k).bytes ∧ s.switchAccepted k = true ∧ newer32 epoch s.time.epoch = true then
        { s with sw := { s.sw with asked := some k, confirmed := some epoch } }.sendPair 5 [id, epoch]
      else s
    | none => s

/-- A complete STATE message. -/
def execState (m : StateMsg) (s : State) : Host.Outcome State Fault Refusal :=
  if s.gen.single then .next s
  else
    let s := { s.linkHeard with pair := { s.linkHeard.pair with asm := serase s.linkHeard.pair.asm 0x05 } }
    let s := if s.active || (s.standby && s.pair.sync != .syncing) then s.mirrorLockout m.mode m.causes else s
    let s := s.mirrorSwitch m.genId m.switchEpoch
    if s.standby && s.pair.sync != .syncing then
      let s := { s with pair := { s.pair with partnerMode := m.mode, nextSeq := m.nextSeq.foldl (fun (st : Store Half) (e : Nat × Half) => sput st e.1 e.2) [] } }
      let s := if m.mode ≠ .lockout ∧ s.md ≠ .lockout ∧ m.mode ≠ s.md ∧ s.mode.trans.isNone then (s.when (s.md == Mode.start) State.startEnds).setMode m.mode 0 else s
      let s := { s.mirrorJoin m.join m.strings m.closes with join := { (s.mirrorJoin m.join m.strings m.closes).join with first := m.joinFirst.toNat } }
      let s := s.mirrorConv m.conv m.convFault
      let s := { s with bfc := { s.bfc with failedOpen := m.convOut, senseLost := m.convSenseLost, retriesUsed := m.convRetries } }
      .next (s.wearMerge m.wear)
    else .next s

def execStateTx (s : State) : Host.Outcome State Fault Refusal :=
  if s.gen.single ∨ s.pair.linkDown = true then .next s
  else
    let head := [word s.md.code, word s.mode.causes.toNat, word s.mode.first, word s.join.sec.code, word s.join.first, word s.bfc.st.code,
      word s.bfc.failedOpen.toNat, word s.bfc.senseLost.toNat, word s.bfc.retriesUsed, s.faultWord, s.acceptedGen,
      (s.sw.confirmed.orElse (fun _ => s.sw.proposed)).getD 0#32]
    let s := { s with pair := { s.pair with changed := false } }
    .next (s.sendPair 5 (head ++ s.strings.map (fun x => word (x + at_ 8 (s.str x).st.code)) ++
      s.closesNow.map (fun e => word (e.1 + at_ 16 e.2.toNat)) ++
      s.portsUsed.map (fun p => word (p + at_ 16 (s.port p).nextSeq.toNat)) ++ s.wearNow))

/-- SEQ blocks of an epoch: those of the epoch in progress are used at once. -/
def execBlock (epoch : Word) (blocks : List (Nat × Half × Half)) (s : State) : Host.Outcome State Fault Refusal :=
  if s.gen.single ∨ s.standby = false ∨ s.pair.sync = .syncing then .next s
  else
    let s := s.linkHeard
    let s := { s with pair := { s.pair with blockEpoch := epoch, blocks := blocks } }
    if epoch = s.time.epoch then
      .next ((foldS blocks (fun s b => s.setBlock b.1 b.2.1 b.2.2.toNat) s).sendEpoch epoch)
    else .next s

def execPlan (epoch : Word) (p : List Shuttle) (s : State) : Host.Outcome State Fault Refusal :=
  if s.gen.single ∨ s.standby = false then .next s
  else
    let s := { s.linkHeard with pair := { s.linkHeard.pair with asm := serase s.linkHeard.pair.asm 0x11 } }
    .next (s.mirrorPlan epoch p)

/-- KIND 0: a captured image, applied at the first epoch after its receipt; a DEGRADED standby is SYNCED again. KIND 1: a restore image
with its apply epoch (R36, R181, R376). Any other KIND is not defined and is not taken. -/
def execContext (kind : Byte) (applyEpoch : Word) (image : List Byte) (s : State) : Host.Outcome State Fault Refusal :=
  if s.gen.single then .next s
  else
    let s := { s.linkHeard with pair := { s.linkHeard.pair with asm := serase s.linkHeard.pair.asm 0x12 } }
    let stage := fun (s : State) (i : StagedImage) => { s with est := { s.est with staged := s.est.staged ++ [i] } }
    let p := leAt image 5 1
    if kind = 0#8 ∧ s.standby = true then
      let s := if s.pair.sync = .degraded then
          { s with pair := { s.pair with sync := .synced, revertSince := some s.now, stopRefresh := false } } else s
      .next (stage s { port := p, bytes := image, apply := none, fromPartner := true })
    else if kind = 1#8 then .next (stage s { port := p, bytes := image, apply := some applyEpoch, fromPartner := false, late := decide (2 ≤ s.est.restore) })
    else .next s

def execGseq (n : Word) (s : State) : Host.Outcome State Fault Refusal :=
  if s.gen.single then .next s else .next (s.linkHeard.raiseSeq n)

/-! ### Handover (R368) -/

/-- A request made again, at most three times, and then given up. -/
def State.handoverAgain (s : State) (h : Handover) : State :=
  if h.tries < 4 then s.askHandover h.cause (h.tries + 1)
  else
    let s := ({ s with pair := { s.pair with handover := none } }.logN 0x0A06 [h.cause, h.tries]).raise pPAIR 6
    let s := match s.pair.lockCause with
      | 0 => s
      | c => { s with pair := { s.pair with lockCause := 0 } }.lockout c
    if h.cause = 3 then s.drillRefused else s

/-- A revert or a drill is not made while this device runs single (R351). -/
def State.roleBarred (s : State) (cause : Nat) : Bool := s.singleCore && (cause == 2 || cause == 3)

/-- An ELIGIBLE standby accepts; a DEGRADED one refuses (R376). -/
def execHandoverRequest (instant cause : Nat) (s : State) : Host.Outcome State Fault Refusal :=
  if s.gen.single then .next s
  else
    let s := s.linkHeard
    if s.eligible && s.pair.sync != .degraded && !s.roleBarred cause then
      let h : Handover := { instant := instant, cause := cause, tries := 1, accepted := true }
      .next ({ s with pair := { s.pair with handover := some h } }.sendPair 3 (1#32 :: word cause :: two instant))
    else .next (s.sendPair 3 (2#32 :: word cause :: two instant))

/-- Acceptance counts as a refusal where it arrives less than 200 µs before the instant. -/
def execHandoverAccept (at_ : Nat) (s : State) : Host.Outcome State Fault Refusal :=
  match s.active, s.pair.handover with
  | true, some h =>
    let s := s.linkHeard.reach at_
    if h.accepted then .next s
    else if at_ + 200000 ≤ h.instant then .next { s with pair := { s.pair with handover := some { h with accepted := true } } }
    else .next (s.handoverAgain h)
  | _, _ => .next s

def execHandoverRefuse (s : State) : Host.Outcome State Fault Refusal :=
  match s.active, s.pair.handover with
  | true, some h => if h.accepted then .next s else .next (s.linkHeard.handoverAgain h)
  | _, _ => .next s

/-- The active device becomes standby: the converter nets are released; LOCKOUT of a device cause follows. -/
def State.becomeStandby (s : State) (cause : Nat) : State :=
  let s := { s with pair := { s.pair with role := .standby, term := s.term + 1#8, sync := .synced, lastEpoch := s.time.epoch, handover := none,
                                          revertSince := some s.now, changed := true },
                    bfc := { s.bfc with driving := false }, bal := { s.bal with mirrored := some (s.time.epoch, s.planList) },
                    syncT := { s.syncT with sending := false } }
  match s.pair.lockCause with
  | 0 => if cause = 4 then s.restartDevice 0 else s
  | c => { s with pair := { s.pair with lockCause := 0 } }.lockoutAlone c

/-- The drill's first check on the new active device (R378), unless the roles are being handed back. -/
def State.drillBegin (s : State) : State :=
  if s.pair.drill = 1 then
    { s with pair := { s.pair with drill := 0, drillResult := if s.pair.drillResult = 1 then 3 else s.pair.drillResult } }
  else
    let s := { s with pair := { s.pair with drill := 2, drillResult := 1 } }
    foldS s.portsUsed (fun s p =>
      (s.sendAdhoc p 0x0E 1 [0#8, 0#8, 0#8, 0#8]).sendAdhoc p 0x0E (s.port p).hFound [0#8, 0#8, 0#8, 0#8]) s

/-- The handover instant: term T + 1 and the roles change on both devices. -/
def execHandoverInstant (s : State) : Host.Outcome State Fault Refusal :=
  match s.pair.handover with
  | some h =>
    if h.accepted = false ∨ !(s.active || s.standby) then .next s
    else
      let s := s.reach h.instant
      let t := s.term
      let s := (s.logN 0x0A05 [h.cause, t.toNat, (t + 1#8).toNat, s.time.epoch.toNat]).raise pPAIR 5
      let s := { s with pair := { s.pair with handovers := Nat.min 65535 (s.pair.handovers + 1) } }
      if s.active then .next (s.becomeStandby h.cause)
      else
        let s := s.becomeActive
        .next (if h.cause = 3 then s.drillBegin else s)
  | none => .next s

/-! ### Takeover, term probes (R372, R373) -/

def execTermProbe (s : State) : Host.Outcome State Fault Refusal :=
  if s.pair.partnerLost && s.active && !s.gen.single then .next s.termProbe else .next s

def execBaseIdResume (s : State) : Host.Outcome State Fault Refusal :=
  match s.pair.baseHold with
  | some t => .next { s.reach t with pair := { (s.reach t).pair with baseHold := none } }
  | none => .next s

/-! ### Revert, drill, restart (R377, R378, R380) -/

/-- The converter lets a revert or a drill run (R303). -/
def State.convQuiet (s : State) : Bool := s.bfc.st == .off || s.bfc.st == .latched

/-- A primary standby asks for the role after REVERT_T. -/
def execRevert (s : State) : Host.Outcome State Fault Refusal :=
  match s.pair.revertSince with
  | some t =>
    if s.bit pPAIR 0x020 19 && s.start.primary && s.standby && s.pair.sync == .synced && s.eligible && s.scor.st == .dual && s.convQuiet &&
        !s.pair.linkDown then
      let s := s.reach (t + sNs (s.fld pPAIR 0x020 31 20))
      .next ({ s with pair := { s.pair with revertSince := some s.now } }.sendPair 3 [3#32])
    else .next s
  | none => .next s

def execRevertRequest (s : State) : Host.Outcome State Fault Refusal :=
  if s.pairedActive && s.pair.handover.isNone && s.convQuiet && !s.pair.linkDown && !s.singleCore then .next (s.linkHeard.askHandover 2 1)
  else .next s

def State.swapDrill (s : State) : Except Refuse State :=
  if s.pairedActive && s.pair.partnerEligible && s.convQuiet && s.md != .lockout && !s.pair.linkDown && s.pair.handover.isNone &&
      s.pair.drill == 0 then
    .ok ({ s with pair := { s.pair with drill := 1, drillResult := 1, drillFailed := 0, drillQd := 0, drillCan := false } }.askHandover 3 1)
  else .error .mode
def execSwap (o : Origin) (s : State) : Host.Outcome State Fault Refusal := .next (s.served o pPAIR 0x008 s.swapDrill)

/-- Steps of R378 that failed, as bits. -/
def drillSteps (r : DrillResult) : Nat :=
  (if r.echoFailed = [] then 0 else 4) + (if r.qdFailed = 0#8 then 0 else 8) + (if r.canFailed then 16 else 0)
/-- The outcome of a drill; the new active device records it and hands the roles back where it failed. -/
def execDrillCheck (r : DrillResult) (s : State) : Host.Outcome State Fault Refusal :=
  if s.pair.drill = 0 ∨ s.pair.handover.isSome = true then .next s
  else
    let bad := decide (drillSteps r ≠ 0)
    let s := { s with pair := { s.pair with drillResult := if bad then 3 else 2, drillFailed := Nat.min 63 r.echoFailed.length,
                                            drillQd := r.qdFailed, drillCan := r.canFailed } }
    if s.pair.drill = 2 then
      let s := { s with pair := { s.pair with drill := 0 } }
      if bad then
        let s := (s.logN 0x0A0D ([drillSteps r] ++ [bitsOf (fun p => r.echoFailed.contains p) 32,
          bitsOf (fun p => r.echoFailed.contains (p + 32)) 16])).raise pPAIR 10
        .next (s.askHandover 3 1)
      else
        .next ((s.logN 0x0A0C [s.portsUsed.length, ((List.range 16).filter s.qdPresent).length]).raise pPAIR 10)
    else .next (if bad then s else { s with pair := { s.pair with drill := 0 } })

/-- PAIR.CTRL.RESTART. -/
def State.restartReq (s : State) : Except Refuse State :=
  let live := s.md.joinOrOnline
  if s.pairedActive && s.pair.partnerEligible && s.pair.handover.isNone && !s.pair.linkDown then .ok (s.askHandover 4 1)
  else if live && !(s.standby && s.pair.partnerRole == some .active && s.pair.sync == .synced) then .error .mode
  else .ok (s.restartDevice 0)
def execRestart (o : Origin) (s : State) : Host.Outcome State Fault Refusal := .next (s.served o pPAIR 0x008 s.restartReq)

end Sys2Proof.Machine
end

