-- ==== Sys2Proof/Machine/Views.lean ====
section
/-! DEFINITION. Reading registers: what each RO field, W1S and W1C bit shows of the state, by page (Table 02.4), the common registers
(Table 02.3), the stored fields, and the latches of R55. -/
namespace Sys2Proof.Machine

/-- A field value in its place, cut to its width; the same saturating. -/
def put (hi lo v : Nat) : Nat := at_ lo (v % 2 ^ (hi + 1 - lo))
def puts (hi lo v : Nat) : Nat := at_ lo (satU (hi + 1 - lo) v)
def bitAt (n : Nat) (b : Bool) : Nat := at_ n (b2n b)
/-- Index of an array register, with its position in the stride. -/
def inArr (off base stride n : Nat) : Bool := decide (base ≤ off) && decide (off < base + stride * n)
def countOf (l : List Nat) (f : Nat → Bool) : Nat := (l.filter f).length

/-! ### Management plane and time base -/

def State.viewDev (s : State) (off : Nat) : Nat :=
  if off = 0x004 then put 31 24 0xC1 + put 23 20 (if Config.gradeIsAX then 2 else 1) + put 19 14 48 + put 13 11 4 + put 10 8 6
  else if off = 0x00C then bitAt 31 s.dev.clipped + bitAt 30 s.dev.lockFail + put 21 16 (Nat.min 32 s.mbx.length)
  else if off = 0x020 then bitsOf s.irqBit 30
  else if off = 0x024 then bitsOf (fun m => s.irqBit (0x20 + m)) 12
  else if off = 0x028 then s.dev.mbxstat.toNat
  else if off = 0x040 then bitAt 1 (s.fw.state == .verifying) + bitAt 0 (s.fw.state == .erasing)
  else if off = 0x044 then
    let st := match s.fw.state with
      | .empty => 0 | .erasing => 1 | .writing => 2 | .verifying => 3 | .valid => 4 | .invalid => 5
      | .bad => 6
    bitAt 31 s.fw.runningB + bitAt 30 s.fw.preferredB + put 27 24 (if (if s.fw.runningB then s.fw.badA else s.fw.badB) then 6 else st) +
      (if st = 5 then put 23 20 s.fw.reason else 0)
  else 0

def State.viewMode (s : State) (off : Nat) : Nat :=
  if off = 0x00C then put 31 28 s.md.code + put 27 24 s.start.step + put 20 16 s.mode.causes.toNat + put 15 8 s.mode.first
  else if off = 0x020 then put 31 28 s.mode.guardReq + put 11 0 s.mode.guardFailed.toNat
  else if off = 0x024 then s.mode.rrCauses.toNat
  else if off = 0x028 then s.mode.rrEpoch.toNat
  else if off = 0x034 then s.mode.rrLast.toNat
  else 0

def State.viewLand (s : State) (off : Nat) : Nat :=
  if off = 0x00C then put 31 29 s.land.landing + put 28 26 s.land.wakeSrc + put 21 16 s.land.wakePort
  else if off = 0x020 then s.land.mask.toNat % 2 ^ 32
  else if off = 0x024 then s.land.mask.toNat / 2 ^ 32
  else if off = 0x028 then puts 31 0 s.land.next
  else if inArr off 0x800 4 5 then
    let k := (off - 0x800) / 4
    puts 31 0 ((sget 0 s.land.residence k + (if k = s.land.landing then s.now - s.land.since else 0)) / sNs 1)
  else 0

def satS (n : Nat) (i : Int) : Nat := ofSigned n (clampI (-(2 ^ (n - 1) : Nat)) ((2 ^ (n - 1) : Nat) - 1) i)

def State.viewTime (s : State) (off : Nat) : Nat :=
  if off = 0x034 then
    let src := match s.syncT.src with
      | .syncIn => 1 | .ntm => 2 | .pair => 3
      | .none => if s.syncT.sending then 4 else 0
    put 31 29 src + bitAt 28 s.syncT.lock + puts 27 24 s.syncT.misses + satS 24 s.syncT.offset
  else if off = 0x038 then bitAt 24 s.syncT.conflict
  else if off = 0x040 then puts 31 24 s.load.load + puts 23 16 s.load.max + puts 15 12 s.acq.length + bitAt 11 s.load.catchup
  else if off = 0x044 then puts 31 16 s.load.catchups + puts 15 0 s.load.overruns
  else 0

def State.viewTherm (s : State) (off : Nat) : Nat :=
  if off = 0x00C then at_ 16 (satS 16 s.supply.tj) + bitAt 15 s.supply.tjHigh + bitAt 14 s.supply.vauxFault + bitAt 13 s.supply.vinSurge
  else if off = 0x020 then puts 15 0 s.supply.vin
  else if off = 0x024 then satS 16 s.supply.tjMax
  else 0

def SlotState.code : SlotState → Nat
  | .empty => 0
  | .submitted => 1
  | .validating => 2
  | .applied => 3
  | .refused => 4

def State.viewHost (s : State) (off : Nat) : Nat :=
  if off = 0x00C then bitAt 31 s.dev.wakeOut + puts 12 0 s.host.fifo.length
  else if inArr off 0x800 4 16 then
    let r := s.rslot ((off - 0x800) / 4)
    put 31 28 r.st.code + put 27 24 r.step + put 23 20 r.reason + put 15 0 r.apply.toNat
  else 0

def State.viewGal (s : State) (o : Origin) (off : Nat) : Nat :=
  let x := s.session o
  if off = 0x008 then bitAt 0 s.gal.clearing.isSome
  else if off = 0x00C then put 22 16 s.gal.fifo.length + puts 8 0 s.gal.clearLog.length
  else if off = 0x020 then s.galNewest
  else if off = 0x024 then s.galOldest
  else if off = 0x028 then puts 31 16 s.gal.lostTotal + puts 15 0 (ringUsed s.gal.ring / 16)
  else if off = 0x034 then x.cursor
  else if off = 0x038 then x.lo
  else if off = 0x03C then x.hi
  else if off = 0x040 then put 31 29 x.state + bitAt 28 x.openRec + bitAt 27 x.lapped + bitAt 26 x.crcBad + puts 6 0 x.window.length
  else if inArr off 0x800 4 66 then (x.window.getD ((off - 0x800) / 4) 0#32).toNat
  else 0

def State.viewStw (s : State) (off : Nat) : Nat :=
  if off = 0x00C then put 31 30 s.stwLevel.code + bitAt 29 s.stw.hold.isSome + bitAt 28 s.stw.halted + put 27 26 s.mgmt.shed +
    put 21 0 s.stw.baud
  else 0

def Stage.code : Stage → Nat
  | .empty => 0
  | .loading => 1
  | .verifying => 2
  | .verified => 3
  | .refused => 4
  | .programming => 5

/-- Header word of a slot; that of G0 is given only where it holds its BODY_HASH (log 9). -/
def State.slotHeader (s : State) (k w : Nat) : Word :=
  if k = 0 then (if w = 6 then gen0.id else Config.g0Header w)
  else if k ≤ 6 then (s.slotState k).mem.readWord (4 * w) else 0#32

def State.viewOtp (s : State) (off : Nat) : Nat :=
  if off = 0x008 then bitAt 1 (s.otp.stage == .verifying) + bitAt 2 (s.otp.stage == .programming) + bitAt 3 s.sw.asked.isSome
  else if off = 0x00C then
    put 31 29 s.otp.inForce + put 28 26 (s.pendingSlot.getD 0) + put 25 20 (bitsOf (fun k => (s.slotState (k + 1)).used) 6) +
      put 19 16 s.otp.stage.code + put 15 12 s.otp.reason + bitAt 11 s.freeSlot.isNone + bitAt 10 s.otp.fallback +
      bitsOf (fun i => (sget none s.otp.keys i).isSome) 4
  else if inArr off 0x800 4 64 then (s.slotHeader (s.fld pOTP 0x02C 2 0) ((off - 0x800) / 4)).toNat
  else 0

def State.viewAuth (s : State) (off : Nat) : Nat :=
  if off = 0x008 then bitAt 0 s.auth.roundOn
  else if off = 0x00C then
    puts 31 16 (countOf s.modulesInUse (fun m => (s.mon m).unverified)) + puts 15 0 (countOf s.modulesInUse (fun m => (s.mon m).verified))
  else if inArr off 0x800 8 48 then
    let p := (off - 0x800) / 8
    if off % 8 = 0 then bitsOf (fun h => (s.mon (40 * p + h)).unverified) 32 else bitsOf (fun h => (s.mon (40 * p + 32 + h)).unverified) 8
  else 0

def EngSource.code : EngSource → Nat
  | .rom => 0
  | .romExt => 1
  | .genImage => 2
  | .codeImage => 3

def State.viewCode (s : State) (off : Nat) : Nat :=
  if off = 0x008 then bitAt 0 (s.code.result == 1)
  else if off = 0x00C then put 31 28 s.code.result + put 27 24 s.code.reason + puts 15 0 s.code.errWord
  else if off = 0x02C then
    let g := s.eng (s.fld pCODE 0x028 3 0)
    put 31 30 g.source.code + bitAt 29 g.fallback + bitAt 28 g.div0 + puts 27 20 g.faults + puts 19 0 ((g.lastUnits + 1) / 2)
  else if off = 0x030 then 0x010101
  else 0

/-! ### Data plane -/

def State.viewHall (s : State) (off : Nat) : Nat :=
  if off = 0x00C then
    match s.hall.pin with
    | none => put 27 26 (s.hall.newest.getD 0)
    | some p =>
      put 31 30 (if p.released then 2 else 1) + put 29 28 p.owner.code + put 27 26 (s.hall.newest.getD 0) + put 25 24 (p.bank.getD 0) +
        puts 23 16 p.age
  else if off = 0x020 then (match s.newestBank with | some b => b.epoch.toNat | none => 0)
  else if off = 0x024 then (match s.pinned with | some k => (sget {} s.hall.banks k).epoch.toNat | none => 0)
  else 0

def State.viewFlow (s : State) (off : Nat) : Nat :=
  let f := s.flow (s.fld pFLOW 0x020 8 0)
  if off = 0x024 then put 31 16 f.emitted + puts 15 0 f.late
  else if inArr off 0x800 4 4 then (f.w ((off - 0x800) / 4)).toNat
  else 0

/-- Word a of the data-memory window of a port sequencer; the ROM's words are free values. -/
def Eng.shownWord (g : Eng) (e a : Nat) : Word :=
  if g.shownRom = 2 ∨ (g.shownRom = 1 ∧ a < 0x100) then Config.romData e a g.shownFree else sget 0#32 g.shown a

def State.viewPseq (s : State) (g off : Nat) : Nat :=
  let p := fun k => s.port (4 * g + k)
  if off = 0x008 then
    at_ 20 (bitsOf (fun k => (p k).inFlight.any (fun i => i.frame.typ == 0x0F#8)) 4) +
      at_ 16 (bitsOf (fun k => (p k).state == .enumerating) 4)
  else if off = 0x00C then
    at_ 28 (bitsOf (fun k => (p k).toneHeld) 4) + (List.range 4).foldl (fun a k => a + at_ (4 * k) (p k).state.code) 0
  else if inArr off 0x040 16 4 then
    let t := p ((off - 0x040) / 16)
    let i := (off - 0x040) % 16
    if i = 0 then put 31 24 s.term.toNat + (if t.state = .broken then put 21 16 t.breakHop else 0) + put 13 8 t.hFound
    else if i = 4 then puts 31 16 t.tU + puts 15 0 t.tHop
    else if i = 8 then puts 31 16 t.resends + put 15 0 t.nextSeq.toNat
    else 0
  else if inArr off 0x800 4 512 then ((s.eng g).shownWord g ((off - 0x800) / 4)).toNat
  else 0

def State.viewCell (s : State) (off : Nat) : Nat :=
  let out := fun p => (s.port p).wbOut
  if off = 0x008 then bitAt 0 (range48.any (fun p => (s.port p).learn.isSome))
  else if off = 0x00C then
    put 25 20 (countOf range48 out) + put 19 14 (countOf range48 (fun p => (s.port p).alignWide)) +
      puts 13 8 (s.temps.filter (fun e => e.2.broken)).length
  else if off = 0x020 then bitsOf out 32
  else if off = 0x024 then bitsOf (fun p => out (p + 32)) 16
  else if inArr off 0x800 4 48 then
    let t := s.port ((off - 0x800) / 4)
    puts 31 16 t.resid + puts 15 0 t.budget
  else if inArr off 0xC00 4 17 then
    let w := s.wire (17 * (40 * s.fld pCELL 0x034 21 16 + (s.fld pCELL 0x034 5 0 - 1)) + (off - 0xC00) / 4)
    bitAt 31 w.valid + bitAt 30 w.highr + puts 15 0 w.res
  else 0

/-- A and B of a channel at the latest sample instant, as 64-bit numbers. -/
def State.accOf (s : State) (c : Nat) : Nat := ofSigned 64 (s.chan c).snap.a
def State.bitsCnt (s : State) (c : Nat) : Nat := (s.chan c).snap.b % 2 ^ 64

def State.viewCur (s : State) (off : Nat) : Nat :=
  let n := fun (f : ChanSt → Bool) => countOf range48 (fun c => f (s.chan c))
  if off = 0x008 then bitAt 0 (range48.any (fun c => (s.chan c).learnReq || (s.chan c).window.isSome))
  else if off = 0x00C then
    put 31 26 (countOf s.strings (fun c => (s.chan c).lost)) + put 25 20 (n (·.brkHold)) + put 19 14 (n (·.oc)) + put 11 6 s.clkPresent.toNat +
      put 5 0 s.clkDrive.toNat
  else if inArr off 0x800 32 48 then
    let c := (off - 0x800) / 32
    let i := off % 32
    if i = 0 then s.accOf c % 2 ^ 32
    else if i = 4 then s.accOf c / 2 ^ 32
    else if i = 8 then s.bitsCnt c % 2 ^ 32
    else if i = 12 then s.bitsCnt c / 2 ^ 32
    else if i = 16 then puts 31 0 (s.chan c).snap.g
    else if i = 20 then ofSigned 32 (s.chan c).iNow
    else 0
  else if inArr off 0xE00 4 48 then
    let c := s.chan ((off - 0xE00) / 4)
    at_ 16 (satS 16 c.dieT) + bitAt 7 c.tempStale + bitAt 6 c.interp + bitAt 5 c.gap + bitAt 4 c.offsetSuspect + bitAt 3 c.overrange +
      bitAt 2 c.brkHold + bitAt 1 c.oc + bitAt 0 c.lost
  else 0

/-- Words 0–7 of the selected cell's context, as at the latest committed epoch. -/
def State.ctxWords (s : State) : List Word :=
  wordsOf ({ s with ctxs := s.hCtx }.cellRecord (40 * s.fld pEST 0x044 21 16 + (s.fld pEST 0x044 13 8 - 1)) (s.fld pEST 0x044 3 0))

def State.viewEst (s : State) (off : Nat) : Nat :=
  if off = 0x008 then bitAt 1 s.est.imgNow
  else if off = 0x00C then
    put 31 30 s.est.restore + put 29 24 (countOf range48 (fun x => (s.sctx x).restReq)) +
      puts 15 0 ((s.portsUsed.flatMap s.cellsOf).filter (fun e => (s.ctx (16 * e.1 + e.2)).unknown)).length
  else if inArr off 0x800 4 8 then (s.ctxWords.getD ((off - 0x800) / 4) 0#32).toNat
  else 0

def State.viewBal (s : State) (off : Nat) : Nat :=
  if off = 0x00C then
    let on := (s.shuts.filter (fun e => e.2.cmd != 0)).map (fun e => e.1)
    bitAt 31 s.bal.stale + puts 26 16 (on.map (· / 16)).eraseDups.length + puts 15 0 on.length
  else 0

def State.viewLim (s : State) (off : Nat) : Nat :=
  let z := fun (x j : Nat) => sget 0 s.limits (4 * x + j) == 0
  let any := fun (x : Nat) (f : SlotSt → Bool) => (List.range 4).any (fun j => f (s.slotOf (4 * x + j)))
  if off = 0x00C then
    put 31 26 (countOf s.strings (fun x => z x 0 || z x 2)) + put 25 20 (countOf s.strings (fun x => z x 1 || z x 3)) +
      put 19 14 (countOf s.strings (fun x => any x (·.stale))) + put 13 8 (countOf s.strings (fun x => any x (·.clipped)))
  else if inArr off 0xA00 4 48 then
    let x := (off - 0xA00) / 4
    if s.closed x then puts 15 0 (toUnits ((s.str x).share * 65536)).toNat else 0
  else 0

/-! ### Control plane -/

def State.viewProt (s : State) (off : Nat) : Nat :=
  if off = 0x00C then
    bitAt 31 s.prot.dataStall + bitAt 30 s.prot.insStale + bitAt 29 s.zeroChg + bitAt 28 s.zeroDis +
      bitAt 27 (range48.any (fun x => (s.waitOf x).brkWait)) + put 26 24 s.topLevel +
      put 23 18 (countOf range48 (fun x => (s.waitOf x).waiting)) + put 17 12 (countOf s.strings s.latchedOut)
  else if inArr off 0xC00 4 49 then (s.lvlWord ((off - 0xC00) / 4)).toNat
  else 0

def State.viewAct (s : State) (off : Nat) : Nat :=
  let w := s.coil (s.fld pACT 0x024 6 0)
  if off = 0x00C then
    let ok := fun n => s.qdPresent n && !(s.qd n).lost
    at_ 24 (bitsOf (fun a => ok (8 + a)) 8) + at_ 16 (bitsOf ok 8) + put 15 10 (countOf range48 s.weldLatch) +
      put 9 4 s.closedList.length + bitAt 3 (match s.feedCh with | some c => (s.coil c).aux | none => false)
  else if off = 0x028 then puts 31 0 w.ops
  else if off = 0x02C then puts 31 0 w.underLoad
  else if off = 0x030 then puts 31 0 w.iInt
  else if inArr off 0xC00 4 16 then
    let q := s.qd ((off - 0xC00) / 4)
    put 31 24 q.term.toNat + at_ 16 (satS 8 q.dieT) + bitAt 4 q.timeoutSeen + bitAt 3 q.safeOff + bitAt 2 q.supplyOk + bitAt 1 q.lost
  else if inArr off 0xA00 4 128 then
    let c := (off - 0xA00) / 4
    let k := s.coil c
    let x := s.str (s.chStr c)
    let weld := (s.chRole c == 1 && x.weldNeg) || (s.chRole c == 2 && x.weldPos) || (s.chRole c == 3 && s.join.feedWeld)
    puts 31 16 k.icoil + bitAt 5 weld + bitAt 4 k.cfault + bitAt 3 k.econ + bitAt 2 k.aux + bitAt 1 k.coil + bitAt 0 (s.closeCmd c)
  else 0

def State.viewJoin (s : State) (off : Nat) : Nat :=
  if off = 0x008 then bitAt 0 (match s.mode.trans with | some t => t.target == .joining | none => false)
  else if off = 0x00C then
    put 31 28 s.join.sec.code + put 27 22 s.join.first + puts 21 19 s.join.tries + puts 18 15 s.closingList.length
  else if off = 0x030 then bitsOf (fun x => (s.str x).siteOpen && (s.waitOf x).waiting) 32
  else if off = 0x034 then bitsOf (fun x => (s.str (x + 32)).siteOpen && (s.waitOf (x + 32)).waiting) 16
  else if inArr off 0x800 4 48 then
    let x := (off - 0x800) / 4
    let dv := match s.dvOf x with | some d => satS 16 (toUnits (d * 10)) | none => 0x8000
    put 31 28 (s.str x).st.code + bitAt 16 (s.str x).discUnproven + dv
  else 0

def State.viewBfc (s : State) (off : Nat) : Nat :=
  let b := s.bfc
  if off = 0x00C then
    put 31 28 b.st.code + at_ 22 (bitsOf s.inService.contains 6) + at_ 16 (b.failedOpen ||| b.senseLost).toNat + bitAt 15 b.syncLock +
      bitAt 14 b.driving + bitAt 13 b.voaLost + bitAt 12 b.vobLost + bitAt 11 b.viLost
  else if off = 0x020 then s.faultWord.toNat
  else if off = 0x034 then puts 31 16 (toUnits (s.eff * 10)).toNat
  else if inArr off 0x800 16 16 then
    let q := (off - 0x800) / 16
    let t := s.telOf q
    let w := off % 16
    (telWord q (if w = 0 then t.avg1 else if w = 4 then t.avg100 else if w = 8 then t.avg1s else 0)).toNat
  else 0

def State.viewBvl (s : State) (off : Nat) : Nat :=
  if off = 0x00C then
    put 31 24 s.bvl.seq.toNat + put 23 22 s.bvl.ack + put 21 19 (if s.bvl.ack = 2 then s.bvl.reason else 0) + bitAt 18 s.bvl.silent
  else if off = 0x028 then puts 31 16 s.bvl.rejCrc + puts 15 0 s.bvl.rejFrame
  else 0

def State.viewBan (s : State) (off : Nat) : Nat :=
  if off = 0x008 then bitAt 0 s.ban.walking
  else if off = 0x00C then
    put 31 28 s.ban.so.toNat + bitAt 27 s.bfcEnHigh + bitAt 26 (s.mode.causes.getLsbD 0 || s.mode.reqCauses.getLsbD 0) + bitAt 25 s.ban.thOn +
      bitAt 24 (range48.any (fun p => (s.toneOf p).acting)) + at_ 20 (bitsOf (fun k => (s.tpOf k).drive) 4) +
      at_ 16 (bitsOf (fun k => (s.tpOf k).lost) 4) + at_ 8 (bitsOf s.pairDemand 8) +
      bitsOf (fun p => (s.bpair p).latched || s.pairFault p) 8
  else if off = 0x034 then bitAt 31 s.join.thValid + put 6 0 s.join.thSel
  else if inArr off 0x808 16 8 ∧ off % 16 = 8 then
    let p := (off - 0x808) / 16
    let b := s.bpair p
    bitAt 7 (s.pairDemand p) + bitAt 6 b.latched + bitAt 5 b.discrep + bitAt 4 (s.safe (2 * p)).stuck + bitAt 3 (s.safe (2 * p + 1)).stuck +
      bitAt 2 b.chatter + bitAt 1 (!s.chDemand (2 * p + 1)) + bitAt 0 (!s.chDemand (2 * p))
  else if inArr off 0x900 4 48 then
    let t := s.toneOf ((off - 0x900) / 4)
    bitAt 5 (t.acting || t.latched)
  else if inArr off 0xA08 16 4 ∧ off % 16 = 8 then
    let t := s.src ((off - 0xA08) / 16)
    let q := match t.seqA, t.seqB with
      | some a, some b => if newer16 b a then b else a
      | some a, none => a
      | none, some b => b
      | none, none => 0
    put 31 16 q.toNat + bitAt 3 (t.demand || t.latched) + bitAt 2 t.timeout + bitAt 1 t.single + bitAt 0 t.mismatch
  else 0

def CoreState.code : CoreState → Nat
  | .dual => 0
  | .singleMain => 1
  | .singleChecker => 2
  | .split => 3
  | .rejoining => 4
  | .selftest => 5
  | .halted => 6
  | .noCore => 7

def State.viewScor (s : State) (off : Nat) : Nat :=
  let c := s.scor
  if off = 0x008 then bitAt 1 (c.st == .rejoining && c.rejoinOfSplit)
  else if off = 0x00C then
    put 31 28 c.st.code + bitAt 27 c.permit + bitAt 26 (s.bit pSCOR 0x020 23) + bitAt 25 c.compOk + bitAt 24 c.mainIso + bitAt 23 c.chkIso
  else if off = 0x024 then put 31 28 (match c.cause with | some m => m.code | none => 0) + put 27 24 c.detail + put 23 0 c.misWindow
  else if off = 0x028 then c.sigMain.toNat % 2 ^ 32
  else if off = 0x02C then c.sigMain.toNat / 2 ^ 32
  else if off = 0x030 then c.sigChk.toNat % 2 ^ 32
  else if off = 0x034 then c.sigChk.toNat / 2 ^ 32
  else if off = 0x038 then (match c.singleSince with | some t => puts 15 0 ((s.now - t) / sNs 360) | none => 0)
  else if off = 0x03C then
    puts 31 24 c.mismatches + puts 23 16 (c.transAt.filter (fun t => decide (s.now < t + sNs 86400))).length + puts 15 0 c.disagreements
  else 0

def State.viewPair (s : State) (off : Nat) : Nat :=
  let p := s.pair
  if off = 0x008 then bitAt 0 (p.drill != 0)
  else if off = 0x00C then
    put 31 29 p.role.code + put 28 26 (match p.partnerRole with | some r => r.code | none => 7) + put 25 24 p.sync.code +
      bitAt 23 s.start.primary + bitAt 22 p.fault + bitAt 21 p.compatFault + bitAt 20 p.genMismatch + bitAt 19 s.eligible +
      bitAt 18 p.partnerEligible + bitAt 17 (!p.aliveLost) + bitAt 16 (!p.lane1Down) + bitAt 15 (!p.lane0Down) + put 7 0 p.term.toNat
  else if off = 0x020 then bitAt 18 s.gen.single
  else if off = 0x024 then puts 31 16 p.takeovers + puts 15 0 p.handovers
  else if off = 0x028 then p.lastEpoch.toNat
  else if off = 0x02C then put 31 28 p.drillResult + put 27 22 p.drillFailed + put 21 14 p.drillQd.toNat + bitAt 13 p.drillCan
  else if off = 0x030 then (if s.active then 0 else at_ 16 (satS 16 p.skew)) + puts 15 0 p.delay
  else 0

def CanMode.code : CanMode → Nat
  | .off => 0
  | .active => 1
  | .listen => 2
  | .sleep => 3
def BufState.code : BufState → Nat
  | .idle => 0
  | .queued => 1
  | .sending => 2
  | .sent => 3
  | .withdrawn => 4
  | .expired => 5

def State.viewCan (s : State) (x off : Nat) : Nat :=
  let c := s.can x
  let t := s.buf (64 * x + s.fld (canPage x) 0x02C 5 0)
  if off = 0x00C then
    put 31 30 (if c.busOff then 2 else if c.errPassive then 1 else 0) + bitAt 29 c.recovering + bitAt 28 c.wakeMasked +
      put 27 26 c.mode.code + put 22 16 (s.pendingBufs x) + put 13 8 c.fifo0.length + put 5 0 c.fifo1.length
  else if off = 0x028 then
    put 31 24 c.tec + bitAt 23 (decide (128 ≤ c.rxErr)) + puts 22 16 c.rxErr + puts 15 8 c.loop + put 2 0 c.lastErr
  else if off = 0x02C then put 31 29 t.st.code + bitAt 28 t.late
  else if inArr off 0x800 4 22 then (t.w ((off - 0x800) / 4)).toNat
  else 0

/-! ### Any register -/

def State.view (s : State) (o : Origin) (pg off : Nat) : Nat :=
  if pg = pDEV then s.viewDev off
  else if pg = pMODE then s.viewMode off
  else if pg = pLAND then s.viewLand off
  else if pg = pTIME then s.viewTime off
  else if pg = pHALL then s.viewHall off
  else if pg = pFLOW then s.viewFlow off
  else if pg = pHOST then s.viewHost off
  else if pg = pTHERM then s.viewTherm off
  else if pg < pCELL then s.viewPseq (pg - pPSEQ) off
  else if pg = pCELL then s.viewCell off
  else if pg = pBAL then s.viewBal off
  else if pg = pCUR then s.viewCur off
  else if pg = pEST then s.viewEst off
  else if pg = pLIM then s.viewLim off
  else if pg = pPROT then s.viewProt off
  else if pg = pACT then s.viewAct off
  else if pg = pJOIN then s.viewJoin off
  else if pg = pBFC then s.viewBfc off
  else if pg = pBVL then s.viewBvl off
  else if pg < pBAN then s.viewCan (pg - pCAN) off
  else if pg = pBAN then s.viewBan off
  else if pg = pSCOR then s.viewScor off
  else if pg = pPAIR then s.viewPair off
  else if pg = pGAL then s.viewGal o off
  else if pg = pOTP then s.viewOtp off
  else if pg = pAUTH then s.viewAuth off
  else if pg = pSTW then s.viewStw off
  else if pg = pCODE then s.viewCode off
  else 0

/-- ID (R47). -/
def idWord (pg : Nat) : Nat :=
  let first := if pPSEQ ≤ pg ∧ pg < pCELL then pPSEQ else if pCAN ≤ pg ∧ pg < pBAN then pCAN else pg
  at_ 16 (0x4800 + first) + at_ 8 (pg - first) + (if pg = pDEV then 0xC1 else 0x01)
/-- LOCK as it reads. -/
def lockWord (pg owner : Nat) : Nat := if owner = 0 then 0 else at_ 31 1 + at_ 26 owner + pg

/-- The fields that a register stores: those written and read back, and RO fields of the generation. -/
def Fld.stored (f : Fld) : Bool := f.acc == .rw || f.acc == .rww || f.acc == .rwx || (f.acc == .ro && f.gen)
def State.storedWord (s : State) (pg off : Nat) (fs : List Fld) : Nat :=
  if pg = pJOIN ∧ (off = 0x028 ∨ off = 0x02C) then (s.armWord off).toNat
  else
    let w := s.reg pg off
    (fs.filter Fld.stored).foldl (fun a f => a + at_ f.lo (field w f.hi f.lo)) 0

/-- What an origin reads in a register of a present page: 0 at reserved offsets (R45). -/
def State.readReg (s : State) (o : Origin) (pg off : Nat) : Word :=
  match regFlds pg off with
  | none => 0#32
  | some fs =>
    if off = 0x000 then word (idWord pg)
    else if off = 0x010 then (s.page pg).evt
    else if off = 0x014 then (s.page pg).evten
    else if off = 0x018 then word (lockWord pg (s.page pg).owner)
    else if off = 0x01C then (s.page pg).cfgseq
    else word (Nat.lor (s.storedWord pg off fs) (s.view o pg off))

/-! ### Latches (R55) -/

/-- The low words of 64-bit quantities. -/
def lowWord (pg off : Nat) : Bool :=
  (pg == pCUR && inArr off 0x800 32 48 && (off % 32 == 0 || off % 32 == 8)) || (pg == pSCOR && (off == 0x028 || off == 0x030))
/-- A read of a register with its latches: of a low word, of a high word latched before, of EST.CTXW0–7, of a held peak. -/
def State.readLatched (s : State) (o : Origin) (pg off : Nat) : Word × State :=
  let l := s.latchOf o.code
  if lowWord pg off then
    (s.readReg o pg off, s.updLatchOf o.code (fun l => { l with high := s.readReg o pg (off + 4), highOf := regAddr pg (off + 4) }))
  else if 4 ≤ off ∧ lowWord pg (off - 4) = true then
    if l.highOf = regAddr pg off then (l.high, s.updLatchOf o.code (fun l => { l with high := 0, highOf := 0 })) else (s.readReg o pg off, s)
  else if pg = pEST ∧ off = 0x800 then (s.readReg o pg off, s.updLatchOf o.code (fun l => { l with ctx := s.ctxWords.drop 1 }))
  else if pg = pEST ∧ inArr off 0x804 4 7 = true then
    (match l.ctx[(off - 0x804) / 4]? with | some w => w | none => s.readReg o pg off, s)
  else if pg = pBFC ∧ inArr off 0x800 16 16 = true ∧ off % 16 = 12 then
    let q := (off - 0x800) / 16
    let r := s.peakTake o q
    (telWord q r.1, r.2)
  else (s.readReg o pg off, s)

/-- One word of the host address space (Table 02.1): the status of Table 16.5, the word, the state with its latches. -/
def State.readWord (s : State) (o : Origin) (addr : Nat) : Nat × Word × State :=
  if addr % 4 ≠ 0 then (1, 0#32, s)
  else if addr < 0x80000 then
    let r := s.readLatched o (addr / 0x1000) (addr % 0x1000)
    (0, r.1, r.2)
  else if 0x10000000 ≤ addr ∧ addr < 0x10040000 then
    match s.hallRead o ((addr - 0x10000000) / 4) with
    | some w => (0, w, s)
    | none => (8, 0#32, s)
  else if 0x20000000 ≤ addr ∧ addr < 0x20080000 then
    (0, (s.rslot ((addr - 0x20000000) / 0x8000)).mem.readWord (addr % 0x8000), s)
  else (6, 0#32, s)

/-- Words of consecutive addresses, with the status of each. -/
def State.readWords (s : State) (o : Origin) : Nat → Nat → List (Nat × Word) × State
  | _, 0 => ([], s)
  | addr, n + 1 =>
    let r := s.readWord o addr
    let t := r.2.2.readWords o (addr + 4) n
    ((r.1, r.2.1) :: t.1, t.2)

end Sys2Proof.Machine
end

