-- ==== Sys2Proof/Machine/Serve.lean ====
section
/-! DEFINITION. Register writes: the checks of Table 01.2, LOCK and EVT (R56, R57, R60), what each register does, the command mailbox
(R21–R24) and the write paths of Table 02.5. -/
namespace Sys2Proof.Machine

/-! ### End of a Stairwell session (R468). Cause 0 command, 1 idle, 2 break, 3 restart -/

def State.stwEnd (s : State) (cause : Nat) : State :=
  let s := if s.stwLevel = .out then s else s.logN 0x0E13 [cause]
  let s := ((s.lockOwned .stairwell).hallCloseNow .stairwell).setSession .stairwell {}
  let s := if s.stw.halted then s.debugResume else s
  { s with stw := { s.stw with level := .out, baud := 115200, newBaud := none, trace := none, halted := false } }

/-! ### Checks (Table 01.2, steps 1 to 3) -/

def Fld.writable (f : Fld) : Bool := f.acc != .ro
def inRanges (l : List (Nat × Nat)) (v : Nat) : Bool := l.isEmpty || l.any (fun r => decide (r.1 ≤ v) && decide (v ≤ r.2))
/-- Values that a description states and that no range tells: multiples of 4 and of 8; OPEN with CLOSE (R410). -/
def alignedOk (pg off : Nat) (v : Word) : Bool :=
  if (pg = pCODE ∧ off = 0x020) ∨ (pg = pOTP ∧ off = 0x020) ∨ (pg = pDEV ∧ off = 0x048) then v.toNat % 4 == 0
  else if pg = pTIME ∧ off = 0x03C then v.toNat % 8 == 0
  else if pg = pHALL ∧ off = 0x008 then v.toNat % 4 != 3
  else true
/-- Step 1. -/
def formatOk (pg off : Nat) (v : Word) (fs : List Fld) : Bool :=
  fs.any Fld.writable && fs.all (fun f => !f.writable || inRanges f.ranges (field v f.hi f.lo)) && alignedOk pg off v
/-- The register needs the unlock (R46, R49). -/
def expertReg (off : Nat) (fs : List Fld) : Bool := (decide (0x100 ≤ off) && decide (off < 0x800)) || fs.any (fun f => f.acc == .rwx)

/-- Steps 1 to 3: none where the write passes them. -/
def State.writeCheck (s : State) (o : Origin) (pg off : Nat) (v : Word) : Option Refuse :=
  match regFlds pg off with
  | none => some .format
  | some fs =>
    if !formatOk pg off v fs then some .format
    else if expertReg off fs && !s.unlockedFor o pg then some .lock
    else if wordOutward pg off (s.genWord pg off) v then some .wall
    else none

/-! ### LOCK (R56, R57) and EVT (R60, R61) -/

def pageKey (pg : Nat) : Word := word (0x5AFE0000 + pg)
def State.lockWrite (s : State) (o : Origin) (pg : Nat) (v : Word) : Except Refuse State :=
  let w := (s.page pg).owner
  if w ≠ 0 ∧ w ≠ o.code then .error .lock
  else if v = 0#32 then .ok (s.lockPage pg)
  else if v = pageKey pg then .ok ({ s with dev := { s.dev with lockFail := false } }.updPage pg (fun p => { p with owner := o.code }))
  else .ok (({ s with dev := { s.dev with lockFail := true } }.lockPage pg).raise pDEV 1)

/-- UNLOCK and LOCK: a LOCK write as it is handled; it does not count in CFGSEQ (R58). -/
def State.lockServed (s : State) (o : Origin) (pg : Nat) (v : Word) : State :=
  if !pagePresent pg then s.answer o 6 []
  else if pageClass pg = .mgmt ∧ s.mgmt.restarting = true then s.refuse o pg 0x018 .mode
  else
    match s.lockWrite o pg v with
    | .ok t => if pageClass pg = .mgmt then t.answer o 0 [] else t
    | .error e => s.refuse o pg 0x018 e
def execUnlock (o : Origin) (page : BitVec 7) (key : Word) (s : State) : Host.Outcome State Fault Refusal :=
  .next (s.lockServed o page.toNat key)
def execLock (o : Origin) (page : BitVec 7) (s : State) : Host.Outcome State Fault Refusal := .next (s.lockServed o page.toNat 0#32)

/-- Pages whose writes take effect at the sample instant (Table 02.5). -/
def shadowPage (pg : Nat) : Bool := pageClass pg == .data || pageClass pg == .timeBase
/-- A W1C write to EVT: at once, or at the sample instant; it does not count in CFGSEQ. -/
def State.evtServed (s : State) (o : Origin) (pg : Nat) (m : Word) : State :=
  if !pagePresent pg then s.answer o 6 []
  else if shadowPage pg then s.toShadow o pg 0x010 m
  else if pageClass pg = .mgmt then
    (if s.mgmt.restarting then s.refuse o pg 0x010 .mode else (s.evtClear pg m).answer o 0 [])
  else s.evtClear pg m
def execEvtClear (o : Origin) (page : BitVec 7) (mask : Word) (s : State) : Host.Outcome State Fault Refusal :=
  .next (s.evtServed o page.toNat mask)

/-! ### What a write does -/

/-- Outcome of steps 4 and 5 and the effect: accepted; done with its own report; refused, with the state left. -/
inductive Effect where
  | ok (s : State)
  | done (s : State)
  | refused (r : Refuse) (s : State)

def State.took (s : State) (r : Except Refuse State) : Effect :=
  match r with
  | .ok t => .ok t
  | .error e => .refused e s
/-- Several bits of one CTRL register: each set bit acts in turn; one refusal refuses the write. -/
def State.bits (s : State) (l : List (Bool × (State → Except Refuse State))) : Effect :=
  s.took (l.foldl (fun r b => match r with | .ok t => (if b.1 then b.2 t else .ok t) | .error e => .error e) (.ok s))

/-- Effect of a write to a control-plane page. Echoes missing at a dormant entry asked for by a register write: a free set. -/
def State.effControl (s : State) (o : Origin) (pg off : Nat) (v : Word) : Effect :=
  let b := fun n => v.getLsbD n
  if pg = pMODE ∧ off = 0x008 then
    (if field v 2 0 = 1 then
      let (w0, t) := s.freeWord
      let (w1, t) := t.freeWord
      .done (t.askDormant o (t.portsUsed.filter (fun p => if p < 32 then w0.getLsbD p else w1.getLsbD (p - 32))))
    else if field v 2 0 = 2 then .done (s.askCommission o)
    else .done (s.siteReady o))
  else if pg = pMODE ∧ off = 0x024 then
    (if b 31 then .done (s.rrGo o (BitVec.ofNat 5 (field v 4 0)) 1)
    else .ok { s with mode := { s.mode with rrCauses := BitVec.ofNat 5 (field v 4 0) } })
  else if pg = pMODE ∧ off = 0x028 then .ok { s with mode := { s.mode with rrEpoch := v } }
  else if pg = pMODE ∧ off = 0x02C then .ok { s with mode := { s.mode with rrMac0 := v } }
  else if pg = pMODE ∧ off = 0x030 then .ok { s with mode := { s.mode with rrMac1 := v } }
  else if pg = pPROT ∧ off = 0x008 then s.bits [(b 0, fun t => t.protClear)]
  else if pg = pACT ∧ off = 0x008 then
    s.bits [(true, fun t => .ok (t.storeReg pg off v)), (b 0, fun t => t.weldClear (field v 13 8))]
  else if pg = pJOIN ∧ off = 0x008 then
    (if b 0 && b 1 then .refused .mode s
    else if b 0 then .done (s.joinStart o)
    else s.bits [(b 1, fun t => t.joinAbortReq)])
  else if pg = pJOIN ∧ (off = 0x028 ∨ off = 0x02C) then
    let t := s.storeReg pg off v
    .ok (foldS t.strings (fun t x => if (t.str x).st = .opened ∨ (t.str x).st = .armed then t.settle x else t) t)
  else if pg = pJOIN ∧ (off = 0x030 ∨ off = 0x034) then s.took (s.joinOpen (off == 0x034) v)
  else if pg = pBFC ∧ off = 0x024 then s.took (s.bfcClear o v)
  else if pg = pBAN ∧ off = 0x008 then s.bits [(b 0, fun t => t.walkStart)]
  else if pg = pBAN ∧ off = 0x034 then s.took (s.thSelect v)
  else if pg = pSCOR ∧ off = 0x008 then s.bits [(b 0, fun t => t.coreSplit o), (b 1, fun t => t.coreRejoin)]
  else if pg = pPAIR ∧ off = 0x008 then s.bits [(b 0, fun t => t.swapDrill), (b 1, fun t => t.restartReq)]
  else .ok (s.storeReg pg off v)

/-- Effect of a write to a page of a CAN controller (R385–R388, R402). Whether the line has been recessive for 100 ms, where a register
write re-arms the wake: a free choice. -/
def State.effCan (s : State) (o : Origin) (pg off : Nat) (v : Word) : Effect :=
  let x := pg - pCAN
  let own := match o with | .host => 4 | .mgmt => 3 | .stairwell => 9
  if (off = 0x020 ∨ off = 0x024) ∧ (s.can x).mode ≠ .off then .refused .mode s
  else if off = 0x008 then
    let old := s.reg pg off
    if v.getLsbD 3 != old.getLsbD 3 && (s.can x).mode != .off then .refused .mode s
    else
      let (fr, t) := if v.getLsbD 6 then s.freeBool else (true, s)
      s.took (do
        let t ← if v.getLsbD 6 then t.wakeRearm x (if fr then 100 else 0) else .ok t
        let t := t.storeReg pg off v
        .ok (if field v 1 0 = field old 1 0 then t else t.updCan x (fun c => { c with mode := canModeOf (field v 1 0), lastErr := if field v 1 0 = 1 then 0 else c.lastErr })))
  else if off = 0x030 then
    (if field v 7 6 = 1 then s.took (s.txQueue o x (field v 5 0)) else s.took (s.txWithdraw o x (field v 5 0)))
  else if 0x800 ≤ off ∧ off < 0x858 then
    let b := s.fld pg 0x02C 5 0
    if s.bufOwner x b ≠ own then .refused .format s
    else
      .ok (s.updBuf (64 * x + b) (fun t =>
        if t.st = .sending then { t with rewrite := some ((t.rewrite.getD t.words).set ((off - 0x800) / 4) v) }
        else { t with words := t.words.set ((off - 0x800) / 4) v }))
  else .ok (s.storeReg pg off v)

/-- Effect of a direct write to a management page (R53). -/
def State.effMgmt (s : State) (o : Origin) (pg off : Nat) (v : Word) : Effect :=
  let b := fun n => v.getLsbD n
  if pg = pDEV ∧ off = 0x040 then s.bits [(b 0, fun t => t.fwOpen), (b 1, fun t => t.fwVerify), (b 2, fun t => t.fwPrefer)]
  else if pg = pDEV ∧ off = 0x04C then s.took (s.fwData v)
  else if pg = pLAND ∧ (off = 0x020 ∨ off = 0x024) then
    let high := off == 0x024
    let quiet := bitsOf (fun i => match slook s.land.patternAt (i + if high then 32 else 0) with
      | some t => decide (t + msNs 100 ≤ s.now) | none => true) 32
    s.took (s.wmaskRearm high v (word quiet))
  else if pg = pHOST ∧ off = 0x008 then
    .ok { s with host := if b 0 then { s.host with fifo := [] } else s.host, dev := { s.dev with wakeOut := s.dev.wakeOut && !b 1 } }
  else if pg = pHOST ∧ off = 0x024 then s.took (s.rsubmit v)
  else if pg = pGAL ∧ off = 0x008 then s.bits [(b 0, fun t => t.galClear o)]
  else if pg = pGAL ∧ off = 0x034 then .ok (s.setSession o { (s.session o) with target := v })
  else if pg = pGAL ∧ off = 0x030 then
    let t := (s.session o).target
    let op := field v 2 0
    s.took (if op = 1 then s.galOpen o else if op = 2 then s.galFirst o else if op = 3 then s.galNext o else if op = 4 then s.galSeek o t
           else if op = 5 then s.galToNewest o else if op = 6 then s.galClose o else if op = 7 then s.galClearlog o t else .error .format)
  else if pg = pSTW ∧ off = 0x008 then .ok (if b 0 then s.stwEnd 0 else s)
  else if pg = pOTP ∧ off = 0x008 then
    let clr := fun (t : State) => if b 2 || b 5 then t.pwClear else t
    match s.bits [(b 0, fun t => t.stageClr), (b 1, fun t => t.otpVerify), (b 2, fun t => (t.commit o).1), (b 3, fun t => t.otpSwitch),
                  (b 4, fun t => t.abandon), (b 5, fun t => t.keysetWr.1)] with
    | .ok t => .ok (clr t)
    | .done t => .done (clr t)
    | .refused r t => .refused r (clr t)
  else if pg = pOTP ∧ off = 0x024 then s.took (s.stgData o v)
  else if pg = pOTP ∧ 0x040 ≤ off ∧ off < 0x060 then .ok { s with otp := { s.otp with pw := sset 0#32 s.otp.pw ((off - 0x040) / 4) v } }
  else if pg = pOTP ∧ 0x100 ≤ off ∧ off < 0x160 then .ok { s with otp := { s.otp with keyw := sset 0#32 s.otp.keyw ((off - 0x100) / 4) v } }
  else if pg = pAUTH ∧ off = 0x008 then s.bits [(b 0, fun t => if t.active then .ok t.authRound else .error .mode)]
  else if pg = pCODE ∧ off = 0x008 then s.bits [(b 1, fun t => t.codeAbort), (b 0, fun t => t.codeLoad o)]
  else if pg = pCODE ∧ off = 0x024 then s.took (s.codeData v)
  else .ok (s.storeReg pg off v)

/-- Mode check of a data-plane or time-base write (R129, R410, R420 and PSEQg.CTRL.REENUM); the write then waits for the sample instant. -/
def State.effShadow (s : State) (o : Origin) (pg off : Nat) (v : Word) : Effect :=
  let ok := s.toShadow o pg off v
  let mode := fun (c : Bool) => if c then Effect.ok ok else .refused .mode s
  if pg = pHALL ∧ off = 0x008 then mode (!v.getLsbD 0 || !s.pinOther o)
  else if pg = pFLOW ∧ 0x800 ≤ off ∧ off < 0x810 then
    -- the descriptor as it will be once the writes that wait have taken effect
    let t := foldS (s.shadow.filter (fun w => w.page == pFLOW)) (fun t w => t.shadowEffect w) s
    if descOk { (t.flow (t.fld pFLOW 0x020 8 0)) with desc := (t.flow (t.fld pFLOW 0x020 8 0)).desc.set ((off - 0x800) / 4) v } then .ok ok
    else .refused .format s
  else if pPSEQ ≤ pg ∧ pg < pCELL ∧ off = 0x008 then
    mode ((List.range 4).all (fun k => !v.getLsbD (16 + k) || s.strOpen (s.strOfPort (4 * (pg - pPSEQ) + k))))
  else if pg = pCELL ∧ (off = 0x020 ∨ off = 0x024) then mode ((maskPorts (off == 0x024) v).all s.wbClearable)
  else .ok ok

def State.effect (s : State) (o : Origin) (pg off : Nat) (v : Word) : Effect :=
  if off = 0x014 ∧ shadowPage pg = false then .ok (s.updPage pg (fun p => { p with evten := v }))
  else if shadowPage pg then s.effShadow o pg off v
  else if pageClass pg = .control then s.effControl o pg off v
  else if pageClass pg = .can then s.effCan o pg off v
  else s.effMgmt o pg off v

/-! ### Mailbox service (R22, R23) -/

/-- A mailbox entry as it is served: checked, then accepted or refused. -/
def State.serveWrite (s : State) (o : Origin) (pg off : Nat) (v : Word) : State :=
  if off = 0x018 then s.lockServed o pg v
  else
    match s.writeCheck o pg off v with
    | some r => s.refuse o pg off r
    | none =>
      if off = 0x010 then s.evtServed o pg v
      else
        match s.effect o pg off v with
        | .ok t => if shadowPage pg then t else t.bumpCfg pg
        | .done t => t
        | .refused r t => t.refuse o pg off r

/-- The oldest entry of the mailbox; during a self-test of the cores entries wait (R349). -/
def execMailboxServe (s : State) : Host.Outcome State Fault Refusal :=
  match s.mbx with
  | [] => .next s
  | e :: t => if s.scor.st = .selftest then .next s else .next ({ s with mbx := t }.serveWrite e.origin e.page e.offset e.value)

/-! ### Writes as they arrive (Table 02.5) -/

/-- A direct write: the status it completes with. -/
def State.directWrite (s : State) (o : Origin) (pg off : Nat) (v : Word) : Nat × State :=
  let no := fun (r : Refuse) (t : State) => (r.code, t.raise pg 31)
  if s.mgmt.restarting then no .mode s
  else if off = 0x018 then
    match s.lockWrite o pg v with
    | .ok t => (0, t)
    | .error r => no r s
  else
    match s.writeCheck o pg off v with
    | some r => no r s
    | none =>
      if off = 0x010 then (0, s.evtClear pg v)
      else
        match s.effect o pg off v with
        | .ok t => (0, t.bumpCfg pg)
        | .done t => (0, t)
        | .refused r t => no r t

/-- One word written to the host address space: its status and the state. A host entry finds a full mailbox; the Stairwell and the
firmware wait for space (R24). -/
def State.writeWord (s : State) (o : Origin) (addr : Nat) (v : Word) : Nat × State :=
  if addr % 4 ≠ 0 then (1, s)
  else if addr < 0x80000 then
    let pg := addr / 0x1000
    let off := addr % 0x1000
    if (regFlds pg off).isNone then (6, s)
    else if pageClass pg = .mgmt then s.directWrite o pg off v
    else if o = .host ∧ Config.mailboxMax ≤ s.mbx.length then (7, s)
    else (0x0A, { s with mbx := s.mbx ++ [{ origin := o, page := pg, offset := off, value := v, level := s.levelOf o }] })
  else if 0x10000000 ≤ addr ∧ addr < 0x10040000 then (1, s)
  else if 0x20000000 ≤ addr ∧ addr < 0x20080000 then
    match s.restoreWrite addr v with
    | .ok t => (0, t)
    | .error r => (r.code, s)
  else (6, s)

/-- A write to any register, served at once. -/
def execRegisterWrite (o : Origin) (addr v : Word) (s : State) : Host.Outcome State Fault Refusal :=
  let a := addr.toNat
  if a < 0x80000 ∧ a % 4 = 0 ∧ (regFlds (a / 0x1000) (a % 0x1000)).isSome = true ∧ pageClass (a / 0x1000) ≠ .mgmt then
    .next (s.serveWrite o (a / 0x1000) (a % 0x1000) v)
  else
    let r := s.writeWord o a v
    .next (r.2.answer o r.1 [])

end Sys2Proof.Machine
end

