-- ==== Sys2Proof/Machine/HostPort.lean ====
section
/-! DEFINITION. Transactions of the host port (R412–R418) and the latching reads (R55). -/
namespace Sys2Proof.Machine

def laneCode : Lanes → Nat
  | .one => 0
  | .two => 1
  | .four => 2
/-- Command, address and LEN as HCRC covers them (Table 16.4). -/
def headBytes (op : Nat) (lanes : Lanes) (addr : Word) (len : Half) : List Byte :=
  BitVec.ofNat 8 (at_ 4 op + laneCode lanes) :: (beBytes 4 addr.toNat ++ beBytes 2 len.toNat)
/-- LEN: 1 to 1,024 words. -/
def lenOk (n : Nat) : Bool := decide (1 ≤ n) && decide (n ≤ 1024)
/-- STATUS 0x09 with COUNT 0 after n zeros (R413). -/
def State.crcError (s : State) (n : Nat) : State := (s.emit (.host 9 0 (List.replicate n 0#32))).raise pHOST 4

/-- First status other than OK, and the words before it. -/
def firstBad : List (Nat × Word) → Nat → Nat × Nat
  | [], k => (0, k)
  | (st, _) :: t, k => if st = 0 then firstBad t (k + 1) else (st, k)

def execRead (lanes : Lanes) (addr : Word) (len hcrc : Half) (s : State) : Host.Outcome State Fault Refusal :=
  if crc16 (headBytes 1 lanes addr len) ≠ hcrc then .next (s.crcError len.toNat)
  else if !lenOk len.toNat then .next (s.emit (.host 1 0 []))
  else
    let r := s.readWords .host addr.toNat len.toNat
    let b := firstBad r.1 0
    .next (r.2.emit (.host b.1 b.2 (r.1.map (·.2))))

/-- Words written in order; the first with a status other than 0x00 and 0x0A ends the transaction. Answers STATUS and COUNT. -/
def State.writeWords (s : State) (o : Origin) : Nat → List Word → Nat → Bool → (Nat × Nat) × State
  | _, [], k, q => ((if q then 0x0A else 0, k), s)
  | addr, v :: t, k, q =>
    let r := s.writeWord o addr v
    if r.1 = 0 ∨ r.1 = 0x0A then r.2.writeWords o (addr + 4) t (k + 1) (q || r.1 == 0x0A) else ((r.1, k), r.2)

/-- A WRITE executes only after its DCRC has been checked; HOST_CS_N rising before the end of DCRC leaves everything unchanged. -/
def execWrite (lanes : Lanes) (addr : Word) (words : List Word) (hcrc dcrc : Half) (csEarly : Bool) (s : State) :
    Host.Outcome State Fault Refusal :=
  if csEarly then .next s
  else if crc16 (headBytes 2 lanes addr (BitVec.ofNat 16 words.length)) ≠ hcrc ∨ crc16 (bytesOf words) ≠ dcrc then .next (s.crcError 0)
  else if !lenOk words.length then .next (s.emit (.host 1 0 []))
  else
    let r := s.writeWords .host addr.toNat words 0 false
    .next (r.2.emit (.host r.1.1 r.1.2 []))

/-- Words of the host FIFO in order, 0 where it has none left. -/
def execFifoRead (lanes : Lanes) (addr : Word) (len hcrc : Half) (s : State) : Host.Outcome State Fault Refusal :=
  let n := len.toNat
  if crc16 (headBytes 3 lanes addr len) ≠ hcrc then .next (s.crcError n)
  else if !lenOk n then .next (s.emit (.host 1 0 []))
  else
    let ws := s.host.fifo.take n
    .next ({ s with host := { s.host with fifo := s.host.fifo.drop n } }.emit
      (.host 0 ws.length (ws ++ List.replicate (n - ws.length) 0#32)))

/-- A malformed command byte (R414). -/
def cmdBad (c : Byte) : Bool :=
  let n := c.toNat
  decide (n / 16 < 1) || decide (3 < n / 16) || decide (n / 4 % 4 ≠ 0) || decide (n % 4 = 3)
def execHostCmdError (cmd : Byte) (s : State) : Host.Outcome State Fault Refusal :=
  if cmdBad cmd then .next (s.raise pHOST 5) else .next s

def State.fifoFlush (s : State) : State := { s with host := { s.host with fifo := [] } }
def execFifoFlush (o : Origin) (s : State) : Host.Outcome State Fault Refusal := .next (s.served o pHOST 0x008 (.ok s.fifoFlush))
def State.wakeClr (s : State) : State := { s with dev := { s.dev with wakeOut := false } }
def execWakeClr (o : Origin) (s : State) : Host.Outcome State Fault Refusal := .next (s.served o pHOST 0x008 (.ok s.wakeClr))

/-! ### Latching reads -/

def State.readOne (s : State) (o : Origin) (addr : Nat) : State :=
  let r := s.readWord o addr
  r.2.2.answer o r.1 [r.2.1]
def execLowWordRead (o : Origin) (addr : Word) (s : State) : Host.Outcome State Fault Refusal := .next (s.readOne o addr.toNat)
def execCtxWord0Read (o : Origin) (s : State) : Host.Outcome State Fault Refusal := .next (s.readOne o (regAddr pEST 0x800))

end Sys2Proof.Machine
end

