-- ==== Sys2Proof/Machine/Stairwell.lean ====
section
/-! DEFINITION. The Stairwell monitor and the management plane's own events (R466–R471). A command line is one command (log 6): its text
is not modelled, its answer is the words printed and the last line. -/
namespace Sys2Proof.Machine

/-! ### Levels -/

/-- The last line of an answer. -/
def State.say (s : State) (status : Nat) : State := s.emit (.text (stwLine status))
def State.sayWords (s : State) (ws : List Word) : State := (s.emit (.textWords ws)).emit (.text "OK")
def State.stwAt (s : State) (l : Level) : Bool := decide (l.code ≤ s.stwLevel.code)
/-- A command that needs a level: ERR REFUSED_AUTH below it. -/
def State.stwCmd (s : State) (l : Level) (f : State → State) : State :=
  let s := { s with stw := { s.stw with lastCmd := s.now } }
  if s.stwAt l then f s else s.say 5

/-! ### Session (R467, R468) -/

def execStwHelp (s : State) : Host.Outcome State Fault Refusal := .next (s.stwCmd .out (fun s => s.say 0))

/-- Salt and result for a level. -/
def State.loginEntry (s : State) (l : Level) : Option (List Byte × List Byte) :=
  match l with
  | .view => s.gen.view
  | .service => s.gen.service
  | .factory => s.otp.factory
  | .out => none
/-- login: a level without an entry has no password that matches, but view where the generation holds none. A level that may no longer
read closes the Gallery session (R464). -/
def State.login (s : State) (l : Level) (pw : List Byte) : State :=
  if s.stw.hold.isSome then s.say 5
  else if decide (pw.length ≤ 32) && (pwMatch (s.loginEntry l) pw || (l == .view && s.gen.view.isNone)) then
    ((((({ s with stw := { s.stw with level := l, fails := 0 } }).lapseSession .stairwell (decide (2 ≤ l.code))).logN 0x0E10 [l.code]).raise pSTW 0)).say 0
  else
    let n := s.stw.fails + 1
    let s := { s with stw := { s.stw with fails := if n = 3 then 0 else n, hold := if n = 3 then some (s.now + sNs 60) else none } }
    ((s.logN 0x0E11 [l.code, n]).raise pSTW 1).say 5
def execStwLogin (level : Level) (password : List Byte) (s : State) : Host.Outcome State Fault Refusal :=
  .next (s.stwCmd .out (fun s => s.login level password))

def execLoginHoldEnd (s : State) : Host.Outcome State Fault Refusal :=
  match s.stw.hold with
  | some t => .next { s.reach t with stw := { s.stw with hold := none } }
  | none => .next s

def execStwLogout (s : State) : Host.Outcome State Fault Refusal := .next (s.stwCmd .out (fun s => (s.stwEnd 0).say 0))
/-- 15 minutes without a command. -/
def execStwIdleTimeout (s : State) : Host.Outcome State Fault Refusal := .next ((s.reach (s.stw.lastCmd + sNs 900)).stwEnd 1)
def execStwBreak (s : State) : Host.Outcome State Fault Refusal := .next (s.stwEnd 2)
def execKick (o : Origin) (s : State) : Host.Outcome State Fault Refusal := .next (s.served o pSTW 0x008 (.ok (s.stwEnd 0)))

def baudRates : List Nat := [115200, 230400, 460800, 921600, 1500000, 3000000]
/-- baud r: OK at the old rate; the new rate from 10 ms later. -/
def execBaud (r : Nat) (s : State) : Host.Outcome State Fault Refusal :=
  .next (s.stwCmd .view (fun s =>
    if baudRates.contains r then { s with stw := { s.stw with newBaud := some (r, s.now + msNs 10) } }.say 0 else s.say 1))
def execBaudSwitch (s : State) : Host.Outcome State Fault Refusal :=
  match s.stw.newBaud with
  | some (r, t) => .next { s.reach t with stw := { s.stw with baud := r, newBaud := none } }
  | none => .next s

/-! ### Reading and writing (R469) -/

/-- peek a n: as a host READ, n of 1 to 256. -/
def execPeek (addr : Word) (n : Nat) (s : State) : Host.Outcome State Fault Refusal :=
  .next (s.stwCmd .view (fun s =>
    if n = 0 ∨ 256 < n then s.say 1
    else
      let r := s.readWords .stairwell addr.toNat n
      (r.2.emit (.textWords (r.1.map (·.2)))).say (firstBad r.1 0).1))

/-- hall: pins the newest bank, dumps n words from byte offset `off` (n = 0: the header and the status vector) and closes the pin. A pin
of another origin in force refuses it. -/
def execStwHall (off : Word) (n : Nat) (s : State) : Host.Outcome State Fault Refusal :=
  .next (s.stwCmd .view (fun s =>
    if s.pinOther .stairwell then s.say 4
    else if off.toNat % 4 ≠ 0 ∨ 0x40000 < off.toNat + 4 * n then s.say 1
    else
      let w := if n = 0 then (List.range 128) else (List.range n).map (fun i => off.toNat / 4 + i)
      let s := s.hallOpenNow .stairwell
      let ws := w.map (fun i => (s.hallRead .stairwell i).getD 0#32)
      (s.hallCloseNow .stairwell).sayWords ws))

/-- The STW_WRITE record of a write or of one refused for its level. -/
def State.stwWrite (s : State) (addr v : Word) (status : Nat) : State := (s.log 0x0E12 [addr, v, word status]).say status
/-- poke a v. -/
def execPoke (addr v : Word) (s : State) : Host.Outcome State Fault Refusal :=
  let s := { s with stw := { s.stw with lastCmd := s.now } }
  if s.stwAt .service then
    let r := s.writeWord .stairwell addr.toNat v
    .next (r.2.stwWrite addr v r.1)
  else .next (s.stwWrite addr v 5)

/-- trace p n: the next n frames of the port, in both directions, are shown as they pass. -/
def execTrace (p : Port) (n : Nat) (tones : Bool) (s : State) : Host.Outcome State Fault Refusal :=
  .next (s.stwCmd .service (fun s =>
    if n = 0 ∨ 512 < n then s.say 1 else { s with stw := { s.stw with trace := some (p.val, n, tones) } }.say 0))

/-! ### Main-core debug (R354) -/

/-- Factory level, or service level in COMMISSION or READY with every contactor open. -/
def State.debugMay (s : State) : Bool :=
  s.stwAt .factory || (s.stwAt .service && (s.md == .commission || s.md == .ready) && s.allOpen)
def State.debugCmd (s : State) (f : State → State) : State :=
  let s := { s with stw := { s.stw with lastCmd := s.now } }
  if s.debugMay then f s else s.say 5
/-- The same on a halted core; REFUSED_MODE on one that runs. -/
def State.haltedCmd (s : State) (f : State → State) : State := s.debugCmd (fun s => if s.scor.st = .halted then f s else s.say 4)

def execCoreHalt (s : State) : Host.Outcome State Fault Refusal :=
  .next (s.debugCmd (fun s => if s.scor.st = .dual then s.debugHalt.say 0 else s.say 4))
def execCoreStep (n : Nat) (s : State) : Host.Outcome State Fault Refusal :=
  .next (s.haltedCmd (fun s => ({ s with scor := { s.scor with steps := s.scor.steps + n } }.debugAction).say 0))

/-- n free words: what the cores' program has left is not given. -/
def State.freeWords (s : State) : Nat → List Word × State
  | 0 => ([], s)
  | n + 1 =>
    let r := s.freeWord
    let t := r.2.freeWords n
    (r.1 :: t.1, t.2)
/-- The registers of the main core: their number and values are not given. -/
def execCoreRegs (s : State) : Host.Outcome State Fault Refusal :=
  .next (s.haltedCmd (fun s =>
    let k := s.freeWord
    let r := k.2.freeWords (k.1.toNat % 64)
    r.2.sayWords r.1))
/-- Memory of the main core: a word written by debug since the halt, else free. -/
def execCoreMem (addr : Word) (n : Nat) (s : State) : Host.Outcome State Fault Refusal :=
  .next (s.haltedCmd (fun s =>
    if n = 0 ∨ 256 < n then s.say 1
    else
      let r := s.freeWords n
      r.2.sayWords ((r.1.zip (List.range n)).map (fun e =>
        match slook s.scor.mem (addr.toNat + 4 * e.2) with | some w => w | none => e.1))))
/-- A memory write, applied to both cores at the same position. -/
def execCoreWrite (addr v : Word) (s : State) : Host.Outcome State Fault Refusal :=
  .next (s.haltedCmd (fun s => ({ s with scor := { s.scor with mem := sput s.scor.mem addr.toNat v } }.debugAction).say 0))
def execCoreResume (s : State) : Host.Outcome State Fault Refusal :=
  .next (s.haltedCmd (fun s => { s.debugResume with scor := { s.debugResume.scor with mem := [], steps := 0 } }.say 0))

/-! ### otp stage (R475) -/

/-- The image goes to the staging buffer, as STAGE_CLR and STG_DATA writes would. -/
def State.otpStage (s : State) (image : List Byte) : Except Refuse State :=
  match s.stageClr with
  | .error e => .error e
  | .ok t =>
    if 32768 < image.length then .error .format
    else .ok { t with otp := { t.otp with stage := .loading, origin := .stairwell, buf := t.otp.buf.write 0 image } }
def execOtpStage (image : List Byte) (s : State) : Host.Outcome State Fault Refusal :=
  .next (s.stwCmd .service (fun s => s.served .stairwell pOTP 0x024 (s.otpStage image)))

/-! ### Management processor (R470, R471) -/

def shedEnter (k : Nat) : Nat := [85, 90, 95].getD k 101
def shedLeave (k : Nat) : Nat := [75, 80, 85].getD k 0
/-- Stage at a load: stages are entered in order and left in order. -/
def shedNext (st load : Nat) : Nat :=
  let up := (List.range 3).foldl (fun a k => if shedEnter k ≤ load then k + 1 else a) 0
  if st < up then up
  else if st = 0 then 0
  else (List.range st).foldl (fun a k => if load ≤ shedLeave k ∧ k < a then k else a) st
/-- The load of 100 ms. Every stage entered is recorded. -/
def execShed (loadPct : Nat) (s : State) : Host.Outcome State Fault Refusal :=
  let was := s.mgmt.shed
  let n := shedNext was loadPct
  let s := { s with mgmt := { s.mgmt with shed := n } }
  .next (foldS ((List.range n).filter (fun k => decide (was ≤ k))) (fun s k => (s.logN 0x0E21 [k + 1, loadPct]).raise pSTW 3) s)

/-- What a restart of the management plane discards of the staging (R477) and of a firmware region being written. -/
def State.stageLost (s : State) : State :=
  let s := { s with otp := { s.otp with stage := .empty, reason := 0, buf := [], pw := [], keyw := [] } }
  { s with code := { s.code with buf := [] },
           fw := if s.fw.state = .erasing ∨ s.fw.state = .writing then { s.fw with state := .empty, opened := false } else s.fw }
/-- A missed watchdog: the management plane restarts alone. -/
def execMgmtWatchdogMiss (s : State) : Host.Outcome State Fault Refusal :=
  if s.mgmt.restarting then .next s
  else
    let s := s.logN 0x0E20 [0, s.mgmt.shed]
    let s := ((s.stwEnd 3).lockOwned .stairwell).lockOwned .mgmt
    .next { s.stageLost with mgmt := { s.stageLost.mgmt with restarting := true, shed := 0 } }

/-- The restart is over: frames that waited in FIFO 1 go to the host FIFO. -/
def execMgmtRestartDone (s : State) : Host.Outcome State Fault Refusal :=
  if s.mgmt.restarting then
    .next (foldS (List.range 4) (fun s x => s.drainFifo1 x) { s with mgmt := { s.mgmt with restarting := false } })
  else .next s

end Sys2Proof.Machine
end

