-- ==== Sys2Proof/Machine/Dispatch.lean ====
section
/-! DEFINITION. One arm per command: its meaning. -/
namespace Sys2Proof.Machine

def exec (i : Instr) (s : State) : Host.Outcome State Fault Refusal :=
  match i with
  | .powerOn => Sys2Proof.Machine.execPowerOn s
  | .vinUndervoltage => Sys2Proof.Machine.execVinUndervoltage s
  | .resetN lowNs => Sys2Proof.Machine.execResetN lowNs s
  | .startupSupplySettled => Sys2Proof.Machine.execStartupSupplySettled s
  | .startupStrapsRead pairRoleHigh bootSelHigh => Sys2Proof.Machine.execStartupStrapsRead pairRoleHigh bootSelHigh s
  | .firmwareImageChecked => Sys2Proof.Machine.execFirmwareImageChecked s
  | .generationSelected => Sys2Proof.Machine.execGenerationSelected s
  | .startupSelftestPassed bistOk failedPattern walkFail => Sys2Proof.Machine.execStartupSelftestPassed bistOk failedPattern walkFail s
  | .roleWaitTimeout => Sys2Proof.Machine.execRoleWaitTimeout s
  | .portsStarted => Sys2Proof.Machine.execPortsStarted s
  | .modulesAuthenticated => Sys2Proof.Machine.execModulesAuthenticated s
  | .restoreWaitEnd => Sys2Proof.Machine.execRestoreWaitEnd s
  | .sampleInstant cur => Sys2Proof.Machine.execSampleInstant cur s
  | .sampleLaunch p => Sys2Proof.Machine.execSampleLaunch p s
  | .epochComputation => Sys2Proof.Machine.execEpochComputation s
  | .dataTrigger => Sys2Proof.Machine.execDataTrigger s
  | .epochCommit busyUs lateUs => Sys2Proof.Machine.execEpochCommit busyUs lateUs s
  | .dataStall => Sys2Proof.Machine.execDataStall s
  | .dataStallOpenAll => Sys2Proof.Machine.execDataStallOpenAll s
  | .grading => Sys2Proof.Machine.execGrading s
  | .protFrameRepeat => Sys2Proof.Machine.execProtFrameRepeat s
  | .disconnectDeadline x v => Sys2Proof.Machine.execDisconnectDeadline x v s
  | .breakSafeOpen x i1 i2 => Sys2Proof.Machine.execBreakSafeOpen x i1 i2 s
  | .brkWaitOpen x v => Sys2Proof.Machine.execBrkWaitOpen x v s
  | .insulationStatus f => Sys2Proof.Machine.execInsulationStatus f s
  | .insTimeout => Sys2Proof.Machine.execInsTimeout s
  | .restReq x => Sys2Proof.Machine.execRestReq x s
  | .capDrift => Sys2Proof.Machine.execCapDrift s
  | .hopcalPeriodic p => Sys2Proof.Machine.execHopcalPeriodic p s
  | .hopcalDone p rtts => Sys2Proof.Machine.execHopcalDone p rtts s
  | .wrlearnPeriodic => Sys2Proof.Machine.execWrlearnPeriodic s
  | .chainFrame p f => Sys2Proof.Machine.execChainFrame p f s
  | .tone p f => Sys2Proof.Machine.execTone p f s
  | .staleTerm p f => Sys2Proof.Machine.execStaleTerm p f s
  | .responseTimeout p seq => Sys2Proof.Machine.execResponseTimeout p seq s
  | .chainSilent p => Sys2Proof.Machine.execChainSilent p s
  | .recoveryProbe p => Sys2Proof.Machine.execRecoveryProbe p s
  | .reenumeration p => Sys2Proof.Machine.execReenumeration p s
  | .wakeTone p => Sys2Proof.Machine.execWakeTone p s
  | .wakePatternMask p durationMs => Sys2Proof.Machine.execWakePatternMask p durationMs s
  | .modStatusFrame src bytes => Sys2Proof.Machine.execModStatusFrame src bytes s
  | .tempStale c => Sys2Proof.Machine.execTempStale c s
  | .streamLost c bit => Sys2Proof.Machine.execStreamLost c bit s
  | .streamRecovered c => Sys2Proof.Machine.execStreamRecovered c s
  | .ocTrip c outputs => Sys2Proof.Machine.execOcTrip c outputs s
  | .ocClear c outputs => Sys2Proof.Machine.execOcClear c outputs s
  | .brkHoldClear c outputs => Sys2Proof.Machine.execBrkHoldClear c outputs s
  | .clkTaken n stretchNs ones byPartner => Sys2Proof.Machine.execClkTaken n stretchNs ones byPartner s
  | .offsetWindowStart x => Sys2Proof.Machine.execOffsetWindowStart x s
  | .offsetLearned x => Sys2Proof.Machine.execOffsetLearned x s
  | .engineTimer e => Sys2Proof.Machine.execEngineTimer e s
  | .txdone p buf => Sys2Proof.Machine.execTxdone p buf s
  | .waitTimeout e => Sys2Proof.Machine.execWaitTimeout e s
  | .budgetOut e => Sys2Proof.Machine.execBudgetOut e s
  | .mov e d op => Sys2Proof.Machine.execMov e d op s
  | .add e d op => Sys2Proof.Machine.execAdd e d op s
  | .sub e d op => Sys2Proof.Machine.execSub e d op s
  | .mul e d op => Sys2Proof.Machine.execMul e d op s
  | .mulq e d op => Sys2Proof.Machine.execMulq e d op s
  | .div e d op => Sys2Proof.Machine.execDiv e d op s
  | .and e d op => Sys2Proof.Machine.execAnd e d op s
  | .or e d op => Sys2Proof.Machine.execOr e d op s
  | .xor e d op => Sys2Proof.Machine.execXor e d op s
  | .shl e d op => Sys2Proof.Machine.execShl e d op s
  | .shr e d op => Sys2Proof.Machine.execShr e d op s
  | .sra e d op => Sys2Proof.Machine.execSra e d op s
  | .min e d op => Sys2Proof.Machine.execMin e d op s
  | .max e d op => Sys2Proof.Machine.execMax e d op s
  | .clamp e d a => Sys2Proof.Machine.execClamp e d a s
  | .ld e d a off => Sys2Proof.Machine.execLd e d a off s
  | .st e d a off => Sys2Proof.Machine.execSt e d a off s
  | .ldc e d a off => Sys2Proof.Machine.execLdc e d a off s
  | .br e d a c target => Sys2Proof.Machine.execBr e d a c target s
  | .bru e d a c target => Sys2Proof.Machine.execBru e d a c target s
  | .call e target => Sys2Proof.Machine.execCall e target s
  | .ret e => Sys2Proof.Machine.execRet e s
  | .tlerp e d a table => Sys2Proof.Machine.execTlerp e d a table s
  | .send e d a => Sys2Proof.Machine.execSend e d a s
  | .recv e d a => Sys2Proof.Machine.execRecv e d a s
  | .wait e d mask => Sys2Proof.Machine.execWait e d mask s
  | .emit e d slot => Sys2Proof.Machine.execEmit e d slot s
  | .halt e => Sys2Proof.Machine.execHalt e s
  | .codeData o v => Sys2Proof.Machine.execCodeData o v s
  | .load o => Sys2Proof.Machine.execLoad o s
  | .codeAbort o => Sys2Proof.Machine.execCodeAbort o s
  | .protClear o => Sys2Proof.Machine.execProtClear o s
  | .actuatorRefresh => Sys2Proof.Machine.execActuatorRefresh s
  | .qdResponse link bytes => Sys2Proof.Machine.execQdResponse link bytes s
  | .qdLost n => Sys2Proof.Machine.execQdLost n s
  | .auxDebounced c closed => Sys2Proof.Machine.execAuxDebounced c closed s
  | .closeFail c => Sys2Proof.Machine.execCloseFail c s
  | .openFail c => Sys2Proof.Machine.execOpenFail c s
  | .weldCheck leg => Sys2Proof.Machine.execWeldCheck leg s
  | .weldClr o sel => Sys2Proof.Machine.execWeldClr o sel s
  | .joinCtrlStart o => Sys2Proof.Machine.execJoinCtrlStart o s
  | .joinCtrlAbort o => Sys2Proof.Machine.execJoinCtrlAbort o s
  | .joinOpen o high mask => Sys2Proof.Machine.execJoinOpen o high mask s
  | .probeEnd x => Sys2Proof.Machine.execProbeEnd x s
  | .joinTmo => Sys2Proof.Machine.execJoinTmo s
  | .runClose x => Sys2Proof.Machine.execRunClose x s
  | .voltageLoop voaMv vobMv viMv => Sys2Proof.Machine.execVoltageLoop voaMv vobMv viMv s
  | .currentLoop phaseMa => Sys2Proof.Machine.execCurrentLoop phaseMa s
  | .phaseOc k i1 i2 => Sys2Proof.Machine.execPhaseOc k i1 i2 s
  | .failedOpen k => Sys2Proof.Machine.execFailedOpen k s
  | .senseLost k => Sys2Proof.Machine.execSenseLost k s
  | .shortDetect clampMs riseMv => Sys2Proof.Machine.execShortDetect clampMs riseMv s
  | .retryWaitEnd => Sys2Proof.Machine.execRetryWaitEnd s
  | .sag => Sys2Proof.Machine.execSag s
  | .lineLost lineB => Sys2Proof.Machine.execLineLost lineB s
  | .lineRecovered lineB => Sys2Proof.Machine.execLineRecovered lineB s
  | .viLost => Sys2Proof.Machine.execViLost s
  | .stopRampEnd => Sys2Proof.Machine.execStopRampEnd s
  | .converterOff => Sys2Proof.Machine.execConverterOff s
  | .bfcSyncEdge intervalNs => Sys2Proof.Machine.execBfcSyncEdge intervalNs s
  | .bfcSyncLost lastIntervalNs => Sys2Proof.Machine.execBfcSyncLost lastIntervalNs s
  | .netsFree waitUs => Sys2Proof.Machine.execNetsFree waitUs s
  | .bfcClear o v => Sys2Proof.Machine.execBfcClear o v s
  | .peakRead o q => Sys2Proof.Machine.execPeakRead o q s
  | .bvlSet frame edges minPeriodNs => Sys2Proof.Machine.execBvlSet frame edges minPeriodNs s
  | .bvlPoll frame edges minPeriodNs => Sys2Proof.Machine.execBvlPoll frame edges minPeriodNs s
  | .bvlSilent sinceMs => Sys2Proof.Machine.execBvlSilent sinceMs s
  | .channelDemand ch => Sys2Proof.Machine.execChannelDemand ch s
  | .channelRelease ch => Sys2Proof.Machine.execChannelRelease ch s
  | .discrep p diffUs => Sys2Proof.Machine.execDiscrep p diffUs s
  | .testPulse k => Sys2Proof.Machine.execTestPulse k s
  | .testPulseCheck ch lowUs => Sys2Proof.Machine.execTestPulseCheck ch lowUs s
  | .tpLost k => Sys2Proof.Machine.execTpLost k s
  | .permitTimeout => Sys2Proof.Machine.execPermitTimeout s
  | .peerDisagree p => Sys2Proof.Machine.execPeerDisagree p s
  | .safeFrameTx => Sys2Proof.Machine.execSafeFrameTx s
  | .safeFrame netB f => Sys2Proof.Machine.execSafeFrame netB f s
  | .safeSingle r => Sys2Proof.Machine.execSafeSingle r s
  | .safeTimeout r => Sys2Proof.Machine.execSafeTimeout r s
  | .soTestPulse k => Sys2Proof.Machine.execSoTestPulse k s
  | .soFault k read => Sys2Proof.Machine.execSoFault k read s
  | .walk o => Sys2Proof.Machine.execWalk o s
  | .walkEnd failedNode => Sys2Proof.Machine.execWalkEnd failedNode s
  | .thSel o v => Sys2Proof.Machine.execThSel o v s
  | .windowTick mainClosed checkerClosed sigMain sigChecker differing => Sys2Proof.Machine.execWindowTick mainClosed checkerClosed sigMain sigChecker differing s
  | .gateTimeout => Sys2Proof.Machine.execGateTimeout s
  | .coreFault checker => Sys2Proof.Machine.execCoreFault checker s
  | .coreSelftestEnd mainPass checkerPass => Sys2Proof.Machine.execCoreSelftestEnd mainPass checkerPass s
  | .singleSelftest pass => Sys2Proof.Machine.execSingleSelftest pass s
  | .singleExpired => Sys2Proof.Machine.execSingleExpired s
  | .split o => Sys2Proof.Machine.execSplit o s
  | .rejoin o => Sys2Proof.Machine.execRejoin o s
  | .heartbeat h => Sys2Proof.Machine.execHeartbeat h s
  | .heartbeatTx => Sys2Proof.Machine.execHeartbeatTx s
  | .time sentAt echoOf echoRx received => Sys2Proof.Machine.execTime sentAt echoOf echoRx received s
  | .timeTx => Sys2Proof.Machine.execTimeTx s
  | .handoverRequest instant cause => Sys2Proof.Machine.execHandoverRequest instant cause s
  | .handoverAccept at_ => Sys2Proof.Machine.execHandoverAccept at_ s
  | .handoverRefuse => Sys2Proof.Machine.execHandoverRefuse s
  | .handoverInstant => Sys2Proof.Machine.execHandoverInstant s
  | .pairBanister b => Sys2Proof.Machine.execPairBanister b s
  | .banisterTx => Sys2Proof.Machine.execBanisterTx s
  | .state m => Sys2Proof.Machine.execState m s
  | .stateTx => Sys2Proof.Machine.execStateTx s
  | .block epoch blocks => Sys2Proof.Machine.execBlock epoch blocks s
  | .plan epoch p => Sys2Proof.Machine.execPlan epoch p s
  | .context kind applyEpoch image => Sys2Proof.Machine.execContext kind applyEpoch image s
  | .gseq n => Sys2Proof.Machine.execGseq n s
  | .sync item => Sys2Proof.Machine.execSync item s
  | .segmentTimeout typ => Sys2Proof.Machine.execSegmentTimeout typ s
  | .laneDown k => Sys2Proof.Machine.execLaneDown k s
  | .pathSilent alive => Sys2Proof.Machine.execPathSilent alive s
  | .termProbe => Sys2Proof.Machine.execTermProbe s
  | .baseIdResume => Sys2Proof.Machine.execBaseIdResume s
  | .revert => Sys2Proof.Machine.execRevert s
  | .swap o => Sys2Proof.Machine.execSwap o s
  | .drillCheck r => Sys2Proof.Machine.execDrillCheck r s
  | .restart o => Sys2Proof.Machine.execRestart o s
  | .genSwitchPropose => Sys2Proof.Machine.execGenSwitchPropose s
  | .dormantRoleTimeout => Sys2Proof.Machine.execDormantRoleTimeout s
  | .canFrameRx x f stamp => Sys2Proof.Machine.execCanFrameRx x f stamp s
  | .canTxSent x b => Sys2Proof.Machine.execCanTxSent x b s
  | .canError x err transmitting => Sys2Proof.Machine.execCanError x err transmitting s
  | .busOffWaitEnd x => Sys2Proof.Machine.execBusOffWaitEnd x s
  | .canRecovered x => Sys2Proof.Machine.execCanRecovered x s
  | .txLaunch x b sofAt => Sys2Proof.Machine.execTxLaunch x b sofAt s
  | .txExpire x b => Sys2Proof.Machine.execTxExpire x b s
  | .queue o x b => Sys2Proof.Machine.execQueue o x b s
  | .withdraw o x b => Sys2Proof.Machine.execWithdraw o x b s
  | .canWake x frame => Sys2Proof.Machine.execCanWake x frame s
  | .wakeMasked x durationUs => Sys2Proof.Machine.execWakeMasked x durationUs s
  | .wakeRearm o x recessiveMs => Sys2Proof.Machine.execWakeRearm o x recessiveMs s
  | .syncInEdge at_ => Sys2Proof.Machine.execSyncInEdge at_ s
  | .syncInMiss => Sys2Proof.Machine.execSyncInMiss s
  | .syncOutPulse => Sys2Proof.Machine.execSyncOutPulse s
  | .refMessageTx => Sys2Proof.Machine.execRefMessageTx s
  | .refMessageRx x f stamp => Sys2Proof.Machine.execRefMessageRx x f stamp s
  | .masterCandidateStart => Sys2Proof.Machine.execMasterCandidateStart s
  | .read lanes addr len hcrc => Sys2Proof.Machine.execRead lanes addr len hcrc s
  | .write lanes addr words hcrc dcrc csEarly => Sys2Proof.Machine.execWrite lanes addr words hcrc dcrc csEarly s
  | .fifoRead lanes addr len hcrc => Sys2Proof.Machine.execFifoRead lanes addr len hcrc s
  | .hostCmdError cmd => Sys2Proof.Machine.execHostCmdError cmd s
  | .hallOpen o => Sys2Proof.Machine.execHallOpen o s
  | .hallClose o => Sys2Proof.Machine.execHallClose o s
  | .fifoFlush o => Sys2Proof.Machine.execFifoFlush o s
  | .wakeClr o => Sys2Proof.Machine.execWakeClr o s
  | .restoreSlotWrite addr v => Sys2Proof.Machine.execRestoreSlotWrite addr v s
  | .rsubmit o v => Sys2Proof.Machine.execRsubmit o v s
  | .imageValidated => Sys2Proof.Machine.execImageValidated s
  | .lowWordRead o addr => Sys2Proof.Machine.execLowWordRead o addr s
  | .ctxWord0Read o => Sys2Proof.Machine.execCtxWord0Read o s
  | .unlock o page key => Sys2Proof.Machine.execUnlock o page key s
  | .lock o page => Sys2Proof.Machine.execLock o page s
  | .evtClear o page mask => Sys2Proof.Machine.execEvtClear o page mask s
  | .registerWrite o addr v => Sys2Proof.Machine.execRegisterWrite o addr v s
  | .hopcal o p => Sys2Proof.Machine.execHopcal o p s
  | .reenum o p => Sys2Proof.Machine.execReenum o p s
  | .wrlearn o => Sys2Proof.Machine.execWrlearn o s
  | .wbclr o high mask => Sys2Proof.Machine.execWbclr o high mask s
  | .offlearn o => Sys2Proof.Machine.execOfflearn o s
  | .imgNow o => Sys2Proof.Machine.execImgNow o s
  | .restoreDone o => Sys2Proof.Machine.execRestoreDone o s
  | .reqDormant o portsWithoutEcho => Sys2Proof.Machine.execReqDormant o portsWithoutEcho s
  | .reqCommission o => Sys2Proof.Machine.execReqCommission o s
  | .reqReady o => Sys2Proof.Machine.execReqReady o s
  | .rrGo o causes => Sys2Proof.Machine.execRrGo o causes s
  | .canRemoteReset f => Sys2Proof.Machine.execCanRemoteReset f s
  | .wakeIn => Sys2Proof.Machine.execWakeIn s
  | .wakeSequenceDone => Sys2Proof.Machine.execWakeSequenceDone s
  | .landingExit => Sys2Proof.Machine.execLandingExit s
  | .wmaskRearm o high mask quiet => Sys2Proof.Machine.execWmaskRearm o high mask quiet s
  | .fwOpen o => Sys2Proof.Machine.execFwOpen o s
  | .fwEraseDone => Sys2Proof.Machine.execFwEraseDone s
  | .fwData o v => Sys2Proof.Machine.execFwData o v s
  | .fwVerify o => Sys2Proof.Machine.execFwVerify o s
  | .fwVerifyDone => Sys2Proof.Machine.execFwVerifyDone s
  | .fwPrefer o => Sys2Proof.Machine.execFwPrefer o s
  | .galleryStore => Sys2Proof.Machine.execGalleryStore s
  | .galOpen o => Sys2Proof.Machine.execGalOpen o s
  | .galFirst o => Sys2Proof.Machine.execGalFirst o s
  | .galNext o => Sys2Proof.Machine.execGalNext o s
  | .galSeek o target => Sys2Proof.Machine.execGalSeek o target s
  | .galNewest o => Sys2Proof.Machine.execGalNewest o s
  | .galClose o => Sys2Proof.Machine.execGalClose o s
  | .galClearlog o entry => Sys2Proof.Machine.execGalClearlog o entry s
  | .galClear o => Sys2Proof.Machine.execGalClear o s
  | .galClearDone => Sys2Proof.Machine.execGalClearDone s
  | .stwHelp => Sys2Proof.Machine.execStwHelp s
  | .stwLogin level password => Sys2Proof.Machine.execStwLogin level password s
  | .stwLogout => Sys2Proof.Machine.execStwLogout s
  | .baud r => Sys2Proof.Machine.execBaud r s
  | .baudSwitch => Sys2Proof.Machine.execBaudSwitch s
  | .peek addr n => Sys2Proof.Machine.execPeek addr n s
  | .stwHall off n => Sys2Proof.Machine.execStwHall off n s
  | .poke addr v => Sys2Proof.Machine.execPoke addr v s
  | .trace p n tones => Sys2Proof.Machine.execTrace p n tones s
  | .coreHalt => Sys2Proof.Machine.execCoreHalt s
  | .coreStep n => Sys2Proof.Machine.execCoreStep n s
  | .coreRegs => Sys2Proof.Machine.execCoreRegs s
  | .coreMem addr n => Sys2Proof.Machine.execCoreMem addr n s
  | .coreWrite addr v => Sys2Proof.Machine.execCoreWrite addr v s
  | .coreResume => Sys2Proof.Machine.execCoreResume s
  | .otpStage image => Sys2Proof.Machine.execOtpStage image s
  | .stwIdleTimeout => Sys2Proof.Machine.execStwIdleTimeout s
  | .stwBreak => Sys2Proof.Machine.execStwBreak s
  | .loginHoldEnd => Sys2Proof.Machine.execLoginHoldEnd s
  | .kick o => Sys2Proof.Machine.execKick o s
  | .mgmtWatchdogMiss => Sys2Proof.Machine.execMgmtWatchdogMiss s
  | .mgmtRestartDone => Sys2Proof.Machine.execMgmtRestartDone s
  | .shed loadPct => Sys2Proof.Machine.execShed loadPct s
  | .stageClr o => Sys2Proof.Machine.execStageClr o s
  | .stgData o v => Sys2Proof.Machine.execStgData o v s
  | .otpVerify o => Sys2Proof.Machine.execOtpVerify o s
  | .commit o => Sys2Proof.Machine.execCommit o s
  | .commitDone readBackOk => Sys2Proof.Machine.execCommitDone readBackOk s
  | .switch o => Sys2Proof.Machine.execSwitch o s
  | .abandon o => Sys2Proof.Machine.execAbandon o s
  | .keysetWr o => Sys2Proof.Machine.execKeysetWr o s
  | .round o => Sys2Proof.Machine.execRound o s
  | .authChallengeDue => Sys2Proof.Machine.execAuthChallengeDue s
  | .vinSurge peak10mV durationMs => Sys2Proof.Machine.execVinSurge peak10mV durationMs s
  | .vauxFault currentMa => Sys2Proof.Machine.execVauxFault currentMa s
  | .vauxRetry overload => Sys2Proof.Machine.execVauxRetry overload s
  | .tjHigh tj => Sys2Proof.Machine.execTjHigh tj s
  | .tjHighClear tj => Sys2Proof.Machine.execTjHighClear tj s
  | .mailboxServe => Sys2Proof.Machine.execMailboxServe s
  | .plAliveEdge halfPeriodUs => Sys2Proof.Machine.execPlAliveEdge halfPeriodUs s
  | .tpDrive k => Sys2Proof.Machine.execTpDrive k s
  | .vinSurgeEnd durationMs => Sys2Proof.Machine.execVinSurgeEnd durationMs s
  | .revertRequest => Sys2Proof.Machine.execRevertRequest s
  | .partnerVerify ok => Sys2Proof.Machine.execPartnerVerify ok s

end Sys2Proof.Machine
end

