-- ==== Sys2Proof/Machine/Pads.lean ====
section
/-! DEFINITION. The states of the output pads (R514, Table 21.14) as views of the state. -/
namespace Sys2Proof.Machine

/-- What an output pad does. -/
inductive PadDrive where
  /-- Not driven: only the internal pull acts. -/
  | hiZ
  | low
  | high
  /-- Driven by its interface: clock, frames or edges. -/
  | serves
  /-- A square wave of this half-period, µs. -/
  | square (halfUs : Nat)
  deriving DecidableEq, Repr

/-- "Reset" of Table 21.14: no supply, or start-up steps 1 and 2. -/
def State.padReset (s : State) : Bool := !s.start.powered || ((s.start.step == 1 || s.start.step == 2) && !s.start.bootHold)
/-- L3 and L4. -/
def State.deep (s : State) : Bool := decide (3 ≤ s.land.landing)

/-- A row of Table 21.14: reset, BOOT_HOLD, L0–L2, L3 and L4. -/
def State.padRow (s : State) (reset hold awake deep : PadDrive) : PadDrive :=
  if s.padReset then reset else if s.start.bootHold then hold else if s.deep then deep else awake

/-- SPn_TX. -/
def State.padSpTx (s : State) : PadDrive := s.padRow .hiZ .low .serves .low
/-- CICLKn: driven only by the device that has taken the net (R139). -/
def State.padClk (s : State) (n : Nat) : PadDrive := s.padRow .hiZ .hiZ (if s.clkDrive.getLsbD n then .serves else .hiZ) .hiZ
/-- BFCk_HI and BFCk_LO (R302). -/
def State.padPwm (s : State) : PadDrive :=
  s.padRow .hiZ .hiZ (if s.active && s.bfc.driving then .serves else .hiZ) (if s.active then .low else .hiZ)
/-- BFC_EN: on the active device low where a rule of the Banister requires it (R333), high while the converter is driven. -/
def State.padBfcEn (s : State) : PadDrive :=
  s.padRow .hiZ .hiZ (if s.active then (if s.bfcEnHigh then .high else if s.ban.bfcEn then .hiZ else .low) else .hiZ)
    (if s.active then .low else .hiZ)
/-- SOk, test pulses apart. -/
def State.padSo (s : State) (k : Nat) : PadDrive := s.padRow .hiZ .low (if s.ban.so.getLsbD k then .high else .low) .low
/-- TPk (R313). -/
def State.padTp (s : State) (k : Nat) : PadDrive := s.padRow .hiZ .hiZ (if (s.tpOf k).drive then .serves else .hiZ) .hiZ
/-- ALn_CK and ALn_DO between frames (R263). -/
def State.padAl (s : State) : PadDrive := s.padRow .hiZ .low .low .low
/-- CANx_TX between frames: recessive. -/
def State.padCan (s : State) : PadDrive := s.padRow .hiZ .high .high .high
/-- HOST_IRQ (R62). -/
def State.padIrq (s : State) : PadDrive :=
  let l : PadDrive := if s.hostIrq then .high else .low
  s.padRow .low l l l
/-- WAKE_OUT (R418). -/
def State.padWakeOut (s : State) : PadDrive :=
  let l : PadDrive := if s.dev.wakeOut then .high else .low
  s.padRow .low .low l l
/-- BVL_DO and the pair-link transmitters. -/
def State.padLink (s : State) : PadDrive := s.padRow .hiZ .hiZ .serves .hiZ
/-- PL_ALIVE_OUT: 125 µs while ACTIVE, 250 µs while STANDBY, 500 µs otherwise (R359). -/
def State.padAlive (s : State) : PadDrive :=
  s.padRow .low (.square 500) (.square (if s.active then 125 else if s.standby then 250 else 500)) .low
/-- STW_TX at idle. -/
def State.padStw (s : State) : PadDrive := s.padRow .hiZ .high .high .high
/-- VAUX3_OUT: on from start-up step 1 in every mode and landing, off by overload (R508). -/
def State.vauxOn (s : State) : Bool := s.start.powered && !s.supply.vauxFault

end Sys2Proof.Machine
end

