-- ==== Sys2Proof/Safety.lean ====
section
/-! DEFINITION. What counts as a safe run of the block, in the terms statements use. -/
namespace Sys2Proof.Machine

def FwImage.canonical : FwImage → Prop
  | .written m => m.wf = true
  | _ => True

/-- Every memory the block holds is in the canonical form: staging buffers of settings (R475) and of code (R232), generation slots (R473),
image regions (R440), restore slots (R419). -/
def State.memoriesCanonical (s : State) : Prop :=
  s.otp.buf.wf = true ∧ s.code.buf.wf = true ∧ s.fw.imageA.canonical ∧ s.fw.imageB.canonical ∧
  (∀ k, (sget {} s.otp.slots k).mem.wf = true) ∧ ∀ k, (sget {} s.rslots k).mem.wf = true

/-- The append FIFO (R26) and the host FIFO (R417) hold no more than the manual gives them. -/
def State.fifosFit (s : State) : Prop := s.gal.fifo.length ≤ Config.appendMax ∧ s.host.fifo.length ≤ Config.hostFifoMax

/-- What every step keeps. -/
def State.Inv (s : State) : Prop := s.memoriesCanonical ∧ s.fifosFit

end Sys2Proof.Machine
end

