-- ==== Sys2Proof/WellFormed.lean ====
section
/-! DEFINITION. The well-formed commands: the operands that their source in the manual can present. What an ill-formed frame does
where the manual says it (a wrong CRC, a wrong length field) is a well-formed command; the checks here keep out only what no line,
converter or caller can produce. -/
namespace Sys2Proof

/-- A chain frame carries LEN halfwords (Table 03.3), at most 240 bytes. -/
def ChainFrame.wf (f : ChainFrame) : Bool := decide (f.payload.length = 2 * f.len.toNat) && decide (f.len.toNat ≤ 120)

/-- Data bytes of DLC codes 9–15: 12 to 64 in CAN FD, 8 in classical CAN (ISO 11898-1, log 21). -/
def canLength (fdf : Bool) (dlc : BitVec 4) : Nat :=
  if dlc.toNat ≤ 8 then dlc.toNat else if fdf then [12, 16, 20, 24, 32, 48, 64].getD (dlc.toNat - 9) 64 else 8

/-- The data are as long as the DLC says, a standard identifier has 11 bits, and only an FD frame switches its rate. -/
def CanFrame.wf (f : CanFrame) : Bool :=
  decide (f.data.length = canLength f.fdf f.dlc) && (f.xtd || decide (f.id.toNat < 2048)) && (f.fdf || !f.brs)

/-- A module of the section and a cell of a module (R9). -/
def Shuttle.wf (x : Shuttle) : Bool := decide (x.module < 1920) && decide (x.cell < 16)

/-- Strings and channels named in a STATE message exist. -/
def StateMsg.wf (m : StateMsg) : Bool :=
  m.strings.all (fun x => decide (x.1 < 48)) && m.closes.all (fun x => decide (x.1 < 128)) &&
    m.nextSeq.all (fun x => decide (x.1 < 48)) && m.wear.all (fun x => decide (x.1 < 128))

def SyncItem.wf : SyncItem → Bool
  | .hello _ _ _ _ => true
  | .generation _ => true
  | .time _ _ _ => true
  | .status _ _ _ _ _ wear => wear.all (fun x => decide (x.1 < 128))
  | .image bytes => decide (bytes.length ≤ 65536)
  | .plan p => p.all Shuttle.wf
  | .join _ strings closes => strings.all (fun x => decide (x.1 < 48)) && closes.all (fun x => decide (x.1 < 128))
  | .converter _ _ => true
  | .gallerySeq _ => true
  | .code bytes => decide (bytes.length ≤ 65536)
  | .complete => true

/-- A command that its source can present. -/
def Instr.wf : Instr → Bool
  | .powerOn => true
  | .vinUndervoltage => true
  | .resetN _ => true
  | .startupSupplySettled => true
  | .startupStrapsRead _ _ => true
  | .firmwareImageChecked => true
  | .generationSelected => true
  | .startupSelftestPassed _ failedPattern walkFail => (failedPattern.all (fun n => decide (n < 64))) && (walkFail.all (fun n => decide (n < 128)))
  | .roleWaitTimeout => true
  | .portsStarted => true
  | .modulesAuthenticated => true
  | .restoreWaitEnd => true
  | .sampleInstant cur => decide (cur.length ≤ 48) && decide (cur.Pairwise (fun x y => x.ch ≠ y.ch))
  | .sampleLaunch _ => true
  | .epochComputation => true
  | .dataTrigger => true
  | .epochCommit _ _ => true
  | .dataStall => true
  | .dataStallOpenAll => true
  | .grading => true
  | .protFrameRepeat => true
  | .disconnectDeadline _ _ => true
  | .breakSafeOpen _ _ _ => true
  | .brkWaitOpen _ _ => true
  | .insulationStatus f => f.wf
  | .insTimeout => true
  | .restReq _ => true
  | .capDrift => true
  | .hopcalPeriodic _ => true
  | .hopcalDone _ rtts => decide (rtts.length ≤ 40)
  | .wrlearnPeriodic => true
  | .chainFrame _ f => f.wf
  | .tone _ f => f.wf && f.typ == 0x7E#8 && f.dir == 3#2
  | .staleTerm _ f => f.wf
  | .responseTimeout _ _ => true
  | .chainSilent _ => true
  | .recoveryProbe _ => true
  | .reenumeration _ => true
  | .wakeTone _ => true
  | .wakePatternMask _ _ => true
  | .modStatusFrame _ bytes => decide (bytes.length = 8)
  | .tempStale _ => true
  | .streamLost _ _ => true
  | .streamRecovered _ => true
  | .ocTrip _ outputs => decide (4 ≤ outputs.length)
  | .ocClear _ outputs => decide (4 ≤ outputs.length)
  | .brkHoldClear _ outputs => decide (4 ≤ outputs.length)
  | .clkTaken _ _ ones _ => decide (ones.length = 8) && ones.all (fun n => decide (n ≤ 256))
  | .offsetWindowStart _ => true
  | .offsetLearned _ => true
  | .engineTimer _ => true
  | .txdone _ _ => true
  | .waitTimeout _ => true
  | .budgetOut _ => true
  | .mov _ _ _ => true
  | .add _ _ _ => true
  | .sub _ _ _ => true
  | .mul _ _ _ => true
  | .mulq _ _ _ => true
  | .div _ _ _ => true
  | .and _ _ _ => true
  | .or _ _ _ => true
  | .xor _ _ _ => true
  | .shl _ _ _ => true
  | .shr _ _ _ => true
  | .sra _ _ _ => true
  | .min _ _ _ => true
  | .max _ _ _ => true
  | .clamp _ _ a => decide (a.val ≤ 14)
  | .ld _ _ _ _ => true
  | .st _ _ _ _ => true
  | .ldc _ _ _ _ => true
  | .br _ _ _ _ _ => true
  | .bru _ _ _ _ _ => true
  | .call _ _ => true
  | .ret _ => true
  | .tlerp _ _ _ _ => true
  | .send _ _ _ => true
  | .recv _ _ _ => true
  | .wait _ _ _ => true
  | .emit _ _ _ => true
  | .halt _ => true
  | .codeData _ _ => true
  | .load _ => true
  | .codeAbort _ => true
  | .protClear _ => true
  | .actuatorRefresh => true
  | .qdResponse _ bytes => decide (bytes.length = 16)
  | .qdLost _ => true
  | .auxDebounced _ _ => true
  | .closeFail _ => true
  | .openFail _ => true
  | .weldCheck _ => true
  | .weldClr _ _ => true
  | .joinCtrlStart _ => true
  | .joinCtrlAbort _ => true
  | .joinOpen _ _ _ => true
  | .probeEnd _ => true
  | .joinTmo => true
  | .runClose _ => true
  | .voltageLoop _ _ _ => true
  | .currentLoop phaseMa => decide (phaseMa.length = 6)
  | .phaseOc _ _ _ => true
  | .failedOpen _ => true
  | .senseLost _ => true
  | .shortDetect _ _ => true
  | .retryWaitEnd => true
  | .sag => true
  | .lineLost _ => true
  | .lineRecovered _ => true
  | .viLost => true
  | .stopRampEnd => true
  | .converterOff => true
  | .bfcSyncEdge _ => true
  | .bfcSyncLost _ => true
  | .netsFree _ => true
  | .bfcClear _ _ => true
  | .peakRead _ _ => true
  | .bvlSet _ _ _ => true
  | .bvlPoll _ _ _ => true
  | .bvlSilent _ => true
  | .channelDemand _ => true
  | .channelRelease _ => true
  | .discrep _ _ => true
  | .testPulse _ => true
  | .testPulseCheck _ _ => true
  | .tpLost _ => true
  | .permitTimeout => true
  | .peerDisagree _ => true
  | .safeFrameTx => true
  | .safeFrame _ f => f.wf
  | .safeSingle _ => true
  | .safeTimeout _ => true
  | .soTestPulse _ => true
  | .soFault _ _ => true
  | .walk _ => true
  | .walkEnd failedNode => failedNode.all (fun n => decide (n < 128))
  | .thSel _ _ => true
  | .windowTick _ _ _ _ _ => true
  | .gateTimeout => true
  | .coreFault _ => true
  | .coreSelftestEnd _ _ => true
  | .singleSelftest _ => true
  | .singleExpired => true
  | .split _ => true
  | .rejoin _ => true
  | .heartbeat _ => true
  | .heartbeatTx => true
  | .time _ _ _ _ => true
  | .timeTx => true
  | .handoverRequest _ cause => decide (cause ≤ 4)
  | .handoverAccept _ => true
  | .handoverRefuse => true
  | .handoverInstant => true
  | .pairBanister _ => true
  | .banisterTx => true
  | .state m => m.wf
  | .stateTx => true
  | .block _ blocks => blocks.all (fun b => decide (b.1 < 48))
  | .plan _ p => p.all Shuttle.wf
  | .context _ _ image => decide (image.length ≤ 65536)
  | .gseq _ => true
  | .sync item => item.wf
  | .segmentTimeout _ => true
  | .laneDown _ => true
  | .pathSilent _ => true
  | .termProbe => true
  | .baseIdResume => true
  | .revert => true
  | .swap _ => true
  | .drillCheck _ => true
  | .restart _ => true
  | .genSwitchPropose => true
  | .dormantRoleTimeout => true
  | .canFrameRx _ f _ => f.wf
  | .canTxSent _ _ => true
  | .canError _ _ _ => true
  | .busOffWaitEnd _ => true
  | .canRecovered _ => true
  | .txLaunch _ _ _ => true
  | .txExpire _ _ => true
  | .queue _ _ _ => true
  | .withdraw _ _ _ => true
  | .canWake _ frame => frame.all CanFrame.wf
  | .wakeMasked _ _ => true
  | .wakeRearm _ _ _ => true
  | .syncInEdge _ => true
  | .syncInMiss => true
  | .syncOutPulse => true
  | .refMessageTx => true
  | .refMessageRx _ f _ => f.wf
  | .masterCandidateStart => true
  | .read _ _ _ _ => true
  | .write _ _ words _ _ _ => decide (words.length < 65536)
  | .fifoRead _ _ _ _ => true
  | .hostCmdError _ => true
  | .hallOpen _ => true
  | .hallClose _ => true
  | .fifoFlush _ => true
  | .wakeClr _ => true
  | .restoreSlotWrite _ _ => true
  | .rsubmit _ _ => true
  | .imageValidated => true
  | .lowWordRead _ _ => true
  | .ctxWord0Read _ => true
  | .unlock _ _ _ => true
  | .lock _ _ => true
  | .evtClear _ _ _ => true
  | .registerWrite _ _ _ => true
  | .hopcal _ _ => true
  | .reenum _ _ => true
  | .wrlearn _ => true
  | .wbclr _ _ _ => true
  | .offlearn _ => true
  | .imgNow _ => true
  | .restoreDone _ => true
  | .reqDormant _ _ => true
  | .reqCommission _ => true
  | .reqReady _ => true
  | .rrGo _ _ => true
  | .canRemoteReset f => f.wf
  | .wakeIn => true
  | .wakeSequenceDone => true
  | .landingExit => true
  | .wmaskRearm _ _ _ _ => true
  | .fwOpen _ => true
  | .fwEraseDone => true
  | .fwData _ _ => true
  | .fwVerify _ => true
  | .fwVerifyDone => true
  | .fwPrefer _ => true
  | .galleryStore => true
  | .galOpen _ => true
  | .galFirst _ => true
  | .galNext _ => true
  | .galSeek _ _ => true
  | .galNewest _ => true
  | .galClose _ => true
  | .galClearlog _ _ => true
  | .galClear _ => true
  | .galClearDone => true
  | .stwHelp => true
  | .stwLogin level password => level != .out && decide (password.length ≤ 32)
  | .stwLogout => true
  | .baud r => [115200, 230400, 460800, 921600, 1500000, 3000000].contains r
  | .baudSwitch => true
  | .peek _ n => decide (1 ≤ n) && decide (n ≤ 256)
  | .stwHall _ _ => true
  | .poke _ _ => true
  | .trace _ n _ => decide (1 ≤ n) && decide (n ≤ 512)
  | .coreHalt => true
  | .coreStep n => decide (1 ≤ n)
  | .coreRegs => true
  | .coreMem _ n => decide (1 ≤ n) && decide (n ≤ 256)
  | .coreWrite _ _ => true
  | .coreResume => true
  | .otpStage image => decide (image.length ≤ 32768)
  | .stwIdleTimeout => true
  | .stwBreak => true
  | .loginHoldEnd => true
  | .kick _ => true
  | .mgmtWatchdogMiss => true
  | .mgmtRestartDone => true
  | .shed _ => true
  | .stageClr _ => true
  | .stgData _ _ => true
  | .otpVerify _ => true
  | .commit _ => true
  | .commitDone _ => true
  | .switch _ => true
  | .abandon _ => true
  | .keysetWr _ => true
  | .round _ => true
  | .authChallengeDue => true
  | .vinSurge _ _ => true
  | .vauxFault _ => true
  | .vauxRetry _ => true
  | .tjHigh _ => true
  | .tjHighClear _ => true
  | .mailboxServe => true
  | .plAliveEdge _ => true
  | .tpDrive _ => true
  | .vinSurgeEnd _ => true
  | .revertRequest => true
  | .partnerVerify _ => true

end Sys2Proof
end

