-- ==== Sys2Proof/Certificates/Slice0/Obligations.lean ====
section
/-! DEFINITION. The statements for the provers. Each says in its docstring which rules of the manual it rests on. -/

open Sys2Proof Sys2Proof.Machine

/-- A step runs the command at the front of the queue with the rest of the queue; on an empty queue it is one oscillator period (R21, 95_what_each_step_holds.md). -/
def Obligations.StepTakesTheFrontCommand : Prop :=
  (∀ (c : Instr) (s : State) (rest : List Instr), step { s with pending := c :: rest } = exec c { s with pending := rest }) ∧
  (∀ s : State, s.pending = [] → step s = .next (oscTick s)) ∧
  (∀ s : State, s.pending = [] → s.start.powered = false → step s = .next s)

/-- Device time advances by 21, 21, 21, 21, 21 and 20 ns, 125 ns every six periods (an idle step as one period: log 2) (R41). -/
def Obligations.OscillatorPeriodsAddUpTo125ns : Prop :=
  (∀ s : State, s.start.powered = true → s.pending = [] → s.time.oscPhase = 0 →
    core.run 5 s = .next { s with time := { s.time with now := s.time.now + 105, opNs := s.time.opNs + 105, oscPhase := 5 } }) ∧
  (∀ s : State, s.start.powered = true → s.pending = [] →
    core.run 6 s = .next { s with time := { s.time with now := s.time.now + 125, opNs := s.time.opNs + 125 } })

/-- IRQSUM0, IRQSUM1 and HOST_IRQ follow the enabled events of the pages (R62). -/
def Obligations.InterruptSummaries : Prop :=
  ∀ (s : State) (o : Origin),
    (∀ n, n < 32 → (s.readReg o pDEV 0x020).getLsbD n = (pagePresent n && decide ((s.page n).evt &&& (s.page n).evten ≠ 0#32))) ∧
    (∀ m, m < 32 → (s.readReg o pDEV 0x024).getLsbD m =
      (pagePresent (0x20 + m) && decide ((s.page (0x20 + m)).evt &&& (s.page (0x20 + m)).evten ≠ 0#32))) ∧
    (s.hostIrq = true ↔ s.readReg o pDEV 0x020 ≠ 0#32 ∨ s.readReg o pDEV 0x024 ≠ 0#32)

/-- Every step keeps every memory canonical and the append and host FIFOs within their capacities (R26, R417, R419, R440, R473, R475). -/
def Obligations.StepKeepsMemoriesAndFifos : Prop :=
  ∀ s t : State, s.Inv → step s = .next t → t.Inv

/-- The state at reset: START, time 0, no permit, outputs low, pages locked, nothing queued, and the invariant holds (R41, R56, R57, R60, R436, 21_pads_and_electrical.md Table 21.13). -/
def Obligations.ResetState : Prop :=
  State.reset.pending = [] ∧ State.reset.md = .start ∧ State.reset.now = 0 ∧ State.reset.start.powered = false ∧ State.reset.mbx = [] ∧ State.reset.shadow = [] ∧
  (∀ pg, State.reset.page pg = {} ∧ (State.reset.page pg).owner = 0 ∧ (State.reset.page pg).evt = 0#32 ∧ (State.reset.page pg).cfgseq = 0#32) ∧
  (∀ k, (State.reset.coil k).coil = false) ∧ State.reset.scor.permit = false ∧ State.reset.ban.so = 0#4 ∧ State.reset.ban.bfcEn = false ∧ State.reset.Inv

/-- SAMPLE_INSTANT, SAMPLE_LAUNCH, EPOCH_COMPUTATION, DATA_TRIGGER and EPOCH_COMMIT: an epoch is opened, sampled, computed and published (R27, R28, R32, R43, R52, R87, R98, R493, R16, R30, R216, R494). -/
def Obligations.EpochSampleAndComputation : Prop :=
  (∀ (s : State) (cur : List CurIn) (p : Port),
    (s.time.sampling = true → s.mode.trans = none → s.sw.confirmed = none → s.shadow = [] → s.acq.length < 3 → s.land.landing ≠ 2 →
      ∃ t r, exec (.sampleInstant cur) s = .next t ∧ t.time.epoch = s.nextN ∧ t.now = Nat.max s.now s.nextT ∧ t.mode = s.mode ∧
        t.acq = s.acq ++ [r] ∧ r.epoch = s.nextN ∧ r.t = s.nextT ∧ t.shadow = [] ∧ t.coils = s.coils ∧ t.strs = s.strs) ∧
    (s.time.sampling = true → s.chainMay = true → s.portServed p.val = true → (s.port p.val).sampleSent = false → s.active = true →
      (s.port p.val).blockM ≠ 0 → s.launchLead p.val ≤ s.tEpoch → s.land.landing ≠ 2 →
      ∃ t f, exec (.sampleLaunch p) s = .next t ∧ t.now = Nat.max s.now (s.nextT - s.launchLead p.val) ∧
        (t.port p.val).sampleSent = true ∧ Out.chain p.val f ∈ t.out ∧ f.typ = 2#8 ∧ f.term = s.term ∧ f.flags = flagBCAST ∧
        f.seq = (s.port p.val).blockS ∧ (∀ q, q ≠ p.val → t.port q = s.port q) ∧ t.mode = s.mode ∧ t.coils = s.coils ∧
        exec (.sampleLaunch p) t = .next t)) ∧
  (∀ (s : State) (busy : Nat) (r : RawEpoch),
    (∀ rest, s.computing = none → s.acq = r :: rest → ∃ t, exec .epochComputation s = .next t ∧ t.acq = rest ∧
      (∃ r', t.computing = some r' ∧ r'.epoch = r.epoch ∧ r'.t = r.t ∧ r'.catchup = decide (r.t + s.tEpoch ≤ s.now)) ∧
      t.est.lastT = some r.t ∧ t.mode = s.mode ∧ t.coils = s.coils ∧ t.hall = s.hall) ∧
    (s.computing = some r → r.ready = false → (s.eng 12).source = .rom → (s.eng 12).falling = false → (s.eng 12).next = none →
      ∃ t, exec .dataTrigger s = .next t ∧ t.computing = some { r with ready := true } ∧ (t.eng 12).units = 0 ∧
        (∀ x ∈ s.strings ++ [48], ∀ j < 4, (t.slotOf (4 * x + j)).emitted = true) ∧ t.hall = s.hall ∧ t.limits = s.limits ∧
        t.mode = s.mode) ∧
    (s.computing = some r → r.ready = true → (s.eng 12).running = false → s.now ≤ r.t + s.tEpoch → s.hall.writing < 3 →
      ∃ t, exec (.epochCommit busy 0) s = .next t ∧ t.computing = none ∧ t.hall.newest = some s.hall.writing ∧
        (t.newestBank.map (·.epoch)) = some r.epoch ∧ t.prot.lastCommit = s.now ∧ t.prot.lastCommitEpoch = r.epoch ∧
        t.prot.dataStall = false ∧ t.now = s.now ∧ t.acq = s.acq ∧
        t.hall.writing ≠ s.hall.writing) ∧
    (s.computing = some r → r.ready = false → exec (.epochCommit busy 0) s = .next s))

/-- UNLOCK, LOCK, EVT_CLEAR, REGISTER_WRITE and MAILBOX_SERVE (R22, R23, R45, R48, R53, R56, R57, R58, R60, R526, 02_register_pages.md Tables 01.2, 02.5). -/
def Obligations.RegisterWritesAreCheckedAndServed : Prop :=
  ∀ (s : State) (o : Origin) (page : BitVec 7) (key mask addr v : Word),
    let pg := page.toNat
    let mailbox := pagePresent pg = true ∧ pageClass pg ≠ .mgmt
    let mine := (s.page pg).owner = 0 ∨ (s.page pg).owner = o.code
    let only := fun (t : State) => (∀ q, q ≠ pg → q ≠ pDEV → t.page q = s.page q) ∧ (t.page pg).cfgseq = (s.page pg).cfgseq ∧
      { t with pages := s.pages, dev := s.dev } = s
    let ap := addr.toNat / 0x1000
    let ao := addr.toNat % 0x1000
    let mapped := addr.toNat < 0x80000 ∧ addr.toNat % 4 = 0 ∧ (regFlds ap ao).isSome = true ∧ pageClass ap ≠ .mgmt
    let refused := fun (t : State) (r : Refuse) => t = s.refuse o ap ao r ∧ t.regs = s.regs ∧ t.evtBit ap 31 = true ∧ t.evtBit pDEV 0 = true ∧
      (t.page ap).cfgseq = (s.page ap).cfgseq ∧ t.dev.mbxstat = word (r.code * 2 ^ 29 + o.code * 2 ^ 27 + ap * 2 ^ 20 + ao) ∧
      (s.gal.fifo.length < 64 → t.gal.fifo = s.gal.fifo ++ [s.galEntry 0x0E04 [word o.code, word (ap * 0x1000 + ao), word r.code]])
    let rw := Instr.registerWrite o addr v
    let passes := mapped ∧ s.writeCheck o ap ao v = none ∧ ao ≠ 0x018
    (mailbox → mine → ∃ t, exec (.unlock o page (word (0x5AFE0000 + pg))) s = .next t ∧ only t ∧ (t.page pg).owner = o.code ∧ t.dev.lockFail = false ∧
      t.unlockedFor o pg = true) ∧
    (mailbox → mine → key ≠ 0#32 → key ≠ word (0x5AFE0000 + pg) → ∃ t, exec (.unlock o page key) s = .next t ∧ only t ∧ (t.page pg).owner = 0 ∧
      t.dev.lockFail = true ∧ t.evtBit pDEV 1 = true) ∧
    (mailbox → mine → ∃ t, exec (.lock o page) s = .next t ∧ only t ∧ (t.page pg).owner = 0 ∧ t.dev = s.dev) ∧
    (mailbox → ¬ mine → ∀ c ∈ [Instr.unlock o page key, .lock o page], exec c s = .next (s.refuse o pg 0x018 .lock)) ∧
    (pagePresent pg = false → ∀ c ∈ [Instr.unlock o page key, .lock o page, .evtClear o page mask], exec c s = .next (s.answer o 6 [])) ∧
    (mailbox → shadowPage pg = false → ∃ t, exec (.evtClear o page mask) s = .next t ∧ only t ∧ (t.page pg).evt = (s.page pg).evt &&& ~~~mask) ∧
    (mailbox → shadowPage pg = true → exec (.evtClear o page mask) s =
      .next { s with shadow := s.shadow ++ [{ origin := o, page := pg, offset := 0x010, value := mask }] }) ∧
    (mapped → ao ≠ 0x018 → (∀ r, s.writeCheck o ap ao v = some r → ∃ t, exec rw s = .next t ∧ refused t r)) ∧
    (∀ fs, regFlds ap ao = some fs → (fs.all (fun f => f.acc == .ro) = true → s.writeCheck o ap ao v = some .format) ∧
      (0x100 ≤ ao → ao < 0x800 → formatOk ap ao v fs = true → (s.page ap).owner ≠ o.code → s.writeCheck o ap ao v = some .lock) ∧
      (formatOk ap ao v fs = true → expertReg ao fs = false → wordOutward ap ao (s.genWord ap ao) v = true → s.writeCheck o ap ao v = some .wall)) ∧
    (passes → pageClass ap = .data ∨ pageClass ap = .timeBase → ap = pBAL ∨ ap = pLIM ∨ ap = pTHERM → exec rw s = .next { s with
      shadow := s.shadow ++ [{ origin := o, page := ap, offset := ao, value := v }] }) ∧
    (passes → ap = pPROT ∨ ap = pBVL → 0x020 ≤ ao → ∃ t, exec rw s = .next t ∧ t.regs = sput s.regs addr.toNat (mergeWord ((regFlds ap ao).getD []) (s.reg ap ao) v) ∧
      (t.page ap).cfgseq = (s.page ap).cfgseq + 1#32 ∧ (∀ q, q ≠ ap → t.page q = s.page q) ∧ { t with regs := s.regs, pages := s.pages } = s) ∧
    (∀ e rest, s.mbx = e :: rest → s.scor.st ≠ .selftest → exec .mailboxServe s = .next ({ s with mbx := rest }.serveWrite e.origin e.page e.offset e.value)) ∧
    (s.mbx = [] ∨ s.scor.st = .selftest → exec .mailboxServe s = .next s) ∧
    (mapped → exec rw s = .next (s.serveWrite o ap ao v))

/-- CHAIN_FRAME ends the wait for its command, RESPONSE_TIMEOUT resends twice with RETRY and then gives the command up (R75, R88, R89, R103, R218, 03_stack_ports.md Requests and responses). -/
def Obligations.ChainResponsesAndTimeouts : Prop :=
  ∀ (s : State) (p : Port) (f : ChainFrame) (q : Half) (i : InFlight),
    (f.ok = false → exec (.chainFrame p f) s = .next s) ∧
    (f.ok = true → f.dir = 1#2 → f.typ = 0x83#8 → f.flags.toNat / 16 = 0 → s.portEn p.val = true → (s.port p.val).toneHeld = false →
      s.land.landing ≠ 2 → (s.eng (p.val / 4)).source = .rom → ∃ t, exec (.chainFrame p f) s = .next t ∧
        (t.port p.val).chainSilent = false ∧
        (t.port p.val).inFlight = (s.port p.val).inFlight.eraseP (fun i => i.frame.seq == f.seq && i.frame.typ ||| 0x80#8 == f.typ) ∧
        t.coils = s.coils ∧ t.mode = s.mode ∧ t.pair = s.pair) ∧
    ((s.port p.val).enumSeq = none → (s.port p.val).inFlight.find? (fun j => j.frame.seq == q) = some i → i.resends < 2 → s.chainMay = true →
      ∃ t g, exec (.responseTimeout p q) s = .next t ∧ (t.port p.val).resends = (s.port p.val).resends + 1 ∧ Out.chain p.val g ∈ t.out ∧
        g.seq = i.frame.seq ∧ g.term = i.frame.term ∧ g.flags = i.frame.flags ||| flagRETRY ∧ g.payload = i.frame.payload ∧
        (t.port p.val).inFlight.length = (s.port p.val).inFlight.length) ∧
    ((s.port p.val).enumSeq = none → (s.port p.val).inFlight.find? (fun j => j.frame.seq == q) = some i → 2 ≤ i.resends → i.frame.typ = 0x03#8 →
      ∃ t, exec (.responseTimeout p q) s = .next t ∧
        (t.port p.val).inFlight = (s.port p.val).inFlight.filter (fun j => j.frame.seq != i.frame.seq) ∧
        t.evtBit (psPage p.val) (24 + p.val % 4) = true ∧ t.out = s.out)

/-- TONE, STALE_TERM, CHAIN_SILENT, RECOVERY_PROBE, REENUMERATION, HOPCAL_PERIODIC and HOPCAL_DONE (R89, R100, R102, R103, R105, R373, 03_stack_ports.md Fault tone, R87, R95, R96, R114, 03_stack_ports.md Hop calibration). -/
def Obligations.TonesTermSilenceAndHopCalibration : Prop :=
  (∀ (s : State) (p : Port) (f : ChainFrame),
    let k := p.val
    (f.ok = true → f.dir = 3#2 → f.flags.toNat / 16 = 0 → f.flags.getLsbD 3 = true → (s.port k).toneHeld = false → (s.port k).state = .running →
      s.stw.trace = none → ∃ t, exec (.tone p f) s = .next t ∧ (t.port k).state = .broken ∧ (t.port k).breakHop = f.pl 0 1 ∧ (t.port k).downSince = s.now ∧
        t.evtBit (psPage k) (4 + k % 4) = true ∧ (∀ q, q ≠ k → t.port q = s.port q) ∧ { t with ports := s.ports, pages := s.pages } = s) ∧
    (f.ok = true → f.dir = 3#2 → f.flags.toNat / 16 ≠ 0 → 1 ≤ (s.port k).setRun → ∃ t, exec (.tone p f) s = .next t ∧
        (t.port k).toneHeld = true ∧ (t.port k).toneBits = BitVec.ofNat 4 (f.flags.toNat / 16)) ∧
    (f.ok = true → f.flags.toNat / 16 = 0 → (s.port k).toneHeld = false → f.pl 1 1 = s.term.toNat → newer8 (BitVec.ofNat 8 (f.pl 0 1)) s.term = true →
      s.pair.role = .active → ∃ t, exec (.staleTerm p f) s = .next t ∧ t.pair.role = .passive ∧ t.evtBit (psPage k) (12 + k % 4) = true) ∧
    (f.ok = true → f.flags.toNat / 16 = 0 → (s.port k).toneHeld = false → f.pl 1 1 ≠ s.term.toNat → s.stw.trace = none → ∃ t, exec (.staleTerm p f) s = .next t ∧
        (t.port k).staleIgnored = (s.port k).staleIgnored + 1 ∧ { t with ports := s.ports } = s) ∧
    (s.portEn k = true → (s.port k).chainSilent = false → (s.port k).state = .running → (s.toneOf k).acting = false →
      ∃ t, exec (.chainSilent p) s = .next t ∧ (t.port k).state = .silent ∧ (t.port k).chainSilent = true ∧ (t.port k).toneHeld = false ∧
        (t.port k).downSince = s.now ∧ t.evtBit (psPage k) (k % 4) = true ∧ { t with ports := s.ports, pages := s.pages } = s) ∧
    ((s.port k).state = .silent → 0 < (s.port k).hFound → s.active = true → s.chainMay = true → s.stw.trace = none →
      ∃ t g h, exec (.recoveryProbe p) s = .next t ∧ t.out = Out.chain k h :: Out.chain k g :: s.out ∧ g.typ = 0x0E#8 ∧ h.typ = 0x0E#8 ∧
        g.hop = BitVec.ofNat 6 (s.port k).hFound ∧ h.hop = 1#6 ∧ g.payload.length = 4 ∧ g.term = s.term ∧
        { t with ports := s.ports, out := s.out } = s) ∧
    ((s.port k).state = .recovering → s.portEn k = true → s.strOpen (s.strOfPort k) = true → s.active = true → s.chainMay = true →
      ∃ t, exec (.reenumeration p) s = .next t ∧ (t.port k).state = .enumerating ∧ (t.port k).hFound = 0 ∧ (t.port k).inFlight = [] ∧
        (∃ g, Out.chain k g ∈ t.out ∧ g.typ = 1#8 ∧ g.flags = flagBCAST ∧ g.hop = 0#6) ∧ t.coils = s.coils ∧ t.mode = s.mode)) ∧
  (∀ (s : State) (p : Port) (rtts : List (List Nat)),
    let k := p.val
    let n := (s.port k).hFound
    (s.portEn k = true → (s.port k).state = .running → s.active = true → s.chainMay = true → s.pair.hasPartner = false → s.stw.trace = none →
      ∃ t, exec (.hopcalPeriodic p) s = .next t ∧
        t.out.length = s.out.length + (if n = 0 then 0 else if n = 1 then 16 else 4 * n + 24) ∧
        (t.port (s.series k)).nextSeq = (s.port (s.series k)).nextSeq + BitVec.ofNat 16 (if n = 0 then 0 else if n = 1 then 16 else 4 * n + 24) ∧
        { t with ports := s.ports, out := s.out } = s) ∧
    (0 < n → (s.port k).calibrated = false → ∃ t, exec (.hopcalDone p rtts) s = .next t ∧ (t.port k).calibrated = true ∧
      (let r := fun h => median (rtts.getD (h - 1) [])
       let tu := (r 1 - 10000) / 2
       let th := if n = 1 then 750 else (r n - r 1) / (2 * ((n : Rat) - 1))
       (t.port k).tU = (toUnits (tu * 16)).toNat ∧ (t.port k).tHop = (toUnits (th * 16)).toNat) ∧
      (s.md ≠ .dormant → t.time.sampling = true) ∧ t.mode = s.mode ∧ t.coils = s.coils))

/-- HOPCAL, REENUM, WRLEARN, WBCLR, OFFLEARN, IMG_NOW, RESTORE_DONE, HALL_OPEN and HALL_CLOSE wait for the sample instant (R52, R53, R526, R54, 02_register_pages.md Table 02.5). -/
def Obligations.ShadowedCommands : Prop :=
  ∀ (s : State) (o : Origin) (p : Port) (m : Word),
    let waits := fun (c : Instr) (pg off : Nat) (v : Word) =>
      exec c s = .next { s with shadow := s.shadow ++ [{ origin := o, page := pg, offset := off, value := v }] }
    waits (.hopcal o p) (pPSEQ + p.val / 4) 0x008 (1#32 <<< (20 + p.val % 4)) ∧
    (s.strOpen (s.strOfPort p.val) = true → waits (.reenum o p) (pPSEQ + p.val / 4) 0x008 (1#32 <<< (16 + p.val % 4))) ∧
    (s.strOpen (s.strOfPort p.val) = false → ∃ t, exec (.reenum o p) s = .next t ∧ t.shadow = s.shadow ∧ t.evtBit (pPSEQ + p.val / 4) 31 = true) ∧
    waits (.wrlearn o) pCELL 0x008 1#32 ∧
    ((maskPorts false m).all s.wbClearable = true → waits (.wbclr o false m) pCELL 0x020 m) ∧
    ((maskPorts true m).all s.wbClearable = true → waits (.wbclr o true m) pCELL 0x024 m) ∧
    waits (.offlearn o) pCUR 0x008 1#32 ∧ waits (.imgNow o) pEST 0x008 2#32 ∧ waits (.restoreDone o) pEST 0x008 1#32 ∧
    (s.pinOther o = false → waits (.hallOpen o) pHALL 0x008 1#32) ∧
    (s.pinOther o = true → ∃ t, exec (.hallOpen o) s = .next t ∧ t.shadow = s.shadow ∧ t.hall = s.hall ∧ t.evtBit pHALL 31 = true) ∧
    waits (.hallClose o) pHALL 0x008 2#32

/-- REST_REQ, CAP_DRIFT and WRLEARN_PERIODIC (R134, R166, R170, 06_state_estimation.md R170, 04_cell_sensing.md R134). -/
def Obligations.EstimatorClocksAndWireLearning : Prop :=
  ∀ (s : State) (x : Str),
    (s.fld pEST 0x03C 15 0 ≠ 0 → s.fld pEST 0x03C 15 0 * 3600 * 1000000000 ≤ (s.sctx x.val).noRest → (s.sctx x.val).restReq = false →
      ∃ t, exec (.restReq x) s = .next t ∧ (t.sctx x.val).restReq = true ∧ t.est.restWindow % 60 = 0 ∧ t.evtBit pEST 6 = true ∧
        exec (.restReq x) t = .next t ∧ { t with sctxs := s.sctxs, est := { t.est with restWindow := s.est.restWindow }, gal := s.gal, pages := s.pages } = s) ∧
    (∃ t, exec .capDrift s = .next t ∧ t.est.drift = 0 ∧ { t with ctxs := s.ctxs, est := s.est } = s ∧
      (∀ k, let c := s.ctx k
        (c.started = true → c.epsC ≤ 99/10 → (t.ctx k).epsC = c.epsC + 1/10) ∧ (c.started = true → c.epsC ≤ 10 → (t.ctx k).epsC ≤ 10) ∧
        { t.ctx k with epsC := c.epsC } = c)) ∧
    (∃ t, exec .wrlearnPeriodic s = .next t ∧ { t with ports := s.ports } = s ∧
      (∀ p, t.port p = (if p ∈ s.portsUsed ∧ s.musEn p = true ∧ (s.port p).learn = none ∧ 0 < (s.port p).hFound then
        { s.port p with learn := some (0, 0, 0), learnCmd := false } else s.port p)))

/-- The wake commands and masks, the end of the wake sequence, LANDING_EXIT, WMASK_REARM and DORMANT_ROLE_TIMEOUT (R401, R402, R418, R451, R452, R453, 17_modes_and_landings.md R453, R444, R446, R447, R454, 17_modes_and_landings.md Table 17.10). -/
def Obligations.WakeAndLandings : Prop :=
  (∀ (s : State) (p : Port) (x : CanIx) (n : Nat),
    let asleep := s.md = .dormant ∧ s.land.waking = false ∧ s.land.landing = 3 ∧ s.mode.trans = none ∧ (s.eng 13).source = .rom ∧
      (s.eng 13).next = none ∧ (s.eng 13).running = false
    let wakes := fun (c : Instr) (src : Nat) => ∃ t, exec c s = .next t ∧ t.land.waking = true ∧ t.dev.wakeOut = true ∧
      t.land.wakeSrc = src ∧ t.land.landing ≤ 2 ∧ t.md = .dormant
    (asleep → s.portEn p.val = true → s.land.mask.getLsbD p.val = false → wakes (.wakeTone p) 1) ∧
    (asleep → wakes .wakeIn 3) ∧
    (asleep → (s.can x.val).mode = .sleep → (s.can x.val).wakeMasked = false → s.fld (canPage x.val) 0x008 5 4 = 1 → wakes (.canWake x none) 2) ∧
    (20 < n → s.land.mask.getLsbD p.val = false → ∃ t, exec (.wakePatternMask p n) s = .next t ∧
      t.land.mask = s.land.mask ||| (1#48 <<< p.val) ∧ t.evtBit pLAND 1 = true ∧ t.land.waking = s.land.waking ∧ t.mode = s.mode) ∧
    (5000 < n → (s.can x.val).wakeMasked = false → exec (.wakeMasked x n) s =
      .next (((s.updCan x.val (fun c => { c with wakeMasked := true })).logN 0x0B08 [x.val, n]).raise (canPage x.val) 7))) ∧
  (∀ (s : State) (o : Origin) (high : Bool) (m quiet : Word) (at_ : Nat),
    let ended := s.land.waking = true ∧ s.active = true ∧ s.portsDone = true ∧ s.authDone = true
    (ended → s.mode.reqCauses = 0#5 → exec .wakeSequenceDone s = .next { s with mode := { s.mode with trans := some { target := .ready, origin := 0 } } }) ∧
    (ended → s.mode.reqCauses ≠ 0#5 → exec .wakeSequenceDone s = .next { s with land := { s.land with waking := false } }) ∧
    (¬ ended → exec .wakeSequenceDone s = .next s) ∧
    (s.land.exitAt = some at_ → ∃ t, exec .landingExit s = .next t ∧ t.now = Nat.max s.now at_ ∧ t.land.exitAt = none ∧ t.land.landing ≤ 1 ∧
      (3 ≤ s.land.landing → t.land.landing = 0 ∧ ∀ x < 4, (t.can x).asleep = false)) ∧
    (s.stwBarred o = false → s.mgmt.restarting = false → m &&& ~~~quiet = 0#32 → ∃ t, exec (.wmaskRearm o high m quiet) s = .next t ∧
      t.land = { s.land with mask := s.land.mask &&& ~~~(if high then m.setWidth 48 <<< 32 else m.setWidth 48) } ∧
      (t.page pLAND).cfgseq = (s.page pLAND).cfgseq + 1#32 ∧ { t with land := s.land, pages := s.pages, out := s.out } = s) ∧
    (s.stwBarred o = false → s.mgmt.restarting = false → m &&& ~~~quiet ≠ 0#32 → ∃ t, exec (.wmaskRearm o high m quiet) s = .next t ∧
      t.evtBit pLAND 31 = true ∧ { t with pages := s.pages, out := s.out } = s) ∧
    (s.pair.waitUntil = some at_ → s.land.waking = true → s.pair.role = .standby → ∃ t, exec .dormantRoleTimeout s = .next t ∧
      t.pair = { s.pair with role := .active, term := s.pair.term + 1#8, sync := .none, waitUntil := none, changed := true } ∧
      t.now = Nat.max s.now at_ ∧ t.land.waking = true ∧ t.mode = s.mode))

/-- Current channels lost, recovered, taken and learned; OC_TRIP, OC_CLEAR and BRK_HOLD_CLEAR (R139, R140, R145, R146, R148, R149, R150, 05_string_current.md Table 05.2, R152, R153, R253, R256). -/
def Obligations.CurrentMeasurementAndOverCurrent : Prop :=
  (∀ (s : State) (c : Str) (bit : Bool) (bytes : List Byte) (n : Phase) (ns : Nat) (ones : List Nat),
    let k := c.val
    let h := s.chan k
    (h.lost = false → exec (.streamLost c bit) s = .next (((s.setChan k { h with
      lost := true, lostG := h.g, lostFrom := s.now, a := if bit then h.a - 32 else h.a + 32, g := h.g + 32, window := none }).log 0x0301 [BitVec.ofNat 32 k, s.time.epoch]).raise pCUR 3)) ∧
    (h.lost = true →
      let g := h.g + (s.now - h.lostFrom) / 100
      exec (.streamRecovered c) s = .next ((s.setChan k { h with
        lost := false, recovered := some s.now, g := g, lostFrom := h.lostFrom + (s.now - h.lostFrom) / 100 * 100 }).logN 0x0302 [k, g - h.lostG])) ∧
    (h.statusBad = true → exec (.tempStale c) s =
      .next ((s.reach (h.statusBadAt + 60000000000)).setChan k { h with tempStale := true })) ∧
    (statusOk bytes = true → (bytes.getD 4 0#8).getLsbD 1 = false → (bytes.getD 4 0#8).getLsbD 2 = false →
      exec (.modStatusFrame (.string c) bytes) s = .next (s.setChan k { h with
        statusRun := 0, statusBad := false, dieT := toSigned 16 (leAt bytes 2 2), tempStale := false, statusCount := bytes.getD 5 0#8 })) ∧
    (statusOk bytes = false → h.statusRun = 3 → h.statusBad = false → exec (.modStatusFrame (.string c) bytes) s =
      .next (((s.setChan k { h with statusRun := 4, statusBad := true, statusBadAt := s.now }).log 0x0303
        [BitVec.ofNat 32 k, BitVec.ofInt 32 h.dieT]).raise pCUR 4)) ∧
    (∃ t, exec (.clkTaken n ns ones true) s = .next t ∧ t.clkPresent = s.clkPresent ||| (1#6 <<< n.val) ∧
      (∀ j < 8, (t.chan (8 * n.val + j)).interp = true ∧ ((s.chan (8 * n.val + j)).lost = true → (t.chan (8 * n.val + j)).a = (s.chan (8 * n.val + j)).a)) ∧
      (∀ j, j < 8 * n.val ∨ 8 * n.val + 8 ≤ j → t.chan j = s.chan j) ∧ { t with chans := s.chans, clkPresent := s.clkPresent } = s) ∧
    (s.mayLearn k = true → s.tEpoch ≠ 0 → ∃ t w, exec (.offsetWindowStart c) s = .next t ∧
      t = s.setChan k { h with window := some w, learnReq := false } ∧ w.a = h.snap.a ∧ w.b = h.snap.b ∧
      (w.endAt - s.tOf s.time.epoch) % s.tEpoch = 0 ∧ s.tOf s.time.epoch + s.fld pCUR 0x020 31 16 * 1000000000 ≤ w.endAt) ∧
    (∀ w, h.window = some w → (w.b : Int) < h.snap.b →
      let off := toUnits (mkRat (s.signOf k * (h.snap.a - w.a)) ((h.snap.b : Int) - w.b).toNat * 2147483648)
      absI (off - s.genOffset k) ≤ s.item 10 k → exec (.offsetLearned c) s =
        .next ((((s.reach w.endAt).setChan k { h with
          window := none, lastLearn := some (Nat.max s.now w.endAt), newOffset := some off, offsetSuspect := false }).log 0x0307 [BitVec.ofNat 32 k, BitVec.ofInt 32 (s.offsetOf k), BitVec.ofInt 32 off]).raise pCUR 5))) ∧
  (∀ (s : State) (c : Str) (o1 o2 o3 o4 : Int),
    let k := c.val
    let outs := [o1, o2, o3, o4]
    let beyondAll := (s.chan k).lost = false ∧ (∀ i ∈ outs, s.ocTh k false < i)
    let opened := fun (t : State) => (t.str k).st = .opening ∧ t.waitOf k = {} ∧ (∀ x ∈ s.chansOf k, (t.coil x).closeSeq = none) ∧
      (∀ x, x ∉ s.chansOf k → t.coil x = s.coil x) ∧ (∀ y, y ≠ k → t.str y = s.str y)
    (beyondAll → absI o4 < s.brkOf k o4 → (s.chan k).brkHold = false → s.isOpen k = false →
      ∃ t, exec (.ocTrip c outs) s = .next t ∧ (t.chan k).oc = true ∧ (t.chan k).iNow = o4 ∧ opened t) ∧
    (beyondAll → s.brkOf k o4 ≤ absI o4 → (s.chan k).brkHold = false → ∃ t, exec (.ocTrip c outs) s = .next t ∧ (t.chan k).oc = true ∧
      (t.chan k).brkHold = true ∧ (t.chan k).owed = true ∧ 3 ≤ t.secLevel ∧ t.zeroChg = true ∧ t.zeroDis = true) ∧
    ((s.chan k).lost = false → (s.chan k).oc = true → (s.chan k).ocDis = false → (∀ i ∈ outs, i * 10 < s.ocTh k false * 9) →
      exec (.ocClear c outs) s = .next (s.setChan k { s.chan k with oc := false, iNow := o4 })) ∧
    ((s.chan k).lost = false → (s.chan k).brkHold = true → (s.chan k).owed = true → (∀ i ∈ outs, absI i * 100 < s.brkOf k i * 95) →
      s.isOpen k = false → ∃ t, exec (.brkHoldClear c outs) s = .next t ∧ (t.chan k).brkHold = false ∧ (t.chan k).owed = false ∧ opened t))

/-- The ALU instructions of the stair code, the operand forms, and s0 that reads 0 and discards writes (R204, R205, R206, R207, 08_stair_code.md Table 08.4, 08_stair_code.md Tables 08.2 and 08.3). -/
def Obligations.AluInstructionResultsAndOperandForms : Prop :=
  (∀ (e : Engine) (d : RegIx) (op : Opnd) (s : State), s.engCan e.val = true →
    let g := s.eng e.val
    let a := g.reg d
    let b := g.opS op
    let z := g.opZ op
    let sat := fun (i : Int) => BitVec.ofInt 32 (if i < -2147483648 then -2147483648 else if 2147483647 < i then 2147483647 else i)
    let after := fun (units : Nat) (v : Word) =>
      s.setEng e.val { g.setReg d v with pc := g.pc + (1 + opExt op), units := g.units + (units + opExt op) }
    exec (.mov e d op) s = .next (after 1 b) ∧ exec (.add e d op) s = .next (after 1 (a + b)) ∧
    exec (.sub e d op) s = .next (after 1 (a - b)) ∧ exec (.mul e d op) s = .next (after 2 (a * b)) ∧
    exec (.mulq e d op) s = .next (after 2 (sat (Int.fdiv (a.toInt * b.toInt) 65536))) ∧
    exec (.div e d op) s = .next (s.setEng e.val
      { g.setReg d (if b = 0#32 then (if 0 ≤ a.toInt then 0x7FFFFFFF#32 else 0x80000000#32) else sat (Int.tdiv a.toInt b.toInt)) with
        pc := g.pc + (1 + opExt op), units := g.units + (16 + opExt op), div0 := g.div0 || b == 0#32 }) ∧
    exec (.and e d op) s = .next (after 1 (a &&& z)) ∧ exec (.or e d op) s = .next (after 1 (a ||| z)) ∧
    exec (.xor e d op) s = .next (after 1 (a ^^^ z)) ∧ exec (.shl e d op) s = .next (after 1 (a <<< (z.toNat % 32))) ∧
    exec (.shr e d op) s = .next (after 1 (a >>> (z.toNat % 32))) ∧
    exec (.sra e d op) s = .next (after 1 (a.sshiftRight (z.toNat % 32))) ∧
    exec (.min e d op) s = .next (after 1 (if b.toInt < a.toInt then b else a)) ∧
    exec (.max e d op) s = .next (after 1 (if a.toInt < b.toInt then b else a))) ∧
  (∀ (g : Eng) (a d r : RegIx) (w : Half) (v : Word),
    g.opS (.reg a) = g.reg a ∧ g.opZ (.reg a) = g.reg a ∧ g.opS (.imm a) = BitVec.ofNat 32 a.val ∧ g.opZ (.imm a) = BitVec.ofNat 32 a.val ∧
    g.opS (.ext w) = w.signExtend 32 ∧ g.opZ (.ext w) = w.zeroExtend 32 ∧ (g.opS (.extHi w)).toNat = w.toNat * 65536 ∧
    g.opZ (.extHi w) = g.opS (.extHi w) ∧ g.reg 0 = 0#32 ∧ g.setReg 0 v = g ∧
    (d ≠ 0 → (g.setReg d v).reg d = v) ∧ (r ≠ d → (g.setReg d v).reg r = g.reg r))

/-- LD, ST, LDC, CLAMP and TLERP: what each reads, stores and leaves (R204, R206, R207, R209, R210, 08_stair_code.md Tables 08.4 and 08.7). -/
def Obligations.EngineMemoryInstructionResults : Prop :=
  ∀ (e : Engine) (d a : RegIx) (off : Option Half) (table : Half) (s : State), s.engCan e.val = true →
    let g := s.eng e.val
    let ad := g.addr a off
    let past := fun (g : Eng) (ws units : Nat) => { g with pc := (s.eng e.val).pc + ws, units := (s.eng e.val).units + units }
    let at1 := fun (units : Nat) => s.setEng e.val (past g (1 + offExt off) (units + offExt off))
    (∀ w t, (at1 (if e.val = 12 ∧ 0x10000 ≤ ad ∧ ad < 0x20000 then 6 else 2)).engRead e.val ad = some (w, t) →
      exec (.ld e d a off) s = .next (t.updEng e.val (fun g => g.setReg d w))) ∧
    (ad < dataWords e.val → exec (.st e d a off) s =
      .next (s.setEng e.val { past g (1 + offExt off) (2 + offExt off) with data := sset 0#32 g.data ad (g.reg d) })) ∧
    (e.val < 12 → 0x1000 ≤ ad → ad < 0x1400 → exec (.st e d a off) s = .next ((at1 2).setTxb (16 * e.val + (ad - 0x1000) / 64)
      { s.txb (16 * e.val + (ad - 0x1000) / 64) with
        words := sset 0#32 (s.txb (16 * e.val + (ad - 0x1000) / 64)).words ((ad - 0x1000) % 64) (g.reg d), fresh := true })) ∧
    (ad = 0x3004 → exec (.st e d a off) s = .next (s.setEng e.val { past g (1 + offExt off) (2 + offExt off) with
        timer := if g.reg d = 0#32 then none else some (s.now + (g.reg d).toNat * 1000) })) ∧
    (e.val < 12 → 0x300C ≤ ad → ad < 0x3010 → exec (.st e d a off) s =
      .next (s.setEng e.val { past g (1 + offExt off) (2 + offExt off) with reserve := sset 0#32 g.reserve (ad - 0x300C) (g.reg d) })) ∧
    (ad < constWords e.val → g.romWord ad = false → exec (.ldc e d a off) s =
      .next (s.setEng e.val (past (g.setReg d (sget 0#32 g.consts ad)) (1 + offExt off) (2 + offExt off)))) ∧
    (a ≠ 15 → exec (.clamp e d a) s = .next (s.setEng e.val
      (past (g.setReg d (minW (maxW (g.reg d) (g.reg a)) (g.reg (a + 1)))) 1 2))) ∧
    (let n := (sget 0#32 g.consts table.toNat).toNat % 256
     let c := fun (i : Nat) => (sget 0#32 g.consts (table.toNat + i)).toInt
     exec (.tlerp e d a table) s = .next (s.setEng e.val
      (past (g.setReg d (sat32 (tlerpTab ((List.range n).map (fun i => c (1 + i))) ((List.range n).map (fun i => c (1 + n + i)))
        (g.reg a).toInt))) 2 (12 + clog2 n))))

/-- BR, BRU, CALL, RET, WAIT and HALT of a running engine (R206, R207, R208, R211, R212, 08_stair_code.md Table 08.4). -/
def Obligations.EngineControlFlowResults : Prop :=
  ∀ (e : Engine) (d a : RegIx) (c : Cond) (target mask : Half) (s : State), s.engCan e.val = true →
    let g := s.eng e.val
    let goto := fun (yes : Bool) (t : Nat) => s.setEng e.val { g with pc := if yes then t else g.pc + 2, units := g.units + 3 }
    let x := g.reg d
    let y := g.reg a
    exec (.br e d a c target) s = .next (goto (match c with
      | .eq => x == y | .ne => x != y | .lt => x.slt y | .ge => !(x.slt y)) target.toNat) ∧
    exec (.bru e d a c target) s = .next (goto (match c with
      | .eq => x == y | .ne => x != y | .lt => x.ult y | .ge => !(x.ult y)) target.toNat) ∧
    (g.stack.length < 4 → exec (.call e target) s =
      .next (s.setEng e.val { g with pc := target.toNat, units := g.units + 3, stack := (g.pc + 2) :: g.stack })) ∧
    (∀ r t, g.stack = r :: t → 4 ≤ g.ext → exec (.ret e) s =
      .next (s.setEng e.val { g with pc := r, units := g.units + 2, stack := t })) ∧
    (let m := Nat.land mask.toNat (engTriggers e.val)
     (g.reg d).toNat ≠ 0 → lowBit (Nat.land g.trig.toNat m) = none → exec (.wait e d mask) s =
      .next (s.setEng e.val { g with pc := g.pc + 2, units := g.units + 3,
                                     wait := some ⟨m, some (s.now + (g.reg d).toNat * 1000), d⟩ })) ∧
    (4 ≤ g.ext → g.next = none → g.trig = 0#6 → e.val ≠ 13 → exec (.halt e) s =
      .next (s.setEng e.val { g with pc := g.pc + 1, units := g.units + 1, running := false, wait := none }))

/-- The port and event instructions of the stair code and the events of its engines (R207, R217, R218, R219, R220, R221, R222, 08_stair_code.md Tables 08.4 and 08.8, R212, R213, R215, 08_stair_code.md Tables 08.5, 08.6 and 08.11). -/
def Obligations.EnginePortAndEventInstructions : Prop :=
  (∀ (e : Engine) (d a r : RegIx) (p : Port) (b : Fin 4) (s : State),
    let g := s.eng e.val
    let past := fun (units : Nat) (v : Word) => { g.setReg d v with pc := g.pc + 1, units := g.units + units }
    let k := (g.reg a).toNat
    let rp := 4 * e.val + k
    let tb := 16 * e.val + k
    let w0 := sget 0#32 (s.txb tb).words 0
    let tp := 4 * e.val + k / 4
    let slotNo := (g.reg r).toNat
    (s.engCan e.val = true → e.val < 12 → k < 4 → ∀ i rest, (s.rxp rp).unread = i :: rest → exec (.recv e d a) s =
      .next ((s.setEng e.val (past 2 (BitVec.ofNat 32 (8 * k + i)))).setRxp rp { s.rxp rp with unread := rest, held := some i })) ∧
    (s.engCan e.val = true → e.val < 12 → k < 4 → (s.rxp rp).unread = [] → exec (.recv e d a) s =
      .next ((s.setEng e.val (past 2 0xFFFFFFFF#32)).setRxp rp { s.rxp rp with held := none })) ∧
    (s.engCan e.val = true → e.val < 12 → k < 16 → (s.txb tb).queued = true → exec (.send e d a) s =
      .next (s.setEng e.val (past 4 3#32))) ∧
    (s.engCan e.val = true → e.val < 12 → k < 16 → (s.txb tb).queued = false → field w0 7 0 ∉ [0x01, 0x08, 0x0E] → field w0 24 24 = 0 →
      s.active = true → ∃ t, exec (.send e d a) s = .next t ∧ (t.txb tb).queued = true ∧
        (t.txb tb).seq = (s.port (s.series tp)).nextSeq ∧ (t.port (s.series tp)).nextSeq = (s.port (s.series tp)).nextSeq + 1 ∧
        t.eng e.val = past 4 0#32 ∧
        { t with engs := s.engs, txs := s.txs, ports := s.ports, stw := s.stw, out := s.out } = s) ∧
    (s.engCan e.val = true → e.val = 12 → slotNo ≤ 195 → exec (.emit e d (.reg r)) s =
      .next ((s.setEng e.val { g with pc := g.pc + 1, units := g.units + 2 }).setSlotOf slotNo
        { s.slotOf slotNo with value := (g.reg d).toNat, emitted := true })) ∧
    (s.engCan e.val = true → e.val = 13 → slotNo = 2 → exec (.emit e d (.reg r)) s =
      .next { s.setEng e.val { g with pc := g.pc + 1, units := g.units + 2 } with land := { s.land with wakePayload := g.reg d } }) ∧
    (s.engCan e.val = true → e.val < 12 → slotNo ≤ 7 → (g.reg d).toNat < 32 →
      (rxFrame (sget [] (s.rxp (4 * e.val + (g.reg d).toNat / 8)).bufs ((g.reg d).toNat % 8))).typ ≠ slotType slotNo →
      exec (.emit e d (.reg r)) s = .next ((s.setEng e.val { g with pc := g.pc + 1, units := g.units + 2 }).updPort
        (4 * e.val + (g.reg d).toNat / 8) (fun t => { t with emitMismatch := t.emitMismatch + 1 }))) ∧
    (let x := 4 * p.val + b.val
     (s.txb x).queued = true → ∃ t, exec (.txdone p b) s = .next t ∧ (t.txb x).queued = false ∧
      sget 0#32 (t.txb x).words 61 = BitVec.ofNat 32 (s.now - afterHcrc (field (sget 0#32 (s.txb x).words 0) 31 25)) ∧
      (∀ y, y ≠ x → t.txb y = s.txb y) ∧ t.rxs = s.rxs ∧ t.slots = s.slots)) ∧
  (∀ (e : Engine) (s : State),
    let g := s.eng e.val
    (∀ m t d, g.wait = some ⟨m, some t, d⟩ → exec (.waitTimeout e) s =
      .next ((s.reach t).setEng e.val { g.setReg d 0xFF#32 with wait := none })) ∧
    (∀ t, g.timer = some t → e.val ≠ 13 → s.land.landing ≠ 2 → g.running = true → g.wait = none → g.source = .genImage →
      exec (.engineTimer e) s = .next ((s.reach t).setEng e.val { g with
        timer := none, trig := g.trig ||| 4#6, merged := if g.trig.getLsbD 2 then Nat.min 255 (g.merged + 1) else g.merged })) ∧
    (g.running = true → g.stopped = false → g.source = .genImage → g.falling = false → g.outRun < 2 → s.budget e.val ≤ g.units → e.val ≠ 13 →
      s.gal.fifo.length < Config.appendMax → ∃ u, exec (.budgetOut e) s = .next u ∧
      u.eng e.val = { g with out := true, outRun := g.outRun + 1, running := false, wait := none, stopped := true, ext := 4 } ∧
      u.gal.fifo = s.gal.fifo ++ [s.galEntry 0x0E43 [BitVec.ofNat 32 e.val, s.time.epoch, BitVec.ofNat 32 g.pc]] ∧
      u.evtBit pCODE 1 = true ∧ { u with engs := s.engs, gal := s.gal, pages := s.pages } = s))

/-- The forms that fault an engine: cause, record, and the stop of an expert program (R204, R208, R209, R211, R223, R225, R228, 08_stair_code.md Table 08.11). -/
def Obligations.EngineFaultsOfR225 : Prop :=
  ∀ (e : Engine) (d a r : RegIx) (off : Option Half) (t : Half) (s : State),
    let g := s.eng e.val
    s.engCan e.val = true → g.source = .genImage → g.falling = false → e.val ≠ 13 → s.gal.fifo.length + 1 < Config.appendMax →
    let faults := fun (c : Instr) (cause : Nat) => ∃ u, exec c s = .next u ∧
      (u.eng e.val).faults = Nat.min 255 (g.faults + 1) ∧ (u.eng e.val).running = false ∧ (u.eng e.val).stopped = true ∧
      (u.eng e.val).falling = true ∧ (u.eng e.val).regs = g.regs ∧ (u.eng e.val).data = g.data ∧
      u.gal.fifo = s.gal.fifo ++ [s.galEntry 0x0E42 [BitVec.ofNat 32 e.val, BitVec.ofNat 32 g.pc, BitVec.ofNat 32 cause],
        s.galEntry 0x0E44 [BitVec.ofNat 32 e.val, 1#32, g.imgCrc]] ∧
      u.evtBit pCODE 3 = true ∧ u.evtBit pCODE 2 = true ∧ (∀ k, k ≠ e.val → u.eng k = s.eng k) ∧
      { u with engs := s.engs, gal := s.gal, pages := s.pages } = s
    faults (.clamp e d 15) 0 ∧
    (dataWords e.val ≤ g.addr a off → g.addr a off < 0x1000 ∨ 0x20000 ≤ g.addr a off → faults (.ld e d a off) 1 ∧ faults (.st e d a off) 1) ∧
    (constWords e.val ≤ g.addr a off → faults (.ldc e d a off) 1) ∧
    (g.stack.length = 4 → faults (.call e t) 2) ∧ (g.stack = [] → faults (.ret e) 2) ∧
    (g.reg d = 0#32 → Nat.land t.toNat (engTriggers e.val) = 0 → faults (.wait e d t) 3) ∧
    (slotMax e.val < (g.reg r).toNat → faults (.emit e d (.reg r)) 4)

/-- CODE_DATA, LOAD, CODE_ABORT and the partner's verdict (R230, R232, 08_stair_code.md CODE page). -/
def Obligations.CodePageCommands : Prop :=
  ∀ (o : Origin) (v : Word) (s : State), s.md = .commission → s.mgmt.restarting = false → s.stwBarred o = false →
    let a := s.fld pCODE 0x020 15 0
    let done := fun (u t : State) => t = (u.bumpCfg pCODE).answer o 0 []
    (∃ t, exec (.codeData o v) s = .next t ∧
      (∀ k, t.code.buf.get k = if a ≤ k ∧ k < a + 4 then (v >>> (8 * (k - a))).setWidth 8 else s.code.buf.get k) ∧
      (t.reg pCODE 0x020).toNat = (a + 4) % 65536 ∧ (t.page pCODE).cfgseq = (s.page pCODE).cfgseq + 1#32 ∧
      { t with code := { t.code with buf := s.code.buf }, regs := s.regs, pages := s.pages, out := s.out } = s) ∧
    (∀ r w, s.unlockedFor o pCODE = true → verifyImage s.codeImage = some (r, w) →
      exec (.load o) s = .next (((s.codeRefuse (leAt s.codeImage 4 1) r w).bumpCfg pCODE).answer o 0 [])) ∧
    (s.unlockedFor o pCODE = true → verifyImage s.codeImage = none → s.pair.hasPartner = false →
      ∃ t, exec (.load o) s = .next t ∧ done { s with code := { s.code with result := 1, reason := 0, errWord := 0, ready := some s.codeImage } } t) ∧
    (∃ t, exec (.codeAbort o) s = .next t ∧
      done { s with code := { s.code with buf := [], waiting := none, result := 0, reason := 0, errWord := 0 } } t) ∧
    (∀ l, s.code.waiting = some l →
      exec (.partnerVerify true) s = .next { s with code := { s.code with waiting := none, ready := some l } })

/-- Grading of a quantity through the levels; DATA_STALL requests zero current, DATA_STALL_OPEN_ALL raises level 5 (R241, R242, R243, 09_limits_and_disconnect.md Table 09.4, R16, R249, R250, 01_planes_and_epochs.md Data stall). -/
def Obligations.GradingLevelsAndDataStall : Prop :=
  (∀ (s : State) (x q : Nat) (v : Rat), s.graded x q = some v → lossQ q = false → (signedQ q = true → (s.hep x).tRead = true) →
    s.auto q = false →
    let l := s.level (16 * x + q)
    let t := (s.gradeOne x q).level (16 * x + q)
    let run := fun (k : Nat) => if beyond q v (s.th q k) then l.outw.getD (k - 1) 0 + 1 else 0
    let inw := fun (k : Nat) => if inwardOf q v (s.th q k) then l.inward.getD (k - 1) 0 + 1 else 0
    let enters := fun (k : Nat) => (s.th q k).isSome && decide (0 < run k) && decide (s.deb q k ≤ run k)
    (∀ k, 1 ≤ k → k ≤ 5 → t.outw.getD (k - 1) 0 = run k) ∧ (∀ k, 1 ≤ k → k ≤ 3 → t.inward.getD (k - 1) 0 = inw k) ∧
    (∀ k, 1 ≤ k → k ≤ 3 → t.entered.getLsbD (k - 1) =
      (if l.entered.getLsbD (k - 1) then !(decide (0 < inw k) && decide (s.clr q ≤ inw k)) else enters k)) ∧
    (∀ k, 4 ≤ k → k ≤ 5 → t.entered.getLsbD (k - 1) = (l.entered.getLsbD (k - 1) || enters k))) ∧
  (∀ (s : State),
    (s.md.running = true → s.prot.dataStall = false → ∃ t, exec .dataStall s = .next t ∧ t.prot.dataStall = true ∧ t.prot.stallLevel = 3 ∧
      t.now = Nat.max s.now (s.prot.lastCommit + 4 * s.tEpoch) ∧ t.prot.stallSince = t.now ∧ t.zeroChg = true ∧ t.zeroDis = true ∧
      t.evtBit pPROT 7 = true ∧ t.mode = s.mode ∧ t.scor = s.scor ∧ t.ban = s.ban) ∧
    (s.prot.dataStall = true → s.prot.stallLevel = 3 → s.join.sec = .run ∨ s.join.sec = .idle → s.mode.trans = none →
      ∃ t, exec .dataStallOpenAll s = .next t ∧ t.prot.stallLevel = 5 ∧ t.now = Nat.max s.now (s.prot.stallSince + 1000000000) ∧
        t.coils = s.coils ∧
        t.mode.trans = (if s.md = .joining ∨ s.md = .online then some { target := .ready, origin := 0, afterOpenings := true } else none) ∧
        (∀ x ∈ s.strings, s.isOpen x = false → (t.waitOf x).waiting = true ∧ (t.waitOf x).deadline ≤ t.now + s.tWait)))

/-- GRADING, PROT_CLEAR, PROT_FRAME_REPEAT, INSULATION_STATUS and INS_TIMEOUT (R241, R242, R243, R246, R251, 09_limits_and_disconnect.md Table 09.5, R247, R248, R249, 09_limits_and_disconnect.md Insulation). -/
def Obligations.GradingClearRequestsAndInsulation : Prop :=
  (∀ (s : State) (o : Origin),
    (∃ t, exec .grading s = .next t ∧ t.prot.frameEpoch = s.prot.lastCommitEpoch ∧ t.now = s.now ∧
      (∀ x ∈ s.strings, ∀ q < 9, s.graded x q = none → lossQ q = false → (t.level (16 * x + q)).entered = (s.level (16 * x + q)).entered)) ∧
    (∃ t, exec (.protClear o) s = .next t ∧ (t.page pPROT).cfgseq = (s.page pPROT).cfgseq + 1#32 ∧
      (∀ x < 48, ∀ q < 9, (t.level (16 * x + q)).entered = (if (s.level (16 * x + q)).latched && s.rearmed x q then
        (s.level (16 * x + q)).entered &&& 7#5 else (s.level (16 * x + q)).entered)) ∧ t.coils = s.coils ∧ t.waits = s.waits ∧ t.mode = s.mode) ∧
    (∀ k, s.anyWait = true → s.ctlBuf 0 = some k → (s.buf k).st ≠ .sending → ∃ t, exec .protFrameRepeat s = .next t ∧
      (t.buf k).st = .queued ∧ (t.buf k).words = packWords false true ((s.item 21 8).toNat / 2 ^ 29 % 2 == 1) true false (s.item 21 8).toNat 10
        (leBytes 4 s.prot.frameEpoch.toNat ++ [s.term, BitVec.ofNat 8 s.prot.frameFlags] ++ leBytes 6 s.prot.frameStrings.toNat ++ [0#8, 0#8, 0#8, 0#8]) ∧
      (∀ j, j ≠ k → t.buf j = s.buf j) ∧ { t with bufs := s.bufs } = s)) ∧
  (∀ (s : State) (f : CanFrame),
    (4 ≤ f.data.length → s.prot.insCounter ≠ some (f.data.getD 3 0#8) → (f.data.getD 2 0#8).getLsbD 0 = true →
      (f.data.getD 2 0#8).getLsbD 1 = false → exec (.insulationStatus f) s = .next { s.fifo0Take f with prot := { s.prot with
        insCounter := some (f.data.getD 3 0#8), insKohm := (f.data.getD 0 0#8).toNat + 256 * (f.data.getD 1 0#8).toNat, insSeen := true,
        insAt := s.now, insStale := false } }) ∧
    (s.prot.insStale = false → ∃ t, exec .insTimeout s = .next t ∧ t.prot.insStale = true ∧ t.evtBit pPROT 8 = true ∧
      t.now = Nat.max s.now (s.prot.insAt + s.fld pPROT 0x028 31 16 * 1000000) ∧ s.fld pPROT 0x028 2 0 ≤ t.lvl 48 9 ∧
      t.prot.insKohm = s.prot.insKohm))

/-- BREAK_SAFE_OPEN, DISCONNECT_DEADLINE and BRK_WAIT_OPEN: both contactors of the string open, and of no other (R253, R254, R255, R256, R257, R265, 09_limits_and_disconnect.md Table 09.6). -/
def Obligations.DisconnectOpensTheString : Prop :=
  ∀ (s : State) (x : Str) (i j : Int), (s.waitOf x.val).waiting = true → (s.chan x.val).lost = false →
    let opens := fun (c : Instr) (now : Nat) => ∃ t, exec c s = .next t ∧ t.now = now ∧ (t.str x.val).st = .opening ∧ t.waitOf x.val = {} ∧
      (∀ k ∈ s.chansOf x.val, (t.coil k).closeSeq = none ∧ (t.coil k).openedAt = some now) ∧
      (∀ k, k ∉ s.chansOf x.val → t.coil k = s.coil k) ∧
      (∀ y, y ≠ x.val → t.str y = s.str y ∧ t.waitOf y = s.waitOf y) ∧ t.mode = s.mode ∧ t.prot = s.prot ∧ t.regs = s.regs
    (absI i < s.iBS x.val → absI j < s.iBS x.val → opens (.breakSafeOpen x i j) s.now) ∧
    (absI i < s.brkOf x.val i → opens (.disconnectDeadline x i) (Nat.max s.now (s.waitOf x.val).deadline)) ∧
    ((s.waitOf x.val).brkWait = true → absI i < s.brkOf x.val i → opens (.brkWaitOpen x i) s.now) ∧
    (s.brkOf x.val i ≤ absI i → (s.waitOf x.val).brkWait = false → ∃ t, exec (.disconnectDeadline x i) s = .next t ∧
      t.waitOf x.val = { s.waitOf x.val with brkWait := true } ∧ t.coils = s.coils ∧ t.strs = s.strs ∧ t.evtBit pPROT 6 = true ∧
      3 ≤ t.secLevel)

/-- ACTUATOR_REFRESH, QD_RESPONSE, QD_LOST and OPEN_FAIL (R263, R264, R265, R266, R268, R269, R270, R271, 10_rolling_join.md Tables 10.1, 10.2). -/
def Obligations.ActuatorLinkCommands : Prop :=
  ∀ (s : State) (n : Qd) (link : Fin 2) (c : Chan) (bytes : List Byte),
    let r := s.now / 1000000 + 1
    let u : State := { s.reach (r * 1000000) with acSeq := r % 65536 }
    let b := fun i => (bytes.getD i 0#8).toNat
    let ok := bytes.length = 16 ∧ b 0 = 0x5C ∧ (crc16 ((bytes.drop 1).take 13)).toNat = leAt bytes 14 2
    let q := 8 * link.val + b 1 % 8
    u.now = r * 1000000 ∧
    (s.alSilent = true → exec .actuatorRefresh s = .next u) ∧
    (s.alSilent = false → ∃ t, exec .actuatorRefresh s = .next t ∧
      t.out = (((List.range 16).filter s.qdPresent).map (fun n => Out.qd n (qdFrame n s.term (r % 65536)
        ((List.range 8).foldl (fun a k => a + u.reqOf (r % 65536) (8 * n + k) * 4 ^ k) 0)))).reverse ++ s.out ∧
      (∀ n < 16, t.qd n = if s.qdPresent n then { s.qd n with missed := (s.qd n).missed + 1, good := if (s.qd n).missed = 0 then (s.qd n).good else 0 } else s.qd n) ∧
      { t with out := s.out, qds := s.qds } = { u with out := s.out, qds := s.qds }) ∧
    (ok → (b 1) / 16 % 2 = 0 → b 7 = 0 → b 8 = 0 → leAt bytes 10 2 < 50 → ∃ t, exec (.qdResponse link bytes) s = .next t ∧
      t.out = s.out ∧ t.strs = s.strs ∧ t.mode = s.mode ∧ t.pair = s.pair ∧
      (t.qd q).missed = 0 ∧ (t.qd q).good = (s.qd q).good + 1 ∧ (t.qd q).term = bytes.getD 2 0#8 ∧ (∀ m, m ≠ q → t.qd m = s.qd m) ∧
      (∀ k < 8, (t.coil (8 * q + k)).coil = (b 5 / 2 ^ k % 2 == 1) ∧ (t.coil (8 * q + k)).auxRaw = (b 6 / 2 ^ k % 2 == 1) ∧
        (t.coil (8 * q + k)).cfault = false ∧ (t.coil (8 * q + k)).aux = (s.coil (8 * q + k)).aux ∧
        (t.coil (8 * q + k)).closeSeq = (s.coil (8 * q + k)).closeSeq)) ∧
    (¬ ok → exec (.qdResponse link bytes) s = .next s) ∧
    ((s.qd n.val).lost = false → exec (.qdLost n) s = .next (((s.setQd n.val { s.qd n.val with lost := true, good := 0 }).logN 0x0608
      [n.val / 8, n.val % 8, (s.qd n.val).missed]).raise pACT 7)) ∧
    ((s.qd n.val).lost = true → exec (.qdLost n) s = .next s) ∧
    (∀ at_, (s.coil c.val).openedAt = some at_ → (s.coil c.val).aux = true → (s.coil c.val).openFail = false →
      exec (.openFail c) s = .next (((s.setCoil c.val { s.coil c.val with openFail := true }).logN 0x0602
        [c.val, 1, (s.now - at_) / 1000000]).raise pACT 1))

/-- AUX_DEBOUNCED moves the join on or is a finding; CLOSE_FAIL opens and disarms (R272, R274, R277, R278, R279, R282, 10_rolling_join.md Tables 10.3, 10.5, R280, R254, 10_rolling_join.md Table 10.3). -/
def Obligations.AuxiliariesAndCloseFailures : Prop :=
  (∀ (s : State) (c : Chan) (closed : Bool),
    let k := c.val
    let x := s.chStr k
    let aux := fun (t : State) => (t.coil k).aux = closed
    (s.chRole k = 0 → exec (.auxDebounced c closed) s = .next (s.setCoil k { s.coil k with aux := closed, auxRun := 20 })) ∧
    ((s.coil k).aux = false → closed = true → s.chRole k = 1 → (s.str x).st = .negClosing → s.closeForbidden = false →
      ∃ t, exec (.auxDebounced c closed) s = .next t ∧ aux t ∧ t.str x = { s.str x with st := .probe, probeEnd := s.now + msNs (s.fld pJOIN 0x024 7 0) } ∧
        (∀ y, y ≠ x → t.str y = s.str y) ∧ (∀ j, j ≠ k → t.coil j = s.coil j) ∧
        (t.coil k).ops = (s.coil k).ops + b2n (s.coil k).closeSeq.isSome ∧ t.join = s.join) ∧
    ((s.coil k).aux = false → closed = true → s.chRole k = 1 → (s.str x).st = .negClosing → s.closeForbidden = true →
      ∃ t, exec (.auxDebounced c closed) s = .next t ∧ aux t ∧ (t.str x).st = .armed ∧ (∀ j ∈ s.chansOf x, (t.coil j).closeSeq = none)) ∧
    ((s.coil k).aux = false → closed = true → s.chRole k = 2 → (s.str x).st = .posClosing →
      ∃ t, exec (.auxDebounced c closed) s = .next t ∧ aux t ∧ (t.str x).st = .closed ∧ (t.str x).closedAt = s.now ∧
        (t.page pJOIN).evt.getLsbD 0 = true ∧ t.mode.mode = s.mode.mode) ∧
    ((s.coil k).aux = false → closed = true → s.chRole k = 3 → (s.coil k).closeSeq.isSome = true → s.join.sec = .feed →
      ∃ t, exec (.auxDebounced c closed) s = .next t ∧ aux t ∧ t.join = { s.join with sec := .forming } ∧ t.bfc.st = .starting ∧ t.strs = s.strs) ∧
    (∀ i, (s.coil k).aux = true → closed = false → (s.chRole k = 1 ∨ s.chRole k = 2) → (s.coil k).closeSeq.isSome = true →
      (s.coil k).coil = true → (s.coil k).auxSuspended = false → s.iNow x = some i → s.iOpenRes ≤ absI i →
      ∃ t, exec (.auxDebounced c closed) s = .next t ∧ aux t ∧ (t.coil k).auxSuspended = true ∧ (t.coil k).closeSeq = (s.coil k).closeSeq ∧
        t.strs = s.strs ∧ (∀ j, j ≠ k → t.coil j = s.coil j) ∧ (t.page pACT).evt.getLsbD 6 = true)) ∧
  (∀ (s : State) (c : Chan), (s.coil c.val).closeSeq.isSome = true → (s.coil c.val).aux = false → s.join.sec = .idle ∨ s.join.sec = .run →
    (∀ x, s.chStr c.val = x → (s.negOf x = some c.val ∨ s.posOf x = some c.val) →
      ∃ t, exec (.closeFail c) s = .next t ∧ (t.page pACT).evt.getLsbD 0 = true ∧ (t.str x).st = .opening ∧ t.armed x = false ∧
        (∀ k ∈ s.chansOf x, (t.coil k).closeSeq = none) ∧ (∀ k, k ∉ s.chansOf x → t.coil k = s.coil k) ∧
        (∀ y, y ≠ x → t.str y = s.str y) ∧ t.mode = s.mode ∧ t.join = s.join) ∧
    (s.feedCh = some c.val → ∃ t, exec (.closeFail c) s = .next t ∧ (t.page pACT).evt.getLsbD 0 = true ∧
      (t.coil c.val).closeSeq = none ∧ t.strs = s.strs ∧ t.mode = s.mode ∧ t.join = { s.join with feedOpenAt := some s.now }))

/-- PROBE_END, WELD_CHECK, RUN_CLOSE and JOIN_TMO (R273, R276, R277, R278, R280, R281, R282, 10_rolling_join.md Tables 10.4-10.6). -/
def Obligations.JoinStepsOfAString : Prop :=
  ∀ (s : State) (x : Str),
    let k := x.val
    let next4 := some ((s.acSeq + 4) % 65536)
    (∀ c d, (s.str k).st = .probe → (s.str k).probeHot = false → s.join.sec ≠ .first → s.dvOf k = some d → absR d ≤ s.dvJoin →
      s.closeForbidden = false → s.posOf k = some c → s.active = true → ∃ t, exec (.probeEnd x) s = .next t ∧
        t.now = Nat.max s.now (s.str k).probeEnd ∧ t.str k = { s.str k with st := .posClosing, posDv := some d } ∧ (t.coil c).closeSeq = next4 ∧
        (∀ y, y ≠ k → t.str y = s.str y) ∧ (∀ j, j ≠ c → t.coil j = s.coil j)) ∧
    (∀ d, (s.str k).st = .probe → (s.str k).probeHot = false → s.join.sec ≠ .first → s.dvOf k = some d → s.dvJoin < absR d →
      ∃ t, exec (.probeEnd x) s = .next t ∧ t.str k = { s.str k with st := .armed } ∧ (∀ j ∈ s.chansOf k, (t.coil j).closeSeq = none) ∧
        (∀ y, y ≠ k → t.str y = s.str y)) ∧
    ((s.str k).st = .probe → (s.str k).probeHot = true → s.join.sec ≠ .first → ∃ t, exec (.probeEnd x) s = .next t ∧
      (t.str k).st = .blocked ∧ (t.str k).weldPos = true ∧ t.armed k = false ∧ (∀ j ∈ s.chansOf k, (t.coil j).closeSeq = none)) ∧
    (∀ c, s.negOf k = some c → s.join.sec = .run → s.active = true → s.mayClose k = true → s.absDv k ≤ s.dvJoin →
      s.fld pJOIN 0x020 15 8 ≤ (s.str k).jdeb → s.closingList.length < s.fld pJOIN 0x020 7 4 → ∃ t, exec (.runClose x) s = .next t ∧
        t.str k = { s.str k with st := .negClosing, probeHot := false, jdeb := 0 } ∧ (t.coil c).closeSeq = next4 ∧
        (∀ y, y ≠ k → t.str y = s.str y) ∧ (∀ j, j ≠ c → t.coil j = s.coil j) ∧ t.join = s.join ∧ t.mode = s.mode) ∧
    (∀ at_, (s.str k).openCmdAt = some at_ → (s.str k).st = .opening → (s.str k).weldHot < 3 → 3 ≤ (s.str k).weldRun →
      (∀ j ∈ s.chansOf k, (s.coil j).aux = false) → ∃ t, exec (.weldCheck (.string x)) s = .next t ∧ t.now = Nat.max s.now (at_ + 200000000) ∧
        t.str k = { s.str k with discUnproven := !(s.str k).weldDv, st := s.restState k, openCmdAt := none } ∧ (∀ y, y ≠ k → t.str y = s.str y) ∧
        t.coils = s.coils) ∧
    (∀ at_, (s.str k).openCmdAt = some at_ → 3 ≤ (s.str k).weldHot → s.md ≠ .lockout → ∃ t, exec (.weldCheck (.string x)) s = .next t ∧
      (t.str k).weldNeg = true ∧ (t.str k).weldPos = true ∧ t.mode.reqCauses.getLsbD 2 = true) ∧
    (∀ at_ c, s.join.feedOpenAt = some at_ → s.feedCh = some c → ∃ t, exec (.weldCheck .feed) s = .next t ∧ t.join.feedOpenAt = none ∧
      t.join.feedProven = (s.join.feedProven || !(s.coil c).aux) ∧ t.join.feedWeld = (s.join.feedWeld || (s.coil c).aux) ∧ t.coils = s.coils) ∧
    (s.joining = true → s.mode.trans = none → ∃ t, exec .joinTmo s = .next t ∧ t.join.sec = .idle ∧ (t.page pJOIN).evt.getLsbD 1 = true ∧
      t.now = Nat.max s.now (s.join.startedAt + sNs (s.fld pJOIN 0x024 31 16)) ∧
      t.mode.trans = some { target := .ready, origin := 0, afterOpenings := true } ∧
      (∀ y < 48, (s.str y).st.closing = true → s.isOpen y = false → (t.str y).st = .opening)) ∧
    (s.joining = false → exec .joinTmo s = .next s)

/-- VOLTAGE_LOOP and CURRENT_LOOP: the measured voltage, the clamped current reference, the duties in service (R287, R288, R290, R291, R293, R295, 11_bus_forming_converter.md Tables 11.2, 11.4). -/
def Obligations.ConverterLoops : Prop :=
  ∀ (s : State) (a b v : Int) (ph : List Int),
    let vo : Rat := ((a : Rat) / 1000 + (b : Rat) / 1000) / 2
    let fc : Rat := (s.fld pBFC 0x100 31 24 * 100 : Nat)
    let kp := 2 * piR * fc * s.cBus
    let law := fun (t : State) (r : Rat) =>
      let int := s.bfc.integral + (r - vo) / 100000
      let raw := kp * (r - vo) + kp * 2 * piR * fc / 4 * int
      t.bfc.r = r ∧ t.bfc.iRef = (if raw < -s.iClamp then -s.iClamp else if s.iClamp < raw then s.iClamp else raw) ∧
        t.bfc.clamped = (decide (raw < -s.iClamp) || decide (s.iClamp < raw)) ∧
        t.bfc.integral = (if t.bfc.clamped then s.bfc.integral else int)
    (∃ t, exec (.voltageLoop a b v) s = .next t ∧ t.bfc.vOut = vo ∧ t.bfc.vIn = (v : Rat) / 1000 ∧ t.now = s.now ∧
      (s.bfc.st = .regulating → law t s.eff ∧ t.bfc.st = .regulating ∧ t.strs = s.strs) ∧
      (s.bfc.st = .starting → s.bvl.slew = 0 → s.bfc.clamped = false → ∃ r, law t r ∧
        r = (if s.bfc.r ≤ s.eff then minR (s.bfc.r + (s.fld pBFC 0x030 31 20 : Nat) / 100000) s.eff
            else maxR (s.bfc.r - (s.fld pBFC 0x030 31 20 : Nat) / 100000) s.eff) ∧
        (r = s.eff ∧ absR (vo - s.eff) ≤ s.bfcWin → t.bfc.st = .regulating ∧ t.bfc.reached = true ∧ t.evtBit pBFC 5 = true ∧
          (s.bvl.ack = 1 → t.bvl.ack = 3) ∧ (s.join.sec = .forming → t.join.sec = .first)) ∧
        (¬ (r = s.eff ∧ absR (vo - s.eff) ≤ s.bfcWin) → t.bfc.st = .starting ∧ t.join = s.join)) ∧
      (s.bfc.st.running = true → s.bfc.st ≠ .stopping → absR t.bfc.iRef ≤ s.iClamp) ∧
      (s.bfc.st.running = false → t.bfc.iRef = s.bfc.iRef ∧ t.bfc.st = s.bfc.st ∧ t.join = s.join)) ∧
    (∃ t, exec (.currentLoop ph) s = .next t ∧ { t with bfc := s.bfc } = s ∧ { t.bfc with iPhase := s.bfc.iPhase, duty := s.bfc.duty } = s.bfc ∧
      (∀ k < 6, sget 0 t.bfc.iPhase k = (ph.getD k 0 : Rat) / 1000) ∧
      (s.bfc.st.running = false → t.bfc.duty = s.bfc.duty) ∧
      (s.bfc.st.running = true → ∀ k < 6, (k ∉ s.inService → sget 0 t.bfc.duty k = 0) ∧
        (k ∈ s.inService → s.fld pBFC 0x100 15 8 * 2 ≤ 1000 → (s.fld pBFC 0x100 15 8 : Rat) / 1000 ≤ sget 0 t.bfc.duty k ∧
          sget 0 t.bfc.duty k ≤ 1 - (s.fld pBFC 0x100 15 8 : Rat) / 1000)))

/-- Converter faults that latch or let it run, its stop, synchronism, BFC_CLEAR and PEAK_READ (R296, R297, R298, R299, R300, R301, 11_bus_forming_converter.md Table 11.3, R289, R294, R295, R302, R303). -/
def Obligations.ConverterFaultsStopSyncAndClear : Prop :=
  (∀ (s : State) (k : Phase) (i j : Int) (n : Nat) (lineB : Bool), s.bfc.st ≠ .latched →
    let latched := fun (t : State) (cause detail : Nat) => t.bfc.st = .latched ∧ t.bfc.cause = cause ∧ t.bfc.detail = detail ∧ t.bfc.also = 0 ∧
      t.bfc.fseq = (s.bfc.fseq + 1) % 256 ∧ t.bfc.driving = false ∧ t.bfc.iRef = 0 ∧ t.evtBit pBFC 0 = true ∧
      (∀ c, s.feedCh = some c → (t.coil c).closeSeq = none)
    let serves := s.bfc.st.running = true ∧ k.val ∈ s.inService
    let out := fun (t : State) => k.val ∉ t.inService ∧ t.evtBit pBFC 4 = true ∧ sget 0 t.bfc.duty k.val = 0 ∧
      (s.nAct - 1 < s.fld pBFC 0x028 27 25 → latched t 4 k.val) ∧
      (s.fld pBFC 0x028 27 25 ≤ s.nAct - 1 → t.bfc.st = s.bfc.st ∧ t.nAct = s.nAct - 1 ∧ t.coils = s.coils)
    (s.ocPh < absR (mkRat i 1000) → s.ocPh < absR (mkRat j 1000) → ∃ t, exec (.phaseOc k i j) s = .next t ∧ latched t 1 k.val ∧ t.evtBit pBFC 1 = true) ∧
    (s.bfc.st = .regulating → s.bfcWin < absR (s.bfc.vOut - s.eff) → ∃ t, exec .sag s = .next t ∧ latched t 3 0) ∧
    (s.bfc.viLost = false → ∃ t, exec .viLost s = .next t ∧ latched t 6 0 ∧ t.bfc.viLost = true) ∧
    ((if lineB then s.bfc.vobLost else s.bfc.voaLost) = false → ∃ t, exec (.lineLost lineB) s = .next t ∧ t.evtBit pBFC 3 = true ∧
      (if lineB then t.bfc.vobLost else t.bfc.voaLost) = true ∧ (s.bfc.st.running = true → latched t 5 (b2n lineB)) ∧
      (s.bfc.st.running = false → t.bfc.st = s.bfc.st ∧ t.coils = s.coils)) ∧
    exec (.lineRecovered lineB) s = .next { s with bfc := { s.bfc with
      voaLost := s.bfc.voaLost && lineB, vobLost := s.bfc.vobLost && !lineB } } ∧
    (serves → ∃ t, exec (.failedOpen k) s = .next t ∧ t.bfc.failedOpen.getLsbD k.val = true ∧ out t) ∧
    (serves → ∃ t, exec (.senseLost k) s = .next t ∧ t.bfc.senseLost.getLsbD k.val = true ∧ out t) ∧
    (s.bfc.st = .starting → 100 ≤ n → s.bfc.vOut < maxR (s.eff / 20) 30 →
      ∃ t, exec (.shortDetect n i) s = .next t ∧ t.evtBit pBFC 2 = true ∧
        (s.fld pBFC 0x100 1 0 ≤ s.bfc.retriesUsed → latched t 2 0) ∧
        (s.bfc.retriesUsed < s.fld pBFC 0x100 1 0 → t.bfc.st = .retryWait ∧ t.bfc.retriesUsed = s.bfc.retriesUsed + 1 ∧
          t.bfc.retryEnd = s.now + 5000000000 ∧ t.bfc.driving = false ∧ t.coils = s.coils)) ∧
    (s.bfc.st = .retryWait → ∃ t, exec .retryWaitEnd s = .next t ∧ t.now = Nat.max s.now s.bfc.retryEnd ∧ t.bfc.st = .starting ∧
      t.bfc.r = s.bfc.vOut ∧ t.bfc.driving = s.active ∧ t.bfc.retriesUsed = s.bfc.retriesUsed ∧ t.coils = s.coils)) ∧
  (∀ (s : State) (o : Origin) (n : Nat) (v : Word) (q : Fin 16),
    (s.bfc.st = .stopping → exec .stopRampEnd s = .next { s.reach s.bfc.stopEnd with bfc := { s.bfc with driving := false, iRef := 0, integral := 0, duty := [] } }) ∧
    (∀ c, s.bfc.st = .stopping → s.bfc.driving = false → s.bfc.stopEnd ≤ s.now → s.feedCh = some c → ∃ t, exec .converterOff s = .next t ∧
      t.bfc.st = .off ∧ t.bfc.driving = false ∧ (t.coil c).closeSeq = none ∧ (∀ d, d ≠ c → t.coil d = s.coil d) ∧ t.strs = s.strs) ∧
    (s.bit pBFC 0x008 0 = true → 0 < s.fSw → 0 < n → 9 * (1000000000 / s.fSw) ≤ 10 * n → 10 * n ≤ 11 * (1000000000 / s.fSw) →
      ∃ t, exec (.bfcSyncEdge n) s = .next t ∧ { t with bfc := { t.bfc with fNow := s.bfc.fNow } } =
          { s with bfc := { s.bfc with syncEdges := s.bfc.syncEdges + 1, syncLock := s.bfc.syncLock || decide (7 ≤ s.bfc.syncEdges) } } ∧
        (t.bfc.syncLock = false → t.bfc.fNow = s.bfc.fNow) ∧
        t.bfc.fNow ≤ s.bfc.fNow + s.bfc.fNow * n / 100000000 ∧ s.bfc.fNow ≤ t.bfc.fNow + s.bfc.fNow * n / 100000000) ∧
    (s.bit pBFC 0x008 0 = true → 0 < n → (10 * n < 9 * (1000000000 / s.fSw) ∨ 11 * (1000000000 / s.fSw) < 10 * n) → 0 < s.fSw →
      exec (.bfcSyncEdge n) s = .next { s with bfc := { s.bfc with syncEdges := 0 } }) ∧
    (s.bfc.syncLock = true → exec (.bfcSyncLost n) s = .next (({ s with bfc := { s.bfc with syncLock := false, syncEdges := 0 } }.logN 0x0706 [s.bfc.st.code, n]).raise pBFC 6)) ∧
    (s.bfc.st = .handover → s.active = true → ∃ t, exec (.netsFree n) s = .next t ∧ t.bfc.st = .starting ∧ t.bfc.r = s.bfc.vOut ∧
      t.bfc.driving = true ∧ t.evtBit pBFC 7 = true ∧ t.join = s.join ∧ t.coils = s.coils) ∧
    (s.bfc.st = .latched → field v 31 24 = s.bfc.fseq → field v 23 16 = s.bfc.cause → ∃ t, exec (.bfcClear o v) s = .next t ∧
      t.bfc = { s.bfc with st := .off } ∧ (t.page pBFC).cfgseq = (s.page pBFC).cfgseq + 1#32 ∧ t.coils = s.coils) ∧
    (s.bfc.st ≠ .latched ∨ field v 31 24 ≠ s.bfc.fseq ∨ field v 23 16 ≠ s.bfc.cause → exec (.bfcClear o v) s = .next (s.refuse o pBFC 0x024 .mode)) ∧
    (∃ t, exec (.peakRead o q) s = .next t ∧ { t with bfc := { t.bfc with tel := s.bfc.tel }, out := s.out } = s ∧
      (o = .host → t.out = .host 0 1 [telWord q.val (sget 0 (s.telOf q.val).held 1)] :: s.out) ∧
      sget 0 (t.telOf q.val).held o.code = 0 ∧ (∀ p, p ≠ o.code → sget 0 (t.telOf q.val).held p = sget 0 (s.telOf q.val).held p) ∧
      (∀ p, p ≠ q.val → t.telOf p = s.telOf p)))

/-- BVL_SET, BVL_POLL and BVL_SILENT (R304, R305, R306, R307, 11_bus_forming_converter.md Tables 11.5-11.8). -/
def Obligations.BusVoltageCommandLink : Prop :=
  ∀ (s : State) (f : DWord) (e p : Nat),
    let v := f.toNat
    let crcOk := (crc8 (beBytes 7 (v / 256))).toNat = v % 256
    let u := { s with bvl := { s.bvl with lastFrame := s.now, silent := false } }
    let seq : Byte := BitVec.ofNat 8 (v / 2 ^ 52 % 256)
    let tgt := v / 2 ^ 36 % 65536
    let badFrame := (fun (s : State) => { s with bvl := { s.bvl with rejFrame := Nat.min 65535 (s.bvl.rejFrame + 1) } }.raise pBVL 2)
    let badCrc := { s with bvl := { s.bvl with rejCrc := Nat.min 65535 (s.bvl.rejCrc + 1) } }.raise pBVL 2
    (e ≠ 64 ∨ p < 45 → exec (.bvlSet f e p) s = .next (badFrame s) ∧ exec (.bvlPoll f e p) s = .next (badFrame s)) ∧
    (45 ≤ p → p < 50 →
      (exec (.bvlSet f 64 p) s = if Config.freeBool s.fresh then .next (badFrame { s with fresh := s.fresh + 1 }) else exec (.bvlSet f 64 50) { s with fresh := s.fresh + 1 }) ∧
      (exec (.bvlPoll f 64 p) s = if Config.freeBool s.fresh then .next (badFrame { s with fresh := s.fresh + 1 }) else exec (.bvlPoll f 64 50) { s with fresh := s.fresh + 1 })) ∧
    (50 ≤ p → ¬ crcOk → exec (.bvlSet f 64 p) s = .next badCrc ∧ exec (.bvlPoll f 64 p) s = .next badCrc) ∧
    (50 ≤ p → crcOk → v / 2 ^ 60 ≠ 5 → exec (.bvlSet f 64 p) s = .next (s.raise pBVL 2)) ∧
    (50 ≤ p → crcOk → v / 2 ^ 60 ≠ 10 → exec (.bvlPoll f 64 p) s = .next (s.raise pBVL 2)) ∧
    (50 ≤ p → crcOk → v / 2 ^ 60 = 10 → exec (.bvlPoll f 64 p) s = .next (u.emit (.bvl u.bvlResponse))) ∧
    (50 ≤ p → crcOk → v / 2 ^ 60 = 5 →
      (s.bvl.any = true → seq = s.bvl.seq → exec (.bvlSet f 64 p) s = .next (u.emit (.bvl u.bvlResponse))) ∧
      (s.bvl.any = true → seq ≠ s.bvl.seq → newer8 seq s.bvl.seq = false → exec (.bvlSet f 64 p) s = .next (badFrame u)) ∧
      ((s.bvl.any = false ∨ newer8 seq s.bvl.seq = true ∧ seq ≠ s.bvl.seq) → ∃ t, exec (.bvlSet f 64 p) s = .next t ∧ t.bvl.seq = seq ∧ t.bvl.any = true ∧
        t.out = .bvl t.bvlResponse :: s.out ∧ { t with bvl := s.bvl, pages := s.pages, gal := s.gal, out := s.out } = s ∧
        (s.bvlDecide v = 0 → s.md = .ready → t.bvl.ack = 1 ∧ t.bvl.target = tgt ∧ t.eff = (tgt : Rat) / 10 ∧ t.bvl.targetValid = true ∧
          t.bvl.slew = v / 2 ^ 24 % 4096 ∧ t.evtBit pBVL 0 = true) ∧
        (s.bvlDecide v ≠ 0 → t.bvl.ack = 2 ∧ t.bvl.reason = s.bvlDecide v ∧ t.bvl.target = s.bvl.target ∧ t.eff = s.eff ∧ t.evtBit pBVL 1 = true))) ∧
    (s.fld pBVL 0x020 31 16 ≤ p → s.bvl.silent = false → exec (.bvlSilent p) s =
      .next (({ s with bvl := { s.bvl with silent := true } }.logN 0x070B [s.bfc.st.code, p]).raise pBVL 3))

/-- The safe outputs after CHANNEL_DEMAND, CHANNEL_RELEASE, PERMIT_TIMEOUT, PAIR_BANISTER, WALK_END and the SO checks (R309, R316, R317, R318, R326, R331, 12_banister.md Table 12.2). -/
def Obligations.SafeOutputsFollowTheSources : Prop :=
  ∀ (s : State) (ch : SafetyIn) (b : BanPeer) (k : Fin 4) (f : Option Nat),
    let p := ch.val / 2
    let p1 := ch.val % 2
    let set := fun (t : State) => t.ban.so = BitVec.ofNat 4 t.outMask ∧ t.ban.bfcEn = (t.outMask / 16 == 1)
    let quiet := s.join.sec = .idle ∧ s.md ≠ .joining ∧ s.md ≠ .online ∧ s.bfc.st = .off ∧ (∀ x ∈ s.strings, s.isOpen x = true) ∧
      (∀ c, s.feedCh = some c → (s.coil c).closeSeq = none)
    let plain := (s.safe ch.val).changes = [] ∧ (s.bpair p).waiting = none ∧ s.land.landing < 3 ∧
      (s.safe (2 * p + (1 - p1))).demand = (s.safe ch.val).demand
    (∀ i < 4, s.outMask / 2 ^ i % 2 = 1 → s.ban.walkPassed = true ∧ s.ban.walking = false ∧ s.md ≠ .lockout ∧ s.ban.soFault = false ∧
      s.start.bootHold = false ∧ s.land.landing < 3 ∧ (∀ q < 8, s.pairActs q = true → s.fld pBAN (pairCfg q) 23 20 / 2 ^ i % 2 = 0)) ∧
    (quiet → s.isStop p = true → plain → (s.safe ch.val).demand = false → ∃ t, exec (.channelDemand ch) s = .next t ∧ set t ∧
      (t.safe ch.val).demand = true ∧ t.pairDemand p = true ∧ (s.manual p = true → (s.bpair p).dem = false → (t.bpair p).latched = true) ∧
      (∀ i < 4, s.fld pBAN (pairCfg p) 23 20 / 2 ^ i % 2 = 1 → t.ban.so.getLsbD i = false)) ∧
    (quiet → s.isStop p = true → plain → (s.safe ch.val).demand = true → ∃ t, exec (.channelRelease ch) s = .next t ∧ set t ∧
      (t.safe ch.val).demand = false ∧ (t.bpair p).latched = ((s.bpair p).latched || (t.pairDemand p && !(s.bpair p).dem && s.manual p))) ∧
    (quiet → s.scor.permit = false → s.active = true → s.ban.permitActing = false → ∃ t, exec .permitTimeout s = .next t ∧ set t ∧
      t.ban.permitActing = true ∧ t.now = Nat.max s.now (s.scor.withdrawnAt + 20000000) ∧ t.evtBit pBAN 1 = true) ∧
    (quiet → b.lockout = false → ∃ t, exec (.pairBanister b) s = .next t ∧ set t ∧ t.ban.peer = b ∧ t.ban.peerValid = true ∧
      (∀ q < 8, (t.bpair q).peerSince.isSome = (b.demand.getLsbD q && s.func q != 0 && !s.pairDemand q))) ∧
    (quiet → s.ban.walking = true → ∃ t, exec (.walkEnd none) s = .next t ∧ set t ∧ t.ban.walkPassed = true ∧ t.ban.walking = false) ∧
    (s.ban.walking = true → f.isSome = true → ∃ t, exec (.walkEnd f) s = .next t ∧ t.ban.so = 0#4 ∧ t.ban.bfcEn = false ∧ t.ban.walkPassed = false ∧
      t.evtBit pBAN 7 = true ∧ (s.md ≠ .lockout → t.mode.reqCauses.getLsbD 0 = true)) ∧
    (quiet → ∃ t, exec (.soTestPulse k) s = .next t ∧ set t ∧ t.now % 1000000000 = 250000000 * k.val ∧ s.now ≤ t.now ∧ t.now < s.now + 1000000000 ∧
      (t.out = if t.ban.so.getLsbD k.val then .pulse "SO" k.val 300 :: s.out else s.out))

/-- DISCREP, TEST_PULSE, TEST_PULSE_CHECK, TP_LOST, TP_DRIVE, PEER_DISAGREE and SO_FAULT (R313, R314, R319, R321, R322, R331, 12_banister.md Table 12.5). -/
def Obligations.BanisterFaultsHoldTheFunction : Prop :=
  ∀ (s : State) (p : BanPair) (d : Nat) (ch : SafetyIn) (k : Fin 4) (j : Fin 5) (r : Bool),
    let locks := fun (t : State) => t.mode.reqCauses.getLsbD 0 = true
    let c := ch.val
    (∀ at_ e, (s.bpair p.val).waiting = some (at_, e) → s.func p.val ≠ 0 → s.func p.val ≠ 5 → s.md ≠ .lockout → (s.bpair p.val).discrep = false →
      s.tD p.val + 250000 ≤ d * 1000 → ∃ t, exec (.discrep p d) s = .next t ∧ (t.bpair p.val).discrep = true ∧ t.pairDemand p.val = true ∧
        t.now = Nat.max s.now (at_ + d * 1000) ∧ t.evtBit pBAN 3 = true ∧ locks t) ∧
    (d * 1000 + 250000 ≤ s.tD p.val → exec (.discrep p d) s = .next s) ∧
    ((s.tpOf k.val).drive = true → ∃ t, exec (.testPulse k) s = .next t ∧
      t.now % 20000000 = 5000000 * k.val ∧ s.now ≤ t.now ∧ t.now < s.now + 20000000 ∧ (t.tpOf k.val).lastSeen = t.now ∧ .pulse "TP" k.val 400 ∈ t.out) ∧
    (∀ n, s.tpSource c = some n → s.func (c / 2) ≠ 0 → (s.safe c).demand = false → (s.safe c).misses = 1 → (s.safe c).stuck = false → d < 100 →
      s.md ≠ .lockout → ∃ t, exec (.testPulseCheck ch d) s = .next t ∧ (t.safe c).stuck = true ∧ t.pairDemand (c / 2) = true ∧ locks t ∧ t.evtBit pBAN 3 = true) ∧
    (∀ n, s.tpSource c = some n → s.func (c / 2) ≠ 0 → (s.safe c).demand = false → (s.safe c).misses = 0 → d < 100 →
      exec (.testPulseCheck ch d) s = .next ((s.setTpOf n { s.tpOf n with lastSeen := s.now }).setSafe c { s.safe c with misses := 1, passes := 0 })) ∧
    (∀ n, s.tpSource c = some n → s.isStop (c / 2) = true → (s.safe c).demand = false → 100 ≤ d → ∃ t, exec (.testPulseCheck ch d) s = .next t ∧
      (t.safe c).misses = 0 ∧ (t.safe c).passes = (s.safe c).passes + 1 ∧ (t.safe c).stuck = (s.safe c).stuck) ∧
    ((s.tpOf k.val).lost = false → (∀ q < 8, s.func q ≠ 5 ∧ s.func q ≠ 4) → ∃ t, exec (.tpLost k) s = .next t ∧ (t.tpOf k.val).lost = true ∧
      t.now = Nat.max s.now ((s.tpOf k.val).lastSeen + 100000000) ∧ t.evtBit pBAN 3 = true ∧
      (∀ i < 16, s.tpSource i = some k.val → s.func (i / 2) ≠ 0 → t.chDemand i = true ∧ t.pairDemand (i / 2) = true)) ∧
    (s.start.powered = true → (s.tpOf k.val).lastSeen + 30000000 ≤ s.now → exec (.tpDrive k) s = .next (s.setTpOf k.val { s.tpOf k.val with drive := true })) ∧
    (∀ at_, (s.bpair p.val).peerSince = some at_ → s.ban.peerValid = true → s.pairDemand p.val = false → ∃ t, exec (.peerDisagree p) s = .next t ∧
      (t.bpair p.val).peer = true ∧ t.now = Nat.max s.now (at_ + s.tD p.val + 5000000) ∧ t.evtBit pBAN 5 = true ∧ t.partnerActs = true) ∧
    ((if j.val = 4 then s.bfcEnHigh else s.ban.so.getLsbD j.val) ≠ r → s.ban.soFault = false → s.md ≠ .lockout → ∃ t, exec (.soFault j r) s = .next t ∧
      t.ban.soFault = true ∧ t.ban.so = 0#4 ∧ t.ban.bfcEn = false ∧ t.evtBit pBAN 6 = true ∧ locks t)

/-- SAFE frames, Banister messages, the walk and the two-hand selection (R327, R328, R329, R330, 12_banister.md Tables 12.3, 12.4, R323, R324, R334, R335, 12_banister.md R324). -/
def Obligations.SafeFramesWalkAndTwoHand : Prop :=
  (∀ (s : State) (f : CanFrame) (nb : Bool) (r : Fin 4),
    let q := s.ban.safeSeq + 1#16
    let x := s.bit pBAN 0x030 31
    let id := s.fld pBAN 0x030 28 0
    let body := [BitVec.ofNat 8 s.safeDemandByte, BitVec.ofNat 8 s.safeStateByte] ++ leBytes 2 q.toNat
    let w := s.reg pBAN (0xA00 + 16 * r.val)
    let ok := f.data.length = 8 ∧ f.fdf = false ∧ (safeCrc f.xtd f.id.toNat (f.data.take 4)).toNat = leAt f.data 4 4
    let only := s.safeEn r.val = true ∧ w.getLsbD 31 = f.xtd ∧ f.id.toNat = field w 28 0 ∧
      (∀ m < 4, m ≠ r.val → s.safeEn m = false)
    let newQ : Half := BitVec.ofNat 16 (leAt f.data 2 2)
    (∀ a b, s.ctlBuf 1 = some a → s.ctlBuf 2 = some b → a ≠ b → (s.buf a).st ≠ .sending → (s.buf b).st ≠ .sending →
      ∃ t, exec .safeFrameTx s = .next t ∧ t.ban.safeSeq = q ∧
        (∀ n, n = a ∨ n = b → (t.buf n).st = .queued ∧ (t.buf n).words = packWords false true x false false id 8 (body ++
          leBytes 4 (safeCrc x (id + if s.standby || s.pair.baseHold.isSome then 1 else 0) body).toNat)) ∧
        (∀ n, n ≠ a → n ≠ b → t.buf n = s.buf n) ∧ { t with bufs := s.bufs, ban := s.ban } = s) ∧
    (¬ ok → exec (.safeFrame nb f) s = .next (s.fifo0Take f)) ∧
    (ok → only → (s.src r.val).copy = none → (∀ l, (s.src r.val).seqA = some l → newer16 newQ l = true) → f.data.getD 0 0#8 ≠ 0#8 →
      ∃ t, exec (.safeFrame nb f) s = .next t ∧ (t.src r.val).demand = true ∧ (t.src r.val).seqA = some newQ ∧ (t.src r.val).lastAt = s.now ∧
        (t.src r.val).timeout = false ∧ (t.src r.val).latched = ((s.src r.val).latched || s.bit pBAN (0xA04 + 16 * r.val) 7) ∧ t.safeActs r.val = true) ∧
    (ok → only → (s.src r.val).copy = none → (∀ l, (s.src r.val).seqA = some l → newer16 newQ l = false) → (s.src r.val).seqA ≠ none →
      exec (.safeFrame nb f) s = .next (s.fifo0Take f)) ∧
    (∀ q' n at_ d, (s.src r.val).copy = some (q', n, at_, d) → (s.src r.val).copyP = none → ∃ t, exec (.safeSingle r) s = .next t ∧ (t.src r.val).copy = none ∧
      t.now = Nat.max s.now (at_ + 5000000) ∧ (d = 0#8 → (t.src r.val).single = true ∧ (t.src r.val).demand = false ∧ t.evtBit pBAN 4 = true) ∧
      (d ≠ 0#8 → (t.src r.val).demand = (s.src r.val).demand)) ∧
    (s.safeEn r.val = true → (s.src r.val).timeout = false → ∃ t, exec (.safeTimeout r) s = .next t ∧ (t.src r.val).timeout = true ∧
      (t.src r.val).demand = true ∧ t.now = Nat.max s.now ((s.src r.val).lastAt + s.fld pBAN 0x02C 31 16 * 1000000) ∧ t.evtBit pBAN 4 = true) ∧
    (s.pair.hasPartner = true → s.pair.role ≠ .singleOp → ∃ t, exec .banisterTx s = .next t ∧ { t with pair := s.pair, out := s.out } = s ∧
      t.pair.lseq = s.pair.lseq + 1#16 ∧ t.out = .pair 4 s.pair.lseq (sget 0#16 s.pair.msgNo 4) ([word s.ownBan.demand.toNat, word s.ownBan.latched.toNat,
        word s.ownBan.fault.toNat] ++ mask48 s.ownBan.tones ++ [word s.ownBan.safe.toNat, word (b2n s.ownBan.lockout)]) :: s.out)) ∧
  (∀ (s : State) (o : Origin) (v : Word) (p : Nat),
    let c := field v 6 0
    let mayWalk := (s.md = .ready ∨ s.md = .commission) ∧ s.allOpen = true ∧ s.ban.walking = false ∧ (∀ q < 8, s.pairDemand q = false) ∧
      (∀ q < 48, (s.toneOf q).acting = false) ∧ (∀ r < 4, (s.safeEn r && (s.src r).demand) = false)
    (mayWalk → ∃ t, exec (.walk o) s = .next t ∧ t.ban.walking = true ∧ t.ban.so = 0#4 ∧ t.ban.bfcEn = false ∧
      (t.page pBAN).cfgseq = (s.page pBAN).cfgseq + 1#32 ∧ t.md = s.md) ∧
    (¬ mayWalk → exec (.walk o) s = .next (s.refuse o pBAN 0x008 .mode)) ∧
    (s.md = .commission → s.ban.thOn = false → (s.chRole c = 1 ∧ (∀ d, s.posOf (s.chStr c) = some d → (s.coil d).closeSeq = none ∧ (s.coil d).aux = false) ∨
        s.chRole c = 2 ∧ (∀ d, s.negOf (s.chStr c) = some d → (s.coil d).closeSeq = none ∧ (s.coil d).aux = false) ∨ s.chRole c = 3 ∧ s.bfc.st = .off) →
      exec (.thSel o v) s = .next ({ s with join := { s.join with thSel := c, thValid := true } }.bumpCfg pBAN)) ∧
    (s.md ≠ .commission ∨ s.ban.thOn = true ∨ s.chRole c = 0 → exec (.thSel o v) s = .next (s.refuse o pBAN 0x034 .mode)) ∧
    (∀ at_, s.ban.thOn = false → (s.handOff 0 && s.handOff 1) = false → s.handOn 0 = true → s.handOn 1 = true → s.ban.thFirst = some at_ →
      s.now - at_ + 250000 ≤ 500000000 → (s.thEval p).ban.thOn = true ∧ (s.md = .commission → s.join.thValid = true → s.scor.st ≠ .split →
        s.active = true → s.ban.so.getLsbD (s.soOf (s.join.thSel / 8)) = true →
        ((s.thEval p).coil s.join.thSel).closeSeq = some ((s.acSeq + 4) % 65536))) ∧
    (∀ d, s.ban.resetBad = false → 100000000 ≤ d → d ≤ 5000000000 → s.resetHeld = none → s.mode.causes = 0#5 →
      let t := s.resetPressed p d
      (∀ q < 8, (t.bpair q).latched = false ∧ (t.bpair q).discrep = false ∧ (t.bpair q).chatter = false ∧ (t.bpair q).peer = false) ∧
      (∀ i < 16, (t.safe i).stuck = false) ∧ (∀ q < 48, (t.toneOf q).latched = false) ∧ (∀ r < 4, (t.src r).latched = false) ∧
      t.ban.soFault = false ∧ t.evtBit pBAN 8 = true))

/-- WINDOW_TICK, GATE_TIMEOUT and CORE_FAULT: windows that pass, mismatches, rejoining (R340, R341, R343, R346, R348, R353, 13_safety_core_pair.md Tables 13.3, 13.4). -/
def Obligations.CoreWindowComparison : Prop :=
  ∀ (s : State) (mc cc : Bool) (m k : DWord) (diff : List (Nat × Word × Word)) (checker : Bool),
    let w := Nat.max (s.scor.window + 1) (s.now / s.winNs)
    let tick := Instr.windowTick mc cc m k diff
    let timed := fun (t : State) => t.scor.window = w ∧ t.now = Nat.max s.now (w * s.winNs)
    let mis := fun (t : State) (c : MisCause) (d n : Nat) => t.scor.st = .selftest ∧ t.scor.permit = false ∧ t.scor.unresolved = true ∧
      t.scor.cause = some c ∧ t.scor.detail = d ∧ t.scor.misWindow = n ∧ t.scor.mismatches = Nat.min 255 (s.scor.mismatches + 1) ∧
      t.scor.selftestEnd = t.now + 12000000 ∧ t.evtBit pSCOR 0 = true ∧
      (s.pairedActive = true → s.pair.partnerEligible = true → s.pair.handover = none → t.pair.handover.isSome = true)
    let sigs := fun (t : State) => t.scor.sigMain = m ∧ t.scor.sigChk = k
    let split := fun (t : State) (c : MisCause) (n : Nat) => t.scor.misWindow = n ∧ t.scor.st = .split ∧ t.scor.rejoin = 0 ∧ t.scor.cause = some c ∧ t.scor.permit = s.scor.permit
    (s.scor.compOk = false → exec tick s = .next s) ∧
    (s.scor.compOk = true → s.scor.st = .dual → mc = true → cc = true → m = k → s.agreeMode = false → ∃ t, exec tick s = .next t ∧ timed t ∧
      t.scor.st = .dual ∧ t.scor.mismatches = s.scor.mismatches ∧ t.scor.permit = (s.scor.permit || s.scor.resuming) ∧ t.scor.resuming = false) ∧
    (s.scor.compOk = true → s.scor.st = .dual → (mc && cc) = false → ∃ t, exec tick s = .next t ∧ timed t ∧ mis t .lag 0 (w - 1) ∧ sigs t) ∧
    (s.scor.compOk = true → s.scor.st = .dual → mc = true → cc = true → m ≠ k → ∃ t, exec tick s = .next t ∧ timed t ∧ mis t .sig 0 (w - 1) ∧ sigs t) ∧
    (s.scor.compOk = true → s.scor.st = .dual → mc = true → cc = true → m = k → s.agreeMode = true → (∃ d ∈ diff, 2 ≤ sget 0 s.scor.disRun d.1) →
      ∃ t, exec tick s = .next t ∧ timed t ∧ mis t .input 0 (w - 1) ∧ sigs t ∧ t.scor.disagreements = Nat.min 65535 (s.scor.disagreements + diff.length)) ∧
    (s.scor.compOk = true → s.scor.st = .rejoining → s.agreeMode = false →
      (s.scor.rejoin = 1 → ∃ t, exec tick s = .next t ∧ timed t ∧ t.scor.st = .rejoining ∧ t.scor.rejoin = 2 ∧ t.scor.permit = s.scor.permit) ∧
      (s.scor.rejoin = 2 → mc = true → cc = true → m = k → ∃ t, exec tick s = .next t ∧ timed t ∧ t.scor.st = .rejoining ∧ t.scor.rejoin = 3) ∧
      (s.scor.rejoin = 3 → mc = true → cc = true → m = k → ∃ t, exec tick s = .next t ∧ timed t ∧ t.scor.st = .dual ∧ t.scor.permit = true ∧ t.evtBit pSCOR 3 = true) ∧
      (2 ≤ s.scor.rejoin → mc = true → cc = true → m ≠ k → ∃ t, exec tick s = .next t ∧ timed t ∧ split t .sig (w - 1) ∧ sigs t)) ∧
    (s.scor.st = .dual → ∃ t, exec .gateTimeout s = .next t ∧ mis t .gate 0 (s.now / s.winNs)) ∧
    (s.scor.st = .rejoining → 2 ≤ s.scor.rejoin → ∃ t, exec .gateTimeout s = .next t ∧ split t .gate (s.now / s.winNs) ∧ t.now = s.now) ∧
    (s.scor.st ≠ .selftest → s.scor.st ≠ .noCore → (s.scor.st ≠ .rejoining ∨ s.scor.rejoin < 2) → (if checker then s.scor.chkIso else s.scor.mainIso) = false →
      ∃ t, exec (.coreFault checker) s = .next t ∧ mis t .coreFault (b2n checker) (s.now / s.winNs)) ∧
    (s.scor.st = .rejoining → 2 ≤ s.scor.rejoin → (if checker then s.scor.chkIso else s.scor.mainIso) = false →
      ∃ t, exec (.coreFault checker) s = .next t ∧ split t .coreFault (s.now / s.winNs) ∧ t.now = s.now)

/-- CORE_SELFTEST_END, SINGLE_SELFTEST and SINGLE_EXPIRED (R348, R349, R350, R351, R352, R366, 13_safety_core_pair.md Table 13.5). -/
def Obligations.CoreSelfTestOutcomes : Prop :=
  ∀ (s : State) (a b : Bool),
    let mOk := a && !s.scor.mainIso
    let cOk := b && !s.scor.chkIso
    let alone := fun (t : State) => t.md = .lockout ∧ t.mode.causes.getLsbD 3 = true ∧ t.pair.role = .unavailable
    (s.scor.st = .selftest → mOk = true → cOk = true → ∃ t, exec (.coreSelftestEnd a b) s = .next t ∧ t.scor.st = .rejoining ∧ t.scor.rejoin = 1 ∧
      t.scor.rejoinOfSplit = false ∧ t.scor.mainIso = s.scor.mainIso ∧ t.scor.chkIso = s.scor.chkIso ∧ t.scor.transAt = (s.now :: s.scor.transAt).take 256) ∧
    (s.scor.st = .selftest → mOk = true → cOk = false → ∃ t, exec (.coreSelftestEnd a b) s = .next t ∧ t.scor.st = .singleMain ∧ t.scor.chkIso = true ∧
      t.scor.mainIso = s.scor.mainIso ∧ t.scor.permit = (s.scor.permit || s.scor.compOk) ∧ t.scor.singleSince = some (s.scor.singleSince.getD s.now)) ∧
    (s.scor.st = .selftest → mOk = false → cOk = true → ∃ t, exec (.coreSelftestEnd a b) s = .next t ∧ t.scor.st = .singleChecker ∧ t.scor.mainIso = true ∧
      t.scor.chkIso = s.scor.chkIso ∧ t.scor.permit = (s.scor.permit || s.scor.compOk) ∧ t.scor.singleSince = some (s.scor.singleSince.getD s.now)) ∧
    (s.scor.st = .selftest → mOk = false → cOk = false → ∃ t, exec (.coreSelftestEnd a b) s = .next t ∧ t.scor.st = .noCore ∧ t.scor.mainIso = true ∧
      t.scor.chkIso = true ∧ t.md = .lockout ∧ t.mode.causes.getLsbD 3 = true ∧ (s.standby = true → alone t) ∧
      (s.standby = false → t.mode.lockoutNow = true ∧ t.alSilent = true)) ∧
    (s.scor.st ≠ .selftest → exec (.coreSelftestEnd a b) s = .next s) ∧
    (s.singleCore = true → exec (.singleSelftest true) s = .next { s with scor := { s.scor with holdUntil := s.now + 12000000 } }) ∧
    (s.singleCore = true → ∃ t, exec (.singleSelftest false) s = .next t ∧ t.scor.holdUntil = s.now + 12000000 ∧ (s.standby = true → alone t) ∧
      (s.standby = false → s.md ≠ .lockout → s.pair.hasPartner = false → s.pair.handover = none → t.mode.reqCauses.getLsbD 3 = true)) ∧
    (∀ at_, s.scor.singleSince = some at_ → s.singleCore = true → s.scor.singleExpired = false → ∃ t, exec .singleExpired s = .next t ∧
      t.scor.singleExpired = true ∧ t.now = Nat.max s.now (at_ + 3600 * s.singleMax * 1000000000) ∧ t.evtBit pSCOR 5 = true ∧
      (s.standby = true → alone t) ∧
      (s.standby = false → t.scor.expiring = true ∧ t.coils = s.coils ∧ t.mode = s.mode ∧ (∀ x ∈ s.closedList, s.isOpen x = false → (t.waitOf x).waiting = true)))

/-- SPLIT, REJOIN, CORE_HALT, CORE_STEP, CORE_REGS, CORE_MEM, CORE_WRITE and CORE_RESUME (R353, R354, 13_safety_core_pair.md R354, 18_gallery_and_stairwell.md Table 18.7). -/
def Obligations.SplitRejoinAndCoreDebug : Prop :=
  ∀ (s : State) (o : Origin) (n : Nat) (a v : Word),
    let u := { s with stw := { s.stw with lastCmd := s.now } }
    let halted := s.debugMay = true ∧ s.scor.st = .halted
    let tells := fun (t : State) (status : Nat) => t.out = .text (stwLine status) :: s.out
    (s.scor.st = .dual → s.md = .dormant ∨ s.md = .commission ∨ s.md = .ready → ∃ t, exec (.split o) s = .next t ∧ t.scor.st = .split ∧ t.scor.permit = false ∧
      (s.scor.permit = true → t.scor.withdrawnAt = s.now) ∧ t.evtBit pSCOR 2 = true ∧ (t.page pSCOR).cfgseq = (s.page pSCOR).cfgseq + 1#32 ∧ t.coils = s.coils) ∧
    (s.scor.st ≠ .dual ∨ s.md.joinOrOnline = true → exec (.split o) s = .next (s.refuse o pSCOR 0x008 .mode)) ∧
    (s.scor.st = .split → exec (.rejoin o) s = .next ({ s with scor := { s.scor with st := .rejoining, rejoin := 1, rejoinOfSplit := true } }.bumpCfg pSCOR)) ∧
    (s.scor.st ≠ .split → exec (.rejoin o) s = .next (s.refuse o pSCOR 0x008 .mode)) ∧
    (s.debugMay = true → s.scor.st = .dual → ∃ t, exec .coreHalt s = .next t ∧ t.scor.st = .halted ∧ t.scor.permit = false ∧ t.stw.halted = true ∧ t.scor.actions = 1 ∧ tells t 0) ∧
    (∀ c ∈ [Instr.coreHalt, .coreStep n, .coreRegs, .coreMem a n, .coreWrite a v, .coreResume], s.debugMay = false → exec c s = .next (u.say 5)) ∧
    (∀ c ∈ [Instr.coreStep n, .coreRegs, .coreMem a n, .coreWrite a v, .coreResume], s.debugMay = true → s.scor.st ≠ .halted → exec c s = .next (u.say 4)) ∧
    (halted → ∃ t, exec (.coreStep n) s = .next t ∧ t.scor = { s.scor with steps := s.scor.steps + n, actions := s.scor.actions + 1 } ∧ tells t 0) ∧
    (halted → ∃ t l, exec .coreRegs s = .next t ∧ l.length < 64 ∧ t.out = .text "OK" :: .textWords l :: s.out ∧ t.scor = s.scor) ∧
    (halted → 0 < n → n ≤ 256 → ∃ t l, exec (.coreMem a n) s = .next t ∧ l.length = n ∧ t.out = .text "OK" :: .textWords l :: s.out ∧ t.scor = s.scor ∧
      (∀ i < n, ∀ w, slook s.scor.mem (a.toNat + 4 * i) = some w → l.getD i 0#32 = w)) ∧
    (halted → n = 0 ∨ 256 < n → exec (.coreMem a n) s = .next (u.say 1)) ∧
    (halted → ∃ t, exec (.coreWrite a v) s = .next t ∧ slook t.scor.mem a.toNat = some v ∧ t.scor.actions = s.scor.actions + 1 ∧ tells t 0 ∧
      { t with scor := s.scor, stw := s.stw, out := s.out } = s) ∧
    (halted → ∃ t, exec .coreResume s = .next t ∧ t.scor.st = .dual ∧ t.scor.resuming = true ∧ t.scor.mem = [] ∧ t.stw.halted = false ∧ t.evtBit pSCOR 7 = true ∧ tells t 0)

/-- HEARTBEAT, HEARTBEAT_TX, TIME, TIME_TX, STATE_TX, GSEQ and SEGMENT_TIMEOUT (R356, R357, R358, R360, R364, R365, R366, R373, 14_device_pair.md Tables 14.2, 14.4). -/
def Obligations.PairLinkFrames : Prop :=
  ∀ (s : State) (h : Heartbeat) (ta eo er rx : Nat) (n : Word) (typ : Byte), s.gen.single = false → s.pair.role ≠ .singleOp →
    let sent := fun (c : Instr) (ty : Nat) (ws : List Word) => ∃ t, exec c s = .next t ∧
      t.out = .pair ty s.pair.lseq (sget 0#16 s.pair.msgNo ty) ws :: s.out ∧ { t with pair := s.pair, out := s.out } = s ∧
      t.pair.role = s.pair.role ∧ t.pair.term = s.pair.term ∧ (ty < 3 → t.pair.lseq = s.pair.lseq + 1#16)
    let rt : Int := ((rx : Int) - eo) - ((ta : Int) - er)
    let off : Int := (rx : Int) - ta - (rt / 2).toNat
    sent .heartbeatTx 1 [word s.pair.role.code, word s.term.toNat, s.time.epoch, word s.md.code, word s.pair.sync.code, word (b2n s.eligible + 2 * b2n s.start.primary)] ∧
    sent .timeTx 2 (two s.now ++ two s.pair.timeSent ++ two s.pair.timeRx) ∧
    (s.pair.linkDown = false → ∃ ws, sent .stateTx 5 ws ∧ ws.take 2 = [word s.md.code, word s.mode.causes.toNat] ∧
      (∀ t, exec .stateTx s = .next t → t.pair.changed = false)) ∧
    (h.primary ≠ s.start.primary → (newer8 h.term s.term && s.active) = false → s.joinDue = false → ∃ t, exec (.heartbeat h) s = .next t ∧
      t.pair.partnerRole = some h.role ∧ t.pair.partnerTerm = h.term ∧ t.pair.partnerMode = h.mode ∧ t.pair.partnerEligible = h.eligible ∧
      t.pair.hasPartner = true ∧ t.pair.linkDown = false ∧ t.pair.lane0Down = false ∧ t.pair.lane1Down = false ∧ t.pair.role = s.pair.role ∧
      t.pair.term = (if s.standby = true ∧ s.pair.sync ≠ .syncing ∧ h.role = .active ∧ newer8 h.term s.term = true then h.term else s.pair.term) ∧
      { t with pair := s.pair } = s) ∧
    (h.primary = s.start.primary → s.pair.fault = false → ∃ t, exec (.heartbeat h) s = .next t ∧ t.pair.fault = true ∧ t.evtBit pPAIR 0 = true) ∧
    (newer8 h.term s.term = true → s.active = true → ∃ t, exec (.heartbeat h) s = .next t ∧ t.pair.role = .passive ∧ t.bfc.driving = false ∧
      t.alSilent = true ∧ t.evtBit pPAIR 8 = true) ∧
    (s.standby = false → ∃ t, exec (.time ta eo er rx) s = .next t ∧ t.now = Nat.max s.now rx ∧ t.pair.timeSent = ta ∧ t.pair.timeRx = rx ∧
      t.pair.skew = 0 ∧ t.pair.delay = (if eo = 0 then s.pair.delay else (rt / 2).toNat) ∧ t.time.tBase = s.time.tBase) ∧
    (s.standby = true → eo ≠ 0 → s.pair.sync = .degraded → (1000000 < off ∨ off < -1000000) → ∃ t, exec (.time ta eo er rx) s = .next t ∧
      t.start.step = 2 ∧ t.md = .start ∧ t.pair.role = .starting) ∧
    (s.standby = true → eo ≠ 0 → s.pair.sync ≠ .degraded → ∃ t, exec (.time ta eo er rx) s = .next t ∧ t.pair.skew = off ∧ t.pair.delay = (rt / 2).toNat ∧
      t.pair.role = .standby) ∧
    (∃ t, exec (.gseq n) s = .next t ∧ { t with gal := { t.gal with nextSeq := s.gal.nextSeq }, pair := s.pair } = s ∧
      (newer32 (word (seqNext n.toNat)) (word s.gal.nextSeq) = true → t.gal.nextSeq = seqNext n.toNat) ∧
      (newer32 (word (seqNext n.toNat)) (word s.gal.nextSeq) = false → t.gal.nextSeq = s.gal.nextSeq)) ∧
    (typ ≠ 0x21#8 ∨ s.pair.joining = false → exec (.segmentTimeout typ) s = .next { s with pair := { s.pair with asm := serase s.pair.asm typ.toNat } })

/-- LANE_DOWN, PATH_SILENT, PL_ALIVE_EDGE, TERM_PROBE and BASE_ID_RESUME; takeover and its refusal (R356, R359, R360, R361, R370, R371, R372, R373, R375). -/
def Obligations.LinkLossAndTakeover : Prop :=
  ∀ (s : State) (k : Fin 2) (us at_ : Nat), s.gen.single = false →
    let lost := fun (t : State) => t.pair.hasPartner = false ∧ t.pair.partnerSynced = false ∧ t.pair.handover = none
    let taken := fun (t : State) => t.pair.role = .active ∧ t.pair.term = s.pair.term + 1#8 ∧ t.pair.sync = .none ∧
      t.pair.baseHold = some (s.now + 10000000) ∧ t.pair.takeovers = Nat.min 65535 (s.pair.takeovers + 1) ∧ t.evtBit pPAIR 7 = true ∧ t.mode.mode = s.mode.mode
    ((if k = 0 then s.pair.lane0Down else s.pair.lane1Down) = false → ∃ t, exec (.laneDown k) s = .next t ∧
      (if k = 0 then t.pair.lane0Down else t.pair.lane1Down) = true ∧ t.evtBit pPAIR 1 = true ∧
      ((if k = 0 then s.pair.lane1Down else s.pair.lane0Down) = true → t.pair.linkDown = true ∧
        (s.standby = true → s.pair.sync = .synced → s.pair.aliveLost = false → s.pair.linkDown = false → t.pair.sync = .degraded ∧ t.pair.role = .standby)) ∧
      ((if k = 0 then s.pair.lane1Down else s.pair.lane0Down) = false → t.pair.linkDown = s.pair.linkDown ∧ t.pair.role = s.pair.role)) ∧
    (s.md ≠ .dormant → s.pair.aliveLost = false → s.pair.linkDown = false → ∃ t, exec (.pathSilent true) s = .next t ∧ t.pair.aliveLost = true ∧
      t.pair.alivePeriod = 0 ∧ t.evtBit pPAIR 3 = true ∧ t.pair.role = s.pair.role ∧ t.pair.linkDown = false) ∧
    (s.md ≠ .dormant → s.pair.aliveLost = false → s.pair.linkDown = true → s.pair.lockCause = 0 → ∃ t, exec (.pathSilent true) s = .next t ∧ lost t ∧
      (s.eligible = true → taken t) ∧
      (s.standby = true → s.eligible = false → t.pair.role = .standby ∧ t.pair.stopRefresh = true ∧ t.evtBit pPAIR 9 = true ∧ t.alSilent = true) ∧
      (s.active = true → t.pair.role = s.pair.role ∧ t.pair.term = s.pair.term)) ∧
    (s.md ≠ .dormant → s.pair.aliveLost = true → s.pair.linkDown = false → s.pair.lockCause = 0 → s.sw.proposed = none → s.pair.drill = 0 →
      s.eligible = true → ∃ t, exec (.pathSilent false) s = .next t ∧ lost t ∧ taken t ∧ t.pair.linkDown = true) ∧
    (s.md = .dormant → exec (.pathSilent true) s = .next s ∧ exec (.pathSilent false) s = .next s) ∧
    (s.joinDue = false → exec (.plAliveEdge us) s = .next { s with pair := { s.pair with aliveLost := false, alivePeriod := aliveClass us, partnerLost := false } }) ∧
    (∀ n ∈ [125, 250, 500], 99 * n ≤ 100 * us → 100 * us ≤ 101 * n → aliveClass us = n) ∧
    (s.pair.partnerLost = false ∨ s.active = false → exec .termProbe s = .next s) ∧
    (s.pair.partnerLost = true → s.active = true → s.chainMay = true → s.stw.trace = none → ∃ t, exec .termProbe s = .next t ∧
      t.out.length = s.out.length + s.portsUsed.length ∧ t.pair = s.pair ∧ t.coils = s.coils) ∧
    (s.pair.baseHold = some at_ → exec .baseIdResume s = .next { s.reach at_ with pair := { s.pair with baseHold := none } })

/-- HANDOVER_REQUEST, HANDOVER_ACCEPT, HANDOVER_REFUSE, HANDOVER_INSTANT, REVERT, REVERT_REQUEST and RESTART (R361, R368, R369, R376, R377, R380). -/
def Obligations.HandoverOfTheActiveRole : Prop :=
  ∀ (s : State) (inst cause at_ : Nat) (o : Origin) (h : Handover), s.gen.single = false →
    let gaveUp := fun (t : State) => t.pair.handover = none ∧ t.evtBit pPAIR 6 = true
    let again := fun (t : State) => ∃ i, t.pair.handover = some { instant := i, cause := h.cause, tries := h.tries + 1, accepted := false } ∧ s.now ≤ i
    let asked := fun (t : State) (c : Nat) => ∃ i, t.pair.handover = some { instant := i, cause := c, tries := 1, accepted := false } ∧ s.now + 500000 ≤ i
    (s.eligible = true → s.pair.sync ≠ .degraded → s.roleBarred cause = false → ∃ t, exec (.handoverRequest inst cause) s = .next t ∧
      t.pair.handover = some { instant := inst, cause := cause, tries := 1, accepted := true } ∧ t.pair.role = .standby ∧
      t.out = .pair 3 s.pair.lseq (sget 0#16 s.pair.msgNo 3) (1#32 :: word cause :: two inst) :: s.out) ∧
    (s.eligible = false ∨ s.pair.sync = .degraded → s.pair.role ≠ .singleOp → ∃ t, exec (.handoverRequest inst cause) s = .next t ∧
      t.pair.handover = s.pair.handover ∧ t.out = .pair 3 s.pair.lseq (sget 0#16 s.pair.msgNo 3) (2#32 :: word cause :: two inst) :: s.out) ∧
    (s.active = true → s.pair.handover = some h → h.accepted = false → at_ + 200000 ≤ h.instant → ∃ t, exec (.handoverAccept at_) s = .next t ∧
      t.pair.handover = some { h with accepted := true } ∧ t.now = Nat.max s.now at_ ∧ t.pair.role = s.pair.role) ∧
    (s.active = true → s.pair.handover = some h → h.accepted = false → h.instant < at_ + 200000 → s.pair.lockCause = 0 → ∃ t, exec (.handoverAccept at_) s = .next t ∧
      (h.tries < 4 → again t) ∧ (4 ≤ h.tries → gaveUp t)) ∧
    (s.active = true → s.pair.handover = some h → h.accepted = false → s.pair.lockCause = 0 → ∃ t, exec .handoverRefuse s = .next t ∧
      (h.tries < 4 → again t) ∧ (4 ≤ h.tries → gaveUp t)) ∧
    (s.active = false ∨ s.pair.handover = none → exec .handoverRefuse s = .next s ∧ exec (.handoverAccept at_) s = .next s) ∧
    (s.pair.handover = some h → h.accepted = true → s.active = true → h.cause ≠ 4 → s.pair.lockCause = 0 → ∃ t, exec .handoverInstant s = .next t ∧
      t.pair.role = .standby ∧ t.pair.sync = .synced ∧ t.pair.term = s.pair.term + 1#8 ∧ t.pair.handover = none ∧ t.bfc.driving = false ∧
      t.pair.handovers = Nat.min 65535 (s.pair.handovers + 1) ∧ t.evtBit pPAIR 5 = true ∧ t.now = Nat.max s.now h.instant ∧ t.coils = s.coils) ∧
    (s.pair.handover = some h → h.accepted = true → s.standby = true → h.cause ≠ 3 → ∃ t, exec .handoverInstant s = .next t ∧
      t.pair.role = .active ∧ t.pair.sync = .none ∧ t.pair.term = s.pair.term + 1#8 ∧ t.pair.handover = none ∧
      t.pair.handovers = Nat.min 65535 (s.pair.handovers + 1) ∧ t.evtBit pPAIR 5 = true ∧ t.now = Nat.max s.now h.instant) ∧
    (s.pair.revertSince = some at_ → s.bit pPAIR 0x020 19 = true → s.start.primary = true → s.eligible = true → s.pair.sync = .synced → s.scor.st = .dual →
      s.convQuiet = true → s.pair.linkDown = false → ∃ t, exec .revert s = .next t ∧ t.now = Nat.max s.now (at_ + s.fld pPAIR 0x020 31 20 * 1000000000) ∧
        t.pair.revertSince = some t.now ∧ t.out = .pair 3 s.pair.lseq (sget 0#16 s.pair.msgNo 3) [3#32] :: s.out) ∧
    (s.pairedActive = true → s.pair.handover = none → s.convQuiet = true → s.pair.linkDown = false → s.singleCore = false →
      ∃ t, exec .revertRequest s = .next t ∧ asked t 2 ∧ t.pair.role = .active) ∧
    (s.pairedActive = true → s.pair.partnerEligible = true → s.pair.handover = none → s.pair.linkDown = false → ∃ t, exec (.restart o) s = .next t ∧
      asked t 4 ∧ (t.page pPAIR).cfgseq = (s.page pPAIR).cfgseq + 1#32) ∧
    (s.pairedActive = false → s.md.joinOrOnline = false → ∃ t, exec (.restart o) s = .next t ∧ t.start.step = 2 ∧ t.md = .start ∧ t.regs = []) ∧
    (s.pairedActive = false → s.md.joinOrOnline = true → s.standby = false → exec (.restart o) s = .next (s.refuse o pPAIR 0x008 .mode))

/-- STATE, BLOCK, PLAN and CONTEXT of the partner (R36, R181, R198, R303, R363, R365, R366, R376, 14_device_pair.md Tables 14.2, 14.4). -/
def Obligations.StandbyMirrorsTheActive : Prop :=
  ∀ (s : State) (m : StateMsg) (e : Word) (bl : List (Nat × Half × Half)) (pl : List Shuttle) (kind : Byte) (img : List Byte), s.gen.single = false →
    let synced := s.standby = true ∧ s.pair.sync ≠ .syncing
    (synced → m.mode ≠ .lockout → s.md ≠ .lockout → s.mode.causes = 0#5 → ∃ t, exec (.state m) s = .next t ∧ t.pair.partnerMode = m.mode ∧
      t.pair.partnerGen = m.genId ∧ (s.mode.trans = none → t.md = m.mode) ∧ t.join.sec = m.join ∧ t.join.first = m.joinFirst.toNat ∧
      t.bfc.st = m.conv ∧ t.bfc.failedOpen = m.convOut ∧ t.bfc.senseLost = m.convSenseLost ∧ t.bfc.retriesUsed = m.convRetries ∧
      t.bfc.fseq = field m.convFault 31 24 ∧ t.bfc.cause = field m.convFault 23 16 ∧
      (∀ x st, m.strings.filter (fun q => q.1 == x) = [(x, st)] → (t.str x).st = if (s.str x).st = .opening then .opening else st) ∧
      (∀ x, (∀ q ∈ m.strings, q.1 ≠ x) → t.str x = s.str x) ∧
      (∀ c < 128, (∀ q ∈ m.closes, q.1 ≠ c) → (t.coil c).closeSeq = none) ∧
      (∀ c < 128, ∀ q, m.closes.find? (fun z => z.1 == c) = some (c, q) → (s.coil c).closeSeq = none → (s.coil c).openedAt = none →
        (t.coil c).closeSeq = some q.toNat) ∧
      (∀ c, (s.coil c).ops ≤ (t.coil c).ops)) ∧
    (s.active = true → m.mode ≠ .lockout → s.mode.causes = 0#5 → ∃ t, exec (.state m) s = .next t ∧ t.sw.partnerHas = some m.genId ∧ t.strs = s.strs ∧
      t.coils = s.coils ∧ t.bfc = s.bfc ∧ t.join = s.join ∧ t.md = s.md) ∧
    (synced → e ≠ s.time.epoch → ∃ t, exec (.block e bl) s = .next t ∧ t.pair.blockEpoch = e ∧ t.pair.blocks = bl ∧ t.pair.role = .standby ∧
      { t with pair := s.pair } = s) ∧
    (s.standby = false → exec (.block e bl) s = .next s ∧ exec (.plan e pl) s = .next s) ∧
    (s.standby = true → ∃ t, exec (.plan e pl) s = .next t ∧ t.bal.mirrored = some (e, pl) ∧ { t with bal := s.bal, shuts := s.shuts, pair := s.pair } = s ∧
      (∀ md ∈ s.modulesInUse, ∀ j < s.nCells md, ∀ i, (pl.filter (fun x => x.module == md && x.cell == j)) = [{ module := md, cell := j, cur := i }] →
        (∀ z, s.nCells z ≤ 16) → (t.shut (16 * md + j)).plan = i)) ∧
    (s.standby = true → ∃ t, exec (.context 0#8 e img) s = .next t ∧
      t.est.staged = s.est.staged ++ [{ port := leAt img 5 1, bytes := img, apply := none, fromPartner := true }] ∧
      t.pair.sync = (if s.pair.sync = .degraded then .synced else s.pair.sync) ∧ { t with est := s.est, pair := s.pair } = s) ∧
    (∃ t, exec (.context 1#8 e img) s = .next t ∧
      t.est.staged = s.est.staged ++ [{ port := leAt img 5 1, bytes := img, apply := some e, fromPartner := false, late := decide (2 ≤ s.est.restore) }] ∧ { t with est := s.est, pair := s.pair } = s) ∧
    (1 < kind.toNat → ∃ t, exec (.context kind e img) s = .next t ∧ { t with pair := s.pair } = s)

/-- SYNC, SWAP, DRILL_CHECK and GEN_SWITCH_PROPOSE (R6, R7, R232, R362, R363, R476, 14_device_pair.md R363, R35, R51, R310, R344, R378). -/
def Obligations.JoinSequenceDrillAndProposal : Prop :=
  (∀ (s : State) (pr : Bool) (v lo hi id ep w : Word) (tm : Byte) (md : Mode) (cs : BitVec 5) (fb : Byte) (lat : BitVec 8) (now tb : Nat) (cst : ConvSt)
      (sec : JoinSec), s.gen.single = false →
    let at_ := fun (n : Nat) => s.pair.joining = true ∧ s.active = false ∧ s.pair.joinStep = n
    let hello := SyncItem.hello pr v lo hi
    (at_ 0 → pr ≠ s.start.primary → s.compatibleWith v lo hi = true → ∃ t, exec (.sync hello) s = .next t ∧ t.pair.joinStep = 1 ∧ { t with pair := s.pair } = s) ∧
    (at_ 0 → pr ≠ s.start.primary → s.compatibleWith v lo hi = false → ∃ t, exec (.sync hello) s = .next t ∧ t.pair.compatFault = true ∧ t.pair.joining = false ∧
      t.evtBit pPAIR 0 = true) ∧
    (at_ 0 → pr = s.start.primary → ∃ t, exec (.sync hello) s = .next t ∧ t.pair.fault = true ∧ t.pair.joining = false) ∧
    (at_ 1 → id = s.gen.id → ∃ t, exec (.sync (.generation id)) s = .next t ∧ t.pair.joinStep = 2 ∧ t.pair.partnerGen = id ∧ { t with pair := s.pair } = s) ∧
    (at_ 1 → id ≠ s.gen.id → ∃ t, exec (.sync (.generation id)) s = .next t ∧ t.pair.genMismatch = true ∧ t.pair.joining = false ∧ t.pair.role = .standby ∧
      t.pair.sync = .syncing ∧ t.alSilent = true) ∧
    (at_ 2 → ∃ t, exec (.sync (.time now ep tb)) s = .next t ∧ t.pair.joinStep = 3 ∧ t.pair.role = .standby ∧ t.pair.sync = .syncing ∧ t.time.epoch = ep ∧
      t.time.tBase = tb ∧ t.time.sampling = true) ∧
    (at_ 3 → ∃ t, exec (.sync (.status tm md cs fb lat [])) s = .next t ∧ t.pair.joinStep = 4 ∧ t.pair.term = tm ∧ t.pair.partnerMode = md ∧
      (∀ q < 8, (t.bpair q).latched = lat.getLsbD q)) ∧
    (at_ 4 → (∃ t, exec (.sync (.converter cst w)) s = .next t ∧ t.bfc.st = cst ∧ t.faultWord = word (field w 31 24 * 2 ^ 24 + field w 23 16 * 2 ^ 16 +
        field w 15 8 * 2 ^ 8 + field w 7 0) ∧ { t with bfc := s.bfc, pair := s.pair } = s) ∧
      (∃ t, exec (.sync (.join sec [] [])) s = .next t ∧ t.join = { s.join with sec := sec } ∧ t.strs = s.strs ∧ ∀ c < 128, (t.coil c).closeSeq = none) ∧
      (∃ t, exec (.sync .complete) s = .next t ∧ t.pair.sync = .synced ∧ t.pair.joining = false ∧ t.pair.joinStep = 6 ∧ t.evtBit pPAIR 4 = true ∧
        t.pair.revertSince = some s.now)) ∧
    (s.pair.joining = false → s.active = false → ∃ t, exec (.sync hello) s = .next t ∧ { t with pair := s.pair } = s ∧ t.pair.joinStep = s.pair.joinStep) ∧
    (s.pair.role = .active → pr ≠ s.start.primary → s.pair.fault = false → s.compatibleWith v lo hi = true → ∃ t l q, exec (.sync hello) s = .next t ∧
      t.out.head? = some (.pair 0x21 l q [9#32]) ∧ t.pair.hasPartner = true ∧ { t with pair := s.pair, out := s.out } = s) ∧
    (∀ l, s.md = .commission → (verifyImage l).isNone = true → ∃ t, exec (.sync (.code l)) s = .next t ∧ t.code.ready = some l ∧ t.code.result = 1) ∧
    (∀ l, s.md ≠ .commission → ∃ t, exec (.sync (.code l)) s = .next t ∧ t.code.ready = s.code.ready ∧ t.code.result = 3 ∧ t.evtBit pCODE 4 = true)) ∧
  (∀ (s : State) (o : Origin) (r : DrillResult) (k : Nat),
    let maySwap := s.pairedActive = true ∧ s.pair.partnerEligible = true ∧ s.convQuiet = true ∧ s.md ≠ .lockout ∧ s.pair.linkDown = false ∧
      s.pair.handover = none ∧ s.pair.drill = 0
    let asked := fun (t : State) => ∃ i, t.pair.handover = some { instant := i, cause := 3, tries := 1, accepted := false } ∧ s.now + 500000 ≤ i
    let passed := r.echoFailed = [] ∧ r.qdFailed = 0#8 ∧ r.canFailed = false
    let ready := s.sw.asked = some k ∧ s.switchAccepted k = true
    let mayPropose := s.active = true ∧ s.sw.confirmed = none ∧ s.pair.genMismatch = false ∧ s.pair.compatFault = false
    let n := s.epochFrom (s.now + s.tEpoch)
    let id := genIdOf (s.slotState k).bytes
    (maySwap → ∃ t, exec (.swap o) s = .next t ∧ asked t ∧ t.pair.drill = 1 ∧ t.pair.drillResult = 1 ∧ t.pair.drillFailed = 0 ∧ t.pair.role = .active ∧
      (t.page pPAIR).cfgseq = (s.page pPAIR).cfgseq + 1#32) ∧
    (¬ maySwap → exec (.swap o) s = .next (s.refuse o pPAIR 0x008 .mode)) ∧
    (s.pair.drill = 0 ∨ s.pair.handover.isSome = true → exec (.drillCheck r) s = .next s) ∧
    (s.pair.drill = 2 → s.pair.handover = none → passed → ∃ t, exec (.drillCheck r) s = .next t ∧ t.pair.drill = 0 ∧ t.pair.drillResult = 2 ∧
      t.pair.handover = none ∧ t.evtBit pPAIR 10 = true) ∧
    (s.pair.drill = 2 → s.pair.handover = none → ¬ passed → ∃ t, exec (.drillCheck r) s = .next t ∧ t.pair.drill = 0 ∧ t.pair.drillResult = 3 ∧
      t.pair.drillFailed = Nat.min 63 r.echoFailed.length ∧ t.pair.drillQd = r.qdFailed ∧ t.pair.drillCan = r.canFailed ∧ asked t ∧ t.evtBit pPAIR 10 = true) ∧
    (s.sw.asked = none → exec .genSwitchPropose s = .next s) ∧
    (ready → mayPropose → s.pair.hasPartner = false → exec .genSwitchPropose s = .next { s with sw := { s.sw with confirmed := some n } }) ∧
    (ready → mayPropose → s.pair.hasPartner = true → s.pair.linkDown = false → s.sw.partnerHas = some id → exec .genSwitchPropose s =
      .next ({ s with sw := { s.sw with proposed := some n } }.sendPair 5 [id, n])) ∧
    (ready → mayPropose → s.pair.hasPartner = true → s.pair.linkDown = true ∨ s.sw.partnerHas ≠ some id → exec .genSwitchPropose s = .next s) ∧
    (ready → s.pair.genMismatch = false → mayPropose ∨ exec .genSwitchPropose s = .next s) ∧
    (ready → s.pair.genMismatch = true → ∃ t, exec .genSwitchPropose s = .next t ∧ t.otp.inForce = k ∧ t.gen.slot = k ∧ t.sw = {} ∧
      (t.slotState k).switched = true ∧ t.evtBit pOTP 2 = true ∧ t.pair.genMismatch = (t.gen.id != s.pair.partnerGen) ∧
      (∀ pg < 0x2C, (t.page pg).owner = 0)))

/-- QUEUE, WITHDRAW, TX_LAUNCH, TX_EXPIRE and CAN_TX_SENT: the life of a transmit buffer (R386, R387, R388, R389, R393, R405, 15_can_fd.md Tables 15.2, 15.5). -/
def Obligations.CanTransmitBuffers : Prop :=
  ∀ (s : State) (o : Origin) (x : CanIx) (b : BufIx) (sof : Nat),
    let k := 64 * x.val + b.val
    let pg := canPage x.val
    let own := s.bufOwner x.val b.val = (match o with | .host => 4 | .mgmt => 3 | .stairwell => 9)
    let busy := (s.buf k).st = .queued ∨ (s.buf k).st = .sending
    let fresh := fun (ws : List Word) => { s.buf k with words := ws, st := .queued, late := false, eligible := false, past := decide ((ws.getD 2 0#32).toNat + 2 ^ 32 * (ws.getD 3 0#32).toNat < s.now), doomed := none, rewrite := none, att := none }
    let u := (s.reach (s.buf k).launch).setBuf k { s.buf k with eligible := true }
    let a := s.reg pg 0x020
    let bit := (field a 4 0 + 1) * (1 + (field a 31 24 + 1) + (field a 23 17 + 1)) * 125
    let sent := (s.emit (.can x.val (s.frameOf (s.buf k)))).setCan x.val { s.can x.val with tec := (s.can x.val).tec - 1 }
    (own → ¬ busy → exec (.queue o x b) s = .next ((s.setBuf k (fresh (s.buf k).words)).bumpCfg pg)) ∧
    (own → busy → exec (.queue o x b) s = .next (s.refuse o pg 0x030 .mode)) ∧
    (¬ own → exec (.queue o x b) s = .next (s.refuse o pg 0x030 .format) ∧ exec (.withdraw o x b) s = .next (s.refuse o pg 0x030 .format)) ∧
    (own → (s.buf k).st = .queued → exec (.withdraw o x b) s = .next ((s.setBuf k { s.buf k with st := .withdrawn }).bumpCfg pg)) ∧
    (own → (s.buf k).st = .sending → exec (.withdraw o x b) s = .next ((s.setBuf k { s.buf k with doomed := some .withdrawn }).bumpCfg pg)) ∧
    (own → ¬ busy → exec (.withdraw o x b) s = .next (s.bumpCfg pg)) ∧
    ((s.buf k).st = .queued → (s.buf k).timed = true → s.canUp x.val = true → s.pairHeld (s.buf k) = false →
      (u.canOffer x.val ≠ some b.val → (s.buf k).past = true ∨ (s.buf k).late = true → exec (.txLaunch x b sof) s = .next u) ∧
      (u.canOffer x.val ≠ some b.val → (s.buf k).past = false → (s.buf k).late = false → ∃ t, exec (.txLaunch x b sof) s = .next t ∧ t.evtBit pg 2 = true ∧
        t.buf k = { s.buf k with eligible := true, late := true } ∧ t.now = u.now ∧ (∀ j, j ≠ k → t.buf j = s.buf j)) ∧
      (u.canOffer x.val = some b.val → ∃ t, exec (.txLaunch x b sof) s = .next t ∧ (t.buf k).st = .sending ∧ (t.buf k).att = some (s.sendIdent (s.buf k)) ∧
        t.now = Nat.max (Nat.max s.now (s.buf k).launch) sof ∧
        (t.buf k).late = ((s.buf k).late || (!(s.buf k).past && decide (bit < (sof - (s.buf k).launch) * 10))) ∧
        ((t.buf k).late = true → (s.buf k).late = false → t.evtBit pg 2 = true) ∧ (∀ j, j ≠ k → t.buf j = s.buf j))) ∧
    ((s.buf k).expire = 0 → exec (.txExpire x b) s = .next s) ∧
    ((s.buf k).expire ≠ 0 → (s.buf k).st = .queued → ∃ t, exec (.txExpire x b) s = .next t ∧ t.buf k = { s.buf k with st := .expired } ∧
      t.now = Nat.max s.now (s.buf k).expire ∧ t.evtBit pg 1 = true ∧ (∀ j, j ≠ k → t.buf j = s.buf j)) ∧
    ((s.buf k).expire ≠ 0 → (s.buf k).st = .sending → exec (.txExpire x b) s = .next ((s.reach (s.buf k).expire).setBuf k { s.buf k with doomed := some .expired })) ∧
    ((s.buf k).expire ≠ 0 → ¬ busy → exec (.txExpire x b) s = .next (s.reach (s.buf k).expire)) ∧
    (s.canUp x.val = true → s.canOffer x.val = some b.val → (s.buf k).flow = none → (((s.buf k).w 1).getLsbD 4 && ((s.buf k).w 1).getLsbD 5) = false →
      ((s.buf k).rewrite = none → exec (.canTxSent x b) s = .next (sent.setBuf k { s.buf k with st := .sent, doomed := none, att := none })) ∧
      (∀ ws, (s.buf k).rewrite = some ws → exec (.canTxSent x b) s = .next (sent.setBuf k (fresh ws)))) ∧
    (s.canUp x.val = true → s.canOffer x.val = some b.val → (s.buf k).flow = none → ((s.buf k).w 1).getLsbD 4 = true → ((s.buf k).w 1).getLsbD 5 = true →
      (s.buf k).rewrite = none → ∃ t w, exec (.canTxSent x b) s = .next t ∧ (t.buf k).st = .sent ∧ t.out = .can x.val (s.frameOf (s.buf k)) :: s.out ∧
      w < 256 ∧ t.can x.val = { s.can x.val with tec := (s.can x.val).tec - 1, loop := w })

/-- CAN_FRAME_RX, CAN_ERROR, BUS_OFF_WAIT_END, CAN_RECOVERED and WAKE_REARM (R373, R390, R391, R392, R400, R402, R417, 15_can_fd.md R390). -/
def Obligations.CanReceptionAndErrors : Prop :=
  ∀ (s : State) (o : Origin) (x : CanIx) (f : CanFrame) (stamp n : Nat) (e : CanErr) (tr : Bool),
    let k := x.val
    let c := s.can k
    let pg := canPage k
    let hears := (c.mode = .active ∨ c.mode = .listen) ∧ c.busOff = false ∧ (f.fdf = true → s.bit pg 0x008 2 = true)
    let r : RxEntry := { f := f, stamp := stamp }
    let code := match e with | .bitRec => 1 | .bitDom => 2 | .stuff => 3 | .form => 4 | .crc => 5 | .ack => 6
    let tec := if tr then (if e = .ack ∧ c.errPassive = true then c.tec else c.tec + 8) else c.tec
    let rec_ := if tr then c.rxErr else c.rxErr + (if e = .bitDom then 8 else 1)
    (hears → c.rxErr ≤ 127 → s.pairBuf k f = none → s.filterOf k f = some false → c.fifo0.length < 32 →
      exec (.canFrameRx x f stamp) s = .next (s.setCan k { c with rxErr := c.rxErr - 1, fifo0 := c.fifo0 ++ [r] })) ∧
    (hears → c.rxErr ≤ 127 → s.pairBuf k f = none → s.filterOf k f = some false → 32 ≤ c.fifo0.length → ∃ t, exec (.canFrameRx x f stamp) s = .next t ∧
      (t.can k).fifo0 = c.fifo0.drop 1 ++ [r] ∧ (t.can k).lost0 = c.lost0 + 1 ∧ t.evtBit pg 4 = true) ∧
    (hears → c.rxErr ≤ 127 → s.pairBuf k f = none → s.filterOf k f = some true → c.fifo1 = [] → s.mgmt.restarting = true →
      exec (.canFrameRx x f stamp) s = .next (s.setCan k { c with rxErr := c.rxErr - 1, fifo1 := [r] })) ∧
    (hears → c.rxErr ≤ 127 → s.pairBuf k f = none → s.filterOf k f = some true → c.fifo1 = [] → s.mgmt.restarting = false → s.host.lossPending = 0 →
      s.host.fifo.length + (rxWords r).length + 1 ≤ 4096 → ∃ t, exec (.canFrameRx x f stamp) s = .next t ∧ (t.can k).fifo1 = [] ∧
        t.host.fifo = s.host.fifo ++ (word (2 * 2 ^ 24 + (rxWords r).length) :: rxWords r) ∧ (s.host.fifo = [] → t.evtBit pHOST 0 = true)) ∧
    (hears → c.rxErr ≤ 127 → s.pairBuf k f = none → s.filterOf k f = none → ∃ t, exec (.canFrameRx x f stamp) s = .next t ∧
      t.can k = { c with rxErr := c.rxErr - 1 } ∧ (∀ j, j ≠ k → t.can j = s.can j) ∧ { t with cans := s.cans } = s) ∧
    (hears → 127 < c.rxErr → s.pairBuf k f = none → s.filterOf k f = none → ∃ t w, exec (.canFrameRx x f stamp) s = .next t ∧ 119 ≤ w ∧ w ≤ 127 ∧
      t.can k = { c with rxErr := w }) ∧
    (hears → ∀ b tm, s.pairBuf k f = some b → s.pairTerm k b f = some tm → newer8 tm s.term = true → s.pair.role = .active ∨ s.standby = true →
      ∃ t, exec (.canFrameRx x f stamp) s = .next t ∧ t.pair.role = .passive ∧ t.bfc.driving = false ∧ t.evtBit pPAIR 8 = true) ∧
    (¬ hears → exec (.canFrameRx x f stamp) s = .next s) ∧
    (s.canUp k = true → ∃ t, exec (.canError x e tr) s = .next t ∧ (t.can k).lastErr = code ∧ (t.can k).tec = tec ∧ (t.can k).rxErr = rec_ ∧
      (t.can k).busOff = decide (255 < tec) ∧ (255 < tec → t.evtBit pg 6 = true ∧ (t.can k).busOffAt = s.now) ∧
      (c.errPassive = false → 128 ≤ tec ∨ 128 ≤ rec_ → t.evtBit pg 5 = true) ∧ (∀ j, j ≠ k → t.can j = s.can j)) ∧
    (s.canUp k = false → exec (.canError x e tr) s = .next s) ∧
    (c.busOff = true → exec (.busOffWaitEnd x) s = .next ((s.reach (c.busOffAt + s.fld pg 0x008 31 16 * 1000000)).setCan k { c with recovering := true })) ∧
    (c.busOff = true → c.recovering = true → exec (.canRecovered x) s = .next (((s.setCan k { c with
      busOff := false, recovering := false, tec := 0, rxErr := 0 }).logN 0x0B02 [k, (s.now - c.busOffAt) / 1000000]).raise pg 0)) ∧
    (100 ≤ n → exec (.wakeRearm o x n) s = .next ((s.setCan k { c with wakeMasked := false }).bumpCfg pg)) ∧
    (n < 100 → exec (.wakeRearm o x n) s = .next (s.refuse o pg 0x008 .mode))

/-- SYNC_IN_EDGE, SYNC_IN_MISS, SYNC_OUT_PULSE, REF_MESSAGE_TX, REF_MESSAGE_RX and MASTER_CANDIDATE_START (R41, R42, R394, R395, R396, R397, R398, R399, 15_can_fd.md Table 15.3). -/
def Obligations.SynchronisedTime : Prop :=
  ∀ (s : State) (at_ : Nat) (x : CanIx) (f : CanFrame) (stamp : Nat),
    let y := s.syncT
    let t0 := Nat.max s.now at_
    let near := fun (off : Int) => off * 2 < 1000000000 ∧ -1000000000 ≤ off * 2 ∧ ((at_ : Int) - off) % 1000000000 = 0
    let pred := y.lastEdge + (y.misses + 1) * 1000000000
    let missed := fun (t : State) => if y.lock = true ∧ 2 ≤ y.misses then t.syncT.lock = false ∧ t.syncT.src = .none
      else t.syncT = { y with misses := y.misses + 1, edges := if y.lock then y.edges else 0 }
    let mine := x.val = s.ntmCan ∧ f.id.toNat - f.id.toNat % 8 = s.refBase ∧ f.xtd = s.bit pTIME 0x03C 29 ∧ f.fdf = false ∧ f.data.length = 8 ∧ (f.data.getD 0 0#8).toNat / 16 = 1
    (s.inFmt = 1 → y.lock = true → at_ ≤ pred + 100000 → pred ≤ at_ + 100000 → ∃ t off, exec (.syncInEdge at_) s = .next t ∧ near off ∧
      t.syncT.offset = off ∧ t.syncT.misses = 0 ∧ t.syncT.lastEdge = at_ ∧ t.syncT.lock = true ∧
      (s.ownTime = true → s.md.running = true → t.syncT.src = .syncIn ∧ t.time.slew = off ∧ t.time.slewAt = t0 ∧ t.now = t0) ∧
      (s.ownTime = false → t.time = (s.reach at_).time)) ∧
    (s.inFmt = 1 → y.lock = true → pred + 100000 < at_ ∨ at_ + 100000 < pred → ∃ t, exec (.syncInEdge at_) s = .next t ∧ missed t ∧ t.now = t0) ∧
    (s.inFmt = 1 → y.lock = false → 999900000 ≤ at_ - y.lastEdge → at_ - y.lastEdge ≤ 1000100000 → y.lastEdge ≠ 0 → ∃ t, exec (.syncInEdge at_) s = .next t ∧
      t.syncT.lock = decide (2 ≤ y.edges) ∧ t.syncT.edges = y.edges + 1 ∧ t.syncT.lastEdge = at_ ∧ near t.syncT.offset) ∧
    (s.inFmt ≠ 1 → s.inFmt ≠ 2 → exec (.syncInEdge at_) s = .next (s.reach at_)) ∧
    (∃ t, exec .syncInMiss s = .next t ∧ missed t ∧ t.time = s.time) ∧
    (s.outFmt = 1 → ∃ t, exec .syncOutPulse s = .next t ∧ t.now % 1000000000 = 0 ∧ s.now ≤ t.now ∧ t.now < s.now + 1000000000 ∧
      t.out = .pulse "SYNC_OUT" 0 10 :: s.out ∧ { t with time := s.time, out := s.out } = s) ∧
    (s.outFmt ≠ 1 → s.outFmt ≠ 2 → exec .syncOutPulse s = .next s) ∧
    (s.ntmRole = 2 → y.conflict = false → s.heardHigher = false → s.active = true → y.sending = false → ∃ t, exec .masterCandidateStart s = .next t ∧
      t.syncT = { y with sending := true } ∧ t.time = s.time) ∧
    (s.heardHigher = true ∨ y.conflict = true → exec .masterCandidateStart s = .next s) ∧
    (y.sending = true → s.ntmRole = 2 → s.active = true → s.heardHigher = true → ∃ t, exec .refMessageTx s = .next t ∧ t.syncT = { y with sending := false } ∧ t.out = s.out) ∧
    (y.sending = true → s.ntmRole = 2 → s.active = true → s.heardHigher = false → s.canUp s.ntmCan = true → exec .refMessageTx s =
      .next ({ s with syncT := { y with count := y.count + 1#8, lastTx := some s.now } }.emit (.can s.ntmCan
        { id := BitVec.ofNat 29 (s.refBase + s.ntmPrio), xtd := s.bit pTIME 0x03C 29, fdf := false, brs := false, dlc := 8,
          data := [BitVec.ofNat 8 (16 + b2n y.lock * 8 + s.ntmPrio), y.count + 1#8] ++ leBytes 6 (match y.lastTx with | some t => t % 2 ^ 48 | none => 2 ^ 48 - 1) }))) ∧
    (mine → s.ntmRole = 2 → f.id.toNat % 8 = s.ntmPrio → s.standby = false → ∃ t, exec (.refMessageRx x f stamp) s = .next t ∧ t.syncT = { y with conflict := true, sending := false } ∧ t.time = s.time) ∧
    (mine → s.ntmRole = 1 → (y.heard.any (fun e => e.1 == f.id.toNat % 8)) = true → y.lastCount = some (f.data.getD 1 0#8 - 1#8) → leAt f.data 2 6 ≠ 2 ^ 48 - 1 → s.ownTime = true → y.lock = false →
      ∃ t, exec (.refMessageRx x f stamp) s = .next t ∧ t.syncT.ntmLock = true ∧ t.syncT.src = .ntm ∧ t.syncT.lastStamp = stamp ∧
        t.syncT.lastCount = some (f.data.getD 1 0#8) ∧ t.syncT.heard = some (f.id.toNat % 8, s.now) ∧
        t.syncT.offset = (y.lastStamp : Int) - widen48 y.lastStamp (leAt f.data 2 6) - (s.slewTotal s.now - y.slewnThen)) ∧
    (¬ mine → exec (.refMessageRx x f stamp) s = .next s)

/-- READ, WRITE and FIFO_READ: CRC errors, the words and the status they answer (R24, R43, R45, R411, R412, R413, R417, 16_hall_flows_host.md Tables 16.4, 16.5). -/
def Obligations.HostTransactions : Prop :=
  ∀ (s : State) (lanes : Lanes) (addr : Word) (len hcrc dcrc : Half) (words : List Word),
    let a := addr.toNat
    let n := len.toNat
    let pg := a / 0x1000
    let off := a % 0x1000
    let good := fun (op : Nat) (l : Half) => crc16 (headBytes op lanes addr l) = hcrc
    let rd := Instr.read lanes addr len hcrc
    let wr := fun (early : Bool) => Instr.write lanes addr words hcrc dcrc early
    let wgood := good 2 (BitVec.ofNat 16 words.length) ∧ crc16 (bytesOf words) = dcrc
    let failed := fun (t : State) (k : Nat) => t.out = .host 9 0 (List.replicate k 0#32) :: s.out ∧ t.evtBit pHOST 4 = true ∧
      { t with out := s.out, pages := s.pages } = s
    let one := n = 1 ∧ a % 4 = 0
    let queue := fun (x : Nat) => (regFlds (x / 0x1000) (x % 0x1000)).isSome = true ∧ pageClass (x / 0x1000) ≠ .mgmt ∧ x < 0x80000 ∧ x % 4 = 0
    let entry := fun (x : Nat) (v : Word) => { origin := Origin.host, page := x / 0x1000, offset := x % 0x1000, value := v, level := Level.service : MbxEntry }
    (¬ good 1 len → ∃ t, exec rd s = .next t ∧ failed t n) ∧
    (good 1 len → n = 0 ∨ 1024 < n → exec rd s = .next (s.emit (.host 1 0 []))) ∧
    (good 1 len → 1 ≤ n → n ≤ 1024 → ∃ t st k ws, exec rd s = .next t ∧ t.out = .host st k ws :: s.out ∧ ws.length = n ∧ k ≤ n ∧
      (st = 0 ↔ k = n) ∧ t.regs = s.regs ∧ t.pages = s.pages ∧ t.mbx = s.mbx ∧ t.host = s.host) ∧
    (good 1 len → one → a < 0x80000 → lowWord pg off = false → (4 ≤ off → lowWord pg (off - 4) = false) → pg ≠ pEST ∨ off < 0x800 →
      pg ≠ pBFC ∨ off < 0x800 → exec rd s = .next (s.emit (.host 0 1 [s.readReg .host pg off]))) ∧
    (good 1 len → one → 0x80000 ≤ a → a < 0x10000000 ∨ (0x10040000 ≤ a ∧ a < 0x20000000) ∨ 0x20080000 ≤ a →
      exec rd s = .next (s.emit (.host 6 0 [0#32]))) ∧
    (good 1 len → one → 0x10000000 ≤ a → a < 0x10040000 → s.hallRead .host ((a - 0x10000000) / 4) = none →
      exec rd s = .next (s.emit (.host 8 0 [0#32]))) ∧
    (exec (wr true) s = .next s) ∧
    (¬ wgood → ∃ t, exec (wr false) s = .next t ∧ failed t 0) ∧
    (wgood → ∀ v, words = [v] → queue a → s.mbx.length < 32 → exec (wr false) s =
      .next ({ s with mbx := s.mbx ++ [entry a v] }.emit (.host 0x0A 1 []))) ∧
    (wgood → ∀ v, words = [v] → queue a → 32 ≤ s.mbx.length → exec (wr false) s = .next (s.emit (.host 7 0 []))) ∧
    (wgood → ∀ v w, words = [v, w] → queue a → queue (a + 4) → s.mbx.length = 31 → exec (wr false) s =
      .next ({ s with mbx := s.mbx ++ [entry a v] }.emit (.host 7 1 []))) ∧
    (wgood → ∀ v, words = [v] → a % 4 = 0 → a < 0x80000 → regFlds pg off = none → exec (wr false) s = .next (s.emit (.host 6 0 []))) ∧
    (wgood → ∀ v, words = [v] → 0x10000000 ≤ a → a < 0x10040000 → exec (wr false) s = .next (s.emit (.host 1 0 []))) ∧
    (¬ good 3 len → ∃ t, exec (.fifoRead lanes addr len hcrc) s = .next t ∧ failed t n) ∧
    (good 3 len → 1 ≤ n → n ≤ 1024 → exec (.fifoRead lanes addr len hcrc) s = .next ({ s with host := { s.host with fifo := s.host.fifo.drop n } }.emit
      (.host 0 (Nat.min n s.host.fifo.length) (s.host.fifo.take n ++ List.replicate (n - s.host.fifo.length) 0#32))))

/-- HOST_CMD_ERROR, FIFO_FLUSH, WAKE_CLR, RESTORE_SLOT_WRITE, RSUBMIT, IMAGE_VALIDATED, LOW_WORD_READ and CTX_WORD0_READ (R36, R55, R414, R417, R418, R419, 16_hall_flows_host.md R419, 06_state_estimation.md Table 06.9). -/
def Obligations.HostPortCommands : Prop :=
  ∀ (s : State) (o : Origin) (cmd : Byte) (addr v : Word),
    let c := cmd.toNat
    let may := s.stwBarred o = false ∧ s.mgmt.restarting = false
    let did := fun (t : State) => (t.bumpCfg pHOST).answer o 0 []
    let k := addr.toNat / 0x8000 % 16
    let ad := addr.toNat % 0x8000 / 4 * 4
    let r := s.rslot k
    let j := field v 3 0
    let pg := addr.toNat / 0x1000
    let off := addr.toNat % 0x1000
    (c < 16 ∨ 64 ≤ c ∨ c / 4 % 4 ≠ 0 ∨ c % 4 = 3 → exec (.hostCmdError cmd) s = .next (s.raise pHOST 5)) ∧
    (16 ≤ c → c < 64 → c / 4 % 4 = 0 → c % 4 ≠ 3 → exec (.hostCmdError cmd) s = .next s) ∧
    (may → exec (.fifoFlush o) s = .next (did { s with host := { s.host with fifo := [] } })) ∧
    (may → exec (.wakeClr o) s = .next (did { s with dev := { s.dev with wakeOut := false } })) ∧
    (∀ x ∈ [Instr.fifoFlush o, .wakeClr o], s.stwBarred o = false → s.mgmt.restarting = true → exec x s = .next (s.refuse o pHOST 0x008 .mode)) ∧
    (∀ x ∈ [Instr.fifoFlush o, .wakeClr o, .rsubmit o v], s.stwBarred o = true → exec x s = .next (s.answer o 5 [])) ∧
    (r.st = .validating → exec (.restoreSlotWrite addr v) s = .next (s.answer .host 4 [])) ∧
    (r.st ≠ .validating → ∃ t, exec (.restoreSlotWrite addr v) s = .next t ∧ (t.rslot k).mem = r.mem.writeWord ad v ∧ (t.rslot k).mem.readWord ad = v ∧
      (t.rslot k).written = true ∧ (t.rslot k).st = (if r.st = .submitted then .submitted else .empty) ∧ (∀ i, i ≠ k → t.rslot i = s.rslot i) ∧
      t.out = .host 0 1 [] :: s.out ∧ { t with rslots := s.rslots, out := s.out } = s) ∧
    (may → (s.rslot j).written = false ∨ (s.rslot j).st ≠ .empty → exec (.rsubmit o v) s = .next (s.refuse o pHOST 0x024 .format)) ∧
    (may → (s.rslot j).written = true → (s.rslot j).st = .empty → ∃ t, exec (.rsubmit o v) s = .next t ∧ t.rqueue = s.rqueue ++ [j] ∧
      (s.rqueue = [] → (t.rslot j).st = .validating) ∧ (s.rqueue ≠ [] → j ∉ s.rqueue → (t.rslot j).st = .submitted) ∧ (t.rslot j).mem = (s.rslot j).mem) ∧
    (s.rqueue = [] → exec .imageValidated s = .next s) ∧
    (∀ i rest, s.rqueue = i :: rest → (s.rslot i).st = .validating →
      let l := (s.rslot i).mem.read 0 21824
      let p := leAt l 5 1
      let done := fun (t : State) => t.rqueue = rest ∧ t.evtBit pHOST 3 = true
      let refused := fun (t : State) (step reason : Nat) => done t ∧ (t.rslot i).st = .refused ∧ (t.rslot i).step = step ∧ (t.rslot i).reason = reason ∧
        t.est = s.est ∧ t.evtBit pEST 3 = true
      (∀ st rs, s.imageCheck l = some (st, rs) → ∃ t, exec .imageValidated s = .next t ∧ refused t st rs) ∧
      (s.imageCheck l = none → s.est.portsMirrored.getLsbD p = true → ∃ t, exec .imageValidated s = .next t ∧ refused t 0 5) ∧
      (s.imageCheck l = none → s.est.portsMirrored.getLsbD p = false → 2 ≤ s.est.restore → s.lateOk p = false →
        ∃ t, exec .imageValidated s = .next t ∧ refused t 0 6) ∧
      (s.imageCheck l = none → s.est.portsMirrored.getLsbD p = false → s.est.restore < 2 ∨ s.lateOk p = true → ∃ t, exec .imageValidated s = .next t ∧
        done t ∧ (t.rslot i).st = .applied ∧ (t.rslot i).apply = s.nextN.setWidth 16 ∧ t.est.staged = s.est.staged ++
          [{ port := p, bytes := l.take (64 + 544 * leAt l 6 1), apply := some s.nextN, fromPartner := false, slot := some i, late := decide (2 ≤ s.est.restore) }])) ∧
    (addr.toNat % 4 = 0 → addr.toNat < 0x80000 → lowWord pg off = true → ∃ t, exec (.lowWordRead o addr) s = .next t ∧
      t = (s.updLatchOf o.code (fun l => { l with high := s.readReg o pg (off + 4), highOf := addr.toNat + 4 })).answer o 0 [s.readReg o pg off] ∧
      (t.readLatched o pg (off + 4)).1 = s.readReg o pg (off + 4)) ∧
    (exec (.ctxWord0Read o) s = .next ((s.updLatchOf o.code (fun l => { l with ctx := s.ctxWords.drop 1 })).answer o 0 [s.readReg o pEST 0x800]))

/-- POWER_ON, VIN_UNDERVOLTAGE, RESET_N, VAUX_FAULT, VAUX_RETRY, TJ_HIGH and TJ_HIGH_CLEAR (R436, R437, R441, R456, R457, R461, R504, 17_modes_and_landings.md Tables 17.5 and 17.6, R508, R518, 21_pads_and_electrical.md Table 21.17). -/
def Obligations.PowerResetSupplyAndTemperature : Prop :=
  (∀ (s : State) (low : Nat),
    (s.start.powered = false → exec .powerOn s = .next { s with
      start := { s.start with powered := true, step := 1, poweredAt := s.now }, gal := { s.gal with pcc := s.gal.pcc + 1 },
      supply := { s.supply with vin := 780 } }) ∧
    (low < 1000 → exec (.resetN low) s = .next s) ∧
    (∀ (c : Instr) (n : Nat) (p : Bool), s.start.powered = true →
      (c = .vinUndervoltage ∧ n = 0 ∧ p = false) ∨ (c = .resetN low ∧ 10000 ≤ low ∧ n = 2 ∧ p = true) →
      ∃ t, exec c s = .next t ∧ t.start.powered = p ∧ t.start.step = n ∧ t.md = .start ∧ t.mode = {} ∧ t.regs = [] ∧ t.pages = [] ∧
        t.ctxs = [] ∧ t.hall = {} ∧ t.time = {} ∧ t.engs = [] ∧ t.ports = [] ∧ t.mbx = [] ∧ t.ban.so = 0#4 ∧ t.scor.permit = false ∧
        t.gal.fifo = [] ∧ t.otp.slots = s.otp.slots ∧ t.otp.keys = s.otp.keys ∧ t.otp.svnMin = s.otp.svnMin ∧ t.otp.buf = [] ∧
        t.fw.imageA = s.fw.imageA ∧ t.fw.imageB = s.fw.imageB ∧ t.fw.preferredB = s.fw.preferredB ∧ t.pending = s.pending ∧
        t.gal.opTime = s.opSecs ∧
        (∀ k, (t.coil k).ops = (s.coil k).ops ∧ (t.coil k).underLoad = (s.coil k).underLoad ∧ (t.coil k).iInt = (s.coil k).iInt ∧
          (t.coil k).coil = false))) ∧
  (∀ (s : State) (ma : Nat) (tj : Int),
    let warm := { s.supply with tj := tj, tjMax := if s.supply.tjMax < tj then tj else s.supply.tjMax }
    (s.supply.vauxFault = false → exec (.vauxFault ma) s =
      .next (({ s with supply := { s.supply with vauxFault := true } }.logN 0x0E52 [ma]).raise pTHERM 2)) ∧
    (∀ overload, s.supply.vauxFault = true → exec (.vauxRetry overload) s = .next { s with supply := { s.supply with vauxFault := overload } }) ∧
    (s.supply.tjHigh = false → 1250 ≤ tj → exec (.tjHigh tj) s =
      .next (({ s with supply := { warm with tjHigh := true } }.log 0x0E50 [BitVec.ofInt 32 tj]).raise pTHERM 0)) ∧
    (tj < 1200 → exec (.tjHighClear tj) s = .next { s with supply := { warm with tjHigh := false } }))

/-- The start-up steps 1 to 8, the role wait and the restore wait (R437, R441, R438, R503, R310, 17_modes_and_landings.md Tables 17.6 and 17.7, R362, R176, R177, R27, 17_modes_and_landings.md Table 17.6). -/
def Obligations.StartupSteps : Prop :=
  (∀ (s : State) (roleHigh : Bool), s.start.bootHold = false →
    let stepped := fun (n : Nat) => { s.start with step := n, ends := s.start.ends ++ [(s.now - s.start.poweredAt) / 1000000] }
    (s.start.step = 1 → exec .startupSupplySettled s = .next { s with start := stepped 2 }) ∧
    (s.start.step = 2 → exec (.startupStrapsRead roleHigh false) s =
      .next { s with start := { stepped 3 with primary := !roleHigh, bootSel := false } }) ∧
    (s.start.step = 2 → ∃ t, exec (.startupStrapsRead roleHigh true) s = .next t ∧
      t.start = { stepped 3 with primary := !roleHigh, bootSel := true, bootHold := true } ∧
      { t with start := s.start, gal := s.gal, pages := s.pages } = s) ∧
    (s.start.step = 3 → s.gal.journal = none → s.fw.failA < 3 → s.fw.preferredB = false →
      fwCheck s.otp.svnMin (s.fwImage false) = 0 → ∃ t, exec .firmwareImageChecked s = .next t ∧ t.start = stepped 4 ∧
      t.fw.runningB = false ∧ t.fw.failA = s.fw.failA + 1 ∧ { t with start := s.start, fw := s.fw } = s) ∧
    (s.start.step = 4 → ∃ t, exec .generationSelected s = .next t ∧ t.start.step = 5 ∧
      t.otp.inForce = (s.switchedSlots.find? (fun k => slotOk k (s.slotState k).bytes)).getD 0 ∧
      t.start.onlyG0 = (t.otp.inForce == 0) ∧ t.otp.slots = s.otp.slots ∧
      (∀ x : CanIx, (t.can x.val).mode = canModeOf (t.fld (canPage x.val) 0x008 1 0)) ∧ t.mode = s.mode ∧ t.coils = s.coils)) ∧
  (∀ (s : State),
    (s.atStep 5 = true → s.start.onlyG0 = true → s.start.leaving = 0#5 → ∃ t, exec (.startupSelftestPassed true none none) s = .next t ∧
      t.md = .commission ∧ t.start.step = 0 ∧ t.scor.st = .dual ∧ t.scor.permit = true ∧ t.ban.walkPassed = true) ∧
    (∀ u, s.pair.waitUntil = some u → s.pair.role = .starting → s.gen.single = false → ∃ t, exec .roleWaitTimeout s = .next t ∧
      t.now = Nat.max s.now u ∧ t.pair.role = .active ∧ t.pair.waitUntil = none ∧ t.mode = s.mode ∧ t.start = s.start) ∧
    (s.atStep 6 = true → s.active = true → s.portsDone = true → s.md ≠ .dormant → ∃ t, exec .portsStarted s = .next t ∧
      t.start.step = 7 ∧ t.time.sampling = true ∧ t.mode = s.mode) ∧
    (s.atStep 7 = true → s.authDone = true → ∃ t, exec .modulesAuthenticated s = .next t ∧ t.start.step = 8 ∧ t.est.restore = 1 ∧
      t.est.restoreFrom = s.now ∧ t.est.restoreEnd = s.now + s.fld pEST 0x040 31 16 * 1000000000 ∧
      { t with start := s.start, est := s.est, gal := s.gal, pages := s.pages } = s) ∧
    (s.est.restore = 1 → ∃ t, exec .restoreWaitEnd s = .next t ∧ t.est.restore = (if s.restoreComplete then 2 else 3) ∧
      t.now = (if s.restoreComplete then s.now else Nat.max s.now s.est.restoreEnd) ∧
      (s.atStep 8 = true → s.md = .start → s.mode.reqCauses = 0#5 → t.start.step = 9 ∧
        t.mode.trans = some { target := .ready, origin := 0 })))

/-- VIN_SURGE and VIN_SURGE_END: within the rating everything continues with one record; beyond it the model stops, and nowhere else (R507). -/
def Obligations.VinSurgeWithinAndBeyondRating : Prop :=
  (∀ (s : State) (peak dur : Nat), 6500 < peak → peak ≤ 10000 → dur ≤ 400 → ∃ t, exec (.vinSurge peak dur) s = .next t ∧
    t.supply = { s.supply with vin := peak, vinSurge := true, surgePeak := Nat.max peak (if s.supply.vinSurge then s.supply.surgePeak else 0) } ∧
    t.evtBit pTHERM 1 = true ∧ { t with supply := s.supply, pages := s.pages } = s) ∧
  (∀ (s : State) (dur : Nat), dur ≤ 400 → s.supply.vinSurge = true → ∃ t, exec (.vinSurgeEnd dur) s = .next t ∧
    t.supply = { s.supply with vin := 6500, vinSurge := false, surgePeak := 0 } ∧
    (s.gal.fifo.length < 64 → t.gal.fifo = s.gal.fifo ++ [s.galEntry 0x0E51 [word s.supply.surgePeak, word dur]]) ∧
    { t with supply := s.supply, gal := s.gal, pages := s.pages } = s) ∧
  (∀ (s : State) (peak dur : Nat), (10000 < peak ∨ 400 < dur) → exec (.vinSurge peak dur) s = .fault .supplyBeyondRating) ∧
  (∀ (s : State) (dur : Nat), 400 < dur → exec (.vinSurgeEnd dur) s = .fault .supplyBeyondRating) ∧
  (∀ (c : Instr) (s : State) (f : Fault), exec c s = .fault f →
    (∃ peak dur, c = .vinSurge peak dur ∧ (10000 < peak ∨ 400 < dur)) ∨ (∃ dur, c = .vinSurgeEnd dur ∧ 400 < dur)) ∧
  (∀ (c : Instr) (s : State) (r : Refusal), exec c s ≠ .refused r)

/-- REQ_DORMANT, REQ_COMMISSION, REQ_READY and JOIN_CTRL_START: guarded requests and their refusal (R426, R427, R428, R429, R450, 17_modes_and_landings.md Tables 17.2, 17.3). -/
def Obligations.GuardedModeRequests : Prop :=
  ∀ (s : State) (o : Origin) (without : List Nat),
    let accepted := fun (c : Instr) (pg : Nat) (dest : Mode) (after : Bool) =>
      ∃ t, exec c s = .next t ∧ t.mode = { s.mode with trans := some { target := dest, origin := o.code, afterOpenings := after } } ∧
        (t.page pg).cfgseq = (s.page pg).cfgseq + 1#32 ∧ t.coils = s.coils ∧ t.pair.role = s.pair.role ∧
        (dest = .joining → t.join = { s.join with startedAt := s.now }) ∧
        (∀ x ∈ s.closedList, after = true → s.isOpen x = false → (t.waitOf x).waiting = true)
    let free := s.active = true ∧ s.mode.trans = none
    (∀ dest : Mode, ∀ g < 12, (s.failed dest).getLsbD g = (decide (g ∈ guardsOf s.md dest) && !s.guardHolds dest g)) ∧
    (s.md = .ready → free → s.failed .dormant = 0#12 → accepted (.reqDormant o without) pMODE .dormant false) ∧
    (s.md = .ready → free → s.failed .commission = 0#12 → accepted (.reqCommission o) pMODE .commission false) ∧
    (s.md = .commission → free → s.failed .ready = 0#12 → accepted (.reqReady o) pMODE .ready false) ∧
    (s.md = .online → free → accepted (.reqReady o) pMODE .ready true) ∧
    (s.md = .ready → free → s.failed .joining = 0#12 → s.pair.fault = false → accepted (.joinCtrlStart o) pJOIN .joining false) ∧
    (∀ (c : Instr) (pg : Nat) (dest : Mode), (c = .reqDormant o without ∧ dest = .dormant ∧ pg = pMODE ∨
        c = .reqCommission o ∧ dest = .commission ∧ pg = pMODE ∨ c = .joinCtrlStart o ∧ dest = .joining ∧ pg = pJOIN) →
      s.md ≠ .ready ∨ s.failed dest ≠ 0#12 ∨ s.active = false ∨ s.mode.trans ≠ none →
      ∃ t, exec c s = .next t ∧ t.mode = { s.mode with guardReq := dest.code, guardFailed := s.failed dest } ∧
        t.evtBit pMODE 1 = true ∧ t.evtBit pg 31 = true ∧ t.evtBit pDEV 0 = true ∧
        t.dev.mbxstat = word (4 * 2 ^ 29 + o.code * 2 ^ 27 + pg * 2 ^ 20 + 8) ∧
        { t with mode := s.mode, pages := s.pages, gal := s.gal, dev := s.dev } = s)

/-- JOIN_CTRL_ABORT, JOIN_OPEN, WELD_CLR, RR_GO and CAN_REMOTE_RESET (R273, R281, R282, R254, 10_rolling_join.md Tables 10.6, 10.9, R432, R433, R434, R435, 17_modes_and_landings.md Table 17.4). -/
def Obligations.JoinWeldAndRemoteReset : Prop :=
  (∀ (s : State) (o : Origin) (high : Bool) (m : Word) (sel : BitVec 6),
    (s.md = .joining → s.joining = true → ∃ t, exec (.joinCtrlAbort o) s = .next t ∧ t.join.sec = .idle ∧
      (t.page pJOIN).cfgseq = (s.page pJOIN).cfgseq + 1#32 ∧ t.evtBit pJOIN 1 = true ∧
      (∀ y < 48, (s.str y).st.closing = true → s.isOpen y = false → (t.str y).st = .opening)) ∧
    (s.md ≠ .joining → exec (.joinCtrlAbort o) s = .next (s.refuse o pJOIN 0x008 .mode)) ∧
    (∃ t, exec (.joinOpen o high m) s = .next t ∧ t.coils = s.coils ∧ t.mode = s.mode ∧ (t.page pJOIN).cfgseq = (s.page pJOIN).cfgseq + 1#32 ∧
      (∀ x ∈ maskPorts high m, s.strUse x = true → t.armed x = false ∧
        (s.isOpen x = false → (t.waitOf x).waiting = true ∧ (t.waitOf x).deadline ≤ Nat.max (s.waitOf x).deadline (s.now + s.tWait))) ∧
      (∀ x < 48, (x ∉ maskPorts high m ∨ s.strUse x = false) → t.armed x = s.armed x ∧ t.waitOf x = s.waitOf x ∧ t.str x = s.str x)) ∧
    (sel.toNat < 48 → (∀ c ∈ s.chansOf sel.toNat, (s.coil c).aux = false) → ∃ t, exec (.weldClr o sel) s = .next t ∧
      (t.str sel.toNat).weldNeg = false ∧ (t.str sel.toNat).weldPos = false ∧ (∀ y, y ≠ sel.toNat → t.str y = s.str y) ∧
      (t.page pACT).cfgseq = (s.page pACT).cfgseq + 1#32 ∧ t.coils = s.coils) ∧
    (sel = 63#6 → (∀ c, s.feedCh = some c → (s.coil c).aux = false) → exec (.weldClr o sel) s =
      .next ({ s with join := { s.join with feedWeld := false } }.bumpCfg pACT)) ∧
    (∀ c ∈ s.chansOf sel.toNat, sel.toNat < 48 → (s.coil c).aux = true → exec (.weldClr o sel) s = .next (s.refuse o pACT 0x008 .mode)) ∧
    (48 ≤ sel.toNat → sel ≠ 63#6 → exec (.weldClr o sel) s = .next (s.refuse o pACT 0x008 .format))) ∧
  (∀ (s : State) (o : Origin) (causes : BitVec 5) (f : CanFrame),
    let passes := fun (c : Instr) (u : State) (m : BitVec 5) =>
      (u.rrCheck m = none → m &&& 24#5 = 0#5 → ∃ t, exec c s = .next t ∧ t.mode.causes = s.mode.causes &&& ~~~m ∧ t.mode.rrLast = u.mode.rrEpoch ∧
        (t.page pMODE).cfgseq = (s.page pMODE).cfgseq + 1#32 ∧ t.coils = s.coils ∧ t.md = s.md ∧
        (s.mode.causes &&& m ≠ 0#5 → t.mode.causes = 0#5 → t.mode.trans = some { target := if s.start.onlyG0 then .commission else .ready, origin := 0 })) ∧
      (u.rrCheck m = none → m &&& 24#5 ≠ 0#5 → ∃ t, exec c s = .next t ∧ t.start.step = 2 ∧ t.start.leaving = m &&& 24#5 ∧ t.md = .start ∧ t.regs = []) ∧
      (u.rrCheck m ≠ none → ∃ t, exec c s = .next t ∧ t.mode = u.mode ∧ t.mode.causes = s.mode.causes ∧ t.mode.rrLast = s.mode.rrLast ∧
        t.evtBit pMODE 4 = true ∧ t.evtBit pMODE 31 = true ∧ t.levels = s.levels)
    let id := s.item 21 9
    let named := s.mgmt.restarting = false ∧ f.fdf = true ∧ f.data.length = 16 ∧ (f.id.toNat : Int) = id % 2 ^ 29 ∧ (b2n f.xtd : Int) = id / 2 ^ 29 % 2
    let w := fun i => word (leAt f.data i 4)
    let m := BitVec.ofNat 5 (leAt f.data 4 1)
    passes (.rrGo o causes) { s with mode := { s.mode with rrCauses := causes } } causes ∧
    (named → passes (.canRemoteReset f) { s with mode := { s.mode with rrEpoch := w 0, rrMac0 := w 8, rrMac1 := w 12, rrCauses := m } } m) ∧
    (¬ named → exec (.canRemoteReset f) s = .next s))

/-- FW_OPEN, FW_ERASE_DONE, FW_DATA, FW_VERIFY, FW_VERIFY_DONE and FW_PREFER (R440, R441, R442, R443, R470, R471, 17_modes_and_landings.md Table 17.8). -/
def Obligations.FirmwareImages : Prop :=
  ∀ (s : State) (o : Origin) (v : Word) (m : Memory),
    let may := s.stwBarred o = false ∧ s.mgmt.restarting = false
    let did := fun (t : State) => (t.bumpCfg pDEV).answer o 0 []
    let a := s.fld pDEV 0x048 20 0
    let opened := s.fw.state = .writing ∨ (s.fw.state = .empty ∧ s.fw.opened = true)
    let keeps := fun (t : State) => t.fw.runningB = s.fw.runningB ∧ t.fwImage t.fw.runningB = s.fwImage s.fw.runningB ∧ t.fw.preferredB = s.fw.preferredB
    let all := [(Instr.fwOpen o, 0x040), (.fwData o v, 0x04C), (.fwVerify o, 0x040), (.fwPrefer o, 0x040)]
    (∀ c ∈ all, s.stwBarred o = true → exec c.1 s = .next (s.answer o 5 [])) ∧
    (∀ c ∈ all, s.stwBarred o = false → s.mgmt.restarting = true → exec c.1 s = .next (s.refuse o pDEV c.2 .mode)) ∧
    (may → s.fw.state ≠ .verifying → s.mgmt.shed ≠ 3 → exec (.fwOpen o) s =
      .next (did ({ s with fw := { s.fw with state := .erasing, opened := false, reason := 0 } }.setReg pDEV 0x048 0#32))) ∧
    (may → s.fw.state = .verifying ∨ s.mgmt.shed = 3 → exec (.fwOpen o) s = .next (s.refuse o pDEV 0x040 .mode)) ∧
    (s.fw.state = .erasing → ∃ t, exec .fwEraseDone s = .next t ∧ keeps t ∧ t.idleImage = .written [] ∧ t.fw.state = .empty ∧ t.fw.opened = true ∧
      (if s.fw.runningB then t.fw.badA else t.fw.badB) = false ∧ { t with fw := s.fw } = s) ∧
    (s.fw.state ≠ .erasing → exec .fwEraseDone s = .next s) ∧
    (may → opened → s.mgmt.shed ≠ 3 → a % 4 = 0 → a < 2064384 → s.idleImage = .written m → ∃ t, exec (.fwData o v) s = .next t ∧ keeps t ∧
      t.idleImage = .written (m.writeWord a v) ∧ t.fw.state = .writing ∧ t.fld pDEV 0x048 20 0 = a + 4 ∧
      { t with fw := s.fw, regs := s.regs, pages := s.pages, out := s.out } = s) ∧
    (may → opened → s.mgmt.shed ≠ 3 → a % 4 ≠ 0 ∨ 2064384 ≤ a → exec (.fwData o v) s = .next (s.refuse o pDEV 0x04C .format)) ∧
    (may → ¬ opened ∨ s.mgmt.shed = 3 → exec (.fwData o v) s = .next (s.refuse o pDEV 0x04C .mode)) ∧
    (may → s.fw.state ≠ .erasing → s.fw.state ≠ .verifying → exec (.fwVerify o) s = .next (did { s with fw := { s.fw with state := .verifying } })) ∧
    (may → s.fw.state = .erasing ∨ s.fw.state = .verifying → exec (.fwVerify o) s = .next (s.refuse o pDEV 0x040 .mode)) ∧
    (s.fw.state = .verifying → ∃ t, exec .fwVerifyDone s = .next t ∧ keeps t ∧ t.fw.reason = fwCheck s.otp.svnMin s.idleImage ∧
      (t.fw.state = .valid ↔ t.fw.reason = 0) ∧ (t.fw.state = .invalid ↔ t.fw.reason ≠ 0) ∧ { t with fw := s.fw } = s) ∧
    (s.fw.state ≠ .verifying → exec .fwVerifyDone s = .next s) ∧
    (∀ svn : Nat, fwCheck svn (.written m) = 0 ↔
      leAt (m.read 0 256) 0 4 = 0x46570001 ∧ (∀ b ∈ (m.read 0 256).drop 120, b = 0#8) ∧ svn ≤ leAt (m.read 0 256) 16 4 ∧
      leAt (m.read 0 256) 20 4 ≤ 2064128 ∧ sha256 (m.read 256 (leAt (m.read 0 256) 20 4)) = ((m.read 0 256).drop 24).take 32 ∧
      Config.ecdsaOk ((m.read 0 256).take 56) (((m.read 0 256).drop 56).take 64) = true) ∧
    (may → s.fw.state = .valid → exec (.fwPrefer o) s = .next (did { s with fw := { s.fw with preferredB := !s.fw.runningB } })) ∧
    (may → s.fw.state ≠ .valid → exec (.fwPrefer o) s = .next (s.refuse o pDEV 0x040 .mode))

/-- The append port: a full FIFO counts the record as lost, and one lost-records record follows once there is space (R26). -/
def Obligations.AppendPortNeverWaits : Prop :=
  ∀ (s : State) (typ : Nat) (pl : List Word),
    (s.gal.fifo.length < 64 → s.log typ pl = { s with gal := { s.gal with fifo := s.gal.fifo ++ [s.galEntry typ pl] } }) ∧
    (64 ≤ s.gal.fifo.length → (s.log typ pl).gal = { s.gal with
        lost := s.gal.lost + 1, lostTotal := s.gal.lostTotal + 1, lostFirst := if s.gal.lost = 0 then typ else s.gal.lostFirst, lostLast := typ } ∧
      { s.log typ pl with gal := s.gal, pages := s.pages } = s) ∧
    (∀ e rest, s.gal.fifo = e :: rest → rest.length < 64 → s.gal.clearing = none → s.gal.lost ≠ 0 → ∃ t r, exec .galleryStore s = .next t ∧
      t.gal.fifo = rest ++ [r] ∧ r.typ = 0x0E02 ∧ r.payload = [word s.gal.lost, word s.gal.lostFirst, word s.gal.lostLast] ∧
      t.gal.lost = 0 ∧ t.gal.lostTotal = s.gal.lostTotal)

/-- GALLERY_STORE, GAL_CLEAR and GAL_CLEAR_DONE (R456, R457, R458, R459, R460, R461, R465, 18_gallery_and_stairwell.md Tables 18.1, 18.2). -/
def Obligations.GalleryStoreAndClear : Prop :=
  ∀ (s : State) (o : Origin),
    let took := fun (t : State) (rest : List GalEntry) => s.gal.lost = 0 → t.gal.fifo = rest
    let c := s.reg pGAL 0x044
    let msg := leBytes 8 s.gen.sectionId.toNat ++ leBytes 4 c.toNat ++ [0x43#8, 0x4C#8, 0x52#8]
    let mac := (hmac s.resetKey msg).take 8 = leBytes 4 (s.reg pGAL 0x048).toNat ++ leBytes 4 (s.reg pGAL 0x04C).toNat
    let right := newer32 c (word s.galNewest) = false ∧ s.galNewest ≠ 0 ∧ newer32 c (word s.gal.lastClr) = true ∧ s.md ≠ .lockout ∧
      s.gal.clearLog.length < 256 ∧ s.gal.clearing = none
    (s.gal.fifo = [] ∨ s.gal.clearing.isSome = true → exec .galleryStore s = .next s) ∧
    (∀ e rest r, s.gal.fifo = e :: rest → s.gal.clearing = none → s.gal.ring.getLast? = some r →
      r.e.typ = e.typ → mergeKey r.e = mergeKey e → r.e.pcc = e.pcc → r.lastSec ≠ 0xFFFF → ∃ t, exec .galleryStore s = .next t ∧ took t rest ∧
      t.gal.ring = s.gal.ring.dropLast ++ [mergeInto r e] ∧ t.gal.nextSeq = s.gal.nextSeq ∧ (mergeInto r e).seq = r.seq ∧ (mergeInto r e).e = r.e ∧
      (mergeInto r e).repeats = Nat.min 0xFFFF (r.repeats + 1) ∧ (mergeInto r e).lastSec = Nat.min 0xFFFF (e.sec - r.e.sec) ∧
      (mergeInto r e).crc = (mergeInto r e).sum) ∧
    (∀ e rest, s.gal.fifo = e :: rest → s.gal.clearing = none → (∀ r, s.gal.ring.getLast? = some r → merges r e = false) →
      ∃ t r k, exec .galleryStore s = .next t ∧ took t rest ∧ t.gal.ring = s.gal.ring.drop k ++ [r] ∧ r.seq = s.gal.nextSeq ∧ r.e = e ∧
      r.repeats = 0 ∧ r.crc = r.sum ∧ (ringUsed s.gal.ring + 4 * r.len ≤ ringBytes → k = 0) ∧ t.gal.nextSeq = seqNext s.gal.nextSeq ∧ t.evtBit pGAL 0 = true) ∧
    (s.mgmt.restarting = false → s.stwBarred o = false → mac → right → exec (.galClear o) s =
      .next (({ s with gal := { s.gal with clearing := some (o, c.toNat) } }.bumpCfg pGAL).answer o 0 [])) ∧
    (s.mgmt.restarting = false → s.stwBarred o = true ∨ ¬ mac → exec (.galClear o) s = .next (s.refuse o pGAL 0x008 .auth)) ∧
    (s.mgmt.restarting = false → s.stwBarred o = false → mac → ¬ right → exec (.galClear o) s = .next (s.refuse o pGAL 0x008 .mode)) ∧
    (s.gal.clearing = none → exec .galClearDone s = .next s) ∧
    (∀ q n, s.gal.clearing = some (q, n) →
      let keep := s.gal.ring.filter (fun r => newer32 (word r.seq) (word n))
      ∃ t r k, exec .galClearDone s = .next t ∧ t.gal.ring = keep.drop k ++ [r] ∧ r.seq = s.gal.nextSeq ∧
        r.e = s.galEntry 0x0E01 [word q.code, word (s.levelOf q).code, word n, word (s.gal.ring.length - keep.length)] ∧
        (ringUsed keep + 4 * r.len ≤ ringBytes → k = 0) ∧ t.gal.clearLog = s.gal.clearLog ++ [r] ∧ t.gal.clearing = none ∧ t.gal.lastClr = n ∧
        t.gal.fifo = s.gal.fifo ∧ t.evtBit pGAL 3 = true ∧ { t with gal := s.gal, pages := s.pages } = s)

/-- GAL_OPEN, GAL_FIRST, GAL_NEXT, GAL_SEEK, GAL_NEWEST, GAL_CLOSE and GAL_CLEARLOG (R462, R463, R464, 18_gallery_and_stairwell.md Table 18.4). -/
def Obligations.GalleryReadSessions : Prop :=
  ∀ (s : State) (o : Origin) (target : Word), s.mgmt.restarting = false →
    let x := s.session o
    let ops := [Instr.galFirst o, .galNext o, .galSeek o target, .galNewest o, .galClearlog o target]
    let alone := fun (t : State) => (∀ q, q ≠ o → t.session q = s.session q) ∧ t.gal.ring = s.gal.ring ∧ t.gal.clearLog = s.gal.clearLog ∧
      t.gal.fifo = s.gal.fifo ∧ t.regs = s.regs
    let loads := fun (c : Instr) (y : GalSession) => ∃ t, exec c s = .next t ∧ t.session o = y ∧ alone t ∧
      (o = .host → t.out = .host 0 1 [] :: s.out) ∧ (o = .stairwell → t.out = .text "OK" :: .textWords y.window :: s.out)
    (s.galAllowed .mgmt = true ∧ (s.bit pGAL 0x00C 31 = false → s.galAllowed .host = true ∧ (s.galAllowed .stairwell = true ↔ 1 ≤ s.stwLevel.code)) ∧
      (s.bit pGAL 0x00C 31 = true → (s.galAllowed .host = true ↔ (s.page pGAL).owner = 1) ∧ (s.galAllowed .stairwell = true ↔ 2 ≤ s.stwLevel.code))) ∧
    (s.galAllowed o = false → ∀ c ∈ Instr.galOpen o :: ops, exec c s = .next (s.refuse o pGAL 0x030 .auth)) ∧
    (s.galAllowed o = true → x.state = 0 → ∀ c ∈ ops, exec c s = .next (s.refuse o pGAL 0x030 .mode)) ∧
    (s.galAllowed o = true → ∃ t, exec (.galOpen o) s = .next t ∧ alone t ∧ t.session o =
      { state := 1, cursor := s.galOldest, lo := s.galOldest, hi := s.galNewest, target := x.target }) ∧
    (∃ t, exec (.galClose o) s = .next t ∧ alone t ∧ t.session o = {}) ∧
    (s.galAllowed o = true → x.state ≠ 0 → loads (.galFirst o) (s.galLoad x s.galOldest) ∧ loads (.galNext o) (s.galLoad x (seqNext x.cursor)) ∧
      loads (.galSeek o target) (s.galLoad { x with target := target } target.toNat) ∧ loads (.galNewest o) (s.galLoad x s.galNewest)) ∧
    (s.galAllowed o = true → x.state ≠ 0 → ∀ r, s.gal.clearLog[target.toNat]? = some r → loads (.galClearlog o target)
      { x with state := 3, target := target, openRec := false, lapped := false, crcBad := r.crc != r.sum, window := r.words }) ∧
    (s.galAllowed o = true → x.state ≠ 0 → s.gal.clearLog.length ≤ target.toNat → loads (.galClearlog o target)
      { x with state := 5, target := target, openRec := false, lapped := false, crcBad := false, window := [] }) ∧
    (∀ (y : GalSession) (c : Nat) (r : GalRec), s.gal.ring.find? (fun r => r.seq == c) = some r → (s.galLoad y c).state = 3 ∧
      (s.galLoad y c).cursor = c ∧ (s.galLoad y c).window = r.words ∧ (s.galLoad y c).crcBad = (r.crc != r.sum) ∧ (s.galLoad y c).lapped = false ∧
      (s.galLoad y c).openRec = (decide (s.galNewest = c) && decide (r.e.pcc = s.gal.pcc % 2 ^ 24) && decide (r.lastSec ≠ 0xFFFF))) ∧
    (∀ (y : GalSession) (c : Nat) (old : GalRec), (∀ r ∈ s.gal.ring, r.seq ≠ c) → s.gal.ring.head? = some old →
      (newer32 (word c) (word s.galNewest) = true → (s.galLoad y c).state = 4 ∧ (s.galLoad y c).window = []) ∧
      (newer32 (word c) (word s.galNewest) = false → newer32 (word old.seq) (word c) = true → (s.galLoad y c).state = 3 ∧
        (s.galLoad y c).lapped = true ∧ (s.galLoad y c).cursor = old.seq ∧ (s.galLoad y c).window = old.words) ∧
      (newer32 (word c) (word s.galNewest) = false → newer32 (word old.seq) (word c) = false → (s.galLoad y c).state = 5 ∧ (s.galLoad y c).window = []))

/-- STW_HELP, STW_LOGIN, STW_LOGOUT, STW_IDLE_TIMEOUT, STW_BREAK, KICK, LOGIN_HOLD_END, BAUD and BAUD_SWITCH (R467, R468, R469, 18_gallery_and_stairwell.md Table 18.7). -/
def Obligations.StairwellSession : Prop :=
  ∀ (s : State) (o : Origin) (l : Level) (pw : List Byte) (r : Nat),
    let u := { s with stw := { s.stw with lastCmd := s.now } }
    let right := pw.length ≤ 32 ∧ (pwMatch (s.loginEntry l) pw = true ∨ (l = .view ∧ s.gen.view = none))
    let ended := fun (t : State) => t.stw.level = .out ∧ t.stw.baud = 115200 ∧ t.stw.newBaud = none ∧ t.stw.trace = none ∧ t.stw.halted = false ∧
      t.session .stairwell = {} ∧ (∀ pg, pg < 0x2C → (s.page pg).owner = Origin.stairwell.code → (t.page pg).owner = 0) ∧
      (∀ p, t.hall.pin = some p → p.owner ≠ .stairwell) ∧
      (s.stw.halted = true → s.scor.st = .halted → t.scor.st = .dual ∧ t.scor.resuming = true) ∧ (s.stw.halted = false → t.scor = s.scor) ∧
      t.regs = s.regs ∧ t.mbx = s.mbx ∧ t.coils = s.coils
    (exec .stwHelp s = .next (u.emit (.text "OK"))) ∧
    (s.stw.hold.isSome = true → exec (.stwLogin l pw) s = .next (u.emit (.text "ERR REFUSED_AUTH"))) ∧
    (s.stw.hold = none → right → ∃ t, exec (.stwLogin l pw) s = .next t ∧ t.stw.level = l ∧ t.stw.fails = 0 ∧ t.evtBit pSTW 0 = true ∧
      t.out = .text "OK" :: s.out ∧ (s.gal.fifo.length < 64 → t.gal.fifo = s.gal.fifo ++ [s.galEntry 0x0E10 [word l.code]])) ∧
    (s.stw.hold = none → ¬ right → ∃ t, exec (.stwLogin l pw) s = .next t ∧ t.stw.level = s.stw.level ∧ t.evtBit pSTW 1 = true ∧
      t.out = .text "ERR REFUSED_AUTH" :: s.out ∧ (s.stw.fails < 2 → t.stw.fails = s.stw.fails + 1 ∧ t.stw.hold = none) ∧
      (s.stw.fails = 2 → t.stw.fails = 0 ∧ t.stw.hold = some (s.now + 60000000000)) ∧
      (s.gal.fifo.length < 64 → t.gal.fifo = s.gal.fifo ++ [s.galEntry 0x0E11 [word l.code, word (s.stw.fails + 1)]])) ∧
    (∀ tm, s.stw.hold = some tm → ∃ t, exec .loginHoldEnd s = .next t ∧ t.stw = { s.stw with hold := none } ∧ t.now = Nat.max s.now tm ∧
      { t with stw := s.stw, time := s.time } = s) ∧
    (s.stw.hold = none → exec .loginHoldEnd s = .next s) ∧
    (∃ t, exec .stwLogout s = .next t ∧ ended t ∧ t.now = s.now ∧ t.out = .text "OK" :: s.out) ∧
    (∃ t, exec .stwIdleTimeout s = .next t ∧ ended t ∧ t.now = Nat.max s.now (s.stw.lastCmd + 900000000000)) ∧
    (∃ t, exec .stwBreak s = .next t ∧ ended t ∧ t.now = s.now) ∧
    (s.stwBarred o = false → s.mgmt.restarting = false → ∃ t, exec (.kick o) s = .next t ∧ ended t ∧ t.now = s.now ∧
      (t.page pSTW).cfgseq = (s.page pSTW).cfgseq + 1#32) ∧
    (s.stwBarred o = true → exec (.kick o) s = .next (s.answer o 5 [])) ∧
    (1 ≤ s.stwLevel.code → r ∈ [115200, 230400, 460800, 921600, 1500000, 3000000] → exec (.baud r) s =
      .next ({ u with stw := { u.stw with newBaud := some (r, s.now + 10000000) } }.emit (.text "OK"))) ∧
    (1 ≤ s.stwLevel.code → r ∉ [115200, 230400, 460800, 921600, 1500000, 3000000] → exec (.baud r) s = .next (u.emit (.text "ERR REFUSED_FORMAT"))) ∧
    (s.stwLevel.code < 1 → exec (.baud r) s = .next (u.emit (.text "ERR REFUSED_AUTH"))) ∧
    (∀ q tm, s.stw.newBaud = some (q, tm) → ∃ t, exec .baudSwitch s = .next t ∧ t.stw = { s.stw with baud := q, newBaud := none } ∧
      t.now = Nat.max s.now tm ∧ { t with stw := s.stw, time := s.time } = s) ∧
    (s.stw.newBaud = none → exec .baudSwitch s = .next s)

/-- PEEK, POKE, STW_HALL, TRACE and OTP_STAGE (R410, R412, R469, R475, 18_gallery_and_stairwell.md Table 18.7). -/
def Obligations.StairwellAccess : Prop :=
  ∀ (s : State) (addr v off : Word) (n : Nat) (p : Port) (tones : Bool) (image : List Byte),
    let u := { s with stw := { s.stw with lastCmd := s.now } }
    let lv := s.stwLevel.code
    let bad := fun (name : String) => u.emit (.text ("ERR " ++ name))
    let a := addr.toNat
    let rec_ := fun (t : State) (st : Nat) => s.gal.fifo.length < 64 → t.gal.fifo = s.gal.fifo ++ [s.galEntry 0x0E12 [addr, v, word st]]
    let same := fun (t : State) => t.regs = s.regs ∧ t.pages = s.pages ∧ t.mbx = s.mbx ∧ t.shadow = s.shadow
    (lv < 1 → ∀ c ∈ [Instr.peek addr n, .stwHall off n, .trace p n tones, .otpStage image], exec c s = .next (bad "REFUSED_AUTH")) ∧
    (lv < 2 → ∀ c ∈ [Instr.trace p n tones, .otpStage image], exec c s = .next (bad "REFUSED_AUTH")) ∧
    (lv < 2 → ∃ t, exec (.poke addr v) s = .next t ∧ t.regs = s.regs ∧ t.mbx = s.mbx ∧ t.shadow = s.shadow ∧ t.out = .text "ERR REFUSED_AUTH" :: s.out ∧ rec_ t 5) ∧
    (1 ≤ lv → n = 0 ∨ 256 < n → exec (.peek addr n) s = .next (bad "REFUSED_FORMAT")) ∧
    (1 ≤ lv → 1 ≤ n → n ≤ 256 → ∃ t ws st, exec (.peek addr n) s = .next t ∧ same t ∧ ws.length = n ∧ t.out = .text (stwLine st) :: .textWords ws :: s.out) ∧
    (1 ≤ lv → n = 1 → a % 4 = 0 → a < 0x80000 → a / 0x1000 ∉ [pCUR, pSCOR, pEST, pBFC] → exec (.peek addr n) s =
      .next ((u.emit (.textWords [u.readReg .stairwell (a / 0x1000) (a % 0x1000)])).emit (.text "OK"))) ∧
    (2 ≤ lv → a % 4 = 0 → a < 0x80000 → (regFlds (a / 0x1000) (a % 0x1000)).isSome = true → pageClass (a / 0x1000) ≠ .mgmt → ∃ t,
      exec (.poke addr v) s = .next t ∧ t.mbx = s.mbx ++ [{ origin := .stairwell, page := a / 0x1000, offset := a % 0x1000, value := v, level := s.stwLevel }] ∧
      t.out = .text "OK" :: s.out ∧ t.regs = s.regs ∧ rec_ t 10) ∧
    (2 ≤ lv → a % 4 = 0 → a < 0x80000 → regFlds (a / 0x1000) (a % 0x1000) = none → ∃ t, exec (.poke addr v) s = .next t ∧ t.regs = s.regs ∧ t.mbx = s.mbx ∧
      t.out = .text "ERR UNMAPPED" :: s.out ∧ rec_ t 6) ∧
    (1 ≤ lv → s.pinOther .stairwell = true → exec (.stwHall off n) s = .next (bad "REFUSED_MODE")) ∧
    (1 ≤ lv → s.pinOther .stairwell = false → off.toNat % 4 ≠ 0 ∨ 0x40000 < off.toNat + 4 * n → exec (.stwHall off n) s = .next (bad "REFUSED_FORMAT")) ∧
    (1 ≤ lv → s.pinOther .stairwell = false → off.toNat % 4 = 0 → off.toNat + 4 * n ≤ 0x40000 → ∃ t ws, exec (.stwHall off n) s = .next t ∧ same t ∧
      ws.length = (if n = 0 then 128 else n) ∧ t.out = .text "OK" :: .textWords ws :: s.out ∧ t.hall.pin = none) ∧
    (2 ≤ lv → 1 ≤ n → n ≤ 512 → exec (.trace p n tones) s =
      .next ({ u with stw := { u.stw with trace := some (p.val, n, tones) } }.emit (.text "OK"))) ∧
    (2 ≤ lv → n = 0 ∨ 512 < n → exec (.trace p n tones) s = .next (bad "REFUSED_FORMAT")) ∧
    (2 ≤ lv → s.mgmt.restarting = false → s.otp.stage ≠ .programming → s.otp.stage ≠ .verifying → image.length ≤ 32768 → ∃ t,
      exec (.otpStage image) s = .next t ∧ t.otp.buf.read 0 image.length = image ∧ (∀ c, image.length ≤ c → t.otp.buf.get c = 0#8) ∧
      t.otp.stage = .loading ∧ t.otp.origin = .stairwell ∧ t.otp.slots = s.otp.slots ∧ t.out = .text "OK" :: s.out) ∧
    (2 ≤ lv → s.mgmt.restarting = false → s.otp.stage ≠ .programming → s.otp.stage ≠ .verifying → 32768 < image.length → ∃ t,
      exec (.otpStage image) s = .next t ∧ t.otp = s.otp ∧ t.out = .text "ERR REFUSED_FORMAT" :: s.out)

/-- SHED, MGMT_WATCHDOG_MISS and MGMT_RESTART_DONE (R470, R471, R477, 18_gallery_and_stairwell.md Table 18.8). -/
def Obligations.ManagementPlaneEvents : Prop :=
  ∀ (s : State) (load : Nat),
    let st := s.mgmt.shed
    let next := fun (k : Nat) => if 95 ≤ load then 3 else if 90 ≤ load then Nat.max k 2 else if 85 < load then Nat.max k 1
      else if load = 85 then (if k = 3 then 2 else Nat.max k 1) else if 80 < load then Nat.min k 2 else if 75 < load then Nat.min k 1 else 0
    (st ≤ 3 → ∃ t, exec (.shed load) s = .next t ∧ t.mgmt = { s.mgmt with shed := next st } ∧
      (st < next st → t.evtBit pSTW 3 = true) ∧ (next st ≤ st → { t with mgmt := s.mgmt } = s) ∧
      (s.gal.fifo.length < 62 → t.gal.fifo = s.gal.fifo ++ ((List.range 3).filter (fun k => decide (st ≤ k) && decide (k < next st))).map
        (fun k => s.galEntry 0x0E21 [word (k + 1), word load]))) ∧
    (s.mgmt.restarting = true → exec .mgmtWatchdogMiss s = .next s) ∧
    (s.mgmt.restarting = false → ∃ t, exec .mgmtWatchdogMiss s = .next t ∧ t.mgmt.restarting = true ∧ t.mgmt.shed = 0 ∧ t.stw.level = .out ∧
      (∀ pg, pg < 0x2C → (s.page pg).owner = Origin.stairwell.code ∨ (s.page pg).owner = Origin.mgmt.code → (t.page pg).owner = 0) ∧
      (∀ pg, (s.page pg).owner = Origin.host.code → (t.page pg).owner = Origin.host.code) ∧
      t.otp.stage = .empty ∧ t.otp.buf = [] ∧ t.otp.slots = s.otp.slots ∧ t.code.buf = [] ∧ t.regs = s.regs ∧ t.mbx = s.mbx ∧
      (s.fw.state = .erasing ∨ s.fw.state = .writing → t.fw.state = .empty ∧ t.fw.opened = false) ∧
      (s.fw.state ≠ .erasing → s.fw.state ≠ .writing → t.fw = s.fw) ∧
      (s.gal.fifo.length < 64 → s.gal.fifo ++ [s.galEntry 0x0E20 [0#32, word st]] <+: t.gal.fifo)) ∧
    (s.mgmt.restarting = false → exec .mgmtRestartDone s = .next s) ∧
    (s.mgmt.restarting = true → ∃ t, exec .mgmtRestartDone s = .next t ∧ t.mgmt = { s.mgmt with restarting := false } ∧
      (∀ x, x < 4 → (t.can x).fifo1 = [] ∧ (t.can x).fifo0 = (s.can x).fifo0) ∧ s.host.fifo <+: t.host.fifo ∧ t.regs = s.regs ∧
      ((∀ x, x < 4 → (s.can x).fifo1 = []) → t.host = s.host))

/-- STAGE_CLR, STG_DATA and OTP_VERIFY (R473, R475, R477, 19_otp_and_authentication.md Tables 19.2, 19.4). -/
def Obligations.StagingAGeneration : Prop :=
  ∀ (s : State) (o : Origin) (v : Word),
    let may := s.stwBarred o = false ∧ s.mgmt.restarting = false
    let busy := s.otp.stage = .programming ∨ s.otp.stage = .verifying
    let did := fun (t : State) => (t.bumpCfg pOTP).answer o 0 []
    let a := s.fld pOTP 0x020 14 0 / 4 * 4
    let l := s.stageBytes
    let all := [(Instr.stageClr o, 0x008), (.stgData o v, 0x024), (.otpVerify o, 0x008)]
    (∀ c ∈ all, s.stwBarred o = true → exec c.1 s = .next (s.answer o 5 [])) ∧
    (∀ c ∈ all, s.stwBarred o = false → s.mgmt.restarting = true → exec c.1 s = .next (s.refuse o pOTP c.2 .mode)) ∧
    (may → ¬ busy → exec (.stageClr o) s = .next (did ({ s with otp := { s.otp with stage := .empty, reason := 0, buf := [] } }.setReg pOTP 0x020 0#32))) ∧
    (may → busy → exec (.stageClr o) s = .next (s.refuse o pOTP 0x008 .mode) ∧ exec (.stgData o v) s = .next (s.refuse o pOTP 0x024 .mode)) ∧
    (may → ¬ busy → ∃ t, exec (.stgData o v) s = .next t ∧ t.otp.stage = .loading ∧ t.otp.origin = o ∧ t.otp.buf.readWord a = v ∧
      (∀ c, c < a ∨ a + 4 ≤ c → t.otp.buf.get c = s.otp.buf.get c) ∧ t.otp.slots = s.otp.slots ∧ t.gen = s.gen ∧
      t.fld pOTP 0x020 14 0 = (a + 4) % 32768 ∧ { t with otp := s.otp, regs := s.regs, pages := s.pages, out := s.out } = s) ∧
    (may → s.otp.stage = .programming ∨ s.otp.stage = .empty → exec (.otpVerify o) s = .next (s.refuse o pOTP 0x008 .mode)) ∧
    (may → s.otp.stage ≠ .programming → s.otp.stage ≠ .empty → match s.stageCheck with
      | none => exec (.otpVerify o) s = .next (did { s with otp := { s.otp with stage := .verified, reason := 0 } })
      | some (r, b, off) => ∃ t, exec (.otpVerify o) s = .next t ∧ t.otp = { s.otp with stage := .refused, reason := r } ∧ t.evtBit pOTP 0 = true ∧
          t.gen = s.gen ∧ (s.gal.fifo.length < 64 → t.gal.fifo = s.gal.fifo ++ [s.galEntry 0x0D02 [word r, word b, word off]])) ∧
    (leAt l 0 4 ≠ 0x47450001 → s.stageCheck = some (1, 0, 0)) ∧
    (leAt l 5 1 ≠ 1 ∨ 32512 < genBodyLen l ∨ sha256 (genBody l) ≠ (l.drop 24).take 32 ∨ (l.drop 56).take 32 ≠ s.gen.hdrHash ∨
      (s.otp.inForce ≠ 0 ∧ leAt l 8 8 ≠ s.gen.sectionId.toNat) ∨ (∃ id ∈ [1, 2, 3, 4, 6, 7, 8, 9, 0x0A], genBlock l id = none) ∨
      tablesOk ((genBlock l 4).getD []) = false ∨ (∃ i ∈ genImages l, (verifyImage i).isSome = true) ∨ sget none s.otp.keys (leAt l 7 1) = none →
      s.stageCheck.isSome = true)

/-- COMMIT, COMMIT_DONE, SWITCH, ABANDON and KEYSET_WR (R473, R475, R476, R477, R480, R481, 19_otp_and_authentication.md Tables 19.2, 19.3). -/
def Obligations.CommitSwitchAndKeys : Prop :=
  ∀ (s : State) (o : Origin), s.stwBarred o = false → s.mgmt.restarting = false →
    let did := fun (t : State) => (t.bumpCfg pOTP).answer o 0 []
    let c := { s with otp := { s.otp with pw := [] } }
    let no := fun (t : State) (off : Nat) (r : Refuse) => t.refuse o pOTP off r
    let ready := s.otp.stage = .verified ∧ s.pendingSlot = none ∧ s.mgmt.shed ≠ 3
    let touches := genFlags s.stageBytes % 2 = 1
    let ks := s.fld pOTP 0x028 4 2
    let keyOk := s.md = .commission ∧ ks ≤ 3 ∧ sget none s.otp.keys ks = none
    (s.safetyPw = true ↔ s.gen.safety = none ∨ pwMatch s.gen.safety s.pwBytes = true) ∧
    (∀ k, ready → s.freeSlot = some k → ¬ touches ∨ s.safetyPw = true → ∃ t, exec (.commit o) s = .next t ∧ t.otp.stage = .programming ∧ t.otp.pw = [] ∧
      t.slotState k = { s.slotState k with prog := true } ∧ (∀ j, j ≠ k → t.slotState j = s.slotState j) ∧ t.otp.buf = s.otp.buf ∧ t.gen = s.gen ∧
      k ∈ userSlots ∧ (s.slotState k).used = false) ∧
    (¬ ready ∨ s.freeSlot = none → exec (.commit o) s = .next (no c 0x008 .mode)) ∧
    (∀ k, ready → s.freeSlot = some k → touches → s.safetyPw = false → exec (.commit o) s = .next (no c 0x008 .auth)) ∧
    (s.otp.stage ≠ .programming ∨ s.progSlot = none → ∀ ok, exec (.commitDone ok) s = .next s) ∧
    (∀ k, s.otp.stage = .programming → s.progSlot = some k →
      (∃ t, exec (.commitDone true) s = .next t ∧ t.slotState k = { prog := true, committed := true, mem := s.otp.buf } ∧ t.otp.stage = .empty ∧ t.otp.buf = [] ∧
        (∀ j, j ≠ k → t.slotState j = s.slotState j) ∧ t.evtBit pOTP 1 = true ∧ t.gen = s.gen) ∧
      (∃ t, exec (.commitDone false) s = .next t ∧ t.slotState k = { s.slotState k with void := true } ∧ t.otp.stage = .refused ∧ t.otp.reason = 2 ∧
        (∀ j, j ≠ k → t.slotState j = s.slotState j) ∧ t.evtBit pOTP 0 = true ∧ t.gen = s.gen)) ∧
    (s.pendingSlot = none → exec (.switch o) s = .next (no s 0x008 .mode) ∧ exec (.abandon o) s = .next (no s 0x008 .mode)) ∧
    (∀ k, s.pendingSlot = some k →
      let f := (s.slotState k).flags
      let restful := s.md = .ready ∨ s.md = .commission
      (restful ∨ (f / 2 % 2 = 0 ∧ f / 4 % 2 = 0) → f / 4 % 2 = 0 ∨ s.allOpen = true → exec (.switch o) s = .next (did { s with sw := { s.sw with asked := some k } })) ∧
      (¬ restful → f / 2 % 2 = 1 ∨ f / 4 % 2 = 1 → exec (.switch o) s = .next (no s 0x008 .mode)) ∧
      (f / 4 % 2 = 1 → s.allOpen = false → exec (.switch o) s = .next (no s 0x008 .mode)) ∧
      (s.sw.confirmed.isSome = true → exec (.abandon o) s = .next (no s 0x008 .mode)) ∧
      (s.sw.confirmed = none → ∃ t, exec (.abandon o) s = .next t ∧ t.slotState k = { s.slotState k with void := true } ∧
        (∀ j, j ≠ k → t.slotState j = s.slotState j) ∧ t.sw.asked = none ∧ t.sw.proposed = none ∧ t.gen = s.gen)) ∧
    (keyOk → s.safetyPw = true → ∃ t x, exec (.keysetWr o) s = .next t ∧ sget none t.otp.keys ks = some x ∧ x.plant.length = 32 ∧ x.reset.length = 32 ∧
      x.challenge.length = 32 ∧ (∀ j, j ≠ ks → sget none t.otp.keys j = sget none s.otp.keys j) ∧ t.otp.pw = [] ∧ t.otp.slots = s.otp.slots) ∧
    (¬ keyOk → exec (.keysetWr o) s = .next (no c 0x008 .mode)) ∧
    (keyOk → s.safetyPw = false → exec (.keysetWr o) s = .next (no c 0x008 .auth))

/-- ROUND and AUTH_CHALLENGE_DUE (R8, R482, R484, R485, R486, R470, 19_otp_and_authentication.md R482). -/
def Obligations.AuthenticationRounds : Prop :=
  ∀ (s : State) (o : Origin),
    let ms := s.modulesInUse
    let i := if s.auth.cursor < ms.length then s.auth.cursor else 0
    let m := ms.getD i 0
    let since := s.auth.deferredSince.getD s.now
    let cmd := Instr.round o
    (s.stwBarred o = true → exec cmd s = .next (s.answer o 5 [])) ∧
    (s.stwBarred o = false → s.mgmt.restarting = true ∨ s.active = false → exec cmd s = .next (s.refuse o pAUTH 0x008 .mode)) ∧
    (s.stwBarred o = false → s.mgmt.restarting = false → s.active = true → ∃ t, exec cmd s = .next t ∧ (t.page pAUTH).cfgseq = (s.page pAUTH).cfgseq + 1#32 ∧
      ((∀ x ∈ ms, s.modOf (modPort x) (modHop x) = x) → ∀ x ∈ ms, s.challengedNow x = true → x ∈ t.auth.round) ∧ t.regs = s.regs ∧ t.coils = s.coils ∧ t.mbx = s.mbx) ∧
    (s.active = false ∨ ms = [] → exec .authChallengeDue s = .next s) ∧
    (s.active = true → ms ≠ [] → 2 ≤ s.mgmt.shed → s.now < since + 600000000000 → exec .authChallengeDue s =
      .next { s with auth := { s.auth with deferredSince := some since } }) ∧
    (s.active = true → ms ≠ [] → s.modOf (modPort m) (modHop m) = m → s.mgmt.shed < 2 ∨ since + 600000000000 ≤ s.now → ∃ t, exec .authChallengeDue s = .next t ∧
      t.auth.cursor = (i + 1) % ms.length ∧ t.auth.deferredSince = none ∧
      (s.challengedNow m = true → m ∈ t.auth.round ∧ t.ports = s.ports ∧ t.out = s.out) ∧
      (s.challengedNow m = false → t.challengedNow m = true ∧ m ∉ t.auth.round ∧
        (s.chainMay = true → s.stw.trace = none → ∃ f, t.out = .chain (modPort m) f :: s.out ∧ f.typ = 0x09#8 ∧
          f.payload = s.challenge (modPort m) (modHop m) s.time.epoch)) ∧ t.regs = s.regs ∧ t.coils = s.coils)

/-- Output pads in reset, in BOOT_HOLD, in L3 and L4 and on a device in operation (R514, R302, R309, R313, R333, R359, R436, R504, 21_pads_and_electrical.md Table 21.14). -/
def Obligations.PadsOfTable2114 : Prop :=
  ∀ (s : State) (k : Nat),
    (s.padReset = true → s.padSpTx = .hiZ ∧ s.padClk k = .hiZ ∧ s.padPwm = .hiZ ∧ s.padBfcEn = .hiZ ∧ s.padSo k = .hiZ ∧ s.padTp k = .hiZ ∧
      s.padAl = .hiZ ∧ s.padCan = .hiZ ∧ s.padLink = .hiZ ∧ s.padStw = .hiZ ∧ s.padIrq = .low ∧ s.padWakeOut = .low ∧ s.padAlive = .low) ∧
    (s.padReset = false → s.start.bootHold = true → s.padSpTx = .low ∧ s.padSo k = .low ∧ s.padAl = .low ∧ s.padPwm = .hiZ ∧ s.padBfcEn = .hiZ ∧
      s.padTp k = .hiZ ∧ s.padCan = .high ∧ s.padAlive = .square 500) ∧
    (s.padReset = false → s.start.bootHold = false → 3 ≤ s.land.landing → s.padSo k = .low ∧ s.padSpTx = .low ∧ s.padTp k = .hiZ ∧ s.padAlive = .low ∧
      s.padPwm = (if s.active then .low else .hiZ) ∧ s.padBfcEn = (if s.active then .low else .hiZ)) ∧
    (s.padReset = false → s.start.bootHold = false → s.land.landing < 3 →
      (s.padSo k = .high ↔ s.ban.so.getLsbD k = true) ∧ (s.padBfcEn = .high ↔ s.active = true ∧ s.bfcEnHigh = true) ∧
      (s.active = false → s.padPwm = .hiZ ∧ s.padBfcEn = .hiZ) ∧
      s.padAlive = .square (if s.active then 125 else if s.standby then 250 else 500)) ∧
    (∀ c t, s.start.powered = true → (c = .vinUndervoltage ∨ ∃ low, 10000 ≤ low ∧ c = .resetN low) → exec c s = .next t → t.padReset = true)
end

