-- ==== Sys2Proof/Laws/Store.lean ====
section
/-! SUPPORT. The laws of sparse arrays and of memories: a read after a write to the same entry gives the value written, a write leaves
every other entry alone, and every memory operation keeps the canonical form. -/
namespace Sys2Proof.Machine

variable {α : Type}

@[simp] theorem sget_nil (d : α) (k : Nat) : sget d [] k = d := rfl
@[simp] theorem slook_nil (k : Nat) : slook ([] : Store α) k = none := rfl

theorem sget_serase_same (d : α) (l : Store α) (k : Nat) : sget d (serase l k) k = d := by
  induction l with
  | nil => rfl
  | cons h t ih =>
    obtain ⟨i, x⟩ := h
    by_cases e : i = k
    · simp [serase, e, ih]
    · simp [serase, sget, e, ih]

theorem sget_serase_ne (d : α) (l : Store α) {k j : Nat} (h : j ≠ k) : sget d (serase l k) j = sget d l j := by
  induction l with
  | nil => rfl
  | cons a t ih =>
    obtain ⟨i, x⟩ := a
    by_cases e : i = k
    · subst e; simp [serase, sget, ih, h.symm]
    · by_cases e2 : i = j
      · subst e2; simp [serase, sget, e]
      · simp [serase, sget, e, e2, ih]

theorem sget_sins_same (d : α) (l : Store α) (k : Nat) (v : α) (h : ∀ x, (k, x) ∉ l) : sget d (sins k v l) k = v := by
  induction l with
  | nil => simp [sins, sget]
  | cons a t ih =>
    obtain ⟨i, x⟩ := a
    have hi : i ≠ k := fun e => h x (by simp [e])
    by_cases e : k < i
    · simp [sins, sget, e]
    · simp [sins, sget, e, hi, ih (fun y hy => h y (by simp [hy]))]

theorem sget_sins_ne (d : α) (l : Store α) {k j : Nat} (v : α) (h : j ≠ k) : sget d (sins k v l) j = sget d l j := by
  induction l with
  | nil => simp [sins, sget, h.symm]
  | cons a t ih =>
    obtain ⟨i, x⟩ := a
    by_cases e2 : i = j
    · subst e2; by_cases e : k < i <;> simp [sins, sget, e, h.symm]
    · by_cases e : k < i <;> simp [sins, sget, e, e2, ih, h.symm]

theorem not_mem_serase (l : Store α) (k : Nat) (x : α) : (k, x) ∉ serase l k := by
  induction l with
  | nil => simp [serase]
  | cons a t ih =>
    obtain ⟨i, y⟩ := a
    by_cases e : i = k
    · simp [serase, e, ih]
    · simp [serase, e, ih, Ne.symm e]

/-- Writing an entry again replaces it. -/
theorem serase_sins (l : Store α) (k : Nat) (v : α) : serase (sins k v l) k = serase l k := by
  induction l with
  | nil => simp [sins, serase]
  | cons a t ih =>
    obtain ⟨i, x⟩ := a
    by_cases e : k < i
    · simp [sins, serase, e]
    · by_cases e2 : i = k <;> simp [sins, serase, e, e2, ih]

theorem serase_serase (l : Store α) (k : Nat) : serase (serase l k) k = serase l k := by
  induction l with
  | nil => rfl
  | cons a t ih =>
    obtain ⟨i, x⟩ := a
    by_cases e : i = k <;> simp [serase, e, ih]

@[simp] theorem sget_sput_same (d : α) (l : Store α) (k : Nat) (v : α) : sget d (sput l k v) k = v :=
  sget_sins_same d _ k v (fun x => not_mem_serase l k x)
theorem sget_sput_ne (d : α) (l : Store α) {k j : Nat} (v : α) (h : j ≠ k) : sget d (sput l k v) j = sget d l j := by
  rw [sput, sget_sins_ne d _ v h, sget_serase_ne d l h]
@[simp] theorem sput_sput (l : Store α) (k : Nat) (v w : α) : sput (sput l k v) k w = sput l k w := by
  simp only [sput, serase_sins, serase_serase]

theorem slook_eq (l : Store α) (k : Nat) : slook l k = sget none (l.map (fun p => (p.1, some p.2))) k := by
  induction l with
  | nil => rfl
  | cons a t ih => obtain ⟨i, x⟩ := a; by_cases e : i = k <;> simp [slook, sget, e, ih]
theorem slook_serase_ne (l : Store α) {k j : Nat} (h : j ≠ k) : slook (serase l k) j = slook l j := by
  induction l with
  | nil => rfl
  | cons a t ih =>
    obtain ⟨i, x⟩ := a
    by_cases e : i = k
    · subst e; simp [serase, slook, ih, h.symm]
    · by_cases e2 : i = j
      · subst e2; simp [serase, slook, e]
      · simp [serase, slook, e, e2, ih]
theorem slook_sins_same (l : Store α) (k : Nat) (v : α) (h : ∀ x, (k, x) ∉ l) : slook (sins k v l) k = some v := by
  induction l with
  | nil => simp [sins, slook]
  | cons a t ih =>
    obtain ⟨i, x⟩ := a
    have hi : i ≠ k := fun e => h x (by simp [e])
    by_cases e : k < i
    · simp [sins, slook, e]
    · simp [sins, slook, e, hi, ih (fun y hy => h y (by simp [hy]))]
theorem slook_sins_ne (l : Store α) {k j : Nat} (v : α) (h : j ≠ k) : slook (sins k v l) j = slook l j := by
  induction l with
  | nil => simp [sins, slook, h.symm]
  | cons a t ih =>
    obtain ⟨i, x⟩ := a
    by_cases e2 : i = j
    · subst e2; by_cases e : k < i <;> simp [sins, slook, e, h.symm]
    · by_cases e : k < i <;> simp [sins, slook, e, e2, ih, h.symm]
@[simp] theorem slook_sput_same (l : Store α) (k : Nat) (v : α) : slook (sput l k v) k = some v :=
  slook_sins_same _ k v (fun x => not_mem_serase l k x)
theorem slook_sput_ne (l : Store α) {k j : Nat} (v : α) (h : j ≠ k) : slook (sput l k v) j = slook l j := by
  rw [sput, slook_sins_ne _ v h, slook_serase_ne l h]

section
variable [DecidableEq α]

@[simp] theorem sget_sset_same (d : α) (l : Store α) (k : Nat) (v : α) : sget d (sset d l k v) k = v := by
  unfold sset
  by_cases e : v = d
  · simp [e, sget_serase_same]
  · simp [e]
theorem sget_sset_ne (d : α) (l : Store α) {k j : Nat} (v : α) (h : j ≠ k) : sget d (sset d l k v) j = sget d l j := by
  unfold sset
  by_cases e : v = d
  · simp [e, sget_serase_ne d l h]
  · simp [e, sget_sput_ne d l v h]
/-- Every entry of an array after a write. -/
theorem sget_sset (d : α) (l : Store α) (k j : Nat) (v : α) : sget d (sset d l k v) j = if j = k then v else sget d l j := by
  by_cases e : j = k
  · simp [e]
  · simp [e, sget_sset_ne d l v e]
@[simp] theorem sset_sset (d : α) (l : Store α) (k : Nat) (v w : α) : sset d (sset d l k v) k w = sset d l k w := by
  unfold sset
  by_cases e : v = d <;> by_cases e2 : w = d <;> simp [e, e2, sput, serase_serase, serase_sins]
@[simp] theorem sget_supd_same (d : α) (l : Store α) (k : Nat) (f : α → α) : sget d (supd d l k f) k = f (sget d l k) := by
  simp [supd]
theorem sget_supd_ne (d : α) (l : Store α) {k j : Nat} (f : α → α) (h : j ≠ k) : sget d (supd d l k f) j = sget d l j :=
  sget_sset_ne d l _ h
end

/-! ### Memories -/

theorem Memory.get_set (m : Memory) (a c : Nat) (b : Byte) : (m.set a b).get c = if c = a then b else m.get c :=
  sget_sset 0#8 m a c b

/-- The canonical form, said of head and tail. -/
theorem Memory.wf_cons (c : Host.Cell) (m : Memory) :
    Memory.wf (c :: m) = true ↔ c.2 ≠ 0 ∧ (∀ d ∈ m.head?, c.1 < d.1) ∧ Memory.wf m = true := by
  cases m with
  | nil => simp [Memory.wf]
  | cons d t => simp [Memory.wf, and_assoc]

theorem Memory.wf_lt {c : Host.Cell} {m : Memory} (h : Memory.wf (c :: m) = true) : ∀ d ∈ m, c.1 < d.1 := by
  induction m generalizing c with
  | nil => simp
  | cons e t ih =>
    rw [Memory.wf_cons] at h
    have h1 : c.1 < e.1 := h.2.1 e (by simp)
    intro d hd
    rcases List.mem_cons.mp hd with rfl | hd
    · exact h1
    · exact Nat.lt_trans h1 (ih h.2.2 d hd)

/-- Every address of the memory without an address was one of the memory's. -/
theorem mem_serase {l : Store α} {k : Nat} {p : Nat × α} (h : p ∈ serase l k) : p ∈ l ∧ p.1 ≠ k := by
  induction l with
  | nil => simp [serase] at h
  | cons a t ih =>
    obtain ⟨i, x⟩ := a
    by_cases e : i = k
    · simp [serase, e] at h; have := ih h; exact ⟨by simp [this.1], this.2⟩
    · simp [serase, e] at h
      rcases h with rfl | h
      · exact ⟨by simp, e⟩
      · have := ih h; exact ⟨by simp [this.1], this.2⟩

theorem Memory.wf_serase (m : Memory) (k : Nat) (h : m.wf = true) : Memory.wf (serase m k) = true := by
  induction m with
  | nil => exact h
  | cons c t ih =>
    obtain ⟨i, x⟩ := c
    have hw := (Memory.wf_cons _ _).mp h
    have ht := ih hw.2.2
    by_cases e : i = k
    · simpa [serase, e] using ht
    · simp only [serase, if_neg e]
      rw [Memory.wf_cons]
      refine ⟨hw.1, ?_, ht⟩
      intro d hd
      exact Memory.wf_lt h d (mem_serase (List.mem_of_mem_head? hd)).1

theorem Memory.wf_sins (m : Memory) (k : Nat) (v : Byte) (hv : v ≠ 0) (hk : ∀ x, (k, x) ∉ m) (h : m.wf = true) :
    Memory.wf (sins k v m) = true := by
  induction m with
  | nil => simpa [sins, Memory.wf] using hv
  | cons c t ih =>
    obtain ⟨i, x⟩ := c
    have hw := (Memory.wf_cons _ _).mp h
    have hi : i ≠ k := fun e => hk x (by simp [e])
    by_cases e : k < i
    · simp only [sins, if_pos e]
      rw [Memory.wf_cons]
      exact ⟨hv, by simpa using e, h⟩
    · simp only [sins, if_neg e]
      have ht := ih (fun y hy => hk y (by simp [hy])) hw.2.2
      rw [Memory.wf_cons]
      refine ⟨hw.1, ?_, ht⟩
      intro d hd
      cases t with
      | nil => simp [sins] at hd; subst hd; show i < k; omega
      | cons f u =>
        obtain ⟨j, y⟩ := f
        by_cases e3 : k < j
        · simp [sins, e3] at hd; subst hd; show i < k; omega
        · simp [sins, e3] at hd; subst hd; exact Memory.wf_lt h (j, y) (by simp)

/-- Writing a byte keeps the canonical form. -/
theorem Memory.wf_set (m : Memory) (a : Nat) (b : Byte) (h : m.wf = true) : Memory.wf (m.set a b) = true := by
  have h2 := Memory.wf_serase m a h
  unfold Memory.set sset
  by_cases e : b = 0#8
  · simpa [e] using h2
  · rw [if_neg e]
    exact Memory.wf_sins _ a b e (fun x => not_mem_serase m a x) h2
theorem Memory.wf_write (l : List Byte) (m : Memory) (a : Nat) (h : m.wf = true) : Memory.wf (m.write a l) = true := by
  induction l generalizing m a with
  | nil => exact h
  | cons b t ih => exact ih _ _ (Memory.wf_set m a b h)
theorem Memory.wf_writeWord (m : Memory) (a : Nat) (w : Word) (h : m.wf = true) : Memory.wf (m.writeWord a w) = true :=
  Memory.wf_write _ m a h
@[simp] theorem Memory.wf_nil : Memory.wf [] = true := rfl

end Sys2Proof.Machine
end

