-- ==== Sys2Proof/Laws/State.lean ====
section
/-! SUPPORT. What each named update of the state changes and leaves, one lemma for each field and update, so that no later proof
unfolds a record update. -/
namespace Sys2Proof.Machine

/-! ### Entries of the arrays -/


@[simp] theorem State.updPage_same (s : State) (k : Nat) (f : PageSt → PageSt) : (s.updPage k f).page k = f (s.page k) := by simp [State.updPage, State.setPage, State.page]
theorem State.updPage_ne (s : State) {k j : Nat} (f : PageSt → PageSt) (h : j ≠ k) : (s.updPage k f).page j = s.page j := sget_sset_ne _ _ _ h
theorem State.updPage_twice (s : State) (k : Nat) (f g : PageSt → PageSt) : (s.updPage k f).updPage k g = s.updPage k (fun x => g (f x)) := by simp [State.updPage, State.setPage, State.page]
@[simp] theorem State.setPage_same (s : State) (k : Nat) (x : PageSt) : (s.setPage k x).page k = x := by simp [State.setPage, State.page]
@[simp] theorem State.setPage_pending (s : State) (k : Nat) (x : PageSt) : (s.setPage k x).pending = s.pending := rfl
@[simp] theorem State.updPage_pending (s : State) (k : Nat) (f : PageSt → PageSt) : (s.updPage k f).pending = s.pending := rfl
@[simp] theorem State.setPage_fresh (s : State) (k : Nat) (x : PageSt) : (s.setPage k x).fresh = s.fresh := rfl
@[simp] theorem State.updPage_fresh (s : State) (k : Nat) (f : PageSt → PageSt) : (s.updPage k f).fresh = s.fresh := rfl
@[simp] theorem State.setPage_out (s : State) (k : Nat) (x : PageSt) : (s.setPage k x).out = s.out := rfl
@[simp] theorem State.updPage_out (s : State) (k : Nat) (f : PageSt → PageSt) : (s.updPage k f).out = s.out := rfl
@[simp] theorem State.setPage_time (s : State) (k : Nat) (x : PageSt) : (s.setPage k x).time = s.time := rfl
@[simp] theorem State.updPage_time (s : State) (k : Nat) (f : PageSt → PageSt) : (s.updPage k f).time = s.time := rfl
@[simp] theorem State.setPage_start (s : State) (k : Nat) (x : PageSt) : (s.setPage k x).start = s.start := rfl
@[simp] theorem State.updPage_start (s : State) (k : Nat) (f : PageSt → PageSt) : (s.updPage k f).start = s.start := rfl
@[simp] theorem State.setPage_regs (s : State) (k : Nat) (x : PageSt) : (s.setPage k x).regs = s.regs := rfl
@[simp] theorem State.updPage_regs (s : State) (k : Nat) (f : PageSt → PageSt) : (s.updPage k f).regs = s.regs := rfl
@[simp] theorem State.setPage_gal (s : State) (k : Nat) (x : PageSt) : (s.setPage k x).gal = s.gal := rfl
@[simp] theorem State.updPage_gal (s : State) (k : Nat) (f : PageSt → PageSt) : (s.updPage k f).gal = s.gal := rfl
@[simp] theorem State.setPage_gen (s : State) (k : Nat) (x : PageSt) : (s.setPage k x).gen = s.gen := rfl
@[simp] theorem State.updPage_gen (s : State) (k : Nat) (f : PageSt → PageSt) : (s.updPage k f).gen = s.gen := rfl
@[simp] theorem State.setPage_otp (s : State) (k : Nat) (x : PageSt) : (s.setPage k x).otp = s.otp := rfl
@[simp] theorem State.updPage_otp (s : State) (k : Nat) (f : PageSt → PageSt) : (s.updPage k f).otp = s.otp := rfl
@[simp] theorem State.setPage_mode (s : State) (k : Nat) (x : PageSt) : (s.setPage k x).mode = s.mode := rfl
@[simp] theorem State.updPage_mode (s : State) (k : Nat) (f : PageSt → PageSt) : (s.updPage k f).mode = s.mode := rfl
@[simp] theorem State.setPage_pair (s : State) (k : Nat) (x : PageSt) : (s.setPage k x).pair = s.pair := rfl
@[simp] theorem State.updPage_pair (s : State) (k : Nat) (f : PageSt → PageSt) : (s.updPage k f).pair = s.pair := rfl
@[simp] theorem State.setPage_code (s : State) (k : Nat) (x : PageSt) : (s.setPage k x).code = s.code := rfl
@[simp] theorem State.updPage_code (s : State) (k : Nat) (f : PageSt → PageSt) : (s.updPage k f).code = s.code := rfl
@[simp] theorem State.setPage_fw (s : State) (k : Nat) (x : PageSt) : (s.setPage k x).fw = s.fw := rfl
@[simp] theorem State.updPage_fw (s : State) (k : Nat) (f : PageSt → PageSt) : (s.updPage k f).fw = s.fw := rfl
@[simp] theorem State.setPage_rslots (s : State) (k : Nat) (x : PageSt) : (s.setPage k x).rslots = s.rslots := rfl
@[simp] theorem State.updPage_rslots (s : State) (k : Nat) (f : PageSt → PageSt) : (s.updPage k f).rslots = s.rslots := rfl
@[simp] theorem State.setPage_scor (s : State) (k : Nat) (x : PageSt) : (s.setPage k x).scor = s.scor := rfl
@[simp] theorem State.updPage_scor (s : State) (k : Nat) (f : PageSt → PageSt) : (s.updPage k f).scor = s.scor := rfl
@[simp] theorem State.setPage_ban (s : State) (k : Nat) (x : PageSt) : (s.setPage k x).ban = s.ban := rfl
@[simp] theorem State.updPage_ban (s : State) (k : Nat) (f : PageSt → PageSt) : (s.updPage k f).ban = s.ban := rfl
@[simp] theorem State.setPage_dev (s : State) (k : Nat) (x : PageSt) : (s.setPage k x).dev = s.dev := rfl
@[simp] theorem State.updPage_dev (s : State) (k : Nat) (f : PageSt → PageSt) : (s.updPage k f).dev = s.dev := rfl
@[simp] theorem State.updLatchOf_same (s : State) (k : Nat) (f : LatchSt → LatchSt) : (s.updLatchOf k f).latchOf k = f (s.latchOf k) := by simp [State.updLatchOf, State.setLatchOf, State.latchOf]
theorem State.updLatchOf_ne (s : State) {k j : Nat} (f : LatchSt → LatchSt) (h : j ≠ k) : (s.updLatchOf k f).latchOf j = s.latchOf j := sget_sset_ne _ _ _ h
theorem State.updLatchOf_twice (s : State) (k : Nat) (f g : LatchSt → LatchSt) : (s.updLatchOf k f).updLatchOf k g = s.updLatchOf k (fun x => g (f x)) := by simp [State.updLatchOf, State.setLatchOf, State.latchOf]
@[simp] theorem State.setLatchOf_same (s : State) (k : Nat) (x : LatchSt) : (s.setLatchOf k x).latchOf k = x := by simp [State.setLatchOf, State.latchOf]
@[simp] theorem State.setLatchOf_pending (s : State) (k : Nat) (x : LatchSt) : (s.setLatchOf k x).pending = s.pending := rfl
@[simp] theorem State.updLatchOf_pending (s : State) (k : Nat) (f : LatchSt → LatchSt) : (s.updLatchOf k f).pending = s.pending := rfl
@[simp] theorem State.setLatchOf_fresh (s : State) (k : Nat) (x : LatchSt) : (s.setLatchOf k x).fresh = s.fresh := rfl
@[simp] theorem State.updLatchOf_fresh (s : State) (k : Nat) (f : LatchSt → LatchSt) : (s.updLatchOf k f).fresh = s.fresh := rfl
@[simp] theorem State.setLatchOf_out (s : State) (k : Nat) (x : LatchSt) : (s.setLatchOf k x).out = s.out := rfl
@[simp] theorem State.updLatchOf_out (s : State) (k : Nat) (f : LatchSt → LatchSt) : (s.updLatchOf k f).out = s.out := rfl
@[simp] theorem State.setLatchOf_time (s : State) (k : Nat) (x : LatchSt) : (s.setLatchOf k x).time = s.time := rfl
@[simp] theorem State.updLatchOf_time (s : State) (k : Nat) (f : LatchSt → LatchSt) : (s.updLatchOf k f).time = s.time := rfl
@[simp] theorem State.setLatchOf_start (s : State) (k : Nat) (x : LatchSt) : (s.setLatchOf k x).start = s.start := rfl
@[simp] theorem State.updLatchOf_start (s : State) (k : Nat) (f : LatchSt → LatchSt) : (s.updLatchOf k f).start = s.start := rfl
@[simp] theorem State.setLatchOf_pages (s : State) (k : Nat) (x : LatchSt) : (s.setLatchOf k x).pages = s.pages := rfl
@[simp] theorem State.updLatchOf_pages (s : State) (k : Nat) (f : LatchSt → LatchSt) : (s.updLatchOf k f).pages = s.pages := rfl
@[simp] theorem State.setLatchOf_regs (s : State) (k : Nat) (x : LatchSt) : (s.setLatchOf k x).regs = s.regs := rfl
@[simp] theorem State.updLatchOf_regs (s : State) (k : Nat) (f : LatchSt → LatchSt) : (s.updLatchOf k f).regs = s.regs := rfl
@[simp] theorem State.setLatchOf_gal (s : State) (k : Nat) (x : LatchSt) : (s.setLatchOf k x).gal = s.gal := rfl
@[simp] theorem State.updLatchOf_gal (s : State) (k : Nat) (f : LatchSt → LatchSt) : (s.updLatchOf k f).gal = s.gal := rfl
@[simp] theorem State.setLatchOf_gen (s : State) (k : Nat) (x : LatchSt) : (s.setLatchOf k x).gen = s.gen := rfl
@[simp] theorem State.updLatchOf_gen (s : State) (k : Nat) (f : LatchSt → LatchSt) : (s.updLatchOf k f).gen = s.gen := rfl
@[simp] theorem State.setLatchOf_otp (s : State) (k : Nat) (x : LatchSt) : (s.setLatchOf k x).otp = s.otp := rfl
@[simp] theorem State.updLatchOf_otp (s : State) (k : Nat) (f : LatchSt → LatchSt) : (s.updLatchOf k f).otp = s.otp := rfl
@[simp] theorem State.setLatchOf_mode (s : State) (k : Nat) (x : LatchSt) : (s.setLatchOf k x).mode = s.mode := rfl
@[simp] theorem State.updLatchOf_mode (s : State) (k : Nat) (f : LatchSt → LatchSt) : (s.updLatchOf k f).mode = s.mode := rfl
@[simp] theorem State.setLatchOf_pair (s : State) (k : Nat) (x : LatchSt) : (s.setLatchOf k x).pair = s.pair := rfl
@[simp] theorem State.updLatchOf_pair (s : State) (k : Nat) (f : LatchSt → LatchSt) : (s.updLatchOf k f).pair = s.pair := rfl
@[simp] theorem State.setLatchOf_code (s : State) (k : Nat) (x : LatchSt) : (s.setLatchOf k x).code = s.code := rfl
@[simp] theorem State.updLatchOf_code (s : State) (k : Nat) (f : LatchSt → LatchSt) : (s.updLatchOf k f).code = s.code := rfl
@[simp] theorem State.setLatchOf_fw (s : State) (k : Nat) (x : LatchSt) : (s.setLatchOf k x).fw = s.fw := rfl
@[simp] theorem State.updLatchOf_fw (s : State) (k : Nat) (f : LatchSt → LatchSt) : (s.updLatchOf k f).fw = s.fw := rfl
@[simp] theorem State.setLatchOf_rslots (s : State) (k : Nat) (x : LatchSt) : (s.setLatchOf k x).rslots = s.rslots := rfl
@[simp] theorem State.updLatchOf_rslots (s : State) (k : Nat) (f : LatchSt → LatchSt) : (s.updLatchOf k f).rslots = s.rslots := rfl
@[simp] theorem State.setLatchOf_scor (s : State) (k : Nat) (x : LatchSt) : (s.setLatchOf k x).scor = s.scor := rfl
@[simp] theorem State.updLatchOf_scor (s : State) (k : Nat) (f : LatchSt → LatchSt) : (s.updLatchOf k f).scor = s.scor := rfl
@[simp] theorem State.setLatchOf_ban (s : State) (k : Nat) (x : LatchSt) : (s.setLatchOf k x).ban = s.ban := rfl
@[simp] theorem State.updLatchOf_ban (s : State) (k : Nat) (f : LatchSt → LatchSt) : (s.updLatchOf k f).ban = s.ban := rfl
@[simp] theorem State.setLatchOf_dev (s : State) (k : Nat) (x : LatchSt) : (s.setLatchOf k x).dev = s.dev := rfl
@[simp] theorem State.updLatchOf_dev (s : State) (k : Nat) (f : LatchSt → LatchSt) : (s.updLatchOf k f).dev = s.dev := rfl
@[simp] theorem State.updPort_same (s : State) (k : Nat) (f : PortSt → PortSt) : (s.updPort k f).port k = f (s.port k) := by simp [State.updPort, State.setPort, State.port]
theorem State.updPort_ne (s : State) {k j : Nat} (f : PortSt → PortSt) (h : j ≠ k) : (s.updPort k f).port j = s.port j := sget_sset_ne _ _ _ h
theorem State.updPort_twice (s : State) (k : Nat) (f g : PortSt → PortSt) : (s.updPort k f).updPort k g = s.updPort k (fun x => g (f x)) := by simp [State.updPort, State.setPort, State.port]
@[simp] theorem State.setPort_same (s : State) (k : Nat) (x : PortSt) : (s.setPort k x).port k = x := by simp [State.setPort, State.port]
@[simp] theorem State.setPort_pending (s : State) (k : Nat) (x : PortSt) : (s.setPort k x).pending = s.pending := rfl
@[simp] theorem State.updPort_pending (s : State) (k : Nat) (f : PortSt → PortSt) : (s.updPort k f).pending = s.pending := rfl
@[simp] theorem State.setPort_fresh (s : State) (k : Nat) (x : PortSt) : (s.setPort k x).fresh = s.fresh := rfl
@[simp] theorem State.updPort_fresh (s : State) (k : Nat) (f : PortSt → PortSt) : (s.updPort k f).fresh = s.fresh := rfl
@[simp] theorem State.setPort_out (s : State) (k : Nat) (x : PortSt) : (s.setPort k x).out = s.out := rfl
@[simp] theorem State.updPort_out (s : State) (k : Nat) (f : PortSt → PortSt) : (s.updPort k f).out = s.out := rfl
@[simp] theorem State.setPort_time (s : State) (k : Nat) (x : PortSt) : (s.setPort k x).time = s.time := rfl
@[simp] theorem State.updPort_time (s : State) (k : Nat) (f : PortSt → PortSt) : (s.updPort k f).time = s.time := rfl
@[simp] theorem State.setPort_start (s : State) (k : Nat) (x : PortSt) : (s.setPort k x).start = s.start := rfl
@[simp] theorem State.updPort_start (s : State) (k : Nat) (f : PortSt → PortSt) : (s.updPort k f).start = s.start := rfl
@[simp] theorem State.setPort_pages (s : State) (k : Nat) (x : PortSt) : (s.setPort k x).pages = s.pages := rfl
@[simp] theorem State.updPort_pages (s : State) (k : Nat) (f : PortSt → PortSt) : (s.updPort k f).pages = s.pages := rfl
@[simp] theorem State.setPort_regs (s : State) (k : Nat) (x : PortSt) : (s.setPort k x).regs = s.regs := rfl
@[simp] theorem State.updPort_regs (s : State) (k : Nat) (f : PortSt → PortSt) : (s.updPort k f).regs = s.regs := rfl
@[simp] theorem State.setPort_gal (s : State) (k : Nat) (x : PortSt) : (s.setPort k x).gal = s.gal := rfl
@[simp] theorem State.updPort_gal (s : State) (k : Nat) (f : PortSt → PortSt) : (s.updPort k f).gal = s.gal := rfl
@[simp] theorem State.setPort_gen (s : State) (k : Nat) (x : PortSt) : (s.setPort k x).gen = s.gen := rfl
@[simp] theorem State.updPort_gen (s : State) (k : Nat) (f : PortSt → PortSt) : (s.updPort k f).gen = s.gen := rfl
@[simp] theorem State.setPort_otp (s : State) (k : Nat) (x : PortSt) : (s.setPort k x).otp = s.otp := rfl
@[simp] theorem State.updPort_otp (s : State) (k : Nat) (f : PortSt → PortSt) : (s.updPort k f).otp = s.otp := rfl
@[simp] theorem State.setPort_mode (s : State) (k : Nat) (x : PortSt) : (s.setPort k x).mode = s.mode := rfl
@[simp] theorem State.updPort_mode (s : State) (k : Nat) (f : PortSt → PortSt) : (s.updPort k f).mode = s.mode := rfl
@[simp] theorem State.setPort_pair (s : State) (k : Nat) (x : PortSt) : (s.setPort k x).pair = s.pair := rfl
@[simp] theorem State.updPort_pair (s : State) (k : Nat) (f : PortSt → PortSt) : (s.updPort k f).pair = s.pair := rfl
@[simp] theorem State.setPort_code (s : State) (k : Nat) (x : PortSt) : (s.setPort k x).code = s.code := rfl
@[simp] theorem State.updPort_code (s : State) (k : Nat) (f : PortSt → PortSt) : (s.updPort k f).code = s.code := rfl
@[simp] theorem State.setPort_fw (s : State) (k : Nat) (x : PortSt) : (s.setPort k x).fw = s.fw := rfl
@[simp] theorem State.updPort_fw (s : State) (k : Nat) (f : PortSt → PortSt) : (s.updPort k f).fw = s.fw := rfl
@[simp] theorem State.setPort_rslots (s : State) (k : Nat) (x : PortSt) : (s.setPort k x).rslots = s.rslots := rfl
@[simp] theorem State.updPort_rslots (s : State) (k : Nat) (f : PortSt → PortSt) : (s.updPort k f).rslots = s.rslots := rfl
@[simp] theorem State.setPort_scor (s : State) (k : Nat) (x : PortSt) : (s.setPort k x).scor = s.scor := rfl
@[simp] theorem State.updPort_scor (s : State) (k : Nat) (f : PortSt → PortSt) : (s.updPort k f).scor = s.scor := rfl
@[simp] theorem State.setPort_ban (s : State) (k : Nat) (x : PortSt) : (s.setPort k x).ban = s.ban := rfl
@[simp] theorem State.updPort_ban (s : State) (k : Nat) (f : PortSt → PortSt) : (s.updPort k f).ban = s.ban := rfl
@[simp] theorem State.setPort_dev (s : State) (k : Nat) (x : PortSt) : (s.setPort k x).dev = s.dev := rfl
@[simp] theorem State.updPort_dev (s : State) (k : Nat) (f : PortSt → PortSt) : (s.updPort k f).dev = s.dev := rfl
@[simp] theorem State.updMon_same (s : State) (k : Nat) (f : Monitor → Monitor) : (s.updMon k f).mon k = f (s.mon k) := by simp [State.updMon, State.setMon, State.mon]
theorem State.updMon_ne (s : State) {k j : Nat} (f : Monitor → Monitor) (h : j ≠ k) : (s.updMon k f).mon j = s.mon j := sget_sset_ne _ _ _ h
theorem State.updMon_twice (s : State) (k : Nat) (f g : Monitor → Monitor) : (s.updMon k f).updMon k g = s.updMon k (fun x => g (f x)) := by simp [State.updMon, State.setMon, State.mon]
@[simp] theorem State.setMon_same (s : State) (k : Nat) (x : Monitor) : (s.setMon k x).mon k = x := by simp [State.setMon, State.mon]
@[simp] theorem State.setMon_pending (s : State) (k : Nat) (x : Monitor) : (s.setMon k x).pending = s.pending := rfl
@[simp] theorem State.updMon_pending (s : State) (k : Nat) (f : Monitor → Monitor) : (s.updMon k f).pending = s.pending := rfl
@[simp] theorem State.setMon_fresh (s : State) (k : Nat) (x : Monitor) : (s.setMon k x).fresh = s.fresh := rfl
@[simp] theorem State.updMon_fresh (s : State) (k : Nat) (f : Monitor → Monitor) : (s.updMon k f).fresh = s.fresh := rfl
@[simp] theorem State.setMon_out (s : State) (k : Nat) (x : Monitor) : (s.setMon k x).out = s.out := rfl
@[simp] theorem State.updMon_out (s : State) (k : Nat) (f : Monitor → Monitor) : (s.updMon k f).out = s.out := rfl
@[simp] theorem State.setMon_time (s : State) (k : Nat) (x : Monitor) : (s.setMon k x).time = s.time := rfl
@[simp] theorem State.updMon_time (s : State) (k : Nat) (f : Monitor → Monitor) : (s.updMon k f).time = s.time := rfl
@[simp] theorem State.setMon_start (s : State) (k : Nat) (x : Monitor) : (s.setMon k x).start = s.start := rfl
@[simp] theorem State.updMon_start (s : State) (k : Nat) (f : Monitor → Monitor) : (s.updMon k f).start = s.start := rfl
@[simp] theorem State.setMon_pages (s : State) (k : Nat) (x : Monitor) : (s.setMon k x).pages = s.pages := rfl
@[simp] theorem State.updMon_pages (s : State) (k : Nat) (f : Monitor → Monitor) : (s.updMon k f).pages = s.pages := rfl
@[simp] theorem State.setMon_regs (s : State) (k : Nat) (x : Monitor) : (s.setMon k x).regs = s.regs := rfl
@[simp] theorem State.updMon_regs (s : State) (k : Nat) (f : Monitor → Monitor) : (s.updMon k f).regs = s.regs := rfl
@[simp] theorem State.setMon_gal (s : State) (k : Nat) (x : Monitor) : (s.setMon k x).gal = s.gal := rfl
@[simp] theorem State.updMon_gal (s : State) (k : Nat) (f : Monitor → Monitor) : (s.updMon k f).gal = s.gal := rfl
@[simp] theorem State.setMon_gen (s : State) (k : Nat) (x : Monitor) : (s.setMon k x).gen = s.gen := rfl
@[simp] theorem State.updMon_gen (s : State) (k : Nat) (f : Monitor → Monitor) : (s.updMon k f).gen = s.gen := rfl
@[simp] theorem State.setMon_otp (s : State) (k : Nat) (x : Monitor) : (s.setMon k x).otp = s.otp := rfl
@[simp] theorem State.updMon_otp (s : State) (k : Nat) (f : Monitor → Monitor) : (s.updMon k f).otp = s.otp := rfl
@[simp] theorem State.setMon_mode (s : State) (k : Nat) (x : Monitor) : (s.setMon k x).mode = s.mode := rfl
@[simp] theorem State.updMon_mode (s : State) (k : Nat) (f : Monitor → Monitor) : (s.updMon k f).mode = s.mode := rfl
@[simp] theorem State.setMon_pair (s : State) (k : Nat) (x : Monitor) : (s.setMon k x).pair = s.pair := rfl
@[simp] theorem State.updMon_pair (s : State) (k : Nat) (f : Monitor → Monitor) : (s.updMon k f).pair = s.pair := rfl
@[simp] theorem State.setMon_code (s : State) (k : Nat) (x : Monitor) : (s.setMon k x).code = s.code := rfl
@[simp] theorem State.updMon_code (s : State) (k : Nat) (f : Monitor → Monitor) : (s.updMon k f).code = s.code := rfl
@[simp] theorem State.setMon_fw (s : State) (k : Nat) (x : Monitor) : (s.setMon k x).fw = s.fw := rfl
@[simp] theorem State.updMon_fw (s : State) (k : Nat) (f : Monitor → Monitor) : (s.updMon k f).fw = s.fw := rfl
@[simp] theorem State.setMon_rslots (s : State) (k : Nat) (x : Monitor) : (s.setMon k x).rslots = s.rslots := rfl
@[simp] theorem State.updMon_rslots (s : State) (k : Nat) (f : Monitor → Monitor) : (s.updMon k f).rslots = s.rslots := rfl
@[simp] theorem State.setMon_scor (s : State) (k : Nat) (x : Monitor) : (s.setMon k x).scor = s.scor := rfl
@[simp] theorem State.updMon_scor (s : State) (k : Nat) (f : Monitor → Monitor) : (s.updMon k f).scor = s.scor := rfl
@[simp] theorem State.setMon_ban (s : State) (k : Nat) (x : Monitor) : (s.setMon k x).ban = s.ban := rfl
@[simp] theorem State.updMon_ban (s : State) (k : Nat) (f : Monitor → Monitor) : (s.updMon k f).ban = s.ban := rfl
@[simp] theorem State.setMon_dev (s : State) (k : Nat) (x : Monitor) : (s.setMon k x).dev = s.dev := rfl
@[simp] theorem State.updMon_dev (s : State) (k : Nat) (f : Monitor → Monitor) : (s.updMon k f).dev = s.dev := rfl
@[simp] theorem State.updMod_same (s : State) (k : Nat) (f : Module → Module) : (s.updMod k f).mod k = f (s.mod k) := by simp [State.updMod, State.setMod, State.mod]
theorem State.updMod_ne (s : State) {k j : Nat} (f : Module → Module) (h : j ≠ k) : (s.updMod k f).mod j = s.mod j := sget_sset_ne _ _ _ h
theorem State.updMod_twice (s : State) (k : Nat) (f g : Module → Module) : (s.updMod k f).updMod k g = s.updMod k (fun x => g (f x)) := by simp [State.updMod, State.setMod, State.mod]
@[simp] theorem State.setMod_same (s : State) (k : Nat) (x : Module) : (s.setMod k x).mod k = x := by simp [State.setMod, State.mod]
@[simp] theorem State.setMod_pending (s : State) (k : Nat) (x : Module) : (s.setMod k x).pending = s.pending := rfl
@[simp] theorem State.updMod_pending (s : State) (k : Nat) (f : Module → Module) : (s.updMod k f).pending = s.pending := rfl
@[simp] theorem State.setMod_fresh (s : State) (k : Nat) (x : Module) : (s.setMod k x).fresh = s.fresh := rfl
@[simp] theorem State.updMod_fresh (s : State) (k : Nat) (f : Module → Module) : (s.updMod k f).fresh = s.fresh := rfl
@[simp] theorem State.setMod_out (s : State) (k : Nat) (x : Module) : (s.setMod k x).out = s.out := rfl
@[simp] theorem State.updMod_out (s : State) (k : Nat) (f : Module → Module) : (s.updMod k f).out = s.out := rfl
@[simp] theorem State.setMod_time (s : State) (k : Nat) (x : Module) : (s.setMod k x).time = s.time := rfl
@[simp] theorem State.updMod_time (s : State) (k : Nat) (f : Module → Module) : (s.updMod k f).time = s.time := rfl
@[simp] theorem State.setMod_start (s : State) (k : Nat) (x : Module) : (s.setMod k x).start = s.start := rfl
@[simp] theorem State.updMod_start (s : State) (k : Nat) (f : Module → Module) : (s.updMod k f).start = s.start := rfl
@[simp] theorem State.setMod_pages (s : State) (k : Nat) (x : Module) : (s.setMod k x).pages = s.pages := rfl
@[simp] theorem State.updMod_pages (s : State) (k : Nat) (f : Module → Module) : (s.updMod k f).pages = s.pages := rfl
@[simp] theorem State.setMod_regs (s : State) (k : Nat) (x : Module) : (s.setMod k x).regs = s.regs := rfl
@[simp] theorem State.updMod_regs (s : State) (k : Nat) (f : Module → Module) : (s.updMod k f).regs = s.regs := rfl
@[simp] theorem State.setMod_gal (s : State) (k : Nat) (x : Module) : (s.setMod k x).gal = s.gal := rfl
@[simp] theorem State.updMod_gal (s : State) (k : Nat) (f : Module → Module) : (s.updMod k f).gal = s.gal := rfl
@[simp] theorem State.setMod_gen (s : State) (k : Nat) (x : Module) : (s.setMod k x).gen = s.gen := rfl
@[simp] theorem State.updMod_gen (s : State) (k : Nat) (f : Module → Module) : (s.updMod k f).gen = s.gen := rfl
@[simp] theorem State.setMod_otp (s : State) (k : Nat) (x : Module) : (s.setMod k x).otp = s.otp := rfl
@[simp] theorem State.updMod_otp (s : State) (k : Nat) (f : Module → Module) : (s.updMod k f).otp = s.otp := rfl
@[simp] theorem State.setMod_mode (s : State) (k : Nat) (x : Module) : (s.setMod k x).mode = s.mode := rfl
@[simp] theorem State.updMod_mode (s : State) (k : Nat) (f : Module → Module) : (s.updMod k f).mode = s.mode := rfl
@[simp] theorem State.setMod_pair (s : State) (k : Nat) (x : Module) : (s.setMod k x).pair = s.pair := rfl
@[simp] theorem State.updMod_pair (s : State) (k : Nat) (f : Module → Module) : (s.updMod k f).pair = s.pair := rfl
@[simp] theorem State.setMod_code (s : State) (k : Nat) (x : Module) : (s.setMod k x).code = s.code := rfl
@[simp] theorem State.updMod_code (s : State) (k : Nat) (f : Module → Module) : (s.updMod k f).code = s.code := rfl
@[simp] theorem State.setMod_fw (s : State) (k : Nat) (x : Module) : (s.setMod k x).fw = s.fw := rfl
@[simp] theorem State.updMod_fw (s : State) (k : Nat) (f : Module → Module) : (s.updMod k f).fw = s.fw := rfl
@[simp] theorem State.setMod_rslots (s : State) (k : Nat) (x : Module) : (s.setMod k x).rslots = s.rslots := rfl
@[simp] theorem State.updMod_rslots (s : State) (k : Nat) (f : Module → Module) : (s.updMod k f).rslots = s.rslots := rfl
@[simp] theorem State.setMod_scor (s : State) (k : Nat) (x : Module) : (s.setMod k x).scor = s.scor := rfl
@[simp] theorem State.updMod_scor (s : State) (k : Nat) (f : Module → Module) : (s.updMod k f).scor = s.scor := rfl
@[simp] theorem State.setMod_ban (s : State) (k : Nat) (x : Module) : (s.setMod k x).ban = s.ban := rfl
@[simp] theorem State.updMod_ban (s : State) (k : Nat) (f : Module → Module) : (s.updMod k f).ban = s.ban := rfl
@[simp] theorem State.setMod_dev (s : State) (k : Nat) (x : Module) : (s.setMod k x).dev = s.dev := rfl
@[simp] theorem State.updMod_dev (s : State) (k : Nat) (f : Module → Module) : (s.updMod k f).dev = s.dev := rfl
@[simp] theorem State.updTemp_same (s : State) (k : Nat) (f : Temp → Temp) : (s.updTemp k f).temp k = f (s.temp k) := by simp [State.updTemp, State.setTemp, State.temp]
theorem State.updTemp_ne (s : State) {k j : Nat} (f : Temp → Temp) (h : j ≠ k) : (s.updTemp k f).temp j = s.temp j := sget_sset_ne _ _ _ h
theorem State.updTemp_twice (s : State) (k : Nat) (f g : Temp → Temp) : (s.updTemp k f).updTemp k g = s.updTemp k (fun x => g (f x)) := by simp [State.updTemp, State.setTemp, State.temp]
@[simp] theorem State.setTemp_same (s : State) (k : Nat) (x : Temp) : (s.setTemp k x).temp k = x := by simp [State.setTemp, State.temp]
@[simp] theorem State.setTemp_pending (s : State) (k : Nat) (x : Temp) : (s.setTemp k x).pending = s.pending := rfl
@[simp] theorem State.updTemp_pending (s : State) (k : Nat) (f : Temp → Temp) : (s.updTemp k f).pending = s.pending := rfl
@[simp] theorem State.setTemp_fresh (s : State) (k : Nat) (x : Temp) : (s.setTemp k x).fresh = s.fresh := rfl
@[simp] theorem State.updTemp_fresh (s : State) (k : Nat) (f : Temp → Temp) : (s.updTemp k f).fresh = s.fresh := rfl
@[simp] theorem State.setTemp_out (s : State) (k : Nat) (x : Temp) : (s.setTemp k x).out = s.out := rfl
@[simp] theorem State.updTemp_out (s : State) (k : Nat) (f : Temp → Temp) : (s.updTemp k f).out = s.out := rfl
@[simp] theorem State.setTemp_time (s : State) (k : Nat) (x : Temp) : (s.setTemp k x).time = s.time := rfl
@[simp] theorem State.updTemp_time (s : State) (k : Nat) (f : Temp → Temp) : (s.updTemp k f).time = s.time := rfl
@[simp] theorem State.setTemp_start (s : State) (k : Nat) (x : Temp) : (s.setTemp k x).start = s.start := rfl
@[simp] theorem State.updTemp_start (s : State) (k : Nat) (f : Temp → Temp) : (s.updTemp k f).start = s.start := rfl
@[simp] theorem State.setTemp_pages (s : State) (k : Nat) (x : Temp) : (s.setTemp k x).pages = s.pages := rfl
@[simp] theorem State.updTemp_pages (s : State) (k : Nat) (f : Temp → Temp) : (s.updTemp k f).pages = s.pages := rfl
@[simp] theorem State.setTemp_regs (s : State) (k : Nat) (x : Temp) : (s.setTemp k x).regs = s.regs := rfl
@[simp] theorem State.updTemp_regs (s : State) (k : Nat) (f : Temp → Temp) : (s.updTemp k f).regs = s.regs := rfl
@[simp] theorem State.setTemp_gal (s : State) (k : Nat) (x : Temp) : (s.setTemp k x).gal = s.gal := rfl
@[simp] theorem State.updTemp_gal (s : State) (k : Nat) (f : Temp → Temp) : (s.updTemp k f).gal = s.gal := rfl
@[simp] theorem State.setTemp_gen (s : State) (k : Nat) (x : Temp) : (s.setTemp k x).gen = s.gen := rfl
@[simp] theorem State.updTemp_gen (s : State) (k : Nat) (f : Temp → Temp) : (s.updTemp k f).gen = s.gen := rfl
@[simp] theorem State.setTemp_otp (s : State) (k : Nat) (x : Temp) : (s.setTemp k x).otp = s.otp := rfl
@[simp] theorem State.updTemp_otp (s : State) (k : Nat) (f : Temp → Temp) : (s.updTemp k f).otp = s.otp := rfl
@[simp] theorem State.setTemp_mode (s : State) (k : Nat) (x : Temp) : (s.setTemp k x).mode = s.mode := rfl
@[simp] theorem State.updTemp_mode (s : State) (k : Nat) (f : Temp → Temp) : (s.updTemp k f).mode = s.mode := rfl
@[simp] theorem State.setTemp_pair (s : State) (k : Nat) (x : Temp) : (s.setTemp k x).pair = s.pair := rfl
@[simp] theorem State.updTemp_pair (s : State) (k : Nat) (f : Temp → Temp) : (s.updTemp k f).pair = s.pair := rfl
@[simp] theorem State.setTemp_code (s : State) (k : Nat) (x : Temp) : (s.setTemp k x).code = s.code := rfl
@[simp] theorem State.updTemp_code (s : State) (k : Nat) (f : Temp → Temp) : (s.updTemp k f).code = s.code := rfl
@[simp] theorem State.setTemp_fw (s : State) (k : Nat) (x : Temp) : (s.setTemp k x).fw = s.fw := rfl
@[simp] theorem State.updTemp_fw (s : State) (k : Nat) (f : Temp → Temp) : (s.updTemp k f).fw = s.fw := rfl
@[simp] theorem State.setTemp_rslots (s : State) (k : Nat) (x : Temp) : (s.setTemp k x).rslots = s.rslots := rfl
@[simp] theorem State.updTemp_rslots (s : State) (k : Nat) (f : Temp → Temp) : (s.updTemp k f).rslots = s.rslots := rfl
@[simp] theorem State.setTemp_scor (s : State) (k : Nat) (x : Temp) : (s.setTemp k x).scor = s.scor := rfl
@[simp] theorem State.updTemp_scor (s : State) (k : Nat) (f : Temp → Temp) : (s.updTemp k f).scor = s.scor := rfl
@[simp] theorem State.setTemp_ban (s : State) (k : Nat) (x : Temp) : (s.setTemp k x).ban = s.ban := rfl
@[simp] theorem State.updTemp_ban (s : State) (k : Nat) (f : Temp → Temp) : (s.updTemp k f).ban = s.ban := rfl
@[simp] theorem State.setTemp_dev (s : State) (k : Nat) (x : Temp) : (s.setTemp k x).dev = s.dev := rfl
@[simp] theorem State.updTemp_dev (s : State) (k : Nat) (f : Temp → Temp) : (s.updTemp k f).dev = s.dev := rfl
@[simp] theorem State.updWire_same (s : State) (k : Nat) (f : Wire → Wire) : (s.updWire k f).wire k = f (s.wire k) := by simp [State.updWire, State.setWire, State.wire]
theorem State.updWire_ne (s : State) {k j : Nat} (f : Wire → Wire) (h : j ≠ k) : (s.updWire k f).wire j = s.wire j := sget_sset_ne _ _ _ h
theorem State.updWire_twice (s : State) (k : Nat) (f g : Wire → Wire) : (s.updWire k f).updWire k g = s.updWire k (fun x => g (f x)) := by simp [State.updWire, State.setWire, State.wire]
@[simp] theorem State.setWire_same (s : State) (k : Nat) (x : Wire) : (s.setWire k x).wire k = x := by simp [State.setWire, State.wire]
@[simp] theorem State.setWire_pending (s : State) (k : Nat) (x : Wire) : (s.setWire k x).pending = s.pending := rfl
@[simp] theorem State.updWire_pending (s : State) (k : Nat) (f : Wire → Wire) : (s.updWire k f).pending = s.pending := rfl
@[simp] theorem State.setWire_fresh (s : State) (k : Nat) (x : Wire) : (s.setWire k x).fresh = s.fresh := rfl
@[simp] theorem State.updWire_fresh (s : State) (k : Nat) (f : Wire → Wire) : (s.updWire k f).fresh = s.fresh := rfl
@[simp] theorem State.setWire_out (s : State) (k : Nat) (x : Wire) : (s.setWire k x).out = s.out := rfl
@[simp] theorem State.updWire_out (s : State) (k : Nat) (f : Wire → Wire) : (s.updWire k f).out = s.out := rfl
@[simp] theorem State.setWire_time (s : State) (k : Nat) (x : Wire) : (s.setWire k x).time = s.time := rfl
@[simp] theorem State.updWire_time (s : State) (k : Nat) (f : Wire → Wire) : (s.updWire k f).time = s.time := rfl
@[simp] theorem State.setWire_start (s : State) (k : Nat) (x : Wire) : (s.setWire k x).start = s.start := rfl
@[simp] theorem State.updWire_start (s : State) (k : Nat) (f : Wire → Wire) : (s.updWire k f).start = s.start := rfl
@[simp] theorem State.setWire_pages (s : State) (k : Nat) (x : Wire) : (s.setWire k x).pages = s.pages := rfl
@[simp] theorem State.updWire_pages (s : State) (k : Nat) (f : Wire → Wire) : (s.updWire k f).pages = s.pages := rfl
@[simp] theorem State.setWire_regs (s : State) (k : Nat) (x : Wire) : (s.setWire k x).regs = s.regs := rfl
@[simp] theorem State.updWire_regs (s : State) (k : Nat) (f : Wire → Wire) : (s.updWire k f).regs = s.regs := rfl
@[simp] theorem State.setWire_gal (s : State) (k : Nat) (x : Wire) : (s.setWire k x).gal = s.gal := rfl
@[simp] theorem State.updWire_gal (s : State) (k : Nat) (f : Wire → Wire) : (s.updWire k f).gal = s.gal := rfl
@[simp] theorem State.setWire_gen (s : State) (k : Nat) (x : Wire) : (s.setWire k x).gen = s.gen := rfl
@[simp] theorem State.updWire_gen (s : State) (k : Nat) (f : Wire → Wire) : (s.updWire k f).gen = s.gen := rfl
@[simp] theorem State.setWire_otp (s : State) (k : Nat) (x : Wire) : (s.setWire k x).otp = s.otp := rfl
@[simp] theorem State.updWire_otp (s : State) (k : Nat) (f : Wire → Wire) : (s.updWire k f).otp = s.otp := rfl
@[simp] theorem State.setWire_mode (s : State) (k : Nat) (x : Wire) : (s.setWire k x).mode = s.mode := rfl
@[simp] theorem State.updWire_mode (s : State) (k : Nat) (f : Wire → Wire) : (s.updWire k f).mode = s.mode := rfl
@[simp] theorem State.setWire_pair (s : State) (k : Nat) (x : Wire) : (s.setWire k x).pair = s.pair := rfl
@[simp] theorem State.updWire_pair (s : State) (k : Nat) (f : Wire → Wire) : (s.updWire k f).pair = s.pair := rfl
@[simp] theorem State.setWire_code (s : State) (k : Nat) (x : Wire) : (s.setWire k x).code = s.code := rfl
@[simp] theorem State.updWire_code (s : State) (k : Nat) (f : Wire → Wire) : (s.updWire k f).code = s.code := rfl
@[simp] theorem State.setWire_fw (s : State) (k : Nat) (x : Wire) : (s.setWire k x).fw = s.fw := rfl
@[simp] theorem State.updWire_fw (s : State) (k : Nat) (f : Wire → Wire) : (s.updWire k f).fw = s.fw := rfl
@[simp] theorem State.setWire_rslots (s : State) (k : Nat) (x : Wire) : (s.setWire k x).rslots = s.rslots := rfl
@[simp] theorem State.updWire_rslots (s : State) (k : Nat) (f : Wire → Wire) : (s.updWire k f).rslots = s.rslots := rfl
@[simp] theorem State.setWire_scor (s : State) (k : Nat) (x : Wire) : (s.setWire k x).scor = s.scor := rfl
@[simp] theorem State.updWire_scor (s : State) (k : Nat) (f : Wire → Wire) : (s.updWire k f).scor = s.scor := rfl
@[simp] theorem State.setWire_ban (s : State) (k : Nat) (x : Wire) : (s.setWire k x).ban = s.ban := rfl
@[simp] theorem State.updWire_ban (s : State) (k : Nat) (f : Wire → Wire) : (s.updWire k f).ban = s.ban := rfl
@[simp] theorem State.setWire_dev (s : State) (k : Nat) (x : Wire) : (s.setWire k x).dev = s.dev := rfl
@[simp] theorem State.updWire_dev (s : State) (k : Nat) (f : Wire → Wire) : (s.updWire k f).dev = s.dev := rfl
@[simp] theorem State.updCell_same (s : State) (k : Nat) (f : Cell → Cell) : (s.updCell k f).cell k = f (s.cell k) := by simp [State.updCell, State.setCell, State.cell]
theorem State.updCell_ne (s : State) {k j : Nat} (f : Cell → Cell) (h : j ≠ k) : (s.updCell k f).cell j = s.cell j := sget_sset_ne _ _ _ h
theorem State.updCell_twice (s : State) (k : Nat) (f g : Cell → Cell) : (s.updCell k f).updCell k g = s.updCell k (fun x => g (f x)) := by simp [State.updCell, State.setCell, State.cell]
@[simp] theorem State.setCell_same (s : State) (k : Nat) (x : Cell) : (s.setCell k x).cell k = x := by simp [State.setCell, State.cell]
@[simp] theorem State.setCell_pending (s : State) (k : Nat) (x : Cell) : (s.setCell k x).pending = s.pending := rfl
@[simp] theorem State.updCell_pending (s : State) (k : Nat) (f : Cell → Cell) : (s.updCell k f).pending = s.pending := rfl
@[simp] theorem State.setCell_fresh (s : State) (k : Nat) (x : Cell) : (s.setCell k x).fresh = s.fresh := rfl
@[simp] theorem State.updCell_fresh (s : State) (k : Nat) (f : Cell → Cell) : (s.updCell k f).fresh = s.fresh := rfl
@[simp] theorem State.setCell_out (s : State) (k : Nat) (x : Cell) : (s.setCell k x).out = s.out := rfl
@[simp] theorem State.updCell_out (s : State) (k : Nat) (f : Cell → Cell) : (s.updCell k f).out = s.out := rfl
@[simp] theorem State.setCell_time (s : State) (k : Nat) (x : Cell) : (s.setCell k x).time = s.time := rfl
@[simp] theorem State.updCell_time (s : State) (k : Nat) (f : Cell → Cell) : (s.updCell k f).time = s.time := rfl
@[simp] theorem State.setCell_start (s : State) (k : Nat) (x : Cell) : (s.setCell k x).start = s.start := rfl
@[simp] theorem State.updCell_start (s : State) (k : Nat) (f : Cell → Cell) : (s.updCell k f).start = s.start := rfl
@[simp] theorem State.setCell_pages (s : State) (k : Nat) (x : Cell) : (s.setCell k x).pages = s.pages := rfl
@[simp] theorem State.updCell_pages (s : State) (k : Nat) (f : Cell → Cell) : (s.updCell k f).pages = s.pages := rfl
@[simp] theorem State.setCell_regs (s : State) (k : Nat) (x : Cell) : (s.setCell k x).regs = s.regs := rfl
@[simp] theorem State.updCell_regs (s : State) (k : Nat) (f : Cell → Cell) : (s.updCell k f).regs = s.regs := rfl
@[simp] theorem State.setCell_gal (s : State) (k : Nat) (x : Cell) : (s.setCell k x).gal = s.gal := rfl
@[simp] theorem State.updCell_gal (s : State) (k : Nat) (f : Cell → Cell) : (s.updCell k f).gal = s.gal := rfl
@[simp] theorem State.setCell_gen (s : State) (k : Nat) (x : Cell) : (s.setCell k x).gen = s.gen := rfl
@[simp] theorem State.updCell_gen (s : State) (k : Nat) (f : Cell → Cell) : (s.updCell k f).gen = s.gen := rfl
@[simp] theorem State.setCell_otp (s : State) (k : Nat) (x : Cell) : (s.setCell k x).otp = s.otp := rfl
@[simp] theorem State.updCell_otp (s : State) (k : Nat) (f : Cell → Cell) : (s.updCell k f).otp = s.otp := rfl
@[simp] theorem State.setCell_mode (s : State) (k : Nat) (x : Cell) : (s.setCell k x).mode = s.mode := rfl
@[simp] theorem State.updCell_mode (s : State) (k : Nat) (f : Cell → Cell) : (s.updCell k f).mode = s.mode := rfl
@[simp] theorem State.setCell_pair (s : State) (k : Nat) (x : Cell) : (s.setCell k x).pair = s.pair := rfl
@[simp] theorem State.updCell_pair (s : State) (k : Nat) (f : Cell → Cell) : (s.updCell k f).pair = s.pair := rfl
@[simp] theorem State.setCell_code (s : State) (k : Nat) (x : Cell) : (s.setCell k x).code = s.code := rfl
@[simp] theorem State.updCell_code (s : State) (k : Nat) (f : Cell → Cell) : (s.updCell k f).code = s.code := rfl
@[simp] theorem State.setCell_fw (s : State) (k : Nat) (x : Cell) : (s.setCell k x).fw = s.fw := rfl
@[simp] theorem State.updCell_fw (s : State) (k : Nat) (f : Cell → Cell) : (s.updCell k f).fw = s.fw := rfl
@[simp] theorem State.setCell_rslots (s : State) (k : Nat) (x : Cell) : (s.setCell k x).rslots = s.rslots := rfl
@[simp] theorem State.updCell_rslots (s : State) (k : Nat) (f : Cell → Cell) : (s.updCell k f).rslots = s.rslots := rfl
@[simp] theorem State.setCell_scor (s : State) (k : Nat) (x : Cell) : (s.setCell k x).scor = s.scor := rfl
@[simp] theorem State.updCell_scor (s : State) (k : Nat) (f : Cell → Cell) : (s.updCell k f).scor = s.scor := rfl
@[simp] theorem State.setCell_ban (s : State) (k : Nat) (x : Cell) : (s.setCell k x).ban = s.ban := rfl
@[simp] theorem State.updCell_ban (s : State) (k : Nat) (f : Cell → Cell) : (s.updCell k f).ban = s.ban := rfl
@[simp] theorem State.setCell_dev (s : State) (k : Nat) (x : Cell) : (s.setCell k x).dev = s.dev := rfl
@[simp] theorem State.updCell_dev (s : State) (k : Nat) (f : Cell → Cell) : (s.updCell k f).dev = s.dev := rfl
@[simp] theorem State.updChan_same (s : State) (k : Nat) (f : ChanSt → ChanSt) : (s.updChan k f).chan k = f (s.chan k) := by simp [State.updChan, State.setChan, State.chan]
theorem State.updChan_ne (s : State) {k j : Nat} (f : ChanSt → ChanSt) (h : j ≠ k) : (s.updChan k f).chan j = s.chan j := sget_sset_ne _ _ _ h
theorem State.updChan_twice (s : State) (k : Nat) (f g : ChanSt → ChanSt) : (s.updChan k f).updChan k g = s.updChan k (fun x => g (f x)) := by simp [State.updChan, State.setChan, State.chan]
@[simp] theorem State.setChan_same (s : State) (k : Nat) (x : ChanSt) : (s.setChan k x).chan k = x := by simp [State.setChan, State.chan]
@[simp] theorem State.setChan_pending (s : State) (k : Nat) (x : ChanSt) : (s.setChan k x).pending = s.pending := rfl
@[simp] theorem State.updChan_pending (s : State) (k : Nat) (f : ChanSt → ChanSt) : (s.updChan k f).pending = s.pending := rfl
@[simp] theorem State.setChan_fresh (s : State) (k : Nat) (x : ChanSt) : (s.setChan k x).fresh = s.fresh := rfl
@[simp] theorem State.updChan_fresh (s : State) (k : Nat) (f : ChanSt → ChanSt) : (s.updChan k f).fresh = s.fresh := rfl
@[simp] theorem State.setChan_out (s : State) (k : Nat) (x : ChanSt) : (s.setChan k x).out = s.out := rfl
@[simp] theorem State.updChan_out (s : State) (k : Nat) (f : ChanSt → ChanSt) : (s.updChan k f).out = s.out := rfl
@[simp] theorem State.setChan_time (s : State) (k : Nat) (x : ChanSt) : (s.setChan k x).time = s.time := rfl
@[simp] theorem State.updChan_time (s : State) (k : Nat) (f : ChanSt → ChanSt) : (s.updChan k f).time = s.time := rfl
@[simp] theorem State.setChan_start (s : State) (k : Nat) (x : ChanSt) : (s.setChan k x).start = s.start := rfl
@[simp] theorem State.updChan_start (s : State) (k : Nat) (f : ChanSt → ChanSt) : (s.updChan k f).start = s.start := rfl
@[simp] theorem State.setChan_pages (s : State) (k : Nat) (x : ChanSt) : (s.setChan k x).pages = s.pages := rfl
@[simp] theorem State.updChan_pages (s : State) (k : Nat) (f : ChanSt → ChanSt) : (s.updChan k f).pages = s.pages := rfl
@[simp] theorem State.setChan_regs (s : State) (k : Nat) (x : ChanSt) : (s.setChan k x).regs = s.regs := rfl
@[simp] theorem State.updChan_regs (s : State) (k : Nat) (f : ChanSt → ChanSt) : (s.updChan k f).regs = s.regs := rfl
@[simp] theorem State.setChan_gal (s : State) (k : Nat) (x : ChanSt) : (s.setChan k x).gal = s.gal := rfl
@[simp] theorem State.updChan_gal (s : State) (k : Nat) (f : ChanSt → ChanSt) : (s.updChan k f).gal = s.gal := rfl
@[simp] theorem State.setChan_gen (s : State) (k : Nat) (x : ChanSt) : (s.setChan k x).gen = s.gen := rfl
@[simp] theorem State.updChan_gen (s : State) (k : Nat) (f : ChanSt → ChanSt) : (s.updChan k f).gen = s.gen := rfl
@[simp] theorem State.setChan_otp (s : State) (k : Nat) (x : ChanSt) : (s.setChan k x).otp = s.otp := rfl
@[simp] theorem State.updChan_otp (s : State) (k : Nat) (f : ChanSt → ChanSt) : (s.updChan k f).otp = s.otp := rfl
@[simp] theorem State.setChan_mode (s : State) (k : Nat) (x : ChanSt) : (s.setChan k x).mode = s.mode := rfl
@[simp] theorem State.updChan_mode (s : State) (k : Nat) (f : ChanSt → ChanSt) : (s.updChan k f).mode = s.mode := rfl
@[simp] theorem State.setChan_pair (s : State) (k : Nat) (x : ChanSt) : (s.setChan k x).pair = s.pair := rfl
@[simp] theorem State.updChan_pair (s : State) (k : Nat) (f : ChanSt → ChanSt) : (s.updChan k f).pair = s.pair := rfl
@[simp] theorem State.setChan_code (s : State) (k : Nat) (x : ChanSt) : (s.setChan k x).code = s.code := rfl
@[simp] theorem State.updChan_code (s : State) (k : Nat) (f : ChanSt → ChanSt) : (s.updChan k f).code = s.code := rfl
@[simp] theorem State.setChan_fw (s : State) (k : Nat) (x : ChanSt) : (s.setChan k x).fw = s.fw := rfl
@[simp] theorem State.updChan_fw (s : State) (k : Nat) (f : ChanSt → ChanSt) : (s.updChan k f).fw = s.fw := rfl
@[simp] theorem State.setChan_rslots (s : State) (k : Nat) (x : ChanSt) : (s.setChan k x).rslots = s.rslots := rfl
@[simp] theorem State.updChan_rslots (s : State) (k : Nat) (f : ChanSt → ChanSt) : (s.updChan k f).rslots = s.rslots := rfl
@[simp] theorem State.setChan_scor (s : State) (k : Nat) (x : ChanSt) : (s.setChan k x).scor = s.scor := rfl
@[simp] theorem State.updChan_scor (s : State) (k : Nat) (f : ChanSt → ChanSt) : (s.updChan k f).scor = s.scor := rfl
@[simp] theorem State.setChan_ban (s : State) (k : Nat) (x : ChanSt) : (s.setChan k x).ban = s.ban := rfl
@[simp] theorem State.updChan_ban (s : State) (k : Nat) (f : ChanSt → ChanSt) : (s.updChan k f).ban = s.ban := rfl
@[simp] theorem State.setChan_dev (s : State) (k : Nat) (x : ChanSt) : (s.setChan k x).dev = s.dev := rfl
@[simp] theorem State.updChan_dev (s : State) (k : Nat) (f : ChanSt → ChanSt) : (s.updChan k f).dev = s.dev := rfl
@[simp] theorem State.updSlotOf_same (s : State) (k : Nat) (f : SlotSt → SlotSt) : (s.updSlotOf k f).slotOf k = f (s.slotOf k) := by simp [State.updSlotOf, State.setSlotOf, State.slotOf]
theorem State.updSlotOf_ne (s : State) {k j : Nat} (f : SlotSt → SlotSt) (h : j ≠ k) : (s.updSlotOf k f).slotOf j = s.slotOf j := sget_sset_ne _ _ _ h
theorem State.updSlotOf_twice (s : State) (k : Nat) (f g : SlotSt → SlotSt) : (s.updSlotOf k f).updSlotOf k g = s.updSlotOf k (fun x => g (f x)) := by simp [State.updSlotOf, State.setSlotOf, State.slotOf]
@[simp] theorem State.setSlotOf_same (s : State) (k : Nat) (x : SlotSt) : (s.setSlotOf k x).slotOf k = x := by simp [State.setSlotOf, State.slotOf]
@[simp] theorem State.setSlotOf_pending (s : State) (k : Nat) (x : SlotSt) : (s.setSlotOf k x).pending = s.pending := rfl
@[simp] theorem State.updSlotOf_pending (s : State) (k : Nat) (f : SlotSt → SlotSt) : (s.updSlotOf k f).pending = s.pending := rfl
@[simp] theorem State.setSlotOf_fresh (s : State) (k : Nat) (x : SlotSt) : (s.setSlotOf k x).fresh = s.fresh := rfl
@[simp] theorem State.updSlotOf_fresh (s : State) (k : Nat) (f : SlotSt → SlotSt) : (s.updSlotOf k f).fresh = s.fresh := rfl
@[simp] theorem State.setSlotOf_out (s : State) (k : Nat) (x : SlotSt) : (s.setSlotOf k x).out = s.out := rfl
@[simp] theorem State.updSlotOf_out (s : State) (k : Nat) (f : SlotSt → SlotSt) : (s.updSlotOf k f).out = s.out := rfl
@[simp] theorem State.setSlotOf_time (s : State) (k : Nat) (x : SlotSt) : (s.setSlotOf k x).time = s.time := rfl
@[simp] theorem State.updSlotOf_time (s : State) (k : Nat) (f : SlotSt → SlotSt) : (s.updSlotOf k f).time = s.time := rfl
@[simp] theorem State.setSlotOf_start (s : State) (k : Nat) (x : SlotSt) : (s.setSlotOf k x).start = s.start := rfl
@[simp] theorem State.updSlotOf_start (s : State) (k : Nat) (f : SlotSt → SlotSt) : (s.updSlotOf k f).start = s.start := rfl
@[simp] theorem State.setSlotOf_pages (s : State) (k : Nat) (x : SlotSt) : (s.setSlotOf k x).pages = s.pages := rfl
@[simp] theorem State.updSlotOf_pages (s : State) (k : Nat) (f : SlotSt → SlotSt) : (s.updSlotOf k f).pages = s.pages := rfl
@[simp] theorem State.setSlotOf_regs (s : State) (k : Nat) (x : SlotSt) : (s.setSlotOf k x).regs = s.regs := rfl
@[simp] theorem State.updSlotOf_regs (s : State) (k : Nat) (f : SlotSt → SlotSt) : (s.updSlotOf k f).regs = s.regs := rfl
@[simp] theorem State.setSlotOf_gal (s : State) (k : Nat) (x : SlotSt) : (s.setSlotOf k x).gal = s.gal := rfl
@[simp] theorem State.updSlotOf_gal (s : State) (k : Nat) (f : SlotSt → SlotSt) : (s.updSlotOf k f).gal = s.gal := rfl
@[simp] theorem State.setSlotOf_gen (s : State) (k : Nat) (x : SlotSt) : (s.setSlotOf k x).gen = s.gen := rfl
@[simp] theorem State.updSlotOf_gen (s : State) (k : Nat) (f : SlotSt → SlotSt) : (s.updSlotOf k f).gen = s.gen := rfl
@[simp] theorem State.setSlotOf_otp (s : State) (k : Nat) (x : SlotSt) : (s.setSlotOf k x).otp = s.otp := rfl
@[simp] theorem State.updSlotOf_otp (s : State) (k : Nat) (f : SlotSt → SlotSt) : (s.updSlotOf k f).otp = s.otp := rfl
@[simp] theorem State.setSlotOf_mode (s : State) (k : Nat) (x : SlotSt) : (s.setSlotOf k x).mode = s.mode := rfl
@[simp] theorem State.updSlotOf_mode (s : State) (k : Nat) (f : SlotSt → SlotSt) : (s.updSlotOf k f).mode = s.mode := rfl
@[simp] theorem State.setSlotOf_pair (s : State) (k : Nat) (x : SlotSt) : (s.setSlotOf k x).pair = s.pair := rfl
@[simp] theorem State.updSlotOf_pair (s : State) (k : Nat) (f : SlotSt → SlotSt) : (s.updSlotOf k f).pair = s.pair := rfl
@[simp] theorem State.setSlotOf_code (s : State) (k : Nat) (x : SlotSt) : (s.setSlotOf k x).code = s.code := rfl
@[simp] theorem State.updSlotOf_code (s : State) (k : Nat) (f : SlotSt → SlotSt) : (s.updSlotOf k f).code = s.code := rfl
@[simp] theorem State.setSlotOf_fw (s : State) (k : Nat) (x : SlotSt) : (s.setSlotOf k x).fw = s.fw := rfl
@[simp] theorem State.updSlotOf_fw (s : State) (k : Nat) (f : SlotSt → SlotSt) : (s.updSlotOf k f).fw = s.fw := rfl
@[simp] theorem State.setSlotOf_rslots (s : State) (k : Nat) (x : SlotSt) : (s.setSlotOf k x).rslots = s.rslots := rfl
@[simp] theorem State.updSlotOf_rslots (s : State) (k : Nat) (f : SlotSt → SlotSt) : (s.updSlotOf k f).rslots = s.rslots := rfl
@[simp] theorem State.setSlotOf_scor (s : State) (k : Nat) (x : SlotSt) : (s.setSlotOf k x).scor = s.scor := rfl
@[simp] theorem State.updSlotOf_scor (s : State) (k : Nat) (f : SlotSt → SlotSt) : (s.updSlotOf k f).scor = s.scor := rfl
@[simp] theorem State.setSlotOf_ban (s : State) (k : Nat) (x : SlotSt) : (s.setSlotOf k x).ban = s.ban := rfl
@[simp] theorem State.updSlotOf_ban (s : State) (k : Nat) (f : SlotSt → SlotSt) : (s.updSlotOf k f).ban = s.ban := rfl
@[simp] theorem State.setSlotOf_dev (s : State) (k : Nat) (x : SlotSt) : (s.setSlotOf k x).dev = s.dev := rfl
@[simp] theorem State.updSlotOf_dev (s : State) (k : Nat) (f : SlotSt → SlotSt) : (s.updSlotOf k f).dev = s.dev := rfl
@[simp] theorem State.updLevel_same (s : State) (k : Nat) (f : LevelSt → LevelSt) : (s.updLevel k f).level k = f (s.level k) := by simp [State.updLevel, State.setLevel, State.level]
theorem State.updLevel_ne (s : State) {k j : Nat} (f : LevelSt → LevelSt) (h : j ≠ k) : (s.updLevel k f).level j = s.level j := sget_sset_ne _ _ _ h
theorem State.updLevel_twice (s : State) (k : Nat) (f g : LevelSt → LevelSt) : (s.updLevel k f).updLevel k g = s.updLevel k (fun x => g (f x)) := by simp [State.updLevel, State.setLevel, State.level]
@[simp] theorem State.setLevel_same (s : State) (k : Nat) (x : LevelSt) : (s.setLevel k x).level k = x := by simp [State.setLevel, State.level]
@[simp] theorem State.setLevel_pending (s : State) (k : Nat) (x : LevelSt) : (s.setLevel k x).pending = s.pending := rfl
@[simp] theorem State.updLevel_pending (s : State) (k : Nat) (f : LevelSt → LevelSt) : (s.updLevel k f).pending = s.pending := rfl
@[simp] theorem State.setLevel_fresh (s : State) (k : Nat) (x : LevelSt) : (s.setLevel k x).fresh = s.fresh := rfl
@[simp] theorem State.updLevel_fresh (s : State) (k : Nat) (f : LevelSt → LevelSt) : (s.updLevel k f).fresh = s.fresh := rfl
@[simp] theorem State.setLevel_out (s : State) (k : Nat) (x : LevelSt) : (s.setLevel k x).out = s.out := rfl
@[simp] theorem State.updLevel_out (s : State) (k : Nat) (f : LevelSt → LevelSt) : (s.updLevel k f).out = s.out := rfl
@[simp] theorem State.setLevel_time (s : State) (k : Nat) (x : LevelSt) : (s.setLevel k x).time = s.time := rfl
@[simp] theorem State.updLevel_time (s : State) (k : Nat) (f : LevelSt → LevelSt) : (s.updLevel k f).time = s.time := rfl
@[simp] theorem State.setLevel_start (s : State) (k : Nat) (x : LevelSt) : (s.setLevel k x).start = s.start := rfl
@[simp] theorem State.updLevel_start (s : State) (k : Nat) (f : LevelSt → LevelSt) : (s.updLevel k f).start = s.start := rfl
@[simp] theorem State.setLevel_pages (s : State) (k : Nat) (x : LevelSt) : (s.setLevel k x).pages = s.pages := rfl
@[simp] theorem State.updLevel_pages (s : State) (k : Nat) (f : LevelSt → LevelSt) : (s.updLevel k f).pages = s.pages := rfl
@[simp] theorem State.setLevel_regs (s : State) (k : Nat) (x : LevelSt) : (s.setLevel k x).regs = s.regs := rfl
@[simp] theorem State.updLevel_regs (s : State) (k : Nat) (f : LevelSt → LevelSt) : (s.updLevel k f).regs = s.regs := rfl
@[simp] theorem State.setLevel_gal (s : State) (k : Nat) (x : LevelSt) : (s.setLevel k x).gal = s.gal := rfl
@[simp] theorem State.updLevel_gal (s : State) (k : Nat) (f : LevelSt → LevelSt) : (s.updLevel k f).gal = s.gal := rfl
@[simp] theorem State.setLevel_gen (s : State) (k : Nat) (x : LevelSt) : (s.setLevel k x).gen = s.gen := rfl
@[simp] theorem State.updLevel_gen (s : State) (k : Nat) (f : LevelSt → LevelSt) : (s.updLevel k f).gen = s.gen := rfl
@[simp] theorem State.setLevel_otp (s : State) (k : Nat) (x : LevelSt) : (s.setLevel k x).otp = s.otp := rfl
@[simp] theorem State.updLevel_otp (s : State) (k : Nat) (f : LevelSt → LevelSt) : (s.updLevel k f).otp = s.otp := rfl
@[simp] theorem State.setLevel_mode (s : State) (k : Nat) (x : LevelSt) : (s.setLevel k x).mode = s.mode := rfl
@[simp] theorem State.updLevel_mode (s : State) (k : Nat) (f : LevelSt → LevelSt) : (s.updLevel k f).mode = s.mode := rfl
@[simp] theorem State.setLevel_pair (s : State) (k : Nat) (x : LevelSt) : (s.setLevel k x).pair = s.pair := rfl
@[simp] theorem State.updLevel_pair (s : State) (k : Nat) (f : LevelSt → LevelSt) : (s.updLevel k f).pair = s.pair := rfl
@[simp] theorem State.setLevel_code (s : State) (k : Nat) (x : LevelSt) : (s.setLevel k x).code = s.code := rfl
@[simp] theorem State.updLevel_code (s : State) (k : Nat) (f : LevelSt → LevelSt) : (s.updLevel k f).code = s.code := rfl
@[simp] theorem State.setLevel_fw (s : State) (k : Nat) (x : LevelSt) : (s.setLevel k x).fw = s.fw := rfl
@[simp] theorem State.updLevel_fw (s : State) (k : Nat) (f : LevelSt → LevelSt) : (s.updLevel k f).fw = s.fw := rfl
@[simp] theorem State.setLevel_rslots (s : State) (k : Nat) (x : LevelSt) : (s.setLevel k x).rslots = s.rslots := rfl
@[simp] theorem State.updLevel_rslots (s : State) (k : Nat) (f : LevelSt → LevelSt) : (s.updLevel k f).rslots = s.rslots := rfl
@[simp] theorem State.setLevel_scor (s : State) (k : Nat) (x : LevelSt) : (s.setLevel k x).scor = s.scor := rfl
@[simp] theorem State.updLevel_scor (s : State) (k : Nat) (f : LevelSt → LevelSt) : (s.updLevel k f).scor = s.scor := rfl
@[simp] theorem State.setLevel_ban (s : State) (k : Nat) (x : LevelSt) : (s.setLevel k x).ban = s.ban := rfl
@[simp] theorem State.updLevel_ban (s : State) (k : Nat) (f : LevelSt → LevelSt) : (s.updLevel k f).ban = s.ban := rfl
@[simp] theorem State.setLevel_dev (s : State) (k : Nat) (x : LevelSt) : (s.setLevel k x).dev = s.dev := rfl
@[simp] theorem State.updLevel_dev (s : State) (k : Nat) (f : LevelSt → LevelSt) : (s.updLevel k f).dev = s.dev := rfl
@[simp] theorem State.updWaitOf_same (s : State) (k : Nat) (f : WaitSt → WaitSt) : (s.updWaitOf k f).waitOf k = f (s.waitOf k) := by simp [State.updWaitOf, State.setWaitOf, State.waitOf]
theorem State.updWaitOf_ne (s : State) {k j : Nat} (f : WaitSt → WaitSt) (h : j ≠ k) : (s.updWaitOf k f).waitOf j = s.waitOf j := sget_sset_ne _ _ _ h
theorem State.updWaitOf_twice (s : State) (k : Nat) (f g : WaitSt → WaitSt) : (s.updWaitOf k f).updWaitOf k g = s.updWaitOf k (fun x => g (f x)) := by simp [State.updWaitOf, State.setWaitOf, State.waitOf]
@[simp] theorem State.setWaitOf_same (s : State) (k : Nat) (x : WaitSt) : (s.setWaitOf k x).waitOf k = x := by simp [State.setWaitOf, State.waitOf]
@[simp] theorem State.setWaitOf_pending (s : State) (k : Nat) (x : WaitSt) : (s.setWaitOf k x).pending = s.pending := rfl
@[simp] theorem State.updWaitOf_pending (s : State) (k : Nat) (f : WaitSt → WaitSt) : (s.updWaitOf k f).pending = s.pending := rfl
@[simp] theorem State.setWaitOf_fresh (s : State) (k : Nat) (x : WaitSt) : (s.setWaitOf k x).fresh = s.fresh := rfl
@[simp] theorem State.updWaitOf_fresh (s : State) (k : Nat) (f : WaitSt → WaitSt) : (s.updWaitOf k f).fresh = s.fresh := rfl
@[simp] theorem State.setWaitOf_out (s : State) (k : Nat) (x : WaitSt) : (s.setWaitOf k x).out = s.out := rfl
@[simp] theorem State.updWaitOf_out (s : State) (k : Nat) (f : WaitSt → WaitSt) : (s.updWaitOf k f).out = s.out := rfl
@[simp] theorem State.setWaitOf_time (s : State) (k : Nat) (x : WaitSt) : (s.setWaitOf k x).time = s.time := rfl
@[simp] theorem State.updWaitOf_time (s : State) (k : Nat) (f : WaitSt → WaitSt) : (s.updWaitOf k f).time = s.time := rfl
@[simp] theorem State.setWaitOf_start (s : State) (k : Nat) (x : WaitSt) : (s.setWaitOf k x).start = s.start := rfl
@[simp] theorem State.updWaitOf_start (s : State) (k : Nat) (f : WaitSt → WaitSt) : (s.updWaitOf k f).start = s.start := rfl
@[simp] theorem State.setWaitOf_pages (s : State) (k : Nat) (x : WaitSt) : (s.setWaitOf k x).pages = s.pages := rfl
@[simp] theorem State.updWaitOf_pages (s : State) (k : Nat) (f : WaitSt → WaitSt) : (s.updWaitOf k f).pages = s.pages := rfl
@[simp] theorem State.setWaitOf_regs (s : State) (k : Nat) (x : WaitSt) : (s.setWaitOf k x).regs = s.regs := rfl
@[simp] theorem State.updWaitOf_regs (s : State) (k : Nat) (f : WaitSt → WaitSt) : (s.updWaitOf k f).regs = s.regs := rfl
@[simp] theorem State.setWaitOf_gal (s : State) (k : Nat) (x : WaitSt) : (s.setWaitOf k x).gal = s.gal := rfl
@[simp] theorem State.updWaitOf_gal (s : State) (k : Nat) (f : WaitSt → WaitSt) : (s.updWaitOf k f).gal = s.gal := rfl
@[simp] theorem State.setWaitOf_gen (s : State) (k : Nat) (x : WaitSt) : (s.setWaitOf k x).gen = s.gen := rfl
@[simp] theorem State.updWaitOf_gen (s : State) (k : Nat) (f : WaitSt → WaitSt) : (s.updWaitOf k f).gen = s.gen := rfl
@[simp] theorem State.setWaitOf_otp (s : State) (k : Nat) (x : WaitSt) : (s.setWaitOf k x).otp = s.otp := rfl
@[simp] theorem State.updWaitOf_otp (s : State) (k : Nat) (f : WaitSt → WaitSt) : (s.updWaitOf k f).otp = s.otp := rfl
@[simp] theorem State.setWaitOf_mode (s : State) (k : Nat) (x : WaitSt) : (s.setWaitOf k x).mode = s.mode := rfl
@[simp] theorem State.updWaitOf_mode (s : State) (k : Nat) (f : WaitSt → WaitSt) : (s.updWaitOf k f).mode = s.mode := rfl
@[simp] theorem State.setWaitOf_pair (s : State) (k : Nat) (x : WaitSt) : (s.setWaitOf k x).pair = s.pair := rfl
@[simp] theorem State.updWaitOf_pair (s : State) (k : Nat) (f : WaitSt → WaitSt) : (s.updWaitOf k f).pair = s.pair := rfl
@[simp] theorem State.setWaitOf_code (s : State) (k : Nat) (x : WaitSt) : (s.setWaitOf k x).code = s.code := rfl
@[simp] theorem State.updWaitOf_code (s : State) (k : Nat) (f : WaitSt → WaitSt) : (s.updWaitOf k f).code = s.code := rfl
@[simp] theorem State.setWaitOf_fw (s : State) (k : Nat) (x : WaitSt) : (s.setWaitOf k x).fw = s.fw := rfl
@[simp] theorem State.updWaitOf_fw (s : State) (k : Nat) (f : WaitSt → WaitSt) : (s.updWaitOf k f).fw = s.fw := rfl
@[simp] theorem State.setWaitOf_rslots (s : State) (k : Nat) (x : WaitSt) : (s.setWaitOf k x).rslots = s.rslots := rfl
@[simp] theorem State.updWaitOf_rslots (s : State) (k : Nat) (f : WaitSt → WaitSt) : (s.updWaitOf k f).rslots = s.rslots := rfl
@[simp] theorem State.setWaitOf_scor (s : State) (k : Nat) (x : WaitSt) : (s.setWaitOf k x).scor = s.scor := rfl
@[simp] theorem State.updWaitOf_scor (s : State) (k : Nat) (f : WaitSt → WaitSt) : (s.updWaitOf k f).scor = s.scor := rfl
@[simp] theorem State.setWaitOf_ban (s : State) (k : Nat) (x : WaitSt) : (s.setWaitOf k x).ban = s.ban := rfl
@[simp] theorem State.updWaitOf_ban (s : State) (k : Nat) (f : WaitSt → WaitSt) : (s.updWaitOf k f).ban = s.ban := rfl
@[simp] theorem State.setWaitOf_dev (s : State) (k : Nat) (x : WaitSt) : (s.setWaitOf k x).dev = s.dev := rfl
@[simp] theorem State.updWaitOf_dev (s : State) (k : Nat) (f : WaitSt → WaitSt) : (s.updWaitOf k f).dev = s.dev := rfl
@[simp] theorem State.updStr_same (s : State) (k : Nat) (f : StrSt → StrSt) : (s.updStr k f).str k = f (s.str k) := by simp [State.updStr, State.setStr, State.str]
theorem State.updStr_ne (s : State) {k j : Nat} (f : StrSt → StrSt) (h : j ≠ k) : (s.updStr k f).str j = s.str j := sget_sset_ne _ _ _ h
theorem State.updStr_twice (s : State) (k : Nat) (f g : StrSt → StrSt) : (s.updStr k f).updStr k g = s.updStr k (fun x => g (f x)) := by simp [State.updStr, State.setStr, State.str]
@[simp] theorem State.setStr_same (s : State) (k : Nat) (x : StrSt) : (s.setStr k x).str k = x := by simp [State.setStr, State.str]
@[simp] theorem State.setStr_pending (s : State) (k : Nat) (x : StrSt) : (s.setStr k x).pending = s.pending := rfl
@[simp] theorem State.updStr_pending (s : State) (k : Nat) (f : StrSt → StrSt) : (s.updStr k f).pending = s.pending := rfl
@[simp] theorem State.setStr_fresh (s : State) (k : Nat) (x : StrSt) : (s.setStr k x).fresh = s.fresh := rfl
@[simp] theorem State.updStr_fresh (s : State) (k : Nat) (f : StrSt → StrSt) : (s.updStr k f).fresh = s.fresh := rfl
@[simp] theorem State.setStr_out (s : State) (k : Nat) (x : StrSt) : (s.setStr k x).out = s.out := rfl
@[simp] theorem State.updStr_out (s : State) (k : Nat) (f : StrSt → StrSt) : (s.updStr k f).out = s.out := rfl
@[simp] theorem State.setStr_time (s : State) (k : Nat) (x : StrSt) : (s.setStr k x).time = s.time := rfl
@[simp] theorem State.updStr_time (s : State) (k : Nat) (f : StrSt → StrSt) : (s.updStr k f).time = s.time := rfl
@[simp] theorem State.setStr_start (s : State) (k : Nat) (x : StrSt) : (s.setStr k x).start = s.start := rfl
@[simp] theorem State.updStr_start (s : State) (k : Nat) (f : StrSt → StrSt) : (s.updStr k f).start = s.start := rfl
@[simp] theorem State.setStr_pages (s : State) (k : Nat) (x : StrSt) : (s.setStr k x).pages = s.pages := rfl
@[simp] theorem State.updStr_pages (s : State) (k : Nat) (f : StrSt → StrSt) : (s.updStr k f).pages = s.pages := rfl
@[simp] theorem State.setStr_regs (s : State) (k : Nat) (x : StrSt) : (s.setStr k x).regs = s.regs := rfl
@[simp] theorem State.updStr_regs (s : State) (k : Nat) (f : StrSt → StrSt) : (s.updStr k f).regs = s.regs := rfl
@[simp] theorem State.setStr_gal (s : State) (k : Nat) (x : StrSt) : (s.setStr k x).gal = s.gal := rfl
@[simp] theorem State.updStr_gal (s : State) (k : Nat) (f : StrSt → StrSt) : (s.updStr k f).gal = s.gal := rfl
@[simp] theorem State.setStr_gen (s : State) (k : Nat) (x : StrSt) : (s.setStr k x).gen = s.gen := rfl
@[simp] theorem State.updStr_gen (s : State) (k : Nat) (f : StrSt → StrSt) : (s.updStr k f).gen = s.gen := rfl
@[simp] theorem State.setStr_otp (s : State) (k : Nat) (x : StrSt) : (s.setStr k x).otp = s.otp := rfl
@[simp] theorem State.updStr_otp (s : State) (k : Nat) (f : StrSt → StrSt) : (s.updStr k f).otp = s.otp := rfl
@[simp] theorem State.setStr_mode (s : State) (k : Nat) (x : StrSt) : (s.setStr k x).mode = s.mode := rfl
@[simp] theorem State.updStr_mode (s : State) (k : Nat) (f : StrSt → StrSt) : (s.updStr k f).mode = s.mode := rfl
@[simp] theorem State.setStr_pair (s : State) (k : Nat) (x : StrSt) : (s.setStr k x).pair = s.pair := rfl
@[simp] theorem State.updStr_pair (s : State) (k : Nat) (f : StrSt → StrSt) : (s.updStr k f).pair = s.pair := rfl
@[simp] theorem State.setStr_code (s : State) (k : Nat) (x : StrSt) : (s.setStr k x).code = s.code := rfl
@[simp] theorem State.updStr_code (s : State) (k : Nat) (f : StrSt → StrSt) : (s.updStr k f).code = s.code := rfl
@[simp] theorem State.setStr_fw (s : State) (k : Nat) (x : StrSt) : (s.setStr k x).fw = s.fw := rfl
@[simp] theorem State.updStr_fw (s : State) (k : Nat) (f : StrSt → StrSt) : (s.updStr k f).fw = s.fw := rfl
@[simp] theorem State.setStr_rslots (s : State) (k : Nat) (x : StrSt) : (s.setStr k x).rslots = s.rslots := rfl
@[simp] theorem State.updStr_rslots (s : State) (k : Nat) (f : StrSt → StrSt) : (s.updStr k f).rslots = s.rslots := rfl
@[simp] theorem State.setStr_scor (s : State) (k : Nat) (x : StrSt) : (s.setStr k x).scor = s.scor := rfl
@[simp] theorem State.updStr_scor (s : State) (k : Nat) (f : StrSt → StrSt) : (s.updStr k f).scor = s.scor := rfl
@[simp] theorem State.setStr_ban (s : State) (k : Nat) (x : StrSt) : (s.setStr k x).ban = s.ban := rfl
@[simp] theorem State.updStr_ban (s : State) (k : Nat) (f : StrSt → StrSt) : (s.updStr k f).ban = s.ban := rfl
@[simp] theorem State.setStr_dev (s : State) (k : Nat) (x : StrSt) : (s.setStr k x).dev = s.dev := rfl
@[simp] theorem State.updStr_dev (s : State) (k : Nat) (f : StrSt → StrSt) : (s.updStr k f).dev = s.dev := rfl
@[simp] theorem State.updCoil_same (s : State) (k : Nat) (f : CoilSt → CoilSt) : (s.updCoil k f).coil k = f (s.coil k) := by simp [State.updCoil, State.setCoil, State.coil]
theorem State.updCoil_ne (s : State) {k j : Nat} (f : CoilSt → CoilSt) (h : j ≠ k) : (s.updCoil k f).coil j = s.coil j := sget_sset_ne _ _ _ h
theorem State.updCoil_twice (s : State) (k : Nat) (f g : CoilSt → CoilSt) : (s.updCoil k f).updCoil k g = s.updCoil k (fun x => g (f x)) := by simp [State.updCoil, State.setCoil, State.coil]
@[simp] theorem State.setCoil_same (s : State) (k : Nat) (x : CoilSt) : (s.setCoil k x).coil k = x := by simp [State.setCoil, State.coil]
@[simp] theorem State.setCoil_pending (s : State) (k : Nat) (x : CoilSt) : (s.setCoil k x).pending = s.pending := rfl
@[simp] theorem State.updCoil_pending (s : State) (k : Nat) (f : CoilSt → CoilSt) : (s.updCoil k f).pending = s.pending := rfl
@[simp] theorem State.setCoil_fresh (s : State) (k : Nat) (x : CoilSt) : (s.setCoil k x).fresh = s.fresh := rfl
@[simp] theorem State.updCoil_fresh (s : State) (k : Nat) (f : CoilSt → CoilSt) : (s.updCoil k f).fresh = s.fresh := rfl
@[simp] theorem State.setCoil_out (s : State) (k : Nat) (x : CoilSt) : (s.setCoil k x).out = s.out := rfl
@[simp] theorem State.updCoil_out (s : State) (k : Nat) (f : CoilSt → CoilSt) : (s.updCoil k f).out = s.out := rfl
@[simp] theorem State.setCoil_time (s : State) (k : Nat) (x : CoilSt) : (s.setCoil k x).time = s.time := rfl
@[simp] theorem State.updCoil_time (s : State) (k : Nat) (f : CoilSt → CoilSt) : (s.updCoil k f).time = s.time := rfl
@[simp] theorem State.setCoil_start (s : State) (k : Nat) (x : CoilSt) : (s.setCoil k x).start = s.start := rfl
@[simp] theorem State.updCoil_start (s : State) (k : Nat) (f : CoilSt → CoilSt) : (s.updCoil k f).start = s.start := rfl
@[simp] theorem State.setCoil_pages (s : State) (k : Nat) (x : CoilSt) : (s.setCoil k x).pages = s.pages := rfl
@[simp] theorem State.updCoil_pages (s : State) (k : Nat) (f : CoilSt → CoilSt) : (s.updCoil k f).pages = s.pages := rfl
@[simp] theorem State.setCoil_regs (s : State) (k : Nat) (x : CoilSt) : (s.setCoil k x).regs = s.regs := rfl
@[simp] theorem State.updCoil_regs (s : State) (k : Nat) (f : CoilSt → CoilSt) : (s.updCoil k f).regs = s.regs := rfl
@[simp] theorem State.setCoil_gal (s : State) (k : Nat) (x : CoilSt) : (s.setCoil k x).gal = s.gal := rfl
@[simp] theorem State.updCoil_gal (s : State) (k : Nat) (f : CoilSt → CoilSt) : (s.updCoil k f).gal = s.gal := rfl
@[simp] theorem State.setCoil_gen (s : State) (k : Nat) (x : CoilSt) : (s.setCoil k x).gen = s.gen := rfl
@[simp] theorem State.updCoil_gen (s : State) (k : Nat) (f : CoilSt → CoilSt) : (s.updCoil k f).gen = s.gen := rfl
@[simp] theorem State.setCoil_otp (s : State) (k : Nat) (x : CoilSt) : (s.setCoil k x).otp = s.otp := rfl
@[simp] theorem State.updCoil_otp (s : State) (k : Nat) (f : CoilSt → CoilSt) : (s.updCoil k f).otp = s.otp := rfl
@[simp] theorem State.setCoil_mode (s : State) (k : Nat) (x : CoilSt) : (s.setCoil k x).mode = s.mode := rfl
@[simp] theorem State.updCoil_mode (s : State) (k : Nat) (f : CoilSt → CoilSt) : (s.updCoil k f).mode = s.mode := rfl
@[simp] theorem State.setCoil_pair (s : State) (k : Nat) (x : CoilSt) : (s.setCoil k x).pair = s.pair := rfl
@[simp] theorem State.updCoil_pair (s : State) (k : Nat) (f : CoilSt → CoilSt) : (s.updCoil k f).pair = s.pair := rfl
@[simp] theorem State.setCoil_code (s : State) (k : Nat) (x : CoilSt) : (s.setCoil k x).code = s.code := rfl
@[simp] theorem State.updCoil_code (s : State) (k : Nat) (f : CoilSt → CoilSt) : (s.updCoil k f).code = s.code := rfl
@[simp] theorem State.setCoil_fw (s : State) (k : Nat) (x : CoilSt) : (s.setCoil k x).fw = s.fw := rfl
@[simp] theorem State.updCoil_fw (s : State) (k : Nat) (f : CoilSt → CoilSt) : (s.updCoil k f).fw = s.fw := rfl
@[simp] theorem State.setCoil_rslots (s : State) (k : Nat) (x : CoilSt) : (s.setCoil k x).rslots = s.rslots := rfl
@[simp] theorem State.updCoil_rslots (s : State) (k : Nat) (f : CoilSt → CoilSt) : (s.updCoil k f).rslots = s.rslots := rfl
@[simp] theorem State.setCoil_scor (s : State) (k : Nat) (x : CoilSt) : (s.setCoil k x).scor = s.scor := rfl
@[simp] theorem State.updCoil_scor (s : State) (k : Nat) (f : CoilSt → CoilSt) : (s.updCoil k f).scor = s.scor := rfl
@[simp] theorem State.setCoil_ban (s : State) (k : Nat) (x : CoilSt) : (s.setCoil k x).ban = s.ban := rfl
@[simp] theorem State.updCoil_ban (s : State) (k : Nat) (f : CoilSt → CoilSt) : (s.updCoil k f).ban = s.ban := rfl
@[simp] theorem State.setCoil_dev (s : State) (k : Nat) (x : CoilSt) : (s.setCoil k x).dev = s.dev := rfl
@[simp] theorem State.updCoil_dev (s : State) (k : Nat) (f : CoilSt → CoilSt) : (s.updCoil k f).dev = s.dev := rfl
@[simp] theorem State.updQd_same (s : State) (k : Nat) (f : QdSt → QdSt) : (s.updQd k f).qd k = f (s.qd k) := by simp [State.updQd, State.setQd, State.qd]
theorem State.updQd_ne (s : State) {k j : Nat} (f : QdSt → QdSt) (h : j ≠ k) : (s.updQd k f).qd j = s.qd j := sget_sset_ne _ _ _ h
theorem State.updQd_twice (s : State) (k : Nat) (f g : QdSt → QdSt) : (s.updQd k f).updQd k g = s.updQd k (fun x => g (f x)) := by simp [State.updQd, State.setQd, State.qd]
@[simp] theorem State.setQd_same (s : State) (k : Nat) (x : QdSt) : (s.setQd k x).qd k = x := by simp [State.setQd, State.qd]
@[simp] theorem State.setQd_pending (s : State) (k : Nat) (x : QdSt) : (s.setQd k x).pending = s.pending := rfl
@[simp] theorem State.updQd_pending (s : State) (k : Nat) (f : QdSt → QdSt) : (s.updQd k f).pending = s.pending := rfl
@[simp] theorem State.setQd_fresh (s : State) (k : Nat) (x : QdSt) : (s.setQd k x).fresh = s.fresh := rfl
@[simp] theorem State.updQd_fresh (s : State) (k : Nat) (f : QdSt → QdSt) : (s.updQd k f).fresh = s.fresh := rfl
@[simp] theorem State.setQd_out (s : State) (k : Nat) (x : QdSt) : (s.setQd k x).out = s.out := rfl
@[simp] theorem State.updQd_out (s : State) (k : Nat) (f : QdSt → QdSt) : (s.updQd k f).out = s.out := rfl
@[simp] theorem State.setQd_time (s : State) (k : Nat) (x : QdSt) : (s.setQd k x).time = s.time := rfl
@[simp] theorem State.updQd_time (s : State) (k : Nat) (f : QdSt → QdSt) : (s.updQd k f).time = s.time := rfl
@[simp] theorem State.setQd_start (s : State) (k : Nat) (x : QdSt) : (s.setQd k x).start = s.start := rfl
@[simp] theorem State.updQd_start (s : State) (k : Nat) (f : QdSt → QdSt) : (s.updQd k f).start = s.start := rfl
@[simp] theorem State.setQd_pages (s : State) (k : Nat) (x : QdSt) : (s.setQd k x).pages = s.pages := rfl
@[simp] theorem State.updQd_pages (s : State) (k : Nat) (f : QdSt → QdSt) : (s.updQd k f).pages = s.pages := rfl
@[simp] theorem State.setQd_regs (s : State) (k : Nat) (x : QdSt) : (s.setQd k x).regs = s.regs := rfl
@[simp] theorem State.updQd_regs (s : State) (k : Nat) (f : QdSt → QdSt) : (s.updQd k f).regs = s.regs := rfl
@[simp] theorem State.setQd_gal (s : State) (k : Nat) (x : QdSt) : (s.setQd k x).gal = s.gal := rfl
@[simp] theorem State.updQd_gal (s : State) (k : Nat) (f : QdSt → QdSt) : (s.updQd k f).gal = s.gal := rfl
@[simp] theorem State.setQd_gen (s : State) (k : Nat) (x : QdSt) : (s.setQd k x).gen = s.gen := rfl
@[simp] theorem State.updQd_gen (s : State) (k : Nat) (f : QdSt → QdSt) : (s.updQd k f).gen = s.gen := rfl
@[simp] theorem State.setQd_otp (s : State) (k : Nat) (x : QdSt) : (s.setQd k x).otp = s.otp := rfl
@[simp] theorem State.updQd_otp (s : State) (k : Nat) (f : QdSt → QdSt) : (s.updQd k f).otp = s.otp := rfl
@[simp] theorem State.setQd_mode (s : State) (k : Nat) (x : QdSt) : (s.setQd k x).mode = s.mode := rfl
@[simp] theorem State.updQd_mode (s : State) (k : Nat) (f : QdSt → QdSt) : (s.updQd k f).mode = s.mode := rfl
@[simp] theorem State.setQd_pair (s : State) (k : Nat) (x : QdSt) : (s.setQd k x).pair = s.pair := rfl
@[simp] theorem State.updQd_pair (s : State) (k : Nat) (f : QdSt → QdSt) : (s.updQd k f).pair = s.pair := rfl
@[simp] theorem State.setQd_code (s : State) (k : Nat) (x : QdSt) : (s.setQd k x).code = s.code := rfl
@[simp] theorem State.updQd_code (s : State) (k : Nat) (f : QdSt → QdSt) : (s.updQd k f).code = s.code := rfl
@[simp] theorem State.setQd_fw (s : State) (k : Nat) (x : QdSt) : (s.setQd k x).fw = s.fw := rfl
@[simp] theorem State.updQd_fw (s : State) (k : Nat) (f : QdSt → QdSt) : (s.updQd k f).fw = s.fw := rfl
@[simp] theorem State.setQd_rslots (s : State) (k : Nat) (x : QdSt) : (s.setQd k x).rslots = s.rslots := rfl
@[simp] theorem State.updQd_rslots (s : State) (k : Nat) (f : QdSt → QdSt) : (s.updQd k f).rslots = s.rslots := rfl
@[simp] theorem State.setQd_scor (s : State) (k : Nat) (x : QdSt) : (s.setQd k x).scor = s.scor := rfl
@[simp] theorem State.updQd_scor (s : State) (k : Nat) (f : QdSt → QdSt) : (s.updQd k f).scor = s.scor := rfl
@[simp] theorem State.setQd_ban (s : State) (k : Nat) (x : QdSt) : (s.setQd k x).ban = s.ban := rfl
@[simp] theorem State.updQd_ban (s : State) (k : Nat) (f : QdSt → QdSt) : (s.updQd k f).ban = s.ban := rfl
@[simp] theorem State.setQd_dev (s : State) (k : Nat) (x : QdSt) : (s.setQd k x).dev = s.dev := rfl
@[simp] theorem State.updQd_dev (s : State) (k : Nat) (f : QdSt → QdSt) : (s.updQd k f).dev = s.dev := rfl
@[simp] theorem State.updSafe_same (s : State) (k : Nat) (f : SafeCh → SafeCh) : (s.updSafe k f).safe k = f (s.safe k) := by simp [State.updSafe, State.setSafe, State.safe]
theorem State.updSafe_ne (s : State) {k j : Nat} (f : SafeCh → SafeCh) (h : j ≠ k) : (s.updSafe k f).safe j = s.safe j := sget_sset_ne _ _ _ h
theorem State.updSafe_twice (s : State) (k : Nat) (f g : SafeCh → SafeCh) : (s.updSafe k f).updSafe k g = s.updSafe k (fun x => g (f x)) := by simp [State.updSafe, State.setSafe, State.safe]
@[simp] theorem State.setSafe_same (s : State) (k : Nat) (x : SafeCh) : (s.setSafe k x).safe k = x := by simp [State.setSafe, State.safe]
@[simp] theorem State.setSafe_pending (s : State) (k : Nat) (x : SafeCh) : (s.setSafe k x).pending = s.pending := rfl
@[simp] theorem State.updSafe_pending (s : State) (k : Nat) (f : SafeCh → SafeCh) : (s.updSafe k f).pending = s.pending := rfl
@[simp] theorem State.setSafe_fresh (s : State) (k : Nat) (x : SafeCh) : (s.setSafe k x).fresh = s.fresh := rfl
@[simp] theorem State.updSafe_fresh (s : State) (k : Nat) (f : SafeCh → SafeCh) : (s.updSafe k f).fresh = s.fresh := rfl
@[simp] theorem State.setSafe_out (s : State) (k : Nat) (x : SafeCh) : (s.setSafe k x).out = s.out := rfl
@[simp] theorem State.updSafe_out (s : State) (k : Nat) (f : SafeCh → SafeCh) : (s.updSafe k f).out = s.out := rfl
@[simp] theorem State.setSafe_time (s : State) (k : Nat) (x : SafeCh) : (s.setSafe k x).time = s.time := rfl
@[simp] theorem State.updSafe_time (s : State) (k : Nat) (f : SafeCh → SafeCh) : (s.updSafe k f).time = s.time := rfl
@[simp] theorem State.setSafe_start (s : State) (k : Nat) (x : SafeCh) : (s.setSafe k x).start = s.start := rfl
@[simp] theorem State.updSafe_start (s : State) (k : Nat) (f : SafeCh → SafeCh) : (s.updSafe k f).start = s.start := rfl
@[simp] theorem State.setSafe_pages (s : State) (k : Nat) (x : SafeCh) : (s.setSafe k x).pages = s.pages := rfl
@[simp] theorem State.updSafe_pages (s : State) (k : Nat) (f : SafeCh → SafeCh) : (s.updSafe k f).pages = s.pages := rfl
@[simp] theorem State.setSafe_regs (s : State) (k : Nat) (x : SafeCh) : (s.setSafe k x).regs = s.regs := rfl
@[simp] theorem State.updSafe_regs (s : State) (k : Nat) (f : SafeCh → SafeCh) : (s.updSafe k f).regs = s.regs := rfl
@[simp] theorem State.setSafe_gal (s : State) (k : Nat) (x : SafeCh) : (s.setSafe k x).gal = s.gal := rfl
@[simp] theorem State.updSafe_gal (s : State) (k : Nat) (f : SafeCh → SafeCh) : (s.updSafe k f).gal = s.gal := rfl
@[simp] theorem State.setSafe_gen (s : State) (k : Nat) (x : SafeCh) : (s.setSafe k x).gen = s.gen := rfl
@[simp] theorem State.updSafe_gen (s : State) (k : Nat) (f : SafeCh → SafeCh) : (s.updSafe k f).gen = s.gen := rfl
@[simp] theorem State.setSafe_otp (s : State) (k : Nat) (x : SafeCh) : (s.setSafe k x).otp = s.otp := rfl
@[simp] theorem State.updSafe_otp (s : State) (k : Nat) (f : SafeCh → SafeCh) : (s.updSafe k f).otp = s.otp := rfl
@[simp] theorem State.setSafe_mode (s : State) (k : Nat) (x : SafeCh) : (s.setSafe k x).mode = s.mode := rfl
@[simp] theorem State.updSafe_mode (s : State) (k : Nat) (f : SafeCh → SafeCh) : (s.updSafe k f).mode = s.mode := rfl
@[simp] theorem State.setSafe_pair (s : State) (k : Nat) (x : SafeCh) : (s.setSafe k x).pair = s.pair := rfl
@[simp] theorem State.updSafe_pair (s : State) (k : Nat) (f : SafeCh → SafeCh) : (s.updSafe k f).pair = s.pair := rfl
@[simp] theorem State.setSafe_code (s : State) (k : Nat) (x : SafeCh) : (s.setSafe k x).code = s.code := rfl
@[simp] theorem State.updSafe_code (s : State) (k : Nat) (f : SafeCh → SafeCh) : (s.updSafe k f).code = s.code := rfl
@[simp] theorem State.setSafe_fw (s : State) (k : Nat) (x : SafeCh) : (s.setSafe k x).fw = s.fw := rfl
@[simp] theorem State.updSafe_fw (s : State) (k : Nat) (f : SafeCh → SafeCh) : (s.updSafe k f).fw = s.fw := rfl
@[simp] theorem State.setSafe_rslots (s : State) (k : Nat) (x : SafeCh) : (s.setSafe k x).rslots = s.rslots := rfl
@[simp] theorem State.updSafe_rslots (s : State) (k : Nat) (f : SafeCh → SafeCh) : (s.updSafe k f).rslots = s.rslots := rfl
@[simp] theorem State.setSafe_scor (s : State) (k : Nat) (x : SafeCh) : (s.setSafe k x).scor = s.scor := rfl
@[simp] theorem State.updSafe_scor (s : State) (k : Nat) (f : SafeCh → SafeCh) : (s.updSafe k f).scor = s.scor := rfl
@[simp] theorem State.setSafe_ban (s : State) (k : Nat) (x : SafeCh) : (s.setSafe k x).ban = s.ban := rfl
@[simp] theorem State.updSafe_ban (s : State) (k : Nat) (f : SafeCh → SafeCh) : (s.updSafe k f).ban = s.ban := rfl
@[simp] theorem State.setSafe_dev (s : State) (k : Nat) (x : SafeCh) : (s.setSafe k x).dev = s.dev := rfl
@[simp] theorem State.updSafe_dev (s : State) (k : Nat) (f : SafeCh → SafeCh) : (s.updSafe k f).dev = s.dev := rfl
@[simp] theorem State.updBpair_same (s : State) (k : Nat) (f : BanPairSt → BanPairSt) : (s.updBpair k f).bpair k = f (s.bpair k) := by simp [State.updBpair, State.setBpair, State.bpair]
theorem State.updBpair_ne (s : State) {k j : Nat} (f : BanPairSt → BanPairSt) (h : j ≠ k) : (s.updBpair k f).bpair j = s.bpair j := sget_sset_ne _ _ _ h
theorem State.updBpair_twice (s : State) (k : Nat) (f g : BanPairSt → BanPairSt) : (s.updBpair k f).updBpair k g = s.updBpair k (fun x => g (f x)) := by simp [State.updBpair, State.setBpair, State.bpair]
@[simp] theorem State.setBpair_same (s : State) (k : Nat) (x : BanPairSt) : (s.setBpair k x).bpair k = x := by simp [State.setBpair, State.bpair]
@[simp] theorem State.setBpair_pending (s : State) (k : Nat) (x : BanPairSt) : (s.setBpair k x).pending = s.pending := rfl
@[simp] theorem State.updBpair_pending (s : State) (k : Nat) (f : BanPairSt → BanPairSt) : (s.updBpair k f).pending = s.pending := rfl
@[simp] theorem State.setBpair_fresh (s : State) (k : Nat) (x : BanPairSt) : (s.setBpair k x).fresh = s.fresh := rfl
@[simp] theorem State.updBpair_fresh (s : State) (k : Nat) (f : BanPairSt → BanPairSt) : (s.updBpair k f).fresh = s.fresh := rfl
@[simp] theorem State.setBpair_out (s : State) (k : Nat) (x : BanPairSt) : (s.setBpair k x).out = s.out := rfl
@[simp] theorem State.updBpair_out (s : State) (k : Nat) (f : BanPairSt → BanPairSt) : (s.updBpair k f).out = s.out := rfl
@[simp] theorem State.setBpair_time (s : State) (k : Nat) (x : BanPairSt) : (s.setBpair k x).time = s.time := rfl
@[simp] theorem State.updBpair_time (s : State) (k : Nat) (f : BanPairSt → BanPairSt) : (s.updBpair k f).time = s.time := rfl
@[simp] theorem State.setBpair_start (s : State) (k : Nat) (x : BanPairSt) : (s.setBpair k x).start = s.start := rfl
@[simp] theorem State.updBpair_start (s : State) (k : Nat) (f : BanPairSt → BanPairSt) : (s.updBpair k f).start = s.start := rfl
@[simp] theorem State.setBpair_pages (s : State) (k : Nat) (x : BanPairSt) : (s.setBpair k x).pages = s.pages := rfl
@[simp] theorem State.updBpair_pages (s : State) (k : Nat) (f : BanPairSt → BanPairSt) : (s.updBpair k f).pages = s.pages := rfl
@[simp] theorem State.setBpair_regs (s : State) (k : Nat) (x : BanPairSt) : (s.setBpair k x).regs = s.regs := rfl
@[simp] theorem State.updBpair_regs (s : State) (k : Nat) (f : BanPairSt → BanPairSt) : (s.updBpair k f).regs = s.regs := rfl
@[simp] theorem State.setBpair_gal (s : State) (k : Nat) (x : BanPairSt) : (s.setBpair k x).gal = s.gal := rfl
@[simp] theorem State.updBpair_gal (s : State) (k : Nat) (f : BanPairSt → BanPairSt) : (s.updBpair k f).gal = s.gal := rfl
@[simp] theorem State.setBpair_gen (s : State) (k : Nat) (x : BanPairSt) : (s.setBpair k x).gen = s.gen := rfl
@[simp] theorem State.updBpair_gen (s : State) (k : Nat) (f : BanPairSt → BanPairSt) : (s.updBpair k f).gen = s.gen := rfl
@[simp] theorem State.setBpair_otp (s : State) (k : Nat) (x : BanPairSt) : (s.setBpair k x).otp = s.otp := rfl
@[simp] theorem State.updBpair_otp (s : State) (k : Nat) (f : BanPairSt → BanPairSt) : (s.updBpair k f).otp = s.otp := rfl
@[simp] theorem State.setBpair_mode (s : State) (k : Nat) (x : BanPairSt) : (s.setBpair k x).mode = s.mode := rfl
@[simp] theorem State.updBpair_mode (s : State) (k : Nat) (f : BanPairSt → BanPairSt) : (s.updBpair k f).mode = s.mode := rfl
@[simp] theorem State.setBpair_pair (s : State) (k : Nat) (x : BanPairSt) : (s.setBpair k x).pair = s.pair := rfl
@[simp] theorem State.updBpair_pair (s : State) (k : Nat) (f : BanPairSt → BanPairSt) : (s.updBpair k f).pair = s.pair := rfl
@[simp] theorem State.setBpair_code (s : State) (k : Nat) (x : BanPairSt) : (s.setBpair k x).code = s.code := rfl
@[simp] theorem State.updBpair_code (s : State) (k : Nat) (f : BanPairSt → BanPairSt) : (s.updBpair k f).code = s.code := rfl
@[simp] theorem State.setBpair_fw (s : State) (k : Nat) (x : BanPairSt) : (s.setBpair k x).fw = s.fw := rfl
@[simp] theorem State.updBpair_fw (s : State) (k : Nat) (f : BanPairSt → BanPairSt) : (s.updBpair k f).fw = s.fw := rfl
@[simp] theorem State.setBpair_rslots (s : State) (k : Nat) (x : BanPairSt) : (s.setBpair k x).rslots = s.rslots := rfl
@[simp] theorem State.updBpair_rslots (s : State) (k : Nat) (f : BanPairSt → BanPairSt) : (s.updBpair k f).rslots = s.rslots := rfl
@[simp] theorem State.setBpair_scor (s : State) (k : Nat) (x : BanPairSt) : (s.setBpair k x).scor = s.scor := rfl
@[simp] theorem State.updBpair_scor (s : State) (k : Nat) (f : BanPairSt → BanPairSt) : (s.updBpair k f).scor = s.scor := rfl
@[simp] theorem State.setBpair_ban (s : State) (k : Nat) (x : BanPairSt) : (s.setBpair k x).ban = s.ban := rfl
@[simp] theorem State.updBpair_ban (s : State) (k : Nat) (f : BanPairSt → BanPairSt) : (s.updBpair k f).ban = s.ban := rfl
@[simp] theorem State.setBpair_dev (s : State) (k : Nat) (x : BanPairSt) : (s.setBpair k x).dev = s.dev := rfl
@[simp] theorem State.updBpair_dev (s : State) (k : Nat) (f : BanPairSt → BanPairSt) : (s.updBpair k f).dev = s.dev := rfl
@[simp] theorem State.updSrc_same (s : State) (k : Nat) (f : SafeSrc → SafeSrc) : (s.updSrc k f).src k = f (s.src k) := by simp [State.updSrc, State.setSrc, State.src]
theorem State.updSrc_ne (s : State) {k j : Nat} (f : SafeSrc → SafeSrc) (h : j ≠ k) : (s.updSrc k f).src j = s.src j := sget_sset_ne _ _ _ h
theorem State.updSrc_twice (s : State) (k : Nat) (f g : SafeSrc → SafeSrc) : (s.updSrc k f).updSrc k g = s.updSrc k (fun x => g (f x)) := by simp [State.updSrc, State.setSrc, State.src]
@[simp] theorem State.setSrc_same (s : State) (k : Nat) (x : SafeSrc) : (s.setSrc k x).src k = x := by simp [State.setSrc, State.src]
@[simp] theorem State.setSrc_pending (s : State) (k : Nat) (x : SafeSrc) : (s.setSrc k x).pending = s.pending := rfl
@[simp] theorem State.updSrc_pending (s : State) (k : Nat) (f : SafeSrc → SafeSrc) : (s.updSrc k f).pending = s.pending := rfl
@[simp] theorem State.setSrc_fresh (s : State) (k : Nat) (x : SafeSrc) : (s.setSrc k x).fresh = s.fresh := rfl
@[simp] theorem State.updSrc_fresh (s : State) (k : Nat) (f : SafeSrc → SafeSrc) : (s.updSrc k f).fresh = s.fresh := rfl
@[simp] theorem State.setSrc_out (s : State) (k : Nat) (x : SafeSrc) : (s.setSrc k x).out = s.out := rfl
@[simp] theorem State.updSrc_out (s : State) (k : Nat) (f : SafeSrc → SafeSrc) : (s.updSrc k f).out = s.out := rfl
@[simp] theorem State.setSrc_time (s : State) (k : Nat) (x : SafeSrc) : (s.setSrc k x).time = s.time := rfl
@[simp] theorem State.updSrc_time (s : State) (k : Nat) (f : SafeSrc → SafeSrc) : (s.updSrc k f).time = s.time := rfl
@[simp] theorem State.setSrc_start (s : State) (k : Nat) (x : SafeSrc) : (s.setSrc k x).start = s.start := rfl
@[simp] theorem State.updSrc_start (s : State) (k : Nat) (f : SafeSrc → SafeSrc) : (s.updSrc k f).start = s.start := rfl
@[simp] theorem State.setSrc_pages (s : State) (k : Nat) (x : SafeSrc) : (s.setSrc k x).pages = s.pages := rfl
@[simp] theorem State.updSrc_pages (s : State) (k : Nat) (f : SafeSrc → SafeSrc) : (s.updSrc k f).pages = s.pages := rfl
@[simp] theorem State.setSrc_regs (s : State) (k : Nat) (x : SafeSrc) : (s.setSrc k x).regs = s.regs := rfl
@[simp] theorem State.updSrc_regs (s : State) (k : Nat) (f : SafeSrc → SafeSrc) : (s.updSrc k f).regs = s.regs := rfl
@[simp] theorem State.setSrc_gal (s : State) (k : Nat) (x : SafeSrc) : (s.setSrc k x).gal = s.gal := rfl
@[simp] theorem State.updSrc_gal (s : State) (k : Nat) (f : SafeSrc → SafeSrc) : (s.updSrc k f).gal = s.gal := rfl
@[simp] theorem State.setSrc_gen (s : State) (k : Nat) (x : SafeSrc) : (s.setSrc k x).gen = s.gen := rfl
@[simp] theorem State.updSrc_gen (s : State) (k : Nat) (f : SafeSrc → SafeSrc) : (s.updSrc k f).gen = s.gen := rfl
@[simp] theorem State.setSrc_otp (s : State) (k : Nat) (x : SafeSrc) : (s.setSrc k x).otp = s.otp := rfl
@[simp] theorem State.updSrc_otp (s : State) (k : Nat) (f : SafeSrc → SafeSrc) : (s.updSrc k f).otp = s.otp := rfl
@[simp] theorem State.setSrc_mode (s : State) (k : Nat) (x : SafeSrc) : (s.setSrc k x).mode = s.mode := rfl
@[simp] theorem State.updSrc_mode (s : State) (k : Nat) (f : SafeSrc → SafeSrc) : (s.updSrc k f).mode = s.mode := rfl
@[simp] theorem State.setSrc_pair (s : State) (k : Nat) (x : SafeSrc) : (s.setSrc k x).pair = s.pair := rfl
@[simp] theorem State.updSrc_pair (s : State) (k : Nat) (f : SafeSrc → SafeSrc) : (s.updSrc k f).pair = s.pair := rfl
@[simp] theorem State.setSrc_code (s : State) (k : Nat) (x : SafeSrc) : (s.setSrc k x).code = s.code := rfl
@[simp] theorem State.updSrc_code (s : State) (k : Nat) (f : SafeSrc → SafeSrc) : (s.updSrc k f).code = s.code := rfl
@[simp] theorem State.setSrc_fw (s : State) (k : Nat) (x : SafeSrc) : (s.setSrc k x).fw = s.fw := rfl
@[simp] theorem State.updSrc_fw (s : State) (k : Nat) (f : SafeSrc → SafeSrc) : (s.updSrc k f).fw = s.fw := rfl
@[simp] theorem State.setSrc_rslots (s : State) (k : Nat) (x : SafeSrc) : (s.setSrc k x).rslots = s.rslots := rfl
@[simp] theorem State.updSrc_rslots (s : State) (k : Nat) (f : SafeSrc → SafeSrc) : (s.updSrc k f).rslots = s.rslots := rfl
@[simp] theorem State.setSrc_scor (s : State) (k : Nat) (x : SafeSrc) : (s.setSrc k x).scor = s.scor := rfl
@[simp] theorem State.updSrc_scor (s : State) (k : Nat) (f : SafeSrc → SafeSrc) : (s.updSrc k f).scor = s.scor := rfl
@[simp] theorem State.setSrc_ban (s : State) (k : Nat) (x : SafeSrc) : (s.setSrc k x).ban = s.ban := rfl
@[simp] theorem State.updSrc_ban (s : State) (k : Nat) (f : SafeSrc → SafeSrc) : (s.updSrc k f).ban = s.ban := rfl
@[simp] theorem State.setSrc_dev (s : State) (k : Nat) (x : SafeSrc) : (s.setSrc k x).dev = s.dev := rfl
@[simp] theorem State.updSrc_dev (s : State) (k : Nat) (f : SafeSrc → SafeSrc) : (s.updSrc k f).dev = s.dev := rfl
@[simp] theorem State.updToneOf_same (s : State) (k : Nat) (f : ToneSrc → ToneSrc) : (s.updToneOf k f).toneOf k = f (s.toneOf k) := by simp [State.updToneOf, State.setToneOf, State.toneOf]
theorem State.updToneOf_ne (s : State) {k j : Nat} (f : ToneSrc → ToneSrc) (h : j ≠ k) : (s.updToneOf k f).toneOf j = s.toneOf j := sget_sset_ne _ _ _ h
theorem State.updToneOf_twice (s : State) (k : Nat) (f g : ToneSrc → ToneSrc) : (s.updToneOf k f).updToneOf k g = s.updToneOf k (fun x => g (f x)) := by simp [State.updToneOf, State.setToneOf, State.toneOf]
@[simp] theorem State.setToneOf_same (s : State) (k : Nat) (x : ToneSrc) : (s.setToneOf k x).toneOf k = x := by simp [State.setToneOf, State.toneOf]
@[simp] theorem State.setToneOf_pending (s : State) (k : Nat) (x : ToneSrc) : (s.setToneOf k x).pending = s.pending := rfl
@[simp] theorem State.updToneOf_pending (s : State) (k : Nat) (f : ToneSrc → ToneSrc) : (s.updToneOf k f).pending = s.pending := rfl
@[simp] theorem State.setToneOf_fresh (s : State) (k : Nat) (x : ToneSrc) : (s.setToneOf k x).fresh = s.fresh := rfl
@[simp] theorem State.updToneOf_fresh (s : State) (k : Nat) (f : ToneSrc → ToneSrc) : (s.updToneOf k f).fresh = s.fresh := rfl
@[simp] theorem State.setToneOf_out (s : State) (k : Nat) (x : ToneSrc) : (s.setToneOf k x).out = s.out := rfl
@[simp] theorem State.updToneOf_out (s : State) (k : Nat) (f : ToneSrc → ToneSrc) : (s.updToneOf k f).out = s.out := rfl
@[simp] theorem State.setToneOf_time (s : State) (k : Nat) (x : ToneSrc) : (s.setToneOf k x).time = s.time := rfl
@[simp] theorem State.updToneOf_time (s : State) (k : Nat) (f : ToneSrc → ToneSrc) : (s.updToneOf k f).time = s.time := rfl
@[simp] theorem State.setToneOf_start (s : State) (k : Nat) (x : ToneSrc) : (s.setToneOf k x).start = s.start := rfl
@[simp] theorem State.updToneOf_start (s : State) (k : Nat) (f : ToneSrc → ToneSrc) : (s.updToneOf k f).start = s.start := rfl
@[simp] theorem State.setToneOf_pages (s : State) (k : Nat) (x : ToneSrc) : (s.setToneOf k x).pages = s.pages := rfl
@[simp] theorem State.updToneOf_pages (s : State) (k : Nat) (f : ToneSrc → ToneSrc) : (s.updToneOf k f).pages = s.pages := rfl
@[simp] theorem State.setToneOf_regs (s : State) (k : Nat) (x : ToneSrc) : (s.setToneOf k x).regs = s.regs := rfl
@[simp] theorem State.updToneOf_regs (s : State) (k : Nat) (f : ToneSrc → ToneSrc) : (s.updToneOf k f).regs = s.regs := rfl
@[simp] theorem State.setToneOf_gal (s : State) (k : Nat) (x : ToneSrc) : (s.setToneOf k x).gal = s.gal := rfl
@[simp] theorem State.updToneOf_gal (s : State) (k : Nat) (f : ToneSrc → ToneSrc) : (s.updToneOf k f).gal = s.gal := rfl
@[simp] theorem State.setToneOf_gen (s : State) (k : Nat) (x : ToneSrc) : (s.setToneOf k x).gen = s.gen := rfl
@[simp] theorem State.updToneOf_gen (s : State) (k : Nat) (f : ToneSrc → ToneSrc) : (s.updToneOf k f).gen = s.gen := rfl
@[simp] theorem State.setToneOf_otp (s : State) (k : Nat) (x : ToneSrc) : (s.setToneOf k x).otp = s.otp := rfl
@[simp] theorem State.updToneOf_otp (s : State) (k : Nat) (f : ToneSrc → ToneSrc) : (s.updToneOf k f).otp = s.otp := rfl
@[simp] theorem State.setToneOf_mode (s : State) (k : Nat) (x : ToneSrc) : (s.setToneOf k x).mode = s.mode := rfl
@[simp] theorem State.updToneOf_mode (s : State) (k : Nat) (f : ToneSrc → ToneSrc) : (s.updToneOf k f).mode = s.mode := rfl
@[simp] theorem State.setToneOf_pair (s : State) (k : Nat) (x : ToneSrc) : (s.setToneOf k x).pair = s.pair := rfl
@[simp] theorem State.updToneOf_pair (s : State) (k : Nat) (f : ToneSrc → ToneSrc) : (s.updToneOf k f).pair = s.pair := rfl
@[simp] theorem State.setToneOf_code (s : State) (k : Nat) (x : ToneSrc) : (s.setToneOf k x).code = s.code := rfl
@[simp] theorem State.updToneOf_code (s : State) (k : Nat) (f : ToneSrc → ToneSrc) : (s.updToneOf k f).code = s.code := rfl
@[simp] theorem State.setToneOf_fw (s : State) (k : Nat) (x : ToneSrc) : (s.setToneOf k x).fw = s.fw := rfl
@[simp] theorem State.updToneOf_fw (s : State) (k : Nat) (f : ToneSrc → ToneSrc) : (s.updToneOf k f).fw = s.fw := rfl
@[simp] theorem State.setToneOf_rslots (s : State) (k : Nat) (x : ToneSrc) : (s.setToneOf k x).rslots = s.rslots := rfl
@[simp] theorem State.updToneOf_rslots (s : State) (k : Nat) (f : ToneSrc → ToneSrc) : (s.updToneOf k f).rslots = s.rslots := rfl
@[simp] theorem State.setToneOf_scor (s : State) (k : Nat) (x : ToneSrc) : (s.setToneOf k x).scor = s.scor := rfl
@[simp] theorem State.updToneOf_scor (s : State) (k : Nat) (f : ToneSrc → ToneSrc) : (s.updToneOf k f).scor = s.scor := rfl
@[simp] theorem State.setToneOf_ban (s : State) (k : Nat) (x : ToneSrc) : (s.setToneOf k x).ban = s.ban := rfl
@[simp] theorem State.updToneOf_ban (s : State) (k : Nat) (f : ToneSrc → ToneSrc) : (s.updToneOf k f).ban = s.ban := rfl
@[simp] theorem State.setToneOf_dev (s : State) (k : Nat) (x : ToneSrc) : (s.setToneOf k x).dev = s.dev := rfl
@[simp] theorem State.updToneOf_dev (s : State) (k : Nat) (f : ToneSrc → ToneSrc) : (s.updToneOf k f).dev = s.dev := rfl
@[simp] theorem State.updTpOf_same (s : State) (k : Nat) (f : TpSt → TpSt) : (s.updTpOf k f).tpOf k = f (s.tpOf k) := by simp [State.updTpOf, State.setTpOf, State.tpOf]
theorem State.updTpOf_ne (s : State) {k j : Nat} (f : TpSt → TpSt) (h : j ≠ k) : (s.updTpOf k f).tpOf j = s.tpOf j := sget_sset_ne _ _ _ h
theorem State.updTpOf_twice (s : State) (k : Nat) (f g : TpSt → TpSt) : (s.updTpOf k f).updTpOf k g = s.updTpOf k (fun x => g (f x)) := by simp [State.updTpOf, State.setTpOf, State.tpOf]
@[simp] theorem State.setTpOf_same (s : State) (k : Nat) (x : TpSt) : (s.setTpOf k x).tpOf k = x := by simp [State.setTpOf, State.tpOf]
@[simp] theorem State.setTpOf_pending (s : State) (k : Nat) (x : TpSt) : (s.setTpOf k x).pending = s.pending := rfl
@[simp] theorem State.updTpOf_pending (s : State) (k : Nat) (f : TpSt → TpSt) : (s.updTpOf k f).pending = s.pending := rfl
@[simp] theorem State.setTpOf_fresh (s : State) (k : Nat) (x : TpSt) : (s.setTpOf k x).fresh = s.fresh := rfl
@[simp] theorem State.updTpOf_fresh (s : State) (k : Nat) (f : TpSt → TpSt) : (s.updTpOf k f).fresh = s.fresh := rfl
@[simp] theorem State.setTpOf_out (s : State) (k : Nat) (x : TpSt) : (s.setTpOf k x).out = s.out := rfl
@[simp] theorem State.updTpOf_out (s : State) (k : Nat) (f : TpSt → TpSt) : (s.updTpOf k f).out = s.out := rfl
@[simp] theorem State.setTpOf_time (s : State) (k : Nat) (x : TpSt) : (s.setTpOf k x).time = s.time := rfl
@[simp] theorem State.updTpOf_time (s : State) (k : Nat) (f : TpSt → TpSt) : (s.updTpOf k f).time = s.time := rfl
@[simp] theorem State.setTpOf_start (s : State) (k : Nat) (x : TpSt) : (s.setTpOf k x).start = s.start := rfl
@[simp] theorem State.updTpOf_start (s : State) (k : Nat) (f : TpSt → TpSt) : (s.updTpOf k f).start = s.start := rfl
@[simp] theorem State.setTpOf_pages (s : State) (k : Nat) (x : TpSt) : (s.setTpOf k x).pages = s.pages := rfl
@[simp] theorem State.updTpOf_pages (s : State) (k : Nat) (f : TpSt → TpSt) : (s.updTpOf k f).pages = s.pages := rfl
@[simp] theorem State.setTpOf_regs (s : State) (k : Nat) (x : TpSt) : (s.setTpOf k x).regs = s.regs := rfl
@[simp] theorem State.updTpOf_regs (s : State) (k : Nat) (f : TpSt → TpSt) : (s.updTpOf k f).regs = s.regs := rfl
@[simp] theorem State.setTpOf_gal (s : State) (k : Nat) (x : TpSt) : (s.setTpOf k x).gal = s.gal := rfl
@[simp] theorem State.updTpOf_gal (s : State) (k : Nat) (f : TpSt → TpSt) : (s.updTpOf k f).gal = s.gal := rfl
@[simp] theorem State.setTpOf_gen (s : State) (k : Nat) (x : TpSt) : (s.setTpOf k x).gen = s.gen := rfl
@[simp] theorem State.updTpOf_gen (s : State) (k : Nat) (f : TpSt → TpSt) : (s.updTpOf k f).gen = s.gen := rfl
@[simp] theorem State.setTpOf_otp (s : State) (k : Nat) (x : TpSt) : (s.setTpOf k x).otp = s.otp := rfl
@[simp] theorem State.updTpOf_otp (s : State) (k : Nat) (f : TpSt → TpSt) : (s.updTpOf k f).otp = s.otp := rfl
@[simp] theorem State.setTpOf_mode (s : State) (k : Nat) (x : TpSt) : (s.setTpOf k x).mode = s.mode := rfl
@[simp] theorem State.updTpOf_mode (s : State) (k : Nat) (f : TpSt → TpSt) : (s.updTpOf k f).mode = s.mode := rfl
@[simp] theorem State.setTpOf_pair (s : State) (k : Nat) (x : TpSt) : (s.setTpOf k x).pair = s.pair := rfl
@[simp] theorem State.updTpOf_pair (s : State) (k : Nat) (f : TpSt → TpSt) : (s.updTpOf k f).pair = s.pair := rfl
@[simp] theorem State.setTpOf_code (s : State) (k : Nat) (x : TpSt) : (s.setTpOf k x).code = s.code := rfl
@[simp] theorem State.updTpOf_code (s : State) (k : Nat) (f : TpSt → TpSt) : (s.updTpOf k f).code = s.code := rfl
@[simp] theorem State.setTpOf_fw (s : State) (k : Nat) (x : TpSt) : (s.setTpOf k x).fw = s.fw := rfl
@[simp] theorem State.updTpOf_fw (s : State) (k : Nat) (f : TpSt → TpSt) : (s.updTpOf k f).fw = s.fw := rfl
@[simp] theorem State.setTpOf_rslots (s : State) (k : Nat) (x : TpSt) : (s.setTpOf k x).rslots = s.rslots := rfl
@[simp] theorem State.updTpOf_rslots (s : State) (k : Nat) (f : TpSt → TpSt) : (s.updTpOf k f).rslots = s.rslots := rfl
@[simp] theorem State.setTpOf_scor (s : State) (k : Nat) (x : TpSt) : (s.setTpOf k x).scor = s.scor := rfl
@[simp] theorem State.updTpOf_scor (s : State) (k : Nat) (f : TpSt → TpSt) : (s.updTpOf k f).scor = s.scor := rfl
@[simp] theorem State.setTpOf_ban (s : State) (k : Nat) (x : TpSt) : (s.setTpOf k x).ban = s.ban := rfl
@[simp] theorem State.updTpOf_ban (s : State) (k : Nat) (f : TpSt → TpSt) : (s.updTpOf k f).ban = s.ban := rfl
@[simp] theorem State.setTpOf_dev (s : State) (k : Nat) (x : TpSt) : (s.setTpOf k x).dev = s.dev := rfl
@[simp] theorem State.updTpOf_dev (s : State) (k : Nat) (f : TpSt → TpSt) : (s.updTpOf k f).dev = s.dev := rfl
@[simp] theorem State.updCan_same (s : State) (k : Nat) (f : CanSt → CanSt) : (s.updCan k f).can k = f (s.can k) := by simp [State.updCan, State.setCan, State.can]
theorem State.updCan_ne (s : State) {k j : Nat} (f : CanSt → CanSt) (h : j ≠ k) : (s.updCan k f).can j = s.can j := sget_sset_ne _ _ _ h
theorem State.updCan_twice (s : State) (k : Nat) (f g : CanSt → CanSt) : (s.updCan k f).updCan k g = s.updCan k (fun x => g (f x)) := by simp [State.updCan, State.setCan, State.can]
@[simp] theorem State.setCan_same (s : State) (k : Nat) (x : CanSt) : (s.setCan k x).can k = x := by simp [State.setCan, State.can]
@[simp] theorem State.setCan_pending (s : State) (k : Nat) (x : CanSt) : (s.setCan k x).pending = s.pending := rfl
@[simp] theorem State.updCan_pending (s : State) (k : Nat) (f : CanSt → CanSt) : (s.updCan k f).pending = s.pending := rfl
@[simp] theorem State.setCan_fresh (s : State) (k : Nat) (x : CanSt) : (s.setCan k x).fresh = s.fresh := rfl
@[simp] theorem State.updCan_fresh (s : State) (k : Nat) (f : CanSt → CanSt) : (s.updCan k f).fresh = s.fresh := rfl
@[simp] theorem State.setCan_out (s : State) (k : Nat) (x : CanSt) : (s.setCan k x).out = s.out := rfl
@[simp] theorem State.updCan_out (s : State) (k : Nat) (f : CanSt → CanSt) : (s.updCan k f).out = s.out := rfl
@[simp] theorem State.setCan_time (s : State) (k : Nat) (x : CanSt) : (s.setCan k x).time = s.time := rfl
@[simp] theorem State.updCan_time (s : State) (k : Nat) (f : CanSt → CanSt) : (s.updCan k f).time = s.time := rfl
@[simp] theorem State.setCan_start (s : State) (k : Nat) (x : CanSt) : (s.setCan k x).start = s.start := rfl
@[simp] theorem State.updCan_start (s : State) (k : Nat) (f : CanSt → CanSt) : (s.updCan k f).start = s.start := rfl
@[simp] theorem State.setCan_pages (s : State) (k : Nat) (x : CanSt) : (s.setCan k x).pages = s.pages := rfl
@[simp] theorem State.updCan_pages (s : State) (k : Nat) (f : CanSt → CanSt) : (s.updCan k f).pages = s.pages := rfl
@[simp] theorem State.setCan_regs (s : State) (k : Nat) (x : CanSt) : (s.setCan k x).regs = s.regs := rfl
@[simp] theorem State.updCan_regs (s : State) (k : Nat) (f : CanSt → CanSt) : (s.updCan k f).regs = s.regs := rfl
@[simp] theorem State.setCan_gal (s : State) (k : Nat) (x : CanSt) : (s.setCan k x).gal = s.gal := rfl
@[simp] theorem State.updCan_gal (s : State) (k : Nat) (f : CanSt → CanSt) : (s.updCan k f).gal = s.gal := rfl
@[simp] theorem State.setCan_gen (s : State) (k : Nat) (x : CanSt) : (s.setCan k x).gen = s.gen := rfl
@[simp] theorem State.updCan_gen (s : State) (k : Nat) (f : CanSt → CanSt) : (s.updCan k f).gen = s.gen := rfl
@[simp] theorem State.setCan_otp (s : State) (k : Nat) (x : CanSt) : (s.setCan k x).otp = s.otp := rfl
@[simp] theorem State.updCan_otp (s : State) (k : Nat) (f : CanSt → CanSt) : (s.updCan k f).otp = s.otp := rfl
@[simp] theorem State.setCan_mode (s : State) (k : Nat) (x : CanSt) : (s.setCan k x).mode = s.mode := rfl
@[simp] theorem State.updCan_mode (s : State) (k : Nat) (f : CanSt → CanSt) : (s.updCan k f).mode = s.mode := rfl
@[simp] theorem State.setCan_pair (s : State) (k : Nat) (x : CanSt) : (s.setCan k x).pair = s.pair := rfl
@[simp] theorem State.updCan_pair (s : State) (k : Nat) (f : CanSt → CanSt) : (s.updCan k f).pair = s.pair := rfl
@[simp] theorem State.setCan_code (s : State) (k : Nat) (x : CanSt) : (s.setCan k x).code = s.code := rfl
@[simp] theorem State.updCan_code (s : State) (k : Nat) (f : CanSt → CanSt) : (s.updCan k f).code = s.code := rfl
@[simp] theorem State.setCan_fw (s : State) (k : Nat) (x : CanSt) : (s.setCan k x).fw = s.fw := rfl
@[simp] theorem State.updCan_fw (s : State) (k : Nat) (f : CanSt → CanSt) : (s.updCan k f).fw = s.fw := rfl
@[simp] theorem State.setCan_rslots (s : State) (k : Nat) (x : CanSt) : (s.setCan k x).rslots = s.rslots := rfl
@[simp] theorem State.updCan_rslots (s : State) (k : Nat) (f : CanSt → CanSt) : (s.updCan k f).rslots = s.rslots := rfl
@[simp] theorem State.setCan_scor (s : State) (k : Nat) (x : CanSt) : (s.setCan k x).scor = s.scor := rfl
@[simp] theorem State.updCan_scor (s : State) (k : Nat) (f : CanSt → CanSt) : (s.updCan k f).scor = s.scor := rfl
@[simp] theorem State.setCan_ban (s : State) (k : Nat) (x : CanSt) : (s.setCan k x).ban = s.ban := rfl
@[simp] theorem State.updCan_ban (s : State) (k : Nat) (f : CanSt → CanSt) : (s.updCan k f).ban = s.ban := rfl
@[simp] theorem State.setCan_dev (s : State) (k : Nat) (x : CanSt) : (s.setCan k x).dev = s.dev := rfl
@[simp] theorem State.updCan_dev (s : State) (k : Nat) (f : CanSt → CanSt) : (s.updCan k f).dev = s.dev := rfl
@[simp] theorem State.updBuf_same (s : State) (k : Nat) (f : TxBuf → TxBuf) : (s.updBuf k f).buf k = f (s.buf k) := by simp [State.updBuf, State.setBuf, State.buf]
theorem State.updBuf_ne (s : State) {k j : Nat} (f : TxBuf → TxBuf) (h : j ≠ k) : (s.updBuf k f).buf j = s.buf j := sget_sset_ne _ _ _ h
theorem State.updBuf_twice (s : State) (k : Nat) (f g : TxBuf → TxBuf) : (s.updBuf k f).updBuf k g = s.updBuf k (fun x => g (f x)) := by simp [State.updBuf, State.setBuf, State.buf]
@[simp] theorem State.setBuf_same (s : State) (k : Nat) (x : TxBuf) : (s.setBuf k x).buf k = x := by simp [State.setBuf, State.buf]
@[simp] theorem State.setBuf_pending (s : State) (k : Nat) (x : TxBuf) : (s.setBuf k x).pending = s.pending := rfl
@[simp] theorem State.updBuf_pending (s : State) (k : Nat) (f : TxBuf → TxBuf) : (s.updBuf k f).pending = s.pending := rfl
@[simp] theorem State.setBuf_fresh (s : State) (k : Nat) (x : TxBuf) : (s.setBuf k x).fresh = s.fresh := rfl
@[simp] theorem State.updBuf_fresh (s : State) (k : Nat) (f : TxBuf → TxBuf) : (s.updBuf k f).fresh = s.fresh := rfl
@[simp] theorem State.setBuf_out (s : State) (k : Nat) (x : TxBuf) : (s.setBuf k x).out = s.out := rfl
@[simp] theorem State.updBuf_out (s : State) (k : Nat) (f : TxBuf → TxBuf) : (s.updBuf k f).out = s.out := rfl
@[simp] theorem State.setBuf_time (s : State) (k : Nat) (x : TxBuf) : (s.setBuf k x).time = s.time := rfl
@[simp] theorem State.updBuf_time (s : State) (k : Nat) (f : TxBuf → TxBuf) : (s.updBuf k f).time = s.time := rfl
@[simp] theorem State.setBuf_start (s : State) (k : Nat) (x : TxBuf) : (s.setBuf k x).start = s.start := rfl
@[simp] theorem State.updBuf_start (s : State) (k : Nat) (f : TxBuf → TxBuf) : (s.updBuf k f).start = s.start := rfl
@[simp] theorem State.setBuf_pages (s : State) (k : Nat) (x : TxBuf) : (s.setBuf k x).pages = s.pages := rfl
@[simp] theorem State.updBuf_pages (s : State) (k : Nat) (f : TxBuf → TxBuf) : (s.updBuf k f).pages = s.pages := rfl
@[simp] theorem State.setBuf_regs (s : State) (k : Nat) (x : TxBuf) : (s.setBuf k x).regs = s.regs := rfl
@[simp] theorem State.updBuf_regs (s : State) (k : Nat) (f : TxBuf → TxBuf) : (s.updBuf k f).regs = s.regs := rfl
@[simp] theorem State.setBuf_gal (s : State) (k : Nat) (x : TxBuf) : (s.setBuf k x).gal = s.gal := rfl
@[simp] theorem State.updBuf_gal (s : State) (k : Nat) (f : TxBuf → TxBuf) : (s.updBuf k f).gal = s.gal := rfl
@[simp] theorem State.setBuf_gen (s : State) (k : Nat) (x : TxBuf) : (s.setBuf k x).gen = s.gen := rfl
@[simp] theorem State.updBuf_gen (s : State) (k : Nat) (f : TxBuf → TxBuf) : (s.updBuf k f).gen = s.gen := rfl
@[simp] theorem State.setBuf_otp (s : State) (k : Nat) (x : TxBuf) : (s.setBuf k x).otp = s.otp := rfl
@[simp] theorem State.updBuf_otp (s : State) (k : Nat) (f : TxBuf → TxBuf) : (s.updBuf k f).otp = s.otp := rfl
@[simp] theorem State.setBuf_mode (s : State) (k : Nat) (x : TxBuf) : (s.setBuf k x).mode = s.mode := rfl
@[simp] theorem State.updBuf_mode (s : State) (k : Nat) (f : TxBuf → TxBuf) : (s.updBuf k f).mode = s.mode := rfl
@[simp] theorem State.setBuf_pair (s : State) (k : Nat) (x : TxBuf) : (s.setBuf k x).pair = s.pair := rfl
@[simp] theorem State.updBuf_pair (s : State) (k : Nat) (f : TxBuf → TxBuf) : (s.updBuf k f).pair = s.pair := rfl
@[simp] theorem State.setBuf_code (s : State) (k : Nat) (x : TxBuf) : (s.setBuf k x).code = s.code := rfl
@[simp] theorem State.updBuf_code (s : State) (k : Nat) (f : TxBuf → TxBuf) : (s.updBuf k f).code = s.code := rfl
@[simp] theorem State.setBuf_fw (s : State) (k : Nat) (x : TxBuf) : (s.setBuf k x).fw = s.fw := rfl
@[simp] theorem State.updBuf_fw (s : State) (k : Nat) (f : TxBuf → TxBuf) : (s.updBuf k f).fw = s.fw := rfl
@[simp] theorem State.setBuf_rslots (s : State) (k : Nat) (x : TxBuf) : (s.setBuf k x).rslots = s.rslots := rfl
@[simp] theorem State.updBuf_rslots (s : State) (k : Nat) (f : TxBuf → TxBuf) : (s.updBuf k f).rslots = s.rslots := rfl
@[simp] theorem State.setBuf_scor (s : State) (k : Nat) (x : TxBuf) : (s.setBuf k x).scor = s.scor := rfl
@[simp] theorem State.updBuf_scor (s : State) (k : Nat) (f : TxBuf → TxBuf) : (s.updBuf k f).scor = s.scor := rfl
@[simp] theorem State.setBuf_ban (s : State) (k : Nat) (x : TxBuf) : (s.setBuf k x).ban = s.ban := rfl
@[simp] theorem State.updBuf_ban (s : State) (k : Nat) (f : TxBuf → TxBuf) : (s.updBuf k f).ban = s.ban := rfl
@[simp] theorem State.setBuf_dev (s : State) (k : Nat) (x : TxBuf) : (s.setBuf k x).dev = s.dev := rfl
@[simp] theorem State.updBuf_dev (s : State) (k : Nat) (f : TxBuf → TxBuf) : (s.updBuf k f).dev = s.dev := rfl
@[simp] theorem State.updFlow_same (s : State) (k : Nat) (f : FlowSt → FlowSt) : (s.updFlow k f).flow k = f (s.flow k) := by simp [State.updFlow, State.setFlow, State.flow]
theorem State.updFlow_ne (s : State) {k j : Nat} (f : FlowSt → FlowSt) (h : j ≠ k) : (s.updFlow k f).flow j = s.flow j := sget_sset_ne _ _ _ h
theorem State.updFlow_twice (s : State) (k : Nat) (f g : FlowSt → FlowSt) : (s.updFlow k f).updFlow k g = s.updFlow k (fun x => g (f x)) := by simp [State.updFlow, State.setFlow, State.flow]
@[simp] theorem State.setFlow_same (s : State) (k : Nat) (x : FlowSt) : (s.setFlow k x).flow k = x := by simp [State.setFlow, State.flow]
@[simp] theorem State.setFlow_pending (s : State) (k : Nat) (x : FlowSt) : (s.setFlow k x).pending = s.pending := rfl
@[simp] theorem State.updFlow_pending (s : State) (k : Nat) (f : FlowSt → FlowSt) : (s.updFlow k f).pending = s.pending := rfl
@[simp] theorem State.setFlow_fresh (s : State) (k : Nat) (x : FlowSt) : (s.setFlow k x).fresh = s.fresh := rfl
@[simp] theorem State.updFlow_fresh (s : State) (k : Nat) (f : FlowSt → FlowSt) : (s.updFlow k f).fresh = s.fresh := rfl
@[simp] theorem State.setFlow_out (s : State) (k : Nat) (x : FlowSt) : (s.setFlow k x).out = s.out := rfl
@[simp] theorem State.updFlow_out (s : State) (k : Nat) (f : FlowSt → FlowSt) : (s.updFlow k f).out = s.out := rfl
@[simp] theorem State.setFlow_time (s : State) (k : Nat) (x : FlowSt) : (s.setFlow k x).time = s.time := rfl
@[simp] theorem State.updFlow_time (s : State) (k : Nat) (f : FlowSt → FlowSt) : (s.updFlow k f).time = s.time := rfl
@[simp] theorem State.setFlow_start (s : State) (k : Nat) (x : FlowSt) : (s.setFlow k x).start = s.start := rfl
@[simp] theorem State.updFlow_start (s : State) (k : Nat) (f : FlowSt → FlowSt) : (s.updFlow k f).start = s.start := rfl
@[simp] theorem State.setFlow_pages (s : State) (k : Nat) (x : FlowSt) : (s.setFlow k x).pages = s.pages := rfl
@[simp] theorem State.updFlow_pages (s : State) (k : Nat) (f : FlowSt → FlowSt) : (s.updFlow k f).pages = s.pages := rfl
@[simp] theorem State.setFlow_regs (s : State) (k : Nat) (x : FlowSt) : (s.setFlow k x).regs = s.regs := rfl
@[simp] theorem State.updFlow_regs (s : State) (k : Nat) (f : FlowSt → FlowSt) : (s.updFlow k f).regs = s.regs := rfl
@[simp] theorem State.setFlow_gal (s : State) (k : Nat) (x : FlowSt) : (s.setFlow k x).gal = s.gal := rfl
@[simp] theorem State.updFlow_gal (s : State) (k : Nat) (f : FlowSt → FlowSt) : (s.updFlow k f).gal = s.gal := rfl
@[simp] theorem State.setFlow_gen (s : State) (k : Nat) (x : FlowSt) : (s.setFlow k x).gen = s.gen := rfl
@[simp] theorem State.updFlow_gen (s : State) (k : Nat) (f : FlowSt → FlowSt) : (s.updFlow k f).gen = s.gen := rfl
@[simp] theorem State.setFlow_otp (s : State) (k : Nat) (x : FlowSt) : (s.setFlow k x).otp = s.otp := rfl
@[simp] theorem State.updFlow_otp (s : State) (k : Nat) (f : FlowSt → FlowSt) : (s.updFlow k f).otp = s.otp := rfl
@[simp] theorem State.setFlow_mode (s : State) (k : Nat) (x : FlowSt) : (s.setFlow k x).mode = s.mode := rfl
@[simp] theorem State.updFlow_mode (s : State) (k : Nat) (f : FlowSt → FlowSt) : (s.updFlow k f).mode = s.mode := rfl
@[simp] theorem State.setFlow_pair (s : State) (k : Nat) (x : FlowSt) : (s.setFlow k x).pair = s.pair := rfl
@[simp] theorem State.updFlow_pair (s : State) (k : Nat) (f : FlowSt → FlowSt) : (s.updFlow k f).pair = s.pair := rfl
@[simp] theorem State.setFlow_code (s : State) (k : Nat) (x : FlowSt) : (s.setFlow k x).code = s.code := rfl
@[simp] theorem State.updFlow_code (s : State) (k : Nat) (f : FlowSt → FlowSt) : (s.updFlow k f).code = s.code := rfl
@[simp] theorem State.setFlow_fw (s : State) (k : Nat) (x : FlowSt) : (s.setFlow k x).fw = s.fw := rfl
@[simp] theorem State.updFlow_fw (s : State) (k : Nat) (f : FlowSt → FlowSt) : (s.updFlow k f).fw = s.fw := rfl
@[simp] theorem State.setFlow_rslots (s : State) (k : Nat) (x : FlowSt) : (s.setFlow k x).rslots = s.rslots := rfl
@[simp] theorem State.updFlow_rslots (s : State) (k : Nat) (f : FlowSt → FlowSt) : (s.updFlow k f).rslots = s.rslots := rfl
@[simp] theorem State.setFlow_scor (s : State) (k : Nat) (x : FlowSt) : (s.setFlow k x).scor = s.scor := rfl
@[simp] theorem State.updFlow_scor (s : State) (k : Nat) (f : FlowSt → FlowSt) : (s.updFlow k f).scor = s.scor := rfl
@[simp] theorem State.setFlow_ban (s : State) (k : Nat) (x : FlowSt) : (s.setFlow k x).ban = s.ban := rfl
@[simp] theorem State.updFlow_ban (s : State) (k : Nat) (f : FlowSt → FlowSt) : (s.updFlow k f).ban = s.ban := rfl
@[simp] theorem State.setFlow_dev (s : State) (k : Nat) (x : FlowSt) : (s.setFlow k x).dev = s.dev := rfl
@[simp] theorem State.updFlow_dev (s : State) (k : Nat) (f : FlowSt → FlowSt) : (s.updFlow k f).dev = s.dev := rfl
@[simp] theorem State.updRslot_same (s : State) (k : Nat) (f : RestoreSlot → RestoreSlot) : (s.updRslot k f).rslot k = f (s.rslot k) := by simp [State.updRslot, State.setRslot, State.rslot]
theorem State.updRslot_ne (s : State) {k j : Nat} (f : RestoreSlot → RestoreSlot) (h : j ≠ k) : (s.updRslot k f).rslot j = s.rslot j := sget_sset_ne _ _ _ h
theorem State.updRslot_twice (s : State) (k : Nat) (f g : RestoreSlot → RestoreSlot) : (s.updRslot k f).updRslot k g = s.updRslot k (fun x => g (f x)) := by simp [State.updRslot, State.setRslot, State.rslot]
@[simp] theorem State.setRslot_same (s : State) (k : Nat) (x : RestoreSlot) : (s.setRslot k x).rslot k = x := by simp [State.setRslot, State.rslot]
@[simp] theorem State.setRslot_pending (s : State) (k : Nat) (x : RestoreSlot) : (s.setRslot k x).pending = s.pending := rfl
@[simp] theorem State.updRslot_pending (s : State) (k : Nat) (f : RestoreSlot → RestoreSlot) : (s.updRslot k f).pending = s.pending := rfl
@[simp] theorem State.setRslot_fresh (s : State) (k : Nat) (x : RestoreSlot) : (s.setRslot k x).fresh = s.fresh := rfl
@[simp] theorem State.updRslot_fresh (s : State) (k : Nat) (f : RestoreSlot → RestoreSlot) : (s.updRslot k f).fresh = s.fresh := rfl
@[simp] theorem State.setRslot_out (s : State) (k : Nat) (x : RestoreSlot) : (s.setRslot k x).out = s.out := rfl
@[simp] theorem State.updRslot_out (s : State) (k : Nat) (f : RestoreSlot → RestoreSlot) : (s.updRslot k f).out = s.out := rfl
@[simp] theorem State.setRslot_time (s : State) (k : Nat) (x : RestoreSlot) : (s.setRslot k x).time = s.time := rfl
@[simp] theorem State.updRslot_time (s : State) (k : Nat) (f : RestoreSlot → RestoreSlot) : (s.updRslot k f).time = s.time := rfl
@[simp] theorem State.setRslot_start (s : State) (k : Nat) (x : RestoreSlot) : (s.setRslot k x).start = s.start := rfl
@[simp] theorem State.updRslot_start (s : State) (k : Nat) (f : RestoreSlot → RestoreSlot) : (s.updRslot k f).start = s.start := rfl
@[simp] theorem State.setRslot_pages (s : State) (k : Nat) (x : RestoreSlot) : (s.setRslot k x).pages = s.pages := rfl
@[simp] theorem State.updRslot_pages (s : State) (k : Nat) (f : RestoreSlot → RestoreSlot) : (s.updRslot k f).pages = s.pages := rfl
@[simp] theorem State.setRslot_regs (s : State) (k : Nat) (x : RestoreSlot) : (s.setRslot k x).regs = s.regs := rfl
@[simp] theorem State.updRslot_regs (s : State) (k : Nat) (f : RestoreSlot → RestoreSlot) : (s.updRslot k f).regs = s.regs := rfl
@[simp] theorem State.setRslot_gal (s : State) (k : Nat) (x : RestoreSlot) : (s.setRslot k x).gal = s.gal := rfl
@[simp] theorem State.updRslot_gal (s : State) (k : Nat) (f : RestoreSlot → RestoreSlot) : (s.updRslot k f).gal = s.gal := rfl
@[simp] theorem State.setRslot_gen (s : State) (k : Nat) (x : RestoreSlot) : (s.setRslot k x).gen = s.gen := rfl
@[simp] theorem State.updRslot_gen (s : State) (k : Nat) (f : RestoreSlot → RestoreSlot) : (s.updRslot k f).gen = s.gen := rfl
@[simp] theorem State.setRslot_otp (s : State) (k : Nat) (x : RestoreSlot) : (s.setRslot k x).otp = s.otp := rfl
@[simp] theorem State.updRslot_otp (s : State) (k : Nat) (f : RestoreSlot → RestoreSlot) : (s.updRslot k f).otp = s.otp := rfl
@[simp] theorem State.setRslot_mode (s : State) (k : Nat) (x : RestoreSlot) : (s.setRslot k x).mode = s.mode := rfl
@[simp] theorem State.updRslot_mode (s : State) (k : Nat) (f : RestoreSlot → RestoreSlot) : (s.updRslot k f).mode = s.mode := rfl
@[simp] theorem State.setRslot_pair (s : State) (k : Nat) (x : RestoreSlot) : (s.setRslot k x).pair = s.pair := rfl
@[simp] theorem State.updRslot_pair (s : State) (k : Nat) (f : RestoreSlot → RestoreSlot) : (s.updRslot k f).pair = s.pair := rfl
@[simp] theorem State.setRslot_code (s : State) (k : Nat) (x : RestoreSlot) : (s.setRslot k x).code = s.code := rfl
@[simp] theorem State.updRslot_code (s : State) (k : Nat) (f : RestoreSlot → RestoreSlot) : (s.updRslot k f).code = s.code := rfl
@[simp] theorem State.setRslot_fw (s : State) (k : Nat) (x : RestoreSlot) : (s.setRslot k x).fw = s.fw := rfl
@[simp] theorem State.updRslot_fw (s : State) (k : Nat) (f : RestoreSlot → RestoreSlot) : (s.updRslot k f).fw = s.fw := rfl
@[simp] theorem State.setRslot_scor (s : State) (k : Nat) (x : RestoreSlot) : (s.setRslot k x).scor = s.scor := rfl
@[simp] theorem State.updRslot_scor (s : State) (k : Nat) (f : RestoreSlot → RestoreSlot) : (s.updRslot k f).scor = s.scor := rfl
@[simp] theorem State.setRslot_ban (s : State) (k : Nat) (x : RestoreSlot) : (s.setRslot k x).ban = s.ban := rfl
@[simp] theorem State.updRslot_ban (s : State) (k : Nat) (f : RestoreSlot → RestoreSlot) : (s.updRslot k f).ban = s.ban := rfl
@[simp] theorem State.setRslot_dev (s : State) (k : Nat) (x : RestoreSlot) : (s.setRslot k x).dev = s.dev := rfl
@[simp] theorem State.updRslot_dev (s : State) (k : Nat) (f : RestoreSlot → RestoreSlot) : (s.updRslot k f).dev = s.dev := rfl
@[simp] theorem State.updCtx_same (s : State) (k : Nat) (f : Ctx → Ctx) : (s.updCtx k f).ctx k = f (s.ctx k) := by simp [State.updCtx, State.setCtx, State.ctx]
theorem State.updCtx_ne (s : State) {k j : Nat} (f : Ctx → Ctx) (h : j ≠ k) : (s.updCtx k f).ctx j = s.ctx j := sget_sset_ne _ _ _ h
theorem State.updCtx_twice (s : State) (k : Nat) (f g : Ctx → Ctx) : (s.updCtx k f).updCtx k g = s.updCtx k (fun x => g (f x)) := by simp [State.updCtx, State.setCtx, State.ctx]
@[simp] theorem State.setCtx_same (s : State) (k : Nat) (x : Ctx) : (s.setCtx k x).ctx k = x := by simp [State.setCtx, State.ctx]
@[simp] theorem State.setCtx_pending (s : State) (k : Nat) (x : Ctx) : (s.setCtx k x).pending = s.pending := rfl
@[simp] theorem State.updCtx_pending (s : State) (k : Nat) (f : Ctx → Ctx) : (s.updCtx k f).pending = s.pending := rfl
@[simp] theorem State.setCtx_fresh (s : State) (k : Nat) (x : Ctx) : (s.setCtx k x).fresh = s.fresh := rfl
@[simp] theorem State.updCtx_fresh (s : State) (k : Nat) (f : Ctx → Ctx) : (s.updCtx k f).fresh = s.fresh := rfl
@[simp] theorem State.setCtx_out (s : State) (k : Nat) (x : Ctx) : (s.setCtx k x).out = s.out := rfl
@[simp] theorem State.updCtx_out (s : State) (k : Nat) (f : Ctx → Ctx) : (s.updCtx k f).out = s.out := rfl
@[simp] theorem State.setCtx_time (s : State) (k : Nat) (x : Ctx) : (s.setCtx k x).time = s.time := rfl
@[simp] theorem State.updCtx_time (s : State) (k : Nat) (f : Ctx → Ctx) : (s.updCtx k f).time = s.time := rfl
@[simp] theorem State.setCtx_start (s : State) (k : Nat) (x : Ctx) : (s.setCtx k x).start = s.start := rfl
@[simp] theorem State.updCtx_start (s : State) (k : Nat) (f : Ctx → Ctx) : (s.updCtx k f).start = s.start := rfl
@[simp] theorem State.setCtx_pages (s : State) (k : Nat) (x : Ctx) : (s.setCtx k x).pages = s.pages := rfl
@[simp] theorem State.updCtx_pages (s : State) (k : Nat) (f : Ctx → Ctx) : (s.updCtx k f).pages = s.pages := rfl
@[simp] theorem State.setCtx_regs (s : State) (k : Nat) (x : Ctx) : (s.setCtx k x).regs = s.regs := rfl
@[simp] theorem State.updCtx_regs (s : State) (k : Nat) (f : Ctx → Ctx) : (s.updCtx k f).regs = s.regs := rfl
@[simp] theorem State.setCtx_gal (s : State) (k : Nat) (x : Ctx) : (s.setCtx k x).gal = s.gal := rfl
@[simp] theorem State.updCtx_gal (s : State) (k : Nat) (f : Ctx → Ctx) : (s.updCtx k f).gal = s.gal := rfl
@[simp] theorem State.setCtx_gen (s : State) (k : Nat) (x : Ctx) : (s.setCtx k x).gen = s.gen := rfl
@[simp] theorem State.updCtx_gen (s : State) (k : Nat) (f : Ctx → Ctx) : (s.updCtx k f).gen = s.gen := rfl
@[simp] theorem State.setCtx_otp (s : State) (k : Nat) (x : Ctx) : (s.setCtx k x).otp = s.otp := rfl
@[simp] theorem State.updCtx_otp (s : State) (k : Nat) (f : Ctx → Ctx) : (s.updCtx k f).otp = s.otp := rfl
@[simp] theorem State.setCtx_mode (s : State) (k : Nat) (x : Ctx) : (s.setCtx k x).mode = s.mode := rfl
@[simp] theorem State.updCtx_mode (s : State) (k : Nat) (f : Ctx → Ctx) : (s.updCtx k f).mode = s.mode := rfl
@[simp] theorem State.setCtx_pair (s : State) (k : Nat) (x : Ctx) : (s.setCtx k x).pair = s.pair := rfl
@[simp] theorem State.updCtx_pair (s : State) (k : Nat) (f : Ctx → Ctx) : (s.updCtx k f).pair = s.pair := rfl
@[simp] theorem State.setCtx_code (s : State) (k : Nat) (x : Ctx) : (s.setCtx k x).code = s.code := rfl
@[simp] theorem State.updCtx_code (s : State) (k : Nat) (f : Ctx → Ctx) : (s.updCtx k f).code = s.code := rfl
@[simp] theorem State.setCtx_fw (s : State) (k : Nat) (x : Ctx) : (s.setCtx k x).fw = s.fw := rfl
@[simp] theorem State.updCtx_fw (s : State) (k : Nat) (f : Ctx → Ctx) : (s.updCtx k f).fw = s.fw := rfl
@[simp] theorem State.setCtx_rslots (s : State) (k : Nat) (x : Ctx) : (s.setCtx k x).rslots = s.rslots := rfl
@[simp] theorem State.updCtx_rslots (s : State) (k : Nat) (f : Ctx → Ctx) : (s.updCtx k f).rslots = s.rslots := rfl
@[simp] theorem State.setCtx_scor (s : State) (k : Nat) (x : Ctx) : (s.setCtx k x).scor = s.scor := rfl
@[simp] theorem State.updCtx_scor (s : State) (k : Nat) (f : Ctx → Ctx) : (s.updCtx k f).scor = s.scor := rfl
@[simp] theorem State.setCtx_ban (s : State) (k : Nat) (x : Ctx) : (s.setCtx k x).ban = s.ban := rfl
@[simp] theorem State.updCtx_ban (s : State) (k : Nat) (f : Ctx → Ctx) : (s.updCtx k f).ban = s.ban := rfl
@[simp] theorem State.setCtx_dev (s : State) (k : Nat) (x : Ctx) : (s.setCtx k x).dev = s.dev := rfl
@[simp] theorem State.updCtx_dev (s : State) (k : Nat) (f : Ctx → Ctx) : (s.updCtx k f).dev = s.dev := rfl
@[simp] theorem State.updSctx_same (s : State) (k : Nat) (f : SCtx → SCtx) : (s.updSctx k f).sctx k = f (s.sctx k) := by simp [State.updSctx, State.setSctx, State.sctx]
theorem State.updSctx_ne (s : State) {k j : Nat} (f : SCtx → SCtx) (h : j ≠ k) : (s.updSctx k f).sctx j = s.sctx j := sget_sset_ne _ _ _ h
theorem State.updSctx_twice (s : State) (k : Nat) (f g : SCtx → SCtx) : (s.updSctx k f).updSctx k g = s.updSctx k (fun x => g (f x)) := by simp [State.updSctx, State.setSctx, State.sctx]
@[simp] theorem State.setSctx_same (s : State) (k : Nat) (x : SCtx) : (s.setSctx k x).sctx k = x := by simp [State.setSctx, State.sctx]
@[simp] theorem State.setSctx_pending (s : State) (k : Nat) (x : SCtx) : (s.setSctx k x).pending = s.pending := rfl
@[simp] theorem State.updSctx_pending (s : State) (k : Nat) (f : SCtx → SCtx) : (s.updSctx k f).pending = s.pending := rfl
@[simp] theorem State.setSctx_fresh (s : State) (k : Nat) (x : SCtx) : (s.setSctx k x).fresh = s.fresh := rfl
@[simp] theorem State.updSctx_fresh (s : State) (k : Nat) (f : SCtx → SCtx) : (s.updSctx k f).fresh = s.fresh := rfl
@[simp] theorem State.setSctx_out (s : State) (k : Nat) (x : SCtx) : (s.setSctx k x).out = s.out := rfl
@[simp] theorem State.updSctx_out (s : State) (k : Nat) (f : SCtx → SCtx) : (s.updSctx k f).out = s.out := rfl
@[simp] theorem State.setSctx_time (s : State) (k : Nat) (x : SCtx) : (s.setSctx k x).time = s.time := rfl
@[simp] theorem State.updSctx_time (s : State) (k : Nat) (f : SCtx → SCtx) : (s.updSctx k f).time = s.time := rfl
@[simp] theorem State.setSctx_start (s : State) (k : Nat) (x : SCtx) : (s.setSctx k x).start = s.start := rfl
@[simp] theorem State.updSctx_start (s : State) (k : Nat) (f : SCtx → SCtx) : (s.updSctx k f).start = s.start := rfl
@[simp] theorem State.setSctx_pages (s : State) (k : Nat) (x : SCtx) : (s.setSctx k x).pages = s.pages := rfl
@[simp] theorem State.updSctx_pages (s : State) (k : Nat) (f : SCtx → SCtx) : (s.updSctx k f).pages = s.pages := rfl
@[simp] theorem State.setSctx_regs (s : State) (k : Nat) (x : SCtx) : (s.setSctx k x).regs = s.regs := rfl
@[simp] theorem State.updSctx_regs (s : State) (k : Nat) (f : SCtx → SCtx) : (s.updSctx k f).regs = s.regs := rfl
@[simp] theorem State.setSctx_gal (s : State) (k : Nat) (x : SCtx) : (s.setSctx k x).gal = s.gal := rfl
@[simp] theorem State.updSctx_gal (s : State) (k : Nat) (f : SCtx → SCtx) : (s.updSctx k f).gal = s.gal := rfl
@[simp] theorem State.setSctx_gen (s : State) (k : Nat) (x : SCtx) : (s.setSctx k x).gen = s.gen := rfl
@[simp] theorem State.updSctx_gen (s : State) (k : Nat) (f : SCtx → SCtx) : (s.updSctx k f).gen = s.gen := rfl
@[simp] theorem State.setSctx_otp (s : State) (k : Nat) (x : SCtx) : (s.setSctx k x).otp = s.otp := rfl
@[simp] theorem State.updSctx_otp (s : State) (k : Nat) (f : SCtx → SCtx) : (s.updSctx k f).otp = s.otp := rfl
@[simp] theorem State.setSctx_mode (s : State) (k : Nat) (x : SCtx) : (s.setSctx k x).mode = s.mode := rfl
@[simp] theorem State.updSctx_mode (s : State) (k : Nat) (f : SCtx → SCtx) : (s.updSctx k f).mode = s.mode := rfl
@[simp] theorem State.setSctx_pair (s : State) (k : Nat) (x : SCtx) : (s.setSctx k x).pair = s.pair := rfl
@[simp] theorem State.updSctx_pair (s : State) (k : Nat) (f : SCtx → SCtx) : (s.updSctx k f).pair = s.pair := rfl
@[simp] theorem State.setSctx_code (s : State) (k : Nat) (x : SCtx) : (s.setSctx k x).code = s.code := rfl
@[simp] theorem State.updSctx_code (s : State) (k : Nat) (f : SCtx → SCtx) : (s.updSctx k f).code = s.code := rfl
@[simp] theorem State.setSctx_fw (s : State) (k : Nat) (x : SCtx) : (s.setSctx k x).fw = s.fw := rfl
@[simp] theorem State.updSctx_fw (s : State) (k : Nat) (f : SCtx → SCtx) : (s.updSctx k f).fw = s.fw := rfl
@[simp] theorem State.setSctx_rslots (s : State) (k : Nat) (x : SCtx) : (s.setSctx k x).rslots = s.rslots := rfl
@[simp] theorem State.updSctx_rslots (s : State) (k : Nat) (f : SCtx → SCtx) : (s.updSctx k f).rslots = s.rslots := rfl
@[simp] theorem State.setSctx_scor (s : State) (k : Nat) (x : SCtx) : (s.setSctx k x).scor = s.scor := rfl
@[simp] theorem State.updSctx_scor (s : State) (k : Nat) (f : SCtx → SCtx) : (s.updSctx k f).scor = s.scor := rfl
@[simp] theorem State.setSctx_ban (s : State) (k : Nat) (x : SCtx) : (s.setSctx k x).ban = s.ban := rfl
@[simp] theorem State.updSctx_ban (s : State) (k : Nat) (f : SCtx → SCtx) : (s.updSctx k f).ban = s.ban := rfl
@[simp] theorem State.setSctx_dev (s : State) (k : Nat) (x : SCtx) : (s.setSctx k x).dev = s.dev := rfl
@[simp] theorem State.updSctx_dev (s : State) (k : Nat) (f : SCtx → SCtx) : (s.updSctx k f).dev = s.dev := rfl
@[simp] theorem State.updShut_same (s : State) (k : Nat) (f : Shut → Shut) : (s.updShut k f).shut k = f (s.shut k) := by simp [State.updShut, State.setShut, State.shut]
theorem State.updShut_ne (s : State) {k j : Nat} (f : Shut → Shut) (h : j ≠ k) : (s.updShut k f).shut j = s.shut j := sget_sset_ne _ _ _ h
theorem State.updShut_twice (s : State) (k : Nat) (f g : Shut → Shut) : (s.updShut k f).updShut k g = s.updShut k (fun x => g (f x)) := by simp [State.updShut, State.setShut, State.shut]
@[simp] theorem State.setShut_same (s : State) (k : Nat) (x : Shut) : (s.setShut k x).shut k = x := by simp [State.setShut, State.shut]
@[simp] theorem State.setShut_pending (s : State) (k : Nat) (x : Shut) : (s.setShut k x).pending = s.pending := rfl
@[simp] theorem State.updShut_pending (s : State) (k : Nat) (f : Shut → Shut) : (s.updShut k f).pending = s.pending := rfl
@[simp] theorem State.setShut_fresh (s : State) (k : Nat) (x : Shut) : (s.setShut k x).fresh = s.fresh := rfl
@[simp] theorem State.updShut_fresh (s : State) (k : Nat) (f : Shut → Shut) : (s.updShut k f).fresh = s.fresh := rfl
@[simp] theorem State.setShut_out (s : State) (k : Nat) (x : Shut) : (s.setShut k x).out = s.out := rfl
@[simp] theorem State.updShut_out (s : State) (k : Nat) (f : Shut → Shut) : (s.updShut k f).out = s.out := rfl
@[simp] theorem State.setShut_time (s : State) (k : Nat) (x : Shut) : (s.setShut k x).time = s.time := rfl
@[simp] theorem State.updShut_time (s : State) (k : Nat) (f : Shut → Shut) : (s.updShut k f).time = s.time := rfl
@[simp] theorem State.setShut_start (s : State) (k : Nat) (x : Shut) : (s.setShut k x).start = s.start := rfl
@[simp] theorem State.updShut_start (s : State) (k : Nat) (f : Shut → Shut) : (s.updShut k f).start = s.start := rfl
@[simp] theorem State.setShut_pages (s : State) (k : Nat) (x : Shut) : (s.setShut k x).pages = s.pages := rfl
@[simp] theorem State.updShut_pages (s : State) (k : Nat) (f : Shut → Shut) : (s.updShut k f).pages = s.pages := rfl
@[simp] theorem State.setShut_regs (s : State) (k : Nat) (x : Shut) : (s.setShut k x).regs = s.regs := rfl
@[simp] theorem State.updShut_regs (s : State) (k : Nat) (f : Shut → Shut) : (s.updShut k f).regs = s.regs := rfl
@[simp] theorem State.setShut_gal (s : State) (k : Nat) (x : Shut) : (s.setShut k x).gal = s.gal := rfl
@[simp] theorem State.updShut_gal (s : State) (k : Nat) (f : Shut → Shut) : (s.updShut k f).gal = s.gal := rfl
@[simp] theorem State.setShut_gen (s : State) (k : Nat) (x : Shut) : (s.setShut k x).gen = s.gen := rfl
@[simp] theorem State.updShut_gen (s : State) (k : Nat) (f : Shut → Shut) : (s.updShut k f).gen = s.gen := rfl
@[simp] theorem State.setShut_otp (s : State) (k : Nat) (x : Shut) : (s.setShut k x).otp = s.otp := rfl
@[simp] theorem State.updShut_otp (s : State) (k : Nat) (f : Shut → Shut) : (s.updShut k f).otp = s.otp := rfl
@[simp] theorem State.setShut_mode (s : State) (k : Nat) (x : Shut) : (s.setShut k x).mode = s.mode := rfl
@[simp] theorem State.updShut_mode (s : State) (k : Nat) (f : Shut → Shut) : (s.updShut k f).mode = s.mode := rfl
@[simp] theorem State.setShut_pair (s : State) (k : Nat) (x : Shut) : (s.setShut k x).pair = s.pair := rfl
@[simp] theorem State.updShut_pair (s : State) (k : Nat) (f : Shut → Shut) : (s.updShut k f).pair = s.pair := rfl
@[simp] theorem State.setShut_code (s : State) (k : Nat) (x : Shut) : (s.setShut k x).code = s.code := rfl
@[simp] theorem State.updShut_code (s : State) (k : Nat) (f : Shut → Shut) : (s.updShut k f).code = s.code := rfl
@[simp] theorem State.setShut_fw (s : State) (k : Nat) (x : Shut) : (s.setShut k x).fw = s.fw := rfl
@[simp] theorem State.updShut_fw (s : State) (k : Nat) (f : Shut → Shut) : (s.updShut k f).fw = s.fw := rfl
@[simp] theorem State.setShut_rslots (s : State) (k : Nat) (x : Shut) : (s.setShut k x).rslots = s.rslots := rfl
@[simp] theorem State.updShut_rslots (s : State) (k : Nat) (f : Shut → Shut) : (s.updShut k f).rslots = s.rslots := rfl
@[simp] theorem State.setShut_scor (s : State) (k : Nat) (x : Shut) : (s.setShut k x).scor = s.scor := rfl
@[simp] theorem State.updShut_scor (s : State) (k : Nat) (f : Shut → Shut) : (s.updShut k f).scor = s.scor := rfl
@[simp] theorem State.setShut_ban (s : State) (k : Nat) (x : Shut) : (s.setShut k x).ban = s.ban := rfl
@[simp] theorem State.updShut_ban (s : State) (k : Nat) (f : Shut → Shut) : (s.updShut k f).ban = s.ban := rfl
@[simp] theorem State.setShut_dev (s : State) (k : Nat) (x : Shut) : (s.setShut k x).dev = s.dev := rfl
@[simp] theorem State.updShut_dev (s : State) (k : Nat) (f : Shut → Shut) : (s.updShut k f).dev = s.dev := rfl
@[simp] theorem State.updShutMod_same (s : State) (k : Nat) (f : ShutMod → ShutMod) : (s.updShutMod k f).shutMod k = f (s.shutMod k) := by simp [State.updShutMod, State.setShutMod, State.shutMod]
theorem State.updShutMod_ne (s : State) {k j : Nat} (f : ShutMod → ShutMod) (h : j ≠ k) : (s.updShutMod k f).shutMod j = s.shutMod j := sget_sset_ne _ _ _ h
theorem State.updShutMod_twice (s : State) (k : Nat) (f g : ShutMod → ShutMod) : (s.updShutMod k f).updShutMod k g = s.updShutMod k (fun x => g (f x)) := by simp [State.updShutMod, State.setShutMod, State.shutMod]
@[simp] theorem State.setShutMod_same (s : State) (k : Nat) (x : ShutMod) : (s.setShutMod k x).shutMod k = x := by simp [State.setShutMod, State.shutMod]
@[simp] theorem State.setShutMod_pending (s : State) (k : Nat) (x : ShutMod) : (s.setShutMod k x).pending = s.pending := rfl
@[simp] theorem State.updShutMod_pending (s : State) (k : Nat) (f : ShutMod → ShutMod) : (s.updShutMod k f).pending = s.pending := rfl
@[simp] theorem State.setShutMod_fresh (s : State) (k : Nat) (x : ShutMod) : (s.setShutMod k x).fresh = s.fresh := rfl
@[simp] theorem State.updShutMod_fresh (s : State) (k : Nat) (f : ShutMod → ShutMod) : (s.updShutMod k f).fresh = s.fresh := rfl
@[simp] theorem State.setShutMod_out (s : State) (k : Nat) (x : ShutMod) : (s.setShutMod k x).out = s.out := rfl
@[simp] theorem State.updShutMod_out (s : State) (k : Nat) (f : ShutMod → ShutMod) : (s.updShutMod k f).out = s.out := rfl
@[simp] theorem State.setShutMod_time (s : State) (k : Nat) (x : ShutMod) : (s.setShutMod k x).time = s.time := rfl
@[simp] theorem State.updShutMod_time (s : State) (k : Nat) (f : ShutMod → ShutMod) : (s.updShutMod k f).time = s.time := rfl
@[simp] theorem State.setShutMod_start (s : State) (k : Nat) (x : ShutMod) : (s.setShutMod k x).start = s.start := rfl
@[simp] theorem State.updShutMod_start (s : State) (k : Nat) (f : ShutMod → ShutMod) : (s.updShutMod k f).start = s.start := rfl
@[simp] theorem State.setShutMod_pages (s : State) (k : Nat) (x : ShutMod) : (s.setShutMod k x).pages = s.pages := rfl
@[simp] theorem State.updShutMod_pages (s : State) (k : Nat) (f : ShutMod → ShutMod) : (s.updShutMod k f).pages = s.pages := rfl
@[simp] theorem State.setShutMod_regs (s : State) (k : Nat) (x : ShutMod) : (s.setShutMod k x).regs = s.regs := rfl
@[simp] theorem State.updShutMod_regs (s : State) (k : Nat) (f : ShutMod → ShutMod) : (s.updShutMod k f).regs = s.regs := rfl
@[simp] theorem State.setShutMod_gal (s : State) (k : Nat) (x : ShutMod) : (s.setShutMod k x).gal = s.gal := rfl
@[simp] theorem State.updShutMod_gal (s : State) (k : Nat) (f : ShutMod → ShutMod) : (s.updShutMod k f).gal = s.gal := rfl
@[simp] theorem State.setShutMod_gen (s : State) (k : Nat) (x : ShutMod) : (s.setShutMod k x).gen = s.gen := rfl
@[simp] theorem State.updShutMod_gen (s : State) (k : Nat) (f : ShutMod → ShutMod) : (s.updShutMod k f).gen = s.gen := rfl
@[simp] theorem State.setShutMod_otp (s : State) (k : Nat) (x : ShutMod) : (s.setShutMod k x).otp = s.otp := rfl
@[simp] theorem State.updShutMod_otp (s : State) (k : Nat) (f : ShutMod → ShutMod) : (s.updShutMod k f).otp = s.otp := rfl
@[simp] theorem State.setShutMod_mode (s : State) (k : Nat) (x : ShutMod) : (s.setShutMod k x).mode = s.mode := rfl
@[simp] theorem State.updShutMod_mode (s : State) (k : Nat) (f : ShutMod → ShutMod) : (s.updShutMod k f).mode = s.mode := rfl
@[simp] theorem State.setShutMod_pair (s : State) (k : Nat) (x : ShutMod) : (s.setShutMod k x).pair = s.pair := rfl
@[simp] theorem State.updShutMod_pair (s : State) (k : Nat) (f : ShutMod → ShutMod) : (s.updShutMod k f).pair = s.pair := rfl
@[simp] theorem State.setShutMod_code (s : State) (k : Nat) (x : ShutMod) : (s.setShutMod k x).code = s.code := rfl
@[simp] theorem State.updShutMod_code (s : State) (k : Nat) (f : ShutMod → ShutMod) : (s.updShutMod k f).code = s.code := rfl
@[simp] theorem State.setShutMod_fw (s : State) (k : Nat) (x : ShutMod) : (s.setShutMod k x).fw = s.fw := rfl
@[simp] theorem State.updShutMod_fw (s : State) (k : Nat) (f : ShutMod → ShutMod) : (s.updShutMod k f).fw = s.fw := rfl
@[simp] theorem State.setShutMod_rslots (s : State) (k : Nat) (x : ShutMod) : (s.setShutMod k x).rslots = s.rslots := rfl
@[simp] theorem State.updShutMod_rslots (s : State) (k : Nat) (f : ShutMod → ShutMod) : (s.updShutMod k f).rslots = s.rslots := rfl
@[simp] theorem State.setShutMod_scor (s : State) (k : Nat) (x : ShutMod) : (s.setShutMod k x).scor = s.scor := rfl
@[simp] theorem State.updShutMod_scor (s : State) (k : Nat) (f : ShutMod → ShutMod) : (s.updShutMod k f).scor = s.scor := rfl
@[simp] theorem State.setShutMod_ban (s : State) (k : Nat) (x : ShutMod) : (s.setShutMod k x).ban = s.ban := rfl
@[simp] theorem State.updShutMod_ban (s : State) (k : Nat) (f : ShutMod → ShutMod) : (s.updShutMod k f).ban = s.ban := rfl
@[simp] theorem State.setShutMod_dev (s : State) (k : Nat) (x : ShutMod) : (s.setShutMod k x).dev = s.dev := rfl
@[simp] theorem State.updShutMod_dev (s : State) (k : Nat) (f : ShutMod → ShutMod) : (s.updShutMod k f).dev = s.dev := rfl
@[simp] theorem State.updEng_same (s : State) (k : Nat) (f : Eng → Eng) : (s.updEng k f).eng k = f (s.eng k) := by simp [State.updEng, State.setEng, State.eng]
theorem State.updEng_ne (s : State) {k j : Nat} (f : Eng → Eng) (h : j ≠ k) : (s.updEng k f).eng j = s.eng j := sget_sset_ne _ _ _ h
theorem State.updEng_twice (s : State) (k : Nat) (f g : Eng → Eng) : (s.updEng k f).updEng k g = s.updEng k (fun x => g (f x)) := by simp [State.updEng, State.setEng, State.eng]
@[simp] theorem State.setEng_same (s : State) (k : Nat) (x : Eng) : (s.setEng k x).eng k = x := by simp [State.setEng, State.eng]
@[simp] theorem State.setEng_pending (s : State) (k : Nat) (x : Eng) : (s.setEng k x).pending = s.pending := rfl
@[simp] theorem State.updEng_pending (s : State) (k : Nat) (f : Eng → Eng) : (s.updEng k f).pending = s.pending := rfl
@[simp] theorem State.setEng_fresh (s : State) (k : Nat) (x : Eng) : (s.setEng k x).fresh = s.fresh := rfl
@[simp] theorem State.updEng_fresh (s : State) (k : Nat) (f : Eng → Eng) : (s.updEng k f).fresh = s.fresh := rfl
@[simp] theorem State.setEng_out (s : State) (k : Nat) (x : Eng) : (s.setEng k x).out = s.out := rfl
@[simp] theorem State.updEng_out (s : State) (k : Nat) (f : Eng → Eng) : (s.updEng k f).out = s.out := rfl
@[simp] theorem State.setEng_time (s : State) (k : Nat) (x : Eng) : (s.setEng k x).time = s.time := rfl
@[simp] theorem State.updEng_time (s : State) (k : Nat) (f : Eng → Eng) : (s.updEng k f).time = s.time := rfl
@[simp] theorem State.setEng_start (s : State) (k : Nat) (x : Eng) : (s.setEng k x).start = s.start := rfl
@[simp] theorem State.updEng_start (s : State) (k : Nat) (f : Eng → Eng) : (s.updEng k f).start = s.start := rfl
@[simp] theorem State.setEng_pages (s : State) (k : Nat) (x : Eng) : (s.setEng k x).pages = s.pages := rfl
@[simp] theorem State.updEng_pages (s : State) (k : Nat) (f : Eng → Eng) : (s.updEng k f).pages = s.pages := rfl
@[simp] theorem State.setEng_regs (s : State) (k : Nat) (x : Eng) : (s.setEng k x).regs = s.regs := rfl
@[simp] theorem State.updEng_regs (s : State) (k : Nat) (f : Eng → Eng) : (s.updEng k f).regs = s.regs := rfl
@[simp] theorem State.setEng_gal (s : State) (k : Nat) (x : Eng) : (s.setEng k x).gal = s.gal := rfl
@[simp] theorem State.updEng_gal (s : State) (k : Nat) (f : Eng → Eng) : (s.updEng k f).gal = s.gal := rfl
@[simp] theorem State.setEng_gen (s : State) (k : Nat) (x : Eng) : (s.setEng k x).gen = s.gen := rfl
@[simp] theorem State.updEng_gen (s : State) (k : Nat) (f : Eng → Eng) : (s.updEng k f).gen = s.gen := rfl
@[simp] theorem State.setEng_otp (s : State) (k : Nat) (x : Eng) : (s.setEng k x).otp = s.otp := rfl
@[simp] theorem State.updEng_otp (s : State) (k : Nat) (f : Eng → Eng) : (s.updEng k f).otp = s.otp := rfl
@[simp] theorem State.setEng_mode (s : State) (k : Nat) (x : Eng) : (s.setEng k x).mode = s.mode := rfl
@[simp] theorem State.updEng_mode (s : State) (k : Nat) (f : Eng → Eng) : (s.updEng k f).mode = s.mode := rfl
@[simp] theorem State.setEng_pair (s : State) (k : Nat) (x : Eng) : (s.setEng k x).pair = s.pair := rfl
@[simp] theorem State.updEng_pair (s : State) (k : Nat) (f : Eng → Eng) : (s.updEng k f).pair = s.pair := rfl
@[simp] theorem State.setEng_code (s : State) (k : Nat) (x : Eng) : (s.setEng k x).code = s.code := rfl
@[simp] theorem State.updEng_code (s : State) (k : Nat) (f : Eng → Eng) : (s.updEng k f).code = s.code := rfl
@[simp] theorem State.setEng_fw (s : State) (k : Nat) (x : Eng) : (s.setEng k x).fw = s.fw := rfl
@[simp] theorem State.updEng_fw (s : State) (k : Nat) (f : Eng → Eng) : (s.updEng k f).fw = s.fw := rfl
@[simp] theorem State.setEng_rslots (s : State) (k : Nat) (x : Eng) : (s.setEng k x).rslots = s.rslots := rfl
@[simp] theorem State.updEng_rslots (s : State) (k : Nat) (f : Eng → Eng) : (s.updEng k f).rslots = s.rslots := rfl
@[simp] theorem State.setEng_scor (s : State) (k : Nat) (x : Eng) : (s.setEng k x).scor = s.scor := rfl
@[simp] theorem State.updEng_scor (s : State) (k : Nat) (f : Eng → Eng) : (s.updEng k f).scor = s.scor := rfl
@[simp] theorem State.setEng_ban (s : State) (k : Nat) (x : Eng) : (s.setEng k x).ban = s.ban := rfl
@[simp] theorem State.updEng_ban (s : State) (k : Nat) (f : Eng → Eng) : (s.updEng k f).ban = s.ban := rfl
@[simp] theorem State.setEng_dev (s : State) (k : Nat) (x : Eng) : (s.setEng k x).dev = s.dev := rfl
@[simp] theorem State.updEng_dev (s : State) (k : Nat) (f : Eng → Eng) : (s.updEng k f).dev = s.dev := rfl
@[simp] theorem State.updTxb_same (s : State) (k : Nat) (f : TxChain → TxChain) : (s.updTxb k f).txb k = f (s.txb k) := by simp [State.updTxb, State.setTxb, State.txb]
theorem State.updTxb_ne (s : State) {k j : Nat} (f : TxChain → TxChain) (h : j ≠ k) : (s.updTxb k f).txb j = s.txb j := sget_sset_ne _ _ _ h
theorem State.updTxb_twice (s : State) (k : Nat) (f g : TxChain → TxChain) : (s.updTxb k f).updTxb k g = s.updTxb k (fun x => g (f x)) := by simp [State.updTxb, State.setTxb, State.txb]
@[simp] theorem State.setTxb_same (s : State) (k : Nat) (x : TxChain) : (s.setTxb k x).txb k = x := by simp [State.setTxb, State.txb]
@[simp] theorem State.setTxb_pending (s : State) (k : Nat) (x : TxChain) : (s.setTxb k x).pending = s.pending := rfl
@[simp] theorem State.updTxb_pending (s : State) (k : Nat) (f : TxChain → TxChain) : (s.updTxb k f).pending = s.pending := rfl
@[simp] theorem State.setTxb_fresh (s : State) (k : Nat) (x : TxChain) : (s.setTxb k x).fresh = s.fresh := rfl
@[simp] theorem State.updTxb_fresh (s : State) (k : Nat) (f : TxChain → TxChain) : (s.updTxb k f).fresh = s.fresh := rfl
@[simp] theorem State.setTxb_out (s : State) (k : Nat) (x : TxChain) : (s.setTxb k x).out = s.out := rfl
@[simp] theorem State.updTxb_out (s : State) (k : Nat) (f : TxChain → TxChain) : (s.updTxb k f).out = s.out := rfl
@[simp] theorem State.setTxb_time (s : State) (k : Nat) (x : TxChain) : (s.setTxb k x).time = s.time := rfl
@[simp] theorem State.updTxb_time (s : State) (k : Nat) (f : TxChain → TxChain) : (s.updTxb k f).time = s.time := rfl
@[simp] theorem State.setTxb_start (s : State) (k : Nat) (x : TxChain) : (s.setTxb k x).start = s.start := rfl
@[simp] theorem State.updTxb_start (s : State) (k : Nat) (f : TxChain → TxChain) : (s.updTxb k f).start = s.start := rfl
@[simp] theorem State.setTxb_pages (s : State) (k : Nat) (x : TxChain) : (s.setTxb k x).pages = s.pages := rfl
@[simp] theorem State.updTxb_pages (s : State) (k : Nat) (f : TxChain → TxChain) : (s.updTxb k f).pages = s.pages := rfl
@[simp] theorem State.setTxb_regs (s : State) (k : Nat) (x : TxChain) : (s.setTxb k x).regs = s.regs := rfl
@[simp] theorem State.updTxb_regs (s : State) (k : Nat) (f : TxChain → TxChain) : (s.updTxb k f).regs = s.regs := rfl
@[simp] theorem State.setTxb_gal (s : State) (k : Nat) (x : TxChain) : (s.setTxb k x).gal = s.gal := rfl
@[simp] theorem State.updTxb_gal (s : State) (k : Nat) (f : TxChain → TxChain) : (s.updTxb k f).gal = s.gal := rfl
@[simp] theorem State.setTxb_gen (s : State) (k : Nat) (x : TxChain) : (s.setTxb k x).gen = s.gen := rfl
@[simp] theorem State.updTxb_gen (s : State) (k : Nat) (f : TxChain → TxChain) : (s.updTxb k f).gen = s.gen := rfl
@[simp] theorem State.setTxb_otp (s : State) (k : Nat) (x : TxChain) : (s.setTxb k x).otp = s.otp := rfl
@[simp] theorem State.updTxb_otp (s : State) (k : Nat) (f : TxChain → TxChain) : (s.updTxb k f).otp = s.otp := rfl
@[simp] theorem State.setTxb_mode (s : State) (k : Nat) (x : TxChain) : (s.setTxb k x).mode = s.mode := rfl
@[simp] theorem State.updTxb_mode (s : State) (k : Nat) (f : TxChain → TxChain) : (s.updTxb k f).mode = s.mode := rfl
@[simp] theorem State.setTxb_pair (s : State) (k : Nat) (x : TxChain) : (s.setTxb k x).pair = s.pair := rfl
@[simp] theorem State.updTxb_pair (s : State) (k : Nat) (f : TxChain → TxChain) : (s.updTxb k f).pair = s.pair := rfl
@[simp] theorem State.setTxb_code (s : State) (k : Nat) (x : TxChain) : (s.setTxb k x).code = s.code := rfl
@[simp] theorem State.updTxb_code (s : State) (k : Nat) (f : TxChain → TxChain) : (s.updTxb k f).code = s.code := rfl
@[simp] theorem State.setTxb_fw (s : State) (k : Nat) (x : TxChain) : (s.setTxb k x).fw = s.fw := rfl
@[simp] theorem State.updTxb_fw (s : State) (k : Nat) (f : TxChain → TxChain) : (s.updTxb k f).fw = s.fw := rfl
@[simp] theorem State.setTxb_rslots (s : State) (k : Nat) (x : TxChain) : (s.setTxb k x).rslots = s.rslots := rfl
@[simp] theorem State.updTxb_rslots (s : State) (k : Nat) (f : TxChain → TxChain) : (s.updTxb k f).rslots = s.rslots := rfl
@[simp] theorem State.setTxb_scor (s : State) (k : Nat) (x : TxChain) : (s.setTxb k x).scor = s.scor := rfl
@[simp] theorem State.updTxb_scor (s : State) (k : Nat) (f : TxChain → TxChain) : (s.updTxb k f).scor = s.scor := rfl
@[simp] theorem State.setTxb_ban (s : State) (k : Nat) (x : TxChain) : (s.setTxb k x).ban = s.ban := rfl
@[simp] theorem State.updTxb_ban (s : State) (k : Nat) (f : TxChain → TxChain) : (s.updTxb k f).ban = s.ban := rfl
@[simp] theorem State.setTxb_dev (s : State) (k : Nat) (x : TxChain) : (s.setTxb k x).dev = s.dev := rfl
@[simp] theorem State.updTxb_dev (s : State) (k : Nat) (f : TxChain → TxChain) : (s.updTxb k f).dev = s.dev := rfl
@[simp] theorem State.updRxp_same (s : State) (k : Nat) (f : RxPort → RxPort) : (s.updRxp k f).rxp k = f (s.rxp k) := by simp [State.updRxp, State.setRxp, State.rxp]
theorem State.updRxp_ne (s : State) {k j : Nat} (f : RxPort → RxPort) (h : j ≠ k) : (s.updRxp k f).rxp j = s.rxp j := sget_sset_ne _ _ _ h
theorem State.updRxp_twice (s : State) (k : Nat) (f g : RxPort → RxPort) : (s.updRxp k f).updRxp k g = s.updRxp k (fun x => g (f x)) := by simp [State.updRxp, State.setRxp, State.rxp]
@[simp] theorem State.setRxp_same (s : State) (k : Nat) (x : RxPort) : (s.setRxp k x).rxp k = x := by simp [State.setRxp, State.rxp]
@[simp] theorem State.setRxp_pending (s : State) (k : Nat) (x : RxPort) : (s.setRxp k x).pending = s.pending := rfl
@[simp] theorem State.updRxp_pending (s : State) (k : Nat) (f : RxPort → RxPort) : (s.updRxp k f).pending = s.pending := rfl
@[simp] theorem State.setRxp_fresh (s : State) (k : Nat) (x : RxPort) : (s.setRxp k x).fresh = s.fresh := rfl
@[simp] theorem State.updRxp_fresh (s : State) (k : Nat) (f : RxPort → RxPort) : (s.updRxp k f).fresh = s.fresh := rfl
@[simp] theorem State.setRxp_out (s : State) (k : Nat) (x : RxPort) : (s.setRxp k x).out = s.out := rfl
@[simp] theorem State.updRxp_out (s : State) (k : Nat) (f : RxPort → RxPort) : (s.updRxp k f).out = s.out := rfl
@[simp] theorem State.setRxp_time (s : State) (k : Nat) (x : RxPort) : (s.setRxp k x).time = s.time := rfl
@[simp] theorem State.updRxp_time (s : State) (k : Nat) (f : RxPort → RxPort) : (s.updRxp k f).time = s.time := rfl
@[simp] theorem State.setRxp_start (s : State) (k : Nat) (x : RxPort) : (s.setRxp k x).start = s.start := rfl
@[simp] theorem State.updRxp_start (s : State) (k : Nat) (f : RxPort → RxPort) : (s.updRxp k f).start = s.start := rfl
@[simp] theorem State.setRxp_pages (s : State) (k : Nat) (x : RxPort) : (s.setRxp k x).pages = s.pages := rfl
@[simp] theorem State.updRxp_pages (s : State) (k : Nat) (f : RxPort → RxPort) : (s.updRxp k f).pages = s.pages := rfl
@[simp] theorem State.setRxp_regs (s : State) (k : Nat) (x : RxPort) : (s.setRxp k x).regs = s.regs := rfl
@[simp] theorem State.updRxp_regs (s : State) (k : Nat) (f : RxPort → RxPort) : (s.updRxp k f).regs = s.regs := rfl
@[simp] theorem State.setRxp_gal (s : State) (k : Nat) (x : RxPort) : (s.setRxp k x).gal = s.gal := rfl
@[simp] theorem State.updRxp_gal (s : State) (k : Nat) (f : RxPort → RxPort) : (s.updRxp k f).gal = s.gal := rfl
@[simp] theorem State.setRxp_gen (s : State) (k : Nat) (x : RxPort) : (s.setRxp k x).gen = s.gen := rfl
@[simp] theorem State.updRxp_gen (s : State) (k : Nat) (f : RxPort → RxPort) : (s.updRxp k f).gen = s.gen := rfl
@[simp] theorem State.setRxp_otp (s : State) (k : Nat) (x : RxPort) : (s.setRxp k x).otp = s.otp := rfl
@[simp] theorem State.updRxp_otp (s : State) (k : Nat) (f : RxPort → RxPort) : (s.updRxp k f).otp = s.otp := rfl
@[simp] theorem State.setRxp_mode (s : State) (k : Nat) (x : RxPort) : (s.setRxp k x).mode = s.mode := rfl
@[simp] theorem State.updRxp_mode (s : State) (k : Nat) (f : RxPort → RxPort) : (s.updRxp k f).mode = s.mode := rfl
@[simp] theorem State.setRxp_pair (s : State) (k : Nat) (x : RxPort) : (s.setRxp k x).pair = s.pair := rfl
@[simp] theorem State.updRxp_pair (s : State) (k : Nat) (f : RxPort → RxPort) : (s.updRxp k f).pair = s.pair := rfl
@[simp] theorem State.setRxp_code (s : State) (k : Nat) (x : RxPort) : (s.setRxp k x).code = s.code := rfl
@[simp] theorem State.updRxp_code (s : State) (k : Nat) (f : RxPort → RxPort) : (s.updRxp k f).code = s.code := rfl
@[simp] theorem State.setRxp_fw (s : State) (k : Nat) (x : RxPort) : (s.setRxp k x).fw = s.fw := rfl
@[simp] theorem State.updRxp_fw (s : State) (k : Nat) (f : RxPort → RxPort) : (s.updRxp k f).fw = s.fw := rfl
@[simp] theorem State.setRxp_rslots (s : State) (k : Nat) (x : RxPort) : (s.setRxp k x).rslots = s.rslots := rfl
@[simp] theorem State.updRxp_rslots (s : State) (k : Nat) (f : RxPort → RxPort) : (s.updRxp k f).rslots = s.rslots := rfl
@[simp] theorem State.setRxp_scor (s : State) (k : Nat) (x : RxPort) : (s.setRxp k x).scor = s.scor := rfl
@[simp] theorem State.updRxp_scor (s : State) (k : Nat) (f : RxPort → RxPort) : (s.updRxp k f).scor = s.scor := rfl
@[simp] theorem State.setRxp_ban (s : State) (k : Nat) (x : RxPort) : (s.setRxp k x).ban = s.ban := rfl
@[simp] theorem State.updRxp_ban (s : State) (k : Nat) (f : RxPort → RxPort) : (s.updRxp k f).ban = s.ban := rfl
@[simp] theorem State.setRxp_dev (s : State) (k : Nat) (x : RxPort) : (s.setRxp k x).dev = s.dev := rfl
@[simp] theorem State.updRxp_dev (s : State) (k : Nat) (f : RxPort → RxPort) : (s.updRxp k f).dev = s.dev := rfl
@[simp] theorem State.updEp_same (s : State) (k : Nat) (f : StrEp → StrEp) : (s.updEp k f).ep k = f (s.ep k) := by simp [State.updEp, State.setEp, State.ep]
theorem State.updEp_ne (s : State) {k j : Nat} (f : StrEp → StrEp) (h : j ≠ k) : (s.updEp k f).ep j = s.ep j := sget_sset_ne _ _ _ h
theorem State.updEp_twice (s : State) (k : Nat) (f g : StrEp → StrEp) : (s.updEp k f).updEp k g = s.updEp k (fun x => g (f x)) := by simp [State.updEp, State.setEp, State.ep]
@[simp] theorem State.setEp_same (s : State) (k : Nat) (x : StrEp) : (s.setEp k x).ep k = x := by simp [State.setEp, State.ep]
@[simp] theorem State.setEp_pending (s : State) (k : Nat) (x : StrEp) : (s.setEp k x).pending = s.pending := rfl
@[simp] theorem State.updEp_pending (s : State) (k : Nat) (f : StrEp → StrEp) : (s.updEp k f).pending = s.pending := rfl
@[simp] theorem State.setEp_fresh (s : State) (k : Nat) (x : StrEp) : (s.setEp k x).fresh = s.fresh := rfl
@[simp] theorem State.updEp_fresh (s : State) (k : Nat) (f : StrEp → StrEp) : (s.updEp k f).fresh = s.fresh := rfl
@[simp] theorem State.setEp_out (s : State) (k : Nat) (x : StrEp) : (s.setEp k x).out = s.out := rfl
@[simp] theorem State.updEp_out (s : State) (k : Nat) (f : StrEp → StrEp) : (s.updEp k f).out = s.out := rfl
@[simp] theorem State.setEp_time (s : State) (k : Nat) (x : StrEp) : (s.setEp k x).time = s.time := rfl
@[simp] theorem State.updEp_time (s : State) (k : Nat) (f : StrEp → StrEp) : (s.updEp k f).time = s.time := rfl
@[simp] theorem State.setEp_start (s : State) (k : Nat) (x : StrEp) : (s.setEp k x).start = s.start := rfl
@[simp] theorem State.updEp_start (s : State) (k : Nat) (f : StrEp → StrEp) : (s.updEp k f).start = s.start := rfl
@[simp] theorem State.setEp_pages (s : State) (k : Nat) (x : StrEp) : (s.setEp k x).pages = s.pages := rfl
@[simp] theorem State.updEp_pages (s : State) (k : Nat) (f : StrEp → StrEp) : (s.updEp k f).pages = s.pages := rfl
@[simp] theorem State.setEp_regs (s : State) (k : Nat) (x : StrEp) : (s.setEp k x).regs = s.regs := rfl
@[simp] theorem State.updEp_regs (s : State) (k : Nat) (f : StrEp → StrEp) : (s.updEp k f).regs = s.regs := rfl
@[simp] theorem State.setEp_gal (s : State) (k : Nat) (x : StrEp) : (s.setEp k x).gal = s.gal := rfl
@[simp] theorem State.updEp_gal (s : State) (k : Nat) (f : StrEp → StrEp) : (s.updEp k f).gal = s.gal := rfl
@[simp] theorem State.setEp_gen (s : State) (k : Nat) (x : StrEp) : (s.setEp k x).gen = s.gen := rfl
@[simp] theorem State.updEp_gen (s : State) (k : Nat) (f : StrEp → StrEp) : (s.updEp k f).gen = s.gen := rfl
@[simp] theorem State.setEp_otp (s : State) (k : Nat) (x : StrEp) : (s.setEp k x).otp = s.otp := rfl
@[simp] theorem State.updEp_otp (s : State) (k : Nat) (f : StrEp → StrEp) : (s.updEp k f).otp = s.otp := rfl
@[simp] theorem State.setEp_mode (s : State) (k : Nat) (x : StrEp) : (s.setEp k x).mode = s.mode := rfl
@[simp] theorem State.updEp_mode (s : State) (k : Nat) (f : StrEp → StrEp) : (s.updEp k f).mode = s.mode := rfl
@[simp] theorem State.setEp_pair (s : State) (k : Nat) (x : StrEp) : (s.setEp k x).pair = s.pair := rfl
@[simp] theorem State.updEp_pair (s : State) (k : Nat) (f : StrEp → StrEp) : (s.updEp k f).pair = s.pair := rfl
@[simp] theorem State.setEp_code (s : State) (k : Nat) (x : StrEp) : (s.setEp k x).code = s.code := rfl
@[simp] theorem State.updEp_code (s : State) (k : Nat) (f : StrEp → StrEp) : (s.updEp k f).code = s.code := rfl
@[simp] theorem State.setEp_fw (s : State) (k : Nat) (x : StrEp) : (s.setEp k x).fw = s.fw := rfl
@[simp] theorem State.updEp_fw (s : State) (k : Nat) (f : StrEp → StrEp) : (s.updEp k f).fw = s.fw := rfl
@[simp] theorem State.setEp_rslots (s : State) (k : Nat) (x : StrEp) : (s.setEp k x).rslots = s.rslots := rfl
@[simp] theorem State.updEp_rslots (s : State) (k : Nat) (f : StrEp → StrEp) : (s.updEp k f).rslots = s.rslots := rfl
@[simp] theorem State.setEp_scor (s : State) (k : Nat) (x : StrEp) : (s.setEp k x).scor = s.scor := rfl
@[simp] theorem State.updEp_scor (s : State) (k : Nat) (f : StrEp → StrEp) : (s.updEp k f).scor = s.scor := rfl
@[simp] theorem State.setEp_ban (s : State) (k : Nat) (x : StrEp) : (s.setEp k x).ban = s.ban := rfl
@[simp] theorem State.updEp_ban (s : State) (k : Nat) (f : StrEp → StrEp) : (s.updEp k f).ban = s.ban := rfl
@[simp] theorem State.setEp_dev (s : State) (k : Nat) (x : StrEp) : (s.setEp k x).dev = s.dev := rfl
@[simp] theorem State.updEp_dev (s : State) (k : Nat) (f : StrEp → StrEp) : (s.updEp k f).dev = s.dev := rfl
@[simp] theorem State.updHep_same (s : State) (k : Nat) (f : StrEp → StrEp) : (s.updHep k f).hep k = f (s.hep k) := by simp [State.updHep, State.setHep, State.hep]
theorem State.updHep_ne (s : State) {k j : Nat} (f : StrEp → StrEp) (h : j ≠ k) : (s.updHep k f).hep j = s.hep j := sget_sset_ne _ _ _ h
theorem State.updHep_twice (s : State) (k : Nat) (f g : StrEp → StrEp) : (s.updHep k f).updHep k g = s.updHep k (fun x => g (f x)) := by simp [State.updHep, State.setHep, State.hep]
@[simp] theorem State.setHep_same (s : State) (k : Nat) (x : StrEp) : (s.setHep k x).hep k = x := by simp [State.setHep, State.hep]
@[simp] theorem State.setHep_pending (s : State) (k : Nat) (x : StrEp) : (s.setHep k x).pending = s.pending := rfl
@[simp] theorem State.updHep_pending (s : State) (k : Nat) (f : StrEp → StrEp) : (s.updHep k f).pending = s.pending := rfl
@[simp] theorem State.setHep_fresh (s : State) (k : Nat) (x : StrEp) : (s.setHep k x).fresh = s.fresh := rfl
@[simp] theorem State.updHep_fresh (s : State) (k : Nat) (f : StrEp → StrEp) : (s.updHep k f).fresh = s.fresh := rfl
@[simp] theorem State.setHep_out (s : State) (k : Nat) (x : StrEp) : (s.setHep k x).out = s.out := rfl
@[simp] theorem State.updHep_out (s : State) (k : Nat) (f : StrEp → StrEp) : (s.updHep k f).out = s.out := rfl
@[simp] theorem State.setHep_time (s : State) (k : Nat) (x : StrEp) : (s.setHep k x).time = s.time := rfl
@[simp] theorem State.updHep_time (s : State) (k : Nat) (f : StrEp → StrEp) : (s.updHep k f).time = s.time := rfl
@[simp] theorem State.setHep_start (s : State) (k : Nat) (x : StrEp) : (s.setHep k x).start = s.start := rfl
@[simp] theorem State.updHep_start (s : State) (k : Nat) (f : StrEp → StrEp) : (s.updHep k f).start = s.start := rfl
@[simp] theorem State.setHep_pages (s : State) (k : Nat) (x : StrEp) : (s.setHep k x).pages = s.pages := rfl
@[simp] theorem State.updHep_pages (s : State) (k : Nat) (f : StrEp → StrEp) : (s.updHep k f).pages = s.pages := rfl
@[simp] theorem State.setHep_regs (s : State) (k : Nat) (x : StrEp) : (s.setHep k x).regs = s.regs := rfl
@[simp] theorem State.updHep_regs (s : State) (k : Nat) (f : StrEp → StrEp) : (s.updHep k f).regs = s.regs := rfl
@[simp] theorem State.setHep_gal (s : State) (k : Nat) (x : StrEp) : (s.setHep k x).gal = s.gal := rfl
@[simp] theorem State.updHep_gal (s : State) (k : Nat) (f : StrEp → StrEp) : (s.updHep k f).gal = s.gal := rfl
@[simp] theorem State.setHep_gen (s : State) (k : Nat) (x : StrEp) : (s.setHep k x).gen = s.gen := rfl
@[simp] theorem State.updHep_gen (s : State) (k : Nat) (f : StrEp → StrEp) : (s.updHep k f).gen = s.gen := rfl
@[simp] theorem State.setHep_otp (s : State) (k : Nat) (x : StrEp) : (s.setHep k x).otp = s.otp := rfl
@[simp] theorem State.updHep_otp (s : State) (k : Nat) (f : StrEp → StrEp) : (s.updHep k f).otp = s.otp := rfl
@[simp] theorem State.setHep_mode (s : State) (k : Nat) (x : StrEp) : (s.setHep k x).mode = s.mode := rfl
@[simp] theorem State.updHep_mode (s : State) (k : Nat) (f : StrEp → StrEp) : (s.updHep k f).mode = s.mode := rfl
@[simp] theorem State.setHep_pair (s : State) (k : Nat) (x : StrEp) : (s.setHep k x).pair = s.pair := rfl
@[simp] theorem State.updHep_pair (s : State) (k : Nat) (f : StrEp → StrEp) : (s.updHep k f).pair = s.pair := rfl
@[simp] theorem State.setHep_code (s : State) (k : Nat) (x : StrEp) : (s.setHep k x).code = s.code := rfl
@[simp] theorem State.updHep_code (s : State) (k : Nat) (f : StrEp → StrEp) : (s.updHep k f).code = s.code := rfl
@[simp] theorem State.setHep_fw (s : State) (k : Nat) (x : StrEp) : (s.setHep k x).fw = s.fw := rfl
@[simp] theorem State.updHep_fw (s : State) (k : Nat) (f : StrEp → StrEp) : (s.updHep k f).fw = s.fw := rfl
@[simp] theorem State.setHep_rslots (s : State) (k : Nat) (x : StrEp) : (s.setHep k x).rslots = s.rslots := rfl
@[simp] theorem State.updHep_rslots (s : State) (k : Nat) (f : StrEp → StrEp) : (s.updHep k f).rslots = s.rslots := rfl
@[simp] theorem State.setHep_scor (s : State) (k : Nat) (x : StrEp) : (s.setHep k x).scor = s.scor := rfl
@[simp] theorem State.updHep_scor (s : State) (k : Nat) (f : StrEp → StrEp) : (s.updHep k f).scor = s.scor := rfl
@[simp] theorem State.setHep_ban (s : State) (k : Nat) (x : StrEp) : (s.setHep k x).ban = s.ban := rfl
@[simp] theorem State.updHep_ban (s : State) (k : Nat) (f : StrEp → StrEp) : (s.updHep k f).ban = s.ban := rfl
@[simp] theorem State.setHep_dev (s : State) (k : Nat) (x : StrEp) : (s.setHep k x).dev = s.dev := rfl
@[simp] theorem State.updHep_dev (s : State) (k : Nat) (f : StrEp → StrEp) : (s.updHep k f).dev = s.dev := rfl

/-! ### The shared operations -/

@[simp] theorem State.setReg_pending (s : State) (pg off : Nat) (w : Word) : (s.setReg pg off w).pending = s.pending := rfl
@[simp] theorem State.setReg_fresh (s : State) (pg off : Nat) (w : Word) : (s.setReg pg off w).fresh = s.fresh := rfl
@[simp] theorem State.setReg_out (s : State) (pg off : Nat) (w : Word) : (s.setReg pg off w).out = s.out := rfl
@[simp] theorem State.setReg_time (s : State) (pg off : Nat) (w : Word) : (s.setReg pg off w).time = s.time := rfl
@[simp] theorem State.setReg_load (s : State) (pg off : Nat) (w : Word) : (s.setReg pg off w).load = s.load := rfl
@[simp] theorem State.setReg_start (s : State) (pg off : Nat) (w : Word) : (s.setReg pg off w).start = s.start := rfl
@[simp] theorem State.setReg_supply (s : State) (pg off : Nat) (w : Word) : (s.setReg pg off w).supply = s.supply := rfl
@[simp] theorem State.setReg_dev (s : State) (pg off : Nat) (w : Word) : (s.setReg pg off w).dev = s.dev := rfl
@[simp] theorem State.setReg_pages (s : State) (pg off : Nat) (w : Word) : (s.setReg pg off w).pages = s.pages := rfl
@[simp] theorem State.setReg_mbx (s : State) (pg off : Nat) (w : Word) : (s.setReg pg off w).mbx = s.mbx := rfl
@[simp] theorem State.setReg_shadow (s : State) (pg off : Nat) (w : Word) : (s.setReg pg off w).shadow = s.shadow := rfl
@[simp] theorem State.setReg_latch (s : State) (pg off : Nat) (w : Word) : (s.setReg pg off w).latch = s.latch := rfl
@[simp] theorem State.setReg_gal (s : State) (pg off : Nat) (w : Word) : (s.setReg pg off w).gal = s.gal := rfl
@[simp] theorem State.setReg_stw (s : State) (pg off : Nat) (w : Word) : (s.setReg pg off w).stw = s.stw := rfl
@[simp] theorem State.setReg_mgmt (s : State) (pg off : Nat) (w : Word) : (s.setReg pg off w).mgmt = s.mgmt := rfl
@[simp] theorem State.setReg_gen (s : State) (pg off : Nat) (w : Word) : (s.setReg pg off w).gen = s.gen := rfl
@[simp] theorem State.setReg_otp (s : State) (pg off : Nat) (w : Word) : (s.setReg pg off w).otp = s.otp := rfl
@[simp] theorem State.setReg_sw (s : State) (pg off : Nat) (w : Word) : (s.setReg pg off w).sw = s.sw := rfl
@[simp] theorem State.setReg_auth (s : State) (pg off : Nat) (w : Word) : (s.setReg pg off w).auth = s.auth := rfl
@[simp] theorem State.setReg_mode (s : State) (pg off : Nat) (w : Word) : (s.setReg pg off w).mode = s.mode := rfl
@[simp] theorem State.setReg_land (s : State) (pg off : Nat) (w : Word) : (s.setReg pg off w).land = s.land := rfl
@[simp] theorem State.setReg_fw (s : State) (pg off : Nat) (w : Word) : (s.setReg pg off w).fw = s.fw := rfl
@[simp] theorem State.setReg_ports (s : State) (pg off : Nat) (w : Word) : (s.setReg pg off w).ports = s.ports := rfl
@[simp] theorem State.setReg_mons (s : State) (pg off : Nat) (w : Word) : (s.setReg pg off w).mons = s.mons := rfl
@[simp] theorem State.setReg_mods (s : State) (pg off : Nat) (w : Word) : (s.setReg pg off w).mods = s.mods := rfl
@[simp] theorem State.setReg_temps (s : State) (pg off : Nat) (w : Word) : (s.setReg pg off w).temps = s.temps := rfl
@[simp] theorem State.setReg_wires (s : State) (pg off : Nat) (w : Word) : (s.setReg pg off w).wires = s.wires := rfl
@[simp] theorem State.setReg_cells (s : State) (pg off : Nat) (w : Word) : (s.setReg pg off w).cells = s.cells := rfl
@[simp] theorem State.setReg_chans (s : State) (pg off : Nat) (w : Word) : (s.setReg pg off w).chans = s.chans := rfl
@[simp] theorem State.setReg_clkPresent (s : State) (pg off : Nat) (w : Word) : (s.setReg pg off w).clkPresent = s.clkPresent := rfl
@[simp] theorem State.setReg_clkDrive (s : State) (pg off : Nat) (w : Word) : (s.setReg pg off w).clkDrive = s.clkDrive := rfl
@[simp] theorem State.setReg_slots (s : State) (pg off : Nat) (w : Word) : (s.setReg pg off w).slots = s.slots := rfl
@[simp] theorem State.setReg_limits (s : State) (pg off : Nat) (w : Word) : (s.setReg pg off w).limits = s.limits := rfl
@[simp] theorem State.setReg_levels (s : State) (pg off : Nat) (w : Word) : (s.setReg pg off w).levels = s.levels := rfl
@[simp] theorem State.setReg_prot (s : State) (pg off : Nat) (w : Word) : (s.setReg pg off w).prot = s.prot := rfl
@[simp] theorem State.setReg_waits (s : State) (pg off : Nat) (w : Word) : (s.setReg pg off w).waits = s.waits := rfl
@[simp] theorem State.setReg_strs (s : State) (pg off : Nat) (w : Word) : (s.setReg pg off w).strs = s.strs := rfl
@[simp] theorem State.setReg_coils (s : State) (pg off : Nat) (w : Word) : (s.setReg pg off w).coils = s.coils := rfl
@[simp] theorem State.setReg_qds (s : State) (pg off : Nat) (w : Word) : (s.setReg pg off w).qds = s.qds := rfl
@[simp] theorem State.setReg_acSeq (s : State) (pg off : Nat) (w : Word) : (s.setReg pg off w).acSeq = s.acSeq := rfl
@[simp] theorem State.setReg_join (s : State) (pg off : Nat) (w : Word) : (s.setReg pg off w).join = s.join := rfl
@[simp] theorem State.setReg_bfc (s : State) (pg off : Nat) (w : Word) : (s.setReg pg off w).bfc = s.bfc := rfl
@[simp] theorem State.setReg_bvl (s : State) (pg off : Nat) (w : Word) : (s.setReg pg off w).bvl = s.bvl := rfl
@[simp] theorem State.setReg_safeCh (s : State) (pg off : Nat) (w : Word) : (s.setReg pg off w).safeCh = s.safeCh := rfl
@[simp] theorem State.setReg_banPair (s : State) (pg off : Nat) (w : Word) : (s.setReg pg off w).banPair = s.banPair := rfl
@[simp] theorem State.setReg_safeSrc (s : State) (pg off : Nat) (w : Word) : (s.setReg pg off w).safeSrc = s.safeSrc := rfl
@[simp] theorem State.setReg_tones (s : State) (pg off : Nat) (w : Word) : (s.setReg pg off w).tones = s.tones := rfl
@[simp] theorem State.setReg_tp (s : State) (pg off : Nat) (w : Word) : (s.setReg pg off w).tp = s.tp := rfl
@[simp] theorem State.setReg_ban (s : State) (pg off : Nat) (w : Word) : (s.setReg pg off w).ban = s.ban := rfl
@[simp] theorem State.setReg_scor (s : State) (pg off : Nat) (w : Word) : (s.setReg pg off w).scor = s.scor := rfl
@[simp] theorem State.setReg_pair (s : State) (pg off : Nat) (w : Word) : (s.setReg pg off w).pair = s.pair := rfl
@[simp] theorem State.setReg_cans (s : State) (pg off : Nat) (w : Word) : (s.setReg pg off w).cans = s.cans := rfl
@[simp] theorem State.setReg_bufs (s : State) (pg off : Nat) (w : Word) : (s.setReg pg off w).bufs = s.bufs := rfl
@[simp] theorem State.setReg_syncT (s : State) (pg off : Nat) (w : Word) : (s.setReg pg off w).syncT = s.syncT := rfl
@[simp] theorem State.setReg_acq (s : State) (pg off : Nat) (w : Word) : (s.setReg pg off w).acq = s.acq := rfl
@[simp] theorem State.setReg_computing (s : State) (pg off : Nat) (w : Word) : (s.setReg pg off w).computing = s.computing := rfl
@[simp] theorem State.setReg_sv (s : State) (pg off : Nat) (w : Word) : (s.setReg pg off w).sv = s.sv := rfl
@[simp] theorem State.setReg_hall (s : State) (pg off : Nat) (w : Word) : (s.setReg pg off w).hall = s.hall := rfl
@[simp] theorem State.setReg_flows (s : State) (pg off : Nat) (w : Word) : (s.setReg pg off w).flows = s.flows := rfl
@[simp] theorem State.setReg_host (s : State) (pg off : Nat) (w : Word) : (s.setReg pg off w).host = s.host := rfl
@[simp] theorem State.setReg_rslots (s : State) (pg off : Nat) (w : Word) : (s.setReg pg off w).rslots = s.rslots := rfl
@[simp] theorem State.setReg_rqueue (s : State) (pg off : Nat) (w : Word) : (s.setReg pg off w).rqueue = s.rqueue := rfl
@[simp] theorem State.setReg_ctxs (s : State) (pg off : Nat) (w : Word) : (s.setReg pg off w).ctxs = s.ctxs := rfl
@[simp] theorem State.setReg_sctxs (s : State) (pg off : Nat) (w : Word) : (s.setReg pg off w).sctxs = s.sctxs := rfl
@[simp] theorem State.setReg_hCtx (s : State) (pg off : Nat) (w : Word) : (s.setReg pg off w).hCtx = s.hCtx := rfl
@[simp] theorem State.setReg_est (s : State) (pg off : Nat) (w : Word) : (s.setReg pg off w).est = s.est := rfl
@[simp] theorem State.setReg_shuts (s : State) (pg off : Nat) (w : Word) : (s.setReg pg off w).shuts = s.shuts := rfl
@[simp] theorem State.setReg_shutMods (s : State) (pg off : Nat) (w : Word) : (s.setReg pg off w).shutMods = s.shutMods := rfl
@[simp] theorem State.setReg_bal (s : State) (pg off : Nat) (w : Word) : (s.setReg pg off w).bal = s.bal := rfl
@[simp] theorem State.setReg_engs (s : State) (pg off : Nat) (w : Word) : (s.setReg pg off w).engs = s.engs := rfl
@[simp] theorem State.setReg_txs (s : State) (pg off : Nat) (w : Word) : (s.setReg pg off w).txs = s.txs := rfl
@[simp] theorem State.setReg_rxs (s : State) (pg off : Nat) (w : Word) : (s.setReg pg off w).rxs = s.rxs := rfl
@[simp] theorem State.setReg_code (s : State) (pg off : Nat) (w : Word) : (s.setReg pg off w).code = s.code := rfl
@[simp] theorem State.setReg_sEp (s : State) (pg off : Nat) (w : Word) : (s.setReg pg off w).sEp = s.sEp := rfl
@[simp] theorem State.setReg_hEp (s : State) (pg off : Nat) (w : Word) : (s.setReg pg off w).hEp = s.hEp := rfl
@[simp] theorem State.setFld_pending (s : State) (pg off hi lo v : Nat) : (s.setFld pg off hi lo v).pending = s.pending := rfl
@[simp] theorem State.setFld_fresh (s : State) (pg off hi lo v : Nat) : (s.setFld pg off hi lo v).fresh = s.fresh := rfl
@[simp] theorem State.setFld_out (s : State) (pg off hi lo v : Nat) : (s.setFld pg off hi lo v).out = s.out := rfl
@[simp] theorem State.setFld_time (s : State) (pg off hi lo v : Nat) : (s.setFld pg off hi lo v).time = s.time := rfl
@[simp] theorem State.setFld_load (s : State) (pg off hi lo v : Nat) : (s.setFld pg off hi lo v).load = s.load := rfl
@[simp] theorem State.setFld_start (s : State) (pg off hi lo v : Nat) : (s.setFld pg off hi lo v).start = s.start := rfl
@[simp] theorem State.setFld_supply (s : State) (pg off hi lo v : Nat) : (s.setFld pg off hi lo v).supply = s.supply := rfl
@[simp] theorem State.setFld_dev (s : State) (pg off hi lo v : Nat) : (s.setFld pg off hi lo v).dev = s.dev := rfl
@[simp] theorem State.setFld_pages (s : State) (pg off hi lo v : Nat) : (s.setFld pg off hi lo v).pages = s.pages := rfl
@[simp] theorem State.setFld_mbx (s : State) (pg off hi lo v : Nat) : (s.setFld pg off hi lo v).mbx = s.mbx := rfl
@[simp] theorem State.setFld_shadow (s : State) (pg off hi lo v : Nat) : (s.setFld pg off hi lo v).shadow = s.shadow := rfl
@[simp] theorem State.setFld_latch (s : State) (pg off hi lo v : Nat) : (s.setFld pg off hi lo v).latch = s.latch := rfl
@[simp] theorem State.setFld_gal (s : State) (pg off hi lo v : Nat) : (s.setFld pg off hi lo v).gal = s.gal := rfl
@[simp] theorem State.setFld_stw (s : State) (pg off hi lo v : Nat) : (s.setFld pg off hi lo v).stw = s.stw := rfl
@[simp] theorem State.setFld_mgmt (s : State) (pg off hi lo v : Nat) : (s.setFld pg off hi lo v).mgmt = s.mgmt := rfl
@[simp] theorem State.setFld_gen (s : State) (pg off hi lo v : Nat) : (s.setFld pg off hi lo v).gen = s.gen := rfl
@[simp] theorem State.setFld_otp (s : State) (pg off hi lo v : Nat) : (s.setFld pg off hi lo v).otp = s.otp := rfl
@[simp] theorem State.setFld_sw (s : State) (pg off hi lo v : Nat) : (s.setFld pg off hi lo v).sw = s.sw := rfl
@[simp] theorem State.setFld_auth (s : State) (pg off hi lo v : Nat) : (s.setFld pg off hi lo v).auth = s.auth := rfl
@[simp] theorem State.setFld_mode (s : State) (pg off hi lo v : Nat) : (s.setFld pg off hi lo v).mode = s.mode := rfl
@[simp] theorem State.setFld_land (s : State) (pg off hi lo v : Nat) : (s.setFld pg off hi lo v).land = s.land := rfl
@[simp] theorem State.setFld_fw (s : State) (pg off hi lo v : Nat) : (s.setFld pg off hi lo v).fw = s.fw := rfl
@[simp] theorem State.setFld_ports (s : State) (pg off hi lo v : Nat) : (s.setFld pg off hi lo v).ports = s.ports := rfl
@[simp] theorem State.setFld_mons (s : State) (pg off hi lo v : Nat) : (s.setFld pg off hi lo v).mons = s.mons := rfl
@[simp] theorem State.setFld_mods (s : State) (pg off hi lo v : Nat) : (s.setFld pg off hi lo v).mods = s.mods := rfl
@[simp] theorem State.setFld_temps (s : State) (pg off hi lo v : Nat) : (s.setFld pg off hi lo v).temps = s.temps := rfl
@[simp] theorem State.setFld_wires (s : State) (pg off hi lo v : Nat) : (s.setFld pg off hi lo v).wires = s.wires := rfl
@[simp] theorem State.setFld_cells (s : State) (pg off hi lo v : Nat) : (s.setFld pg off hi lo v).cells = s.cells := rfl
@[simp] theorem State.setFld_chans (s : State) (pg off hi lo v : Nat) : (s.setFld pg off hi lo v).chans = s.chans := rfl
@[simp] theorem State.setFld_clkPresent (s : State) (pg off hi lo v : Nat) : (s.setFld pg off hi lo v).clkPresent = s.clkPresent := rfl
@[simp] theorem State.setFld_clkDrive (s : State) (pg off hi lo v : Nat) : (s.setFld pg off hi lo v).clkDrive = s.clkDrive := rfl
@[simp] theorem State.setFld_slots (s : State) (pg off hi lo v : Nat) : (s.setFld pg off hi lo v).slots = s.slots := rfl
@[simp] theorem State.setFld_limits (s : State) (pg off hi lo v : Nat) : (s.setFld pg off hi lo v).limits = s.limits := rfl
@[simp] theorem State.setFld_levels (s : State) (pg off hi lo v : Nat) : (s.setFld pg off hi lo v).levels = s.levels := rfl
@[simp] theorem State.setFld_prot (s : State) (pg off hi lo v : Nat) : (s.setFld pg off hi lo v).prot = s.prot := rfl
@[simp] theorem State.setFld_waits (s : State) (pg off hi lo v : Nat) : (s.setFld pg off hi lo v).waits = s.waits := rfl
@[simp] theorem State.setFld_strs (s : State) (pg off hi lo v : Nat) : (s.setFld pg off hi lo v).strs = s.strs := rfl
@[simp] theorem State.setFld_coils (s : State) (pg off hi lo v : Nat) : (s.setFld pg off hi lo v).coils = s.coils := rfl
@[simp] theorem State.setFld_qds (s : State) (pg off hi lo v : Nat) : (s.setFld pg off hi lo v).qds = s.qds := rfl
@[simp] theorem State.setFld_acSeq (s : State) (pg off hi lo v : Nat) : (s.setFld pg off hi lo v).acSeq = s.acSeq := rfl
@[simp] theorem State.setFld_join (s : State) (pg off hi lo v : Nat) : (s.setFld pg off hi lo v).join = s.join := rfl
@[simp] theorem State.setFld_bfc (s : State) (pg off hi lo v : Nat) : (s.setFld pg off hi lo v).bfc = s.bfc := rfl
@[simp] theorem State.setFld_bvl (s : State) (pg off hi lo v : Nat) : (s.setFld pg off hi lo v).bvl = s.bvl := rfl
@[simp] theorem State.setFld_safeCh (s : State) (pg off hi lo v : Nat) : (s.setFld pg off hi lo v).safeCh = s.safeCh := rfl
@[simp] theorem State.setFld_banPair (s : State) (pg off hi lo v : Nat) : (s.setFld pg off hi lo v).banPair = s.banPair := rfl
@[simp] theorem State.setFld_safeSrc (s : State) (pg off hi lo v : Nat) : (s.setFld pg off hi lo v).safeSrc = s.safeSrc := rfl
@[simp] theorem State.setFld_tones (s : State) (pg off hi lo v : Nat) : (s.setFld pg off hi lo v).tones = s.tones := rfl
@[simp] theorem State.setFld_tp (s : State) (pg off hi lo v : Nat) : (s.setFld pg off hi lo v).tp = s.tp := rfl
@[simp] theorem State.setFld_ban (s : State) (pg off hi lo v : Nat) : (s.setFld pg off hi lo v).ban = s.ban := rfl
@[simp] theorem State.setFld_scor (s : State) (pg off hi lo v : Nat) : (s.setFld pg off hi lo v).scor = s.scor := rfl
@[simp] theorem State.setFld_pair (s : State) (pg off hi lo v : Nat) : (s.setFld pg off hi lo v).pair = s.pair := rfl
@[simp] theorem State.setFld_cans (s : State) (pg off hi lo v : Nat) : (s.setFld pg off hi lo v).cans = s.cans := rfl
@[simp] theorem State.setFld_bufs (s : State) (pg off hi lo v : Nat) : (s.setFld pg off hi lo v).bufs = s.bufs := rfl
@[simp] theorem State.setFld_syncT (s : State) (pg off hi lo v : Nat) : (s.setFld pg off hi lo v).syncT = s.syncT := rfl
@[simp] theorem State.setFld_acq (s : State) (pg off hi lo v : Nat) : (s.setFld pg off hi lo v).acq = s.acq := rfl
@[simp] theorem State.setFld_computing (s : State) (pg off hi lo v : Nat) : (s.setFld pg off hi lo v).computing = s.computing := rfl
@[simp] theorem State.setFld_sv (s : State) (pg off hi lo v : Nat) : (s.setFld pg off hi lo v).sv = s.sv := rfl
@[simp] theorem State.setFld_hall (s : State) (pg off hi lo v : Nat) : (s.setFld pg off hi lo v).hall = s.hall := rfl
@[simp] theorem State.setFld_flows (s : State) (pg off hi lo v : Nat) : (s.setFld pg off hi lo v).flows = s.flows := rfl
@[simp] theorem State.setFld_host (s : State) (pg off hi lo v : Nat) : (s.setFld pg off hi lo v).host = s.host := rfl
@[simp] theorem State.setFld_rslots (s : State) (pg off hi lo v : Nat) : (s.setFld pg off hi lo v).rslots = s.rslots := rfl
@[simp] theorem State.setFld_rqueue (s : State) (pg off hi lo v : Nat) : (s.setFld pg off hi lo v).rqueue = s.rqueue := rfl
@[simp] theorem State.setFld_ctxs (s : State) (pg off hi lo v : Nat) : (s.setFld pg off hi lo v).ctxs = s.ctxs := rfl
@[simp] theorem State.setFld_sctxs (s : State) (pg off hi lo v : Nat) : (s.setFld pg off hi lo v).sctxs = s.sctxs := rfl
@[simp] theorem State.setFld_hCtx (s : State) (pg off hi lo v : Nat) : (s.setFld pg off hi lo v).hCtx = s.hCtx := rfl
@[simp] theorem State.setFld_est (s : State) (pg off hi lo v : Nat) : (s.setFld pg off hi lo v).est = s.est := rfl
@[simp] theorem State.setFld_shuts (s : State) (pg off hi lo v : Nat) : (s.setFld pg off hi lo v).shuts = s.shuts := rfl
@[simp] theorem State.setFld_shutMods (s : State) (pg off hi lo v : Nat) : (s.setFld pg off hi lo v).shutMods = s.shutMods := rfl
@[simp] theorem State.setFld_bal (s : State) (pg off hi lo v : Nat) : (s.setFld pg off hi lo v).bal = s.bal := rfl
@[simp] theorem State.setFld_engs (s : State) (pg off hi lo v : Nat) : (s.setFld pg off hi lo v).engs = s.engs := rfl
@[simp] theorem State.setFld_txs (s : State) (pg off hi lo v : Nat) : (s.setFld pg off hi lo v).txs = s.txs := rfl
@[simp] theorem State.setFld_rxs (s : State) (pg off hi lo v : Nat) : (s.setFld pg off hi lo v).rxs = s.rxs := rfl
@[simp] theorem State.setFld_code (s : State) (pg off hi lo v : Nat) : (s.setFld pg off hi lo v).code = s.code := rfl
@[simp] theorem State.setFld_sEp (s : State) (pg off hi lo v : Nat) : (s.setFld pg off hi lo v).sEp = s.sEp := rfl
@[simp] theorem State.setFld_hEp (s : State) (pg off hi lo v : Nat) : (s.setFld pg off hi lo v).hEp = s.hEp := rfl
@[simp] theorem State.reach_pending (s : State) (t : Nat) : (s.reach t).pending = s.pending := rfl
@[simp] theorem State.reach_fresh (s : State) (t : Nat) : (s.reach t).fresh = s.fresh := rfl
@[simp] theorem State.reach_out (s : State) (t : Nat) : (s.reach t).out = s.out := rfl
@[simp] theorem State.reach_load (s : State) (t : Nat) : (s.reach t).load = s.load := rfl
@[simp] theorem State.reach_start (s : State) (t : Nat) : (s.reach t).start = s.start := rfl
@[simp] theorem State.reach_supply (s : State) (t : Nat) : (s.reach t).supply = s.supply := rfl
@[simp] theorem State.reach_dev (s : State) (t : Nat) : (s.reach t).dev = s.dev := rfl
@[simp] theorem State.reach_pages (s : State) (t : Nat) : (s.reach t).pages = s.pages := rfl
@[simp] theorem State.reach_regs (s : State) (t : Nat) : (s.reach t).regs = s.regs := rfl
@[simp] theorem State.reach_mbx (s : State) (t : Nat) : (s.reach t).mbx = s.mbx := rfl
@[simp] theorem State.reach_shadow (s : State) (t : Nat) : (s.reach t).shadow = s.shadow := rfl
@[simp] theorem State.reach_latch (s : State) (t : Nat) : (s.reach t).latch = s.latch := rfl
@[simp] theorem State.reach_gal (s : State) (t : Nat) : (s.reach t).gal = s.gal := rfl
@[simp] theorem State.reach_stw (s : State) (t : Nat) : (s.reach t).stw = s.stw := rfl
@[simp] theorem State.reach_mgmt (s : State) (t : Nat) : (s.reach t).mgmt = s.mgmt := rfl
@[simp] theorem State.reach_gen (s : State) (t : Nat) : (s.reach t).gen = s.gen := rfl
@[simp] theorem State.reach_otp (s : State) (t : Nat) : (s.reach t).otp = s.otp := rfl
@[simp] theorem State.reach_sw (s : State) (t : Nat) : (s.reach t).sw = s.sw := rfl
@[simp] theorem State.reach_auth (s : State) (t : Nat) : (s.reach t).auth = s.auth := rfl
@[simp] theorem State.reach_mode (s : State) (t : Nat) : (s.reach t).mode = s.mode := rfl
@[simp] theorem State.reach_land (s : State) (t : Nat) : (s.reach t).land = s.land := rfl
@[simp] theorem State.reach_fw (s : State) (t : Nat) : (s.reach t).fw = s.fw := rfl
@[simp] theorem State.reach_ports (s : State) (t : Nat) : (s.reach t).ports = s.ports := rfl
@[simp] theorem State.reach_mons (s : State) (t : Nat) : (s.reach t).mons = s.mons := rfl
@[simp] theorem State.reach_mods (s : State) (t : Nat) : (s.reach t).mods = s.mods := rfl
@[simp] theorem State.reach_temps (s : State) (t : Nat) : (s.reach t).temps = s.temps := rfl
@[simp] theorem State.reach_wires (s : State) (t : Nat) : (s.reach t).wires = s.wires := rfl
@[simp] theorem State.reach_cells (s : State) (t : Nat) : (s.reach t).cells = s.cells := rfl
@[simp] theorem State.reach_chans (s : State) (t : Nat) : (s.reach t).chans = s.chans := rfl
@[simp] theorem State.reach_clkPresent (s : State) (t : Nat) : (s.reach t).clkPresent = s.clkPresent := rfl
@[simp] theorem State.reach_clkDrive (s : State) (t : Nat) : (s.reach t).clkDrive = s.clkDrive := rfl
@[simp] theorem State.reach_slots (s : State) (t : Nat) : (s.reach t).slots = s.slots := rfl
@[simp] theorem State.reach_limits (s : State) (t : Nat) : (s.reach t).limits = s.limits := rfl
@[simp] theorem State.reach_levels (s : State) (t : Nat) : (s.reach t).levels = s.levels := rfl
@[simp] theorem State.reach_prot (s : State) (t : Nat) : (s.reach t).prot = s.prot := rfl
@[simp] theorem State.reach_waits (s : State) (t : Nat) : (s.reach t).waits = s.waits := rfl
@[simp] theorem State.reach_strs (s : State) (t : Nat) : (s.reach t).strs = s.strs := rfl
@[simp] theorem State.reach_coils (s : State) (t : Nat) : (s.reach t).coils = s.coils := rfl
@[simp] theorem State.reach_qds (s : State) (t : Nat) : (s.reach t).qds = s.qds := rfl
@[simp] theorem State.reach_acSeq (s : State) (t : Nat) : (s.reach t).acSeq = s.acSeq := rfl
@[simp] theorem State.reach_join (s : State) (t : Nat) : (s.reach t).join = s.join := rfl
@[simp] theorem State.reach_bfc (s : State) (t : Nat) : (s.reach t).bfc = s.bfc := rfl
@[simp] theorem State.reach_bvl (s : State) (t : Nat) : (s.reach t).bvl = s.bvl := rfl
@[simp] theorem State.reach_safeCh (s : State) (t : Nat) : (s.reach t).safeCh = s.safeCh := rfl
@[simp] theorem State.reach_banPair (s : State) (t : Nat) : (s.reach t).banPair = s.banPair := rfl
@[simp] theorem State.reach_safeSrc (s : State) (t : Nat) : (s.reach t).safeSrc = s.safeSrc := rfl
@[simp] theorem State.reach_tones (s : State) (t : Nat) : (s.reach t).tones = s.tones := rfl
@[simp] theorem State.reach_tp (s : State) (t : Nat) : (s.reach t).tp = s.tp := rfl
@[simp] theorem State.reach_ban (s : State) (t : Nat) : (s.reach t).ban = s.ban := rfl
@[simp] theorem State.reach_scor (s : State) (t : Nat) : (s.reach t).scor = s.scor := rfl
@[simp] theorem State.reach_pair (s : State) (t : Nat) : (s.reach t).pair = s.pair := rfl
@[simp] theorem State.reach_cans (s : State) (t : Nat) : (s.reach t).cans = s.cans := rfl
@[simp] theorem State.reach_bufs (s : State) (t : Nat) : (s.reach t).bufs = s.bufs := rfl
@[simp] theorem State.reach_syncT (s : State) (t : Nat) : (s.reach t).syncT = s.syncT := rfl
@[simp] theorem State.reach_acq (s : State) (t : Nat) : (s.reach t).acq = s.acq := rfl
@[simp] theorem State.reach_computing (s : State) (t : Nat) : (s.reach t).computing = s.computing := rfl
@[simp] theorem State.reach_sv (s : State) (t : Nat) : (s.reach t).sv = s.sv := rfl
@[simp] theorem State.reach_hall (s : State) (t : Nat) : (s.reach t).hall = s.hall := rfl
@[simp] theorem State.reach_flows (s : State) (t : Nat) : (s.reach t).flows = s.flows := rfl
@[simp] theorem State.reach_host (s : State) (t : Nat) : (s.reach t).host = s.host := rfl
@[simp] theorem State.reach_rslots (s : State) (t : Nat) : (s.reach t).rslots = s.rslots := rfl
@[simp] theorem State.reach_rqueue (s : State) (t : Nat) : (s.reach t).rqueue = s.rqueue := rfl
@[simp] theorem State.reach_ctxs (s : State) (t : Nat) : (s.reach t).ctxs = s.ctxs := rfl
@[simp] theorem State.reach_sctxs (s : State) (t : Nat) : (s.reach t).sctxs = s.sctxs := rfl
@[simp] theorem State.reach_hCtx (s : State) (t : Nat) : (s.reach t).hCtx = s.hCtx := rfl
@[simp] theorem State.reach_est (s : State) (t : Nat) : (s.reach t).est = s.est := rfl
@[simp] theorem State.reach_shuts (s : State) (t : Nat) : (s.reach t).shuts = s.shuts := rfl
@[simp] theorem State.reach_shutMods (s : State) (t : Nat) : (s.reach t).shutMods = s.shutMods := rfl
@[simp] theorem State.reach_bal (s : State) (t : Nat) : (s.reach t).bal = s.bal := rfl
@[simp] theorem State.reach_engs (s : State) (t : Nat) : (s.reach t).engs = s.engs := rfl
@[simp] theorem State.reach_txs (s : State) (t : Nat) : (s.reach t).txs = s.txs := rfl
@[simp] theorem State.reach_rxs (s : State) (t : Nat) : (s.reach t).rxs = s.rxs := rfl
@[simp] theorem State.reach_code (s : State) (t : Nat) : (s.reach t).code = s.code := rfl
@[simp] theorem State.reach_sEp (s : State) (t : Nat) : (s.reach t).sEp = s.sEp := rfl
@[simp] theorem State.reach_hEp (s : State) (t : Nat) : (s.reach t).hEp = s.hEp := rfl
@[simp] theorem State.emit_pending (s : State) (o : Out) : (s.emit o).pending = s.pending := rfl
@[simp] theorem State.emit_fresh (s : State) (o : Out) : (s.emit o).fresh = s.fresh := rfl
@[simp] theorem State.emit_time (s : State) (o : Out) : (s.emit o).time = s.time := rfl
@[simp] theorem State.emit_load (s : State) (o : Out) : (s.emit o).load = s.load := rfl
@[simp] theorem State.emit_start (s : State) (o : Out) : (s.emit o).start = s.start := rfl
@[simp] theorem State.emit_supply (s : State) (o : Out) : (s.emit o).supply = s.supply := rfl
@[simp] theorem State.emit_dev (s : State) (o : Out) : (s.emit o).dev = s.dev := rfl
@[simp] theorem State.emit_pages (s : State) (o : Out) : (s.emit o).pages = s.pages := rfl
@[simp] theorem State.emit_regs (s : State) (o : Out) : (s.emit o).regs = s.regs := rfl
@[simp] theorem State.emit_mbx (s : State) (o : Out) : (s.emit o).mbx = s.mbx := rfl
@[simp] theorem State.emit_shadow (s : State) (o : Out) : (s.emit o).shadow = s.shadow := rfl
@[simp] theorem State.emit_latch (s : State) (o : Out) : (s.emit o).latch = s.latch := rfl
@[simp] theorem State.emit_gal (s : State) (o : Out) : (s.emit o).gal = s.gal := rfl
@[simp] theorem State.emit_stw (s : State) (o : Out) : (s.emit o).stw = s.stw := rfl
@[simp] theorem State.emit_mgmt (s : State) (o : Out) : (s.emit o).mgmt = s.mgmt := rfl
@[simp] theorem State.emit_gen (s : State) (o : Out) : (s.emit o).gen = s.gen := rfl
@[simp] theorem State.emit_otp (s : State) (o : Out) : (s.emit o).otp = s.otp := rfl
@[simp] theorem State.emit_sw (s : State) (o : Out) : (s.emit o).sw = s.sw := rfl
@[simp] theorem State.emit_auth (s : State) (o : Out) : (s.emit o).auth = s.auth := rfl
@[simp] theorem State.emit_mode (s : State) (o : Out) : (s.emit o).mode = s.mode := rfl
@[simp] theorem State.emit_land (s : State) (o : Out) : (s.emit o).land = s.land := rfl
@[simp] theorem State.emit_fw (s : State) (o : Out) : (s.emit o).fw = s.fw := rfl
@[simp] theorem State.emit_ports (s : State) (o : Out) : (s.emit o).ports = s.ports := rfl
@[simp] theorem State.emit_mons (s : State) (o : Out) : (s.emit o).mons = s.mons := rfl
@[simp] theorem State.emit_mods (s : State) (o : Out) : (s.emit o).mods = s.mods := rfl
@[simp] theorem State.emit_temps (s : State) (o : Out) : (s.emit o).temps = s.temps := rfl
@[simp] theorem State.emit_wires (s : State) (o : Out) : (s.emit o).wires = s.wires := rfl
@[simp] theorem State.emit_cells (s : State) (o : Out) : (s.emit o).cells = s.cells := rfl
@[simp] theorem State.emit_chans (s : State) (o : Out) : (s.emit o).chans = s.chans := rfl
@[simp] theorem State.emit_clkPresent (s : State) (o : Out) : (s.emit o).clkPresent = s.clkPresent := rfl
@[simp] theorem State.emit_clkDrive (s : State) (o : Out) : (s.emit o).clkDrive = s.clkDrive := rfl
@[simp] theorem State.emit_slots (s : State) (o : Out) : (s.emit o).slots = s.slots := rfl
@[simp] theorem State.emit_limits (s : State) (o : Out) : (s.emit o).limits = s.limits := rfl
@[simp] theorem State.emit_levels (s : State) (o : Out) : (s.emit o).levels = s.levels := rfl
@[simp] theorem State.emit_prot (s : State) (o : Out) : (s.emit o).prot = s.prot := rfl
@[simp] theorem State.emit_waits (s : State) (o : Out) : (s.emit o).waits = s.waits := rfl
@[simp] theorem State.emit_strs (s : State) (o : Out) : (s.emit o).strs = s.strs := rfl
@[simp] theorem State.emit_coils (s : State) (o : Out) : (s.emit o).coils = s.coils := rfl
@[simp] theorem State.emit_qds (s : State) (o : Out) : (s.emit o).qds = s.qds := rfl
@[simp] theorem State.emit_acSeq (s : State) (o : Out) : (s.emit o).acSeq = s.acSeq := rfl
@[simp] theorem State.emit_join (s : State) (o : Out) : (s.emit o).join = s.join := rfl
@[simp] theorem State.emit_bfc (s : State) (o : Out) : (s.emit o).bfc = s.bfc := rfl
@[simp] theorem State.emit_bvl (s : State) (o : Out) : (s.emit o).bvl = s.bvl := rfl
@[simp] theorem State.emit_safeCh (s : State) (o : Out) : (s.emit o).safeCh = s.safeCh := rfl
@[simp] theorem State.emit_banPair (s : State) (o : Out) : (s.emit o).banPair = s.banPair := rfl
@[simp] theorem State.emit_safeSrc (s : State) (o : Out) : (s.emit o).safeSrc = s.safeSrc := rfl
@[simp] theorem State.emit_tones (s : State) (o : Out) : (s.emit o).tones = s.tones := rfl
@[simp] theorem State.emit_tp (s : State) (o : Out) : (s.emit o).tp = s.tp := rfl
@[simp] theorem State.emit_ban (s : State) (o : Out) : (s.emit o).ban = s.ban := rfl
@[simp] theorem State.emit_scor (s : State) (o : Out) : (s.emit o).scor = s.scor := rfl
@[simp] theorem State.emit_pair (s : State) (o : Out) : (s.emit o).pair = s.pair := rfl
@[simp] theorem State.emit_cans (s : State) (o : Out) : (s.emit o).cans = s.cans := rfl
@[simp] theorem State.emit_bufs (s : State) (o : Out) : (s.emit o).bufs = s.bufs := rfl
@[simp] theorem State.emit_syncT (s : State) (o : Out) : (s.emit o).syncT = s.syncT := rfl
@[simp] theorem State.emit_acq (s : State) (o : Out) : (s.emit o).acq = s.acq := rfl
@[simp] theorem State.emit_computing (s : State) (o : Out) : (s.emit o).computing = s.computing := rfl
@[simp] theorem State.emit_sv (s : State) (o : Out) : (s.emit o).sv = s.sv := rfl
@[simp] theorem State.emit_hall (s : State) (o : Out) : (s.emit o).hall = s.hall := rfl
@[simp] theorem State.emit_flows (s : State) (o : Out) : (s.emit o).flows = s.flows := rfl
@[simp] theorem State.emit_host (s : State) (o : Out) : (s.emit o).host = s.host := rfl
@[simp] theorem State.emit_rslots (s : State) (o : Out) : (s.emit o).rslots = s.rslots := rfl
@[simp] theorem State.emit_rqueue (s : State) (o : Out) : (s.emit o).rqueue = s.rqueue := rfl
@[simp] theorem State.emit_ctxs (s : State) (o : Out) : (s.emit o).ctxs = s.ctxs := rfl
@[simp] theorem State.emit_sctxs (s : State) (o : Out) : (s.emit o).sctxs = s.sctxs := rfl
@[simp] theorem State.emit_hCtx (s : State) (o : Out) : (s.emit o).hCtx = s.hCtx := rfl
@[simp] theorem State.emit_est (s : State) (o : Out) : (s.emit o).est = s.est := rfl
@[simp] theorem State.emit_shuts (s : State) (o : Out) : (s.emit o).shuts = s.shuts := rfl
@[simp] theorem State.emit_shutMods (s : State) (o : Out) : (s.emit o).shutMods = s.shutMods := rfl
@[simp] theorem State.emit_bal (s : State) (o : Out) : (s.emit o).bal = s.bal := rfl
@[simp] theorem State.emit_engs (s : State) (o : Out) : (s.emit o).engs = s.engs := rfl
@[simp] theorem State.emit_txs (s : State) (o : Out) : (s.emit o).txs = s.txs := rfl
@[simp] theorem State.emit_rxs (s : State) (o : Out) : (s.emit o).rxs = s.rxs := rfl
@[simp] theorem State.emit_code (s : State) (o : Out) : (s.emit o).code = s.code := rfl
@[simp] theorem State.emit_sEp (s : State) (o : Out) : (s.emit o).sEp = s.sEp := rfl
@[simp] theorem State.emit_hEp (s : State) (o : Out) : (s.emit o).hEp = s.hEp := rfl
@[simp] theorem State.raise_pending (s : State) (pg n : Nat) : (s.raise pg n).pending = s.pending := rfl
@[simp] theorem State.raise_fresh (s : State) (pg n : Nat) : (s.raise pg n).fresh = s.fresh := rfl
@[simp] theorem State.raise_out (s : State) (pg n : Nat) : (s.raise pg n).out = s.out := rfl
@[simp] theorem State.raise_time (s : State) (pg n : Nat) : (s.raise pg n).time = s.time := rfl
@[simp] theorem State.raise_load (s : State) (pg n : Nat) : (s.raise pg n).load = s.load := rfl
@[simp] theorem State.raise_start (s : State) (pg n : Nat) : (s.raise pg n).start = s.start := rfl
@[simp] theorem State.raise_supply (s : State) (pg n : Nat) : (s.raise pg n).supply = s.supply := rfl
@[simp] theorem State.raise_dev (s : State) (pg n : Nat) : (s.raise pg n).dev = s.dev := rfl
@[simp] theorem State.raise_regs (s : State) (pg n : Nat) : (s.raise pg n).regs = s.regs := rfl
@[simp] theorem State.raise_mbx (s : State) (pg n : Nat) : (s.raise pg n).mbx = s.mbx := rfl
@[simp] theorem State.raise_shadow (s : State) (pg n : Nat) : (s.raise pg n).shadow = s.shadow := rfl
@[simp] theorem State.raise_latch (s : State) (pg n : Nat) : (s.raise pg n).latch = s.latch := rfl
@[simp] theorem State.raise_gal (s : State) (pg n : Nat) : (s.raise pg n).gal = s.gal := rfl
@[simp] theorem State.raise_stw (s : State) (pg n : Nat) : (s.raise pg n).stw = s.stw := rfl
@[simp] theorem State.raise_mgmt (s : State) (pg n : Nat) : (s.raise pg n).mgmt = s.mgmt := rfl
@[simp] theorem State.raise_gen (s : State) (pg n : Nat) : (s.raise pg n).gen = s.gen := rfl
@[simp] theorem State.raise_otp (s : State) (pg n : Nat) : (s.raise pg n).otp = s.otp := rfl
@[simp] theorem State.raise_sw (s : State) (pg n : Nat) : (s.raise pg n).sw = s.sw := rfl
@[simp] theorem State.raise_auth (s : State) (pg n : Nat) : (s.raise pg n).auth = s.auth := rfl
@[simp] theorem State.raise_mode (s : State) (pg n : Nat) : (s.raise pg n).mode = s.mode := rfl
@[simp] theorem State.raise_land (s : State) (pg n : Nat) : (s.raise pg n).land = s.land := rfl
@[simp] theorem State.raise_fw (s : State) (pg n : Nat) : (s.raise pg n).fw = s.fw := rfl
@[simp] theorem State.raise_ports (s : State) (pg n : Nat) : (s.raise pg n).ports = s.ports := rfl
@[simp] theorem State.raise_mons (s : State) (pg n : Nat) : (s.raise pg n).mons = s.mons := rfl
@[simp] theorem State.raise_mods (s : State) (pg n : Nat) : (s.raise pg n).mods = s.mods := rfl
@[simp] theorem State.raise_temps (s : State) (pg n : Nat) : (s.raise pg n).temps = s.temps := rfl
@[simp] theorem State.raise_wires (s : State) (pg n : Nat) : (s.raise pg n).wires = s.wires := rfl
@[simp] theorem State.raise_cells (s : State) (pg n : Nat) : (s.raise pg n).cells = s.cells := rfl
@[simp] theorem State.raise_chans (s : State) (pg n : Nat) : (s.raise pg n).chans = s.chans := rfl
@[simp] theorem State.raise_clkPresent (s : State) (pg n : Nat) : (s.raise pg n).clkPresent = s.clkPresent := rfl
@[simp] theorem State.raise_clkDrive (s : State) (pg n : Nat) : (s.raise pg n).clkDrive = s.clkDrive := rfl
@[simp] theorem State.raise_slots (s : State) (pg n : Nat) : (s.raise pg n).slots = s.slots := rfl
@[simp] theorem State.raise_limits (s : State) (pg n : Nat) : (s.raise pg n).limits = s.limits := rfl
@[simp] theorem State.raise_levels (s : State) (pg n : Nat) : (s.raise pg n).levels = s.levels := rfl
@[simp] theorem State.raise_prot (s : State) (pg n : Nat) : (s.raise pg n).prot = s.prot := rfl
@[simp] theorem State.raise_waits (s : State) (pg n : Nat) : (s.raise pg n).waits = s.waits := rfl
@[simp] theorem State.raise_strs (s : State) (pg n : Nat) : (s.raise pg n).strs = s.strs := rfl
@[simp] theorem State.raise_coils (s : State) (pg n : Nat) : (s.raise pg n).coils = s.coils := rfl
@[simp] theorem State.raise_qds (s : State) (pg n : Nat) : (s.raise pg n).qds = s.qds := rfl
@[simp] theorem State.raise_acSeq (s : State) (pg n : Nat) : (s.raise pg n).acSeq = s.acSeq := rfl
@[simp] theorem State.raise_join (s : State) (pg n : Nat) : (s.raise pg n).join = s.join := rfl
@[simp] theorem State.raise_bfc (s : State) (pg n : Nat) : (s.raise pg n).bfc = s.bfc := rfl
@[simp] theorem State.raise_bvl (s : State) (pg n : Nat) : (s.raise pg n).bvl = s.bvl := rfl
@[simp] theorem State.raise_safeCh (s : State) (pg n : Nat) : (s.raise pg n).safeCh = s.safeCh := rfl
@[simp] theorem State.raise_banPair (s : State) (pg n : Nat) : (s.raise pg n).banPair = s.banPair := rfl
@[simp] theorem State.raise_safeSrc (s : State) (pg n : Nat) : (s.raise pg n).safeSrc = s.safeSrc := rfl
@[simp] theorem State.raise_tones (s : State) (pg n : Nat) : (s.raise pg n).tones = s.tones := rfl
@[simp] theorem State.raise_tp (s : State) (pg n : Nat) : (s.raise pg n).tp = s.tp := rfl
@[simp] theorem State.raise_ban (s : State) (pg n : Nat) : (s.raise pg n).ban = s.ban := rfl
@[simp] theorem State.raise_scor (s : State) (pg n : Nat) : (s.raise pg n).scor = s.scor := rfl
@[simp] theorem State.raise_pair (s : State) (pg n : Nat) : (s.raise pg n).pair = s.pair := rfl
@[simp] theorem State.raise_cans (s : State) (pg n : Nat) : (s.raise pg n).cans = s.cans := rfl
@[simp] theorem State.raise_bufs (s : State) (pg n : Nat) : (s.raise pg n).bufs = s.bufs := rfl
@[simp] theorem State.raise_syncT (s : State) (pg n : Nat) : (s.raise pg n).syncT = s.syncT := rfl
@[simp] theorem State.raise_acq (s : State) (pg n : Nat) : (s.raise pg n).acq = s.acq := rfl
@[simp] theorem State.raise_computing (s : State) (pg n : Nat) : (s.raise pg n).computing = s.computing := rfl
@[simp] theorem State.raise_sv (s : State) (pg n : Nat) : (s.raise pg n).sv = s.sv := rfl
@[simp] theorem State.raise_hall (s : State) (pg n : Nat) : (s.raise pg n).hall = s.hall := rfl
@[simp] theorem State.raise_flows (s : State) (pg n : Nat) : (s.raise pg n).flows = s.flows := rfl
@[simp] theorem State.raise_host (s : State) (pg n : Nat) : (s.raise pg n).host = s.host := rfl
@[simp] theorem State.raise_rslots (s : State) (pg n : Nat) : (s.raise pg n).rslots = s.rslots := rfl
@[simp] theorem State.raise_rqueue (s : State) (pg n : Nat) : (s.raise pg n).rqueue = s.rqueue := rfl
@[simp] theorem State.raise_ctxs (s : State) (pg n : Nat) : (s.raise pg n).ctxs = s.ctxs := rfl
@[simp] theorem State.raise_sctxs (s : State) (pg n : Nat) : (s.raise pg n).sctxs = s.sctxs := rfl
@[simp] theorem State.raise_hCtx (s : State) (pg n : Nat) : (s.raise pg n).hCtx = s.hCtx := rfl
@[simp] theorem State.raise_est (s : State) (pg n : Nat) : (s.raise pg n).est = s.est := rfl
@[simp] theorem State.raise_shuts (s : State) (pg n : Nat) : (s.raise pg n).shuts = s.shuts := rfl
@[simp] theorem State.raise_shutMods (s : State) (pg n : Nat) : (s.raise pg n).shutMods = s.shutMods := rfl
@[simp] theorem State.raise_bal (s : State) (pg n : Nat) : (s.raise pg n).bal = s.bal := rfl
@[simp] theorem State.raise_engs (s : State) (pg n : Nat) : (s.raise pg n).engs = s.engs := rfl
@[simp] theorem State.raise_txs (s : State) (pg n : Nat) : (s.raise pg n).txs = s.txs := rfl
@[simp] theorem State.raise_rxs (s : State) (pg n : Nat) : (s.raise pg n).rxs = s.rxs := rfl
@[simp] theorem State.raise_code (s : State) (pg n : Nat) : (s.raise pg n).code = s.code := rfl
@[simp] theorem State.raise_sEp (s : State) (pg n : Nat) : (s.raise pg n).sEp = s.sEp := rfl
@[simp] theorem State.raise_hEp (s : State) (pg n : Nat) : (s.raise pg n).hEp = s.hEp := rfl
@[simp] theorem State.evtClear_pending (s : State) (pg : Nat) (m : Word) : (s.evtClear pg m).pending = s.pending := rfl
@[simp] theorem State.evtClear_fresh (s : State) (pg : Nat) (m : Word) : (s.evtClear pg m).fresh = s.fresh := rfl
@[simp] theorem State.evtClear_out (s : State) (pg : Nat) (m : Word) : (s.evtClear pg m).out = s.out := rfl
@[simp] theorem State.evtClear_time (s : State) (pg : Nat) (m : Word) : (s.evtClear pg m).time = s.time := rfl
@[simp] theorem State.evtClear_load (s : State) (pg : Nat) (m : Word) : (s.evtClear pg m).load = s.load := rfl
@[simp] theorem State.evtClear_start (s : State) (pg : Nat) (m : Word) : (s.evtClear pg m).start = s.start := rfl
@[simp] theorem State.evtClear_supply (s : State) (pg : Nat) (m : Word) : (s.evtClear pg m).supply = s.supply := rfl
@[simp] theorem State.evtClear_dev (s : State) (pg : Nat) (m : Word) : (s.evtClear pg m).dev = s.dev := rfl
@[simp] theorem State.evtClear_regs (s : State) (pg : Nat) (m : Word) : (s.evtClear pg m).regs = s.regs := rfl
@[simp] theorem State.evtClear_mbx (s : State) (pg : Nat) (m : Word) : (s.evtClear pg m).mbx = s.mbx := rfl
@[simp] theorem State.evtClear_shadow (s : State) (pg : Nat) (m : Word) : (s.evtClear pg m).shadow = s.shadow := rfl
@[simp] theorem State.evtClear_latch (s : State) (pg : Nat) (m : Word) : (s.evtClear pg m).latch = s.latch := rfl
@[simp] theorem State.evtClear_gal (s : State) (pg : Nat) (m : Word) : (s.evtClear pg m).gal = s.gal := rfl
@[simp] theorem State.evtClear_stw (s : State) (pg : Nat) (m : Word) : (s.evtClear pg m).stw = s.stw := rfl
@[simp] theorem State.evtClear_mgmt (s : State) (pg : Nat) (m : Word) : (s.evtClear pg m).mgmt = s.mgmt := rfl
@[simp] theorem State.evtClear_gen (s : State) (pg : Nat) (m : Word) : (s.evtClear pg m).gen = s.gen := rfl
@[simp] theorem State.evtClear_otp (s : State) (pg : Nat) (m : Word) : (s.evtClear pg m).otp = s.otp := rfl
@[simp] theorem State.evtClear_sw (s : State) (pg : Nat) (m : Word) : (s.evtClear pg m).sw = s.sw := rfl
@[simp] theorem State.evtClear_auth (s : State) (pg : Nat) (m : Word) : (s.evtClear pg m).auth = s.auth := rfl
@[simp] theorem State.evtClear_mode (s : State) (pg : Nat) (m : Word) : (s.evtClear pg m).mode = s.mode := rfl
@[simp] theorem State.evtClear_land (s : State) (pg : Nat) (m : Word) : (s.evtClear pg m).land = s.land := rfl
@[simp] theorem State.evtClear_fw (s : State) (pg : Nat) (m : Word) : (s.evtClear pg m).fw = s.fw := rfl
@[simp] theorem State.evtClear_ports (s : State) (pg : Nat) (m : Word) : (s.evtClear pg m).ports = s.ports := rfl
@[simp] theorem State.evtClear_mons (s : State) (pg : Nat) (m : Word) : (s.evtClear pg m).mons = s.mons := rfl
@[simp] theorem State.evtClear_mods (s : State) (pg : Nat) (m : Word) : (s.evtClear pg m).mods = s.mods := rfl
@[simp] theorem State.evtClear_temps (s : State) (pg : Nat) (m : Word) : (s.evtClear pg m).temps = s.temps := rfl
@[simp] theorem State.evtClear_wires (s : State) (pg : Nat) (m : Word) : (s.evtClear pg m).wires = s.wires := rfl
@[simp] theorem State.evtClear_cells (s : State) (pg : Nat) (m : Word) : (s.evtClear pg m).cells = s.cells := rfl
@[simp] theorem State.evtClear_chans (s : State) (pg : Nat) (m : Word) : (s.evtClear pg m).chans = s.chans := rfl
@[simp] theorem State.evtClear_clkPresent (s : State) (pg : Nat) (m : Word) : (s.evtClear pg m).clkPresent = s.clkPresent := rfl
@[simp] theorem State.evtClear_clkDrive (s : State) (pg : Nat) (m : Word) : (s.evtClear pg m).clkDrive = s.clkDrive := rfl
@[simp] theorem State.evtClear_slots (s : State) (pg : Nat) (m : Word) : (s.evtClear pg m).slots = s.slots := rfl
@[simp] theorem State.evtClear_limits (s : State) (pg : Nat) (m : Word) : (s.evtClear pg m).limits = s.limits := rfl
@[simp] theorem State.evtClear_levels (s : State) (pg : Nat) (m : Word) : (s.evtClear pg m).levels = s.levels := rfl
@[simp] theorem State.evtClear_prot (s : State) (pg : Nat) (m : Word) : (s.evtClear pg m).prot = s.prot := rfl
@[simp] theorem State.evtClear_waits (s : State) (pg : Nat) (m : Word) : (s.evtClear pg m).waits = s.waits := rfl
@[simp] theorem State.evtClear_strs (s : State) (pg : Nat) (m : Word) : (s.evtClear pg m).strs = s.strs := rfl
@[simp] theorem State.evtClear_coils (s : State) (pg : Nat) (m : Word) : (s.evtClear pg m).coils = s.coils := rfl
@[simp] theorem State.evtClear_qds (s : State) (pg : Nat) (m : Word) : (s.evtClear pg m).qds = s.qds := rfl
@[simp] theorem State.evtClear_acSeq (s : State) (pg : Nat) (m : Word) : (s.evtClear pg m).acSeq = s.acSeq := rfl
@[simp] theorem State.evtClear_join (s : State) (pg : Nat) (m : Word) : (s.evtClear pg m).join = s.join := rfl
@[simp] theorem State.evtClear_bfc (s : State) (pg : Nat) (m : Word) : (s.evtClear pg m).bfc = s.bfc := rfl
@[simp] theorem State.evtClear_bvl (s : State) (pg : Nat) (m : Word) : (s.evtClear pg m).bvl = s.bvl := rfl
@[simp] theorem State.evtClear_safeCh (s : State) (pg : Nat) (m : Word) : (s.evtClear pg m).safeCh = s.safeCh := rfl
@[simp] theorem State.evtClear_banPair (s : State) (pg : Nat) (m : Word) : (s.evtClear pg m).banPair = s.banPair := rfl
@[simp] theorem State.evtClear_safeSrc (s : State) (pg : Nat) (m : Word) : (s.evtClear pg m).safeSrc = s.safeSrc := rfl
@[simp] theorem State.evtClear_tones (s : State) (pg : Nat) (m : Word) : (s.evtClear pg m).tones = s.tones := rfl
@[simp] theorem State.evtClear_tp (s : State) (pg : Nat) (m : Word) : (s.evtClear pg m).tp = s.tp := rfl
@[simp] theorem State.evtClear_ban (s : State) (pg : Nat) (m : Word) : (s.evtClear pg m).ban = s.ban := rfl
@[simp] theorem State.evtClear_scor (s : State) (pg : Nat) (m : Word) : (s.evtClear pg m).scor = s.scor := rfl
@[simp] theorem State.evtClear_pair (s : State) (pg : Nat) (m : Word) : (s.evtClear pg m).pair = s.pair := rfl
@[simp] theorem State.evtClear_cans (s : State) (pg : Nat) (m : Word) : (s.evtClear pg m).cans = s.cans := rfl
@[simp] theorem State.evtClear_bufs (s : State) (pg : Nat) (m : Word) : (s.evtClear pg m).bufs = s.bufs := rfl
@[simp] theorem State.evtClear_syncT (s : State) (pg : Nat) (m : Word) : (s.evtClear pg m).syncT = s.syncT := rfl
@[simp] theorem State.evtClear_acq (s : State) (pg : Nat) (m : Word) : (s.evtClear pg m).acq = s.acq := rfl
@[simp] theorem State.evtClear_computing (s : State) (pg : Nat) (m : Word) : (s.evtClear pg m).computing = s.computing := rfl
@[simp] theorem State.evtClear_sv (s : State) (pg : Nat) (m : Word) : (s.evtClear pg m).sv = s.sv := rfl
@[simp] theorem State.evtClear_hall (s : State) (pg : Nat) (m : Word) : (s.evtClear pg m).hall = s.hall := rfl
@[simp] theorem State.evtClear_flows (s : State) (pg : Nat) (m : Word) : (s.evtClear pg m).flows = s.flows := rfl
@[simp] theorem State.evtClear_host (s : State) (pg : Nat) (m : Word) : (s.evtClear pg m).host = s.host := rfl
@[simp] theorem State.evtClear_rslots (s : State) (pg : Nat) (m : Word) : (s.evtClear pg m).rslots = s.rslots := rfl
@[simp] theorem State.evtClear_rqueue (s : State) (pg : Nat) (m : Word) : (s.evtClear pg m).rqueue = s.rqueue := rfl
@[simp] theorem State.evtClear_ctxs (s : State) (pg : Nat) (m : Word) : (s.evtClear pg m).ctxs = s.ctxs := rfl
@[simp] theorem State.evtClear_sctxs (s : State) (pg : Nat) (m : Word) : (s.evtClear pg m).sctxs = s.sctxs := rfl
@[simp] theorem State.evtClear_hCtx (s : State) (pg : Nat) (m : Word) : (s.evtClear pg m).hCtx = s.hCtx := rfl
@[simp] theorem State.evtClear_est (s : State) (pg : Nat) (m : Word) : (s.evtClear pg m).est = s.est := rfl
@[simp] theorem State.evtClear_shuts (s : State) (pg : Nat) (m : Word) : (s.evtClear pg m).shuts = s.shuts := rfl
@[simp] theorem State.evtClear_shutMods (s : State) (pg : Nat) (m : Word) : (s.evtClear pg m).shutMods = s.shutMods := rfl
@[simp] theorem State.evtClear_bal (s : State) (pg : Nat) (m : Word) : (s.evtClear pg m).bal = s.bal := rfl
@[simp] theorem State.evtClear_engs (s : State) (pg : Nat) (m : Word) : (s.evtClear pg m).engs = s.engs := rfl
@[simp] theorem State.evtClear_txs (s : State) (pg : Nat) (m : Word) : (s.evtClear pg m).txs = s.txs := rfl
@[simp] theorem State.evtClear_rxs (s : State) (pg : Nat) (m : Word) : (s.evtClear pg m).rxs = s.rxs := rfl
@[simp] theorem State.evtClear_code (s : State) (pg : Nat) (m : Word) : (s.evtClear pg m).code = s.code := rfl
@[simp] theorem State.evtClear_sEp (s : State) (pg : Nat) (m : Word) : (s.evtClear pg m).sEp = s.sEp := rfl
@[simp] theorem State.evtClear_hEp (s : State) (pg : Nat) (m : Word) : (s.evtClear pg m).hEp = s.hEp := rfl
@[simp] theorem State.bumpCfg_pending (s : State) (pg : Nat) : (s.bumpCfg pg).pending = s.pending := rfl
@[simp] theorem State.bumpCfg_fresh (s : State) (pg : Nat) : (s.bumpCfg pg).fresh = s.fresh := rfl
@[simp] theorem State.bumpCfg_out (s : State) (pg : Nat) : (s.bumpCfg pg).out = s.out := rfl
@[simp] theorem State.bumpCfg_time (s : State) (pg : Nat) : (s.bumpCfg pg).time = s.time := rfl
@[simp] theorem State.bumpCfg_load (s : State) (pg : Nat) : (s.bumpCfg pg).load = s.load := rfl
@[simp] theorem State.bumpCfg_start (s : State) (pg : Nat) : (s.bumpCfg pg).start = s.start := rfl
@[simp] theorem State.bumpCfg_supply (s : State) (pg : Nat) : (s.bumpCfg pg).supply = s.supply := rfl
@[simp] theorem State.bumpCfg_dev (s : State) (pg : Nat) : (s.bumpCfg pg).dev = s.dev := rfl
@[simp] theorem State.bumpCfg_regs (s : State) (pg : Nat) : (s.bumpCfg pg).regs = s.regs := rfl
@[simp] theorem State.bumpCfg_mbx (s : State) (pg : Nat) : (s.bumpCfg pg).mbx = s.mbx := rfl
@[simp] theorem State.bumpCfg_shadow (s : State) (pg : Nat) : (s.bumpCfg pg).shadow = s.shadow := rfl
@[simp] theorem State.bumpCfg_latch (s : State) (pg : Nat) : (s.bumpCfg pg).latch = s.latch := rfl
@[simp] theorem State.bumpCfg_gal (s : State) (pg : Nat) : (s.bumpCfg pg).gal = s.gal := rfl
@[simp] theorem State.bumpCfg_stw (s : State) (pg : Nat) : (s.bumpCfg pg).stw = s.stw := rfl
@[simp] theorem State.bumpCfg_mgmt (s : State) (pg : Nat) : (s.bumpCfg pg).mgmt = s.mgmt := rfl
@[simp] theorem State.bumpCfg_gen (s : State) (pg : Nat) : (s.bumpCfg pg).gen = s.gen := rfl
@[simp] theorem State.bumpCfg_otp (s : State) (pg : Nat) : (s.bumpCfg pg).otp = s.otp := rfl
@[simp] theorem State.bumpCfg_sw (s : State) (pg : Nat) : (s.bumpCfg pg).sw = s.sw := rfl
@[simp] theorem State.bumpCfg_auth (s : State) (pg : Nat) : (s.bumpCfg pg).auth = s.auth := rfl
@[simp] theorem State.bumpCfg_mode (s : State) (pg : Nat) : (s.bumpCfg pg).mode = s.mode := rfl
@[simp] theorem State.bumpCfg_land (s : State) (pg : Nat) : (s.bumpCfg pg).land = s.land := rfl
@[simp] theorem State.bumpCfg_fw (s : State) (pg : Nat) : (s.bumpCfg pg).fw = s.fw := rfl
@[simp] theorem State.bumpCfg_ports (s : State) (pg : Nat) : (s.bumpCfg pg).ports = s.ports := rfl
@[simp] theorem State.bumpCfg_mons (s : State) (pg : Nat) : (s.bumpCfg pg).mons = s.mons := rfl
@[simp] theorem State.bumpCfg_mods (s : State) (pg : Nat) : (s.bumpCfg pg).mods = s.mods := rfl
@[simp] theorem State.bumpCfg_temps (s : State) (pg : Nat) : (s.bumpCfg pg).temps = s.temps := rfl
@[simp] theorem State.bumpCfg_wires (s : State) (pg : Nat) : (s.bumpCfg pg).wires = s.wires := rfl
@[simp] theorem State.bumpCfg_cells (s : State) (pg : Nat) : (s.bumpCfg pg).cells = s.cells := rfl
@[simp] theorem State.bumpCfg_chans (s : State) (pg : Nat) : (s.bumpCfg pg).chans = s.chans := rfl
@[simp] theorem State.bumpCfg_clkPresent (s : State) (pg : Nat) : (s.bumpCfg pg).clkPresent = s.clkPresent := rfl
@[simp] theorem State.bumpCfg_clkDrive (s : State) (pg : Nat) : (s.bumpCfg pg).clkDrive = s.clkDrive := rfl
@[simp] theorem State.bumpCfg_slots (s : State) (pg : Nat) : (s.bumpCfg pg).slots = s.slots := rfl
@[simp] theorem State.bumpCfg_limits (s : State) (pg : Nat) : (s.bumpCfg pg).limits = s.limits := rfl
@[simp] theorem State.bumpCfg_levels (s : State) (pg : Nat) : (s.bumpCfg pg).levels = s.levels := rfl
@[simp] theorem State.bumpCfg_prot (s : State) (pg : Nat) : (s.bumpCfg pg).prot = s.prot := rfl
@[simp] theorem State.bumpCfg_waits (s : State) (pg : Nat) : (s.bumpCfg pg).waits = s.waits := rfl
@[simp] theorem State.bumpCfg_strs (s : State) (pg : Nat) : (s.bumpCfg pg).strs = s.strs := rfl
@[simp] theorem State.bumpCfg_coils (s : State) (pg : Nat) : (s.bumpCfg pg).coils = s.coils := rfl
@[simp] theorem State.bumpCfg_qds (s : State) (pg : Nat) : (s.bumpCfg pg).qds = s.qds := rfl
@[simp] theorem State.bumpCfg_acSeq (s : State) (pg : Nat) : (s.bumpCfg pg).acSeq = s.acSeq := rfl
@[simp] theorem State.bumpCfg_join (s : State) (pg : Nat) : (s.bumpCfg pg).join = s.join := rfl
@[simp] theorem State.bumpCfg_bfc (s : State) (pg : Nat) : (s.bumpCfg pg).bfc = s.bfc := rfl
@[simp] theorem State.bumpCfg_bvl (s : State) (pg : Nat) : (s.bumpCfg pg).bvl = s.bvl := rfl
@[simp] theorem State.bumpCfg_safeCh (s : State) (pg : Nat) : (s.bumpCfg pg).safeCh = s.safeCh := rfl
@[simp] theorem State.bumpCfg_banPair (s : State) (pg : Nat) : (s.bumpCfg pg).banPair = s.banPair := rfl
@[simp] theorem State.bumpCfg_safeSrc (s : State) (pg : Nat) : (s.bumpCfg pg).safeSrc = s.safeSrc := rfl
@[simp] theorem State.bumpCfg_tones (s : State) (pg : Nat) : (s.bumpCfg pg).tones = s.tones := rfl
@[simp] theorem State.bumpCfg_tp (s : State) (pg : Nat) : (s.bumpCfg pg).tp = s.tp := rfl
@[simp] theorem State.bumpCfg_ban (s : State) (pg : Nat) : (s.bumpCfg pg).ban = s.ban := rfl
@[simp] theorem State.bumpCfg_scor (s : State) (pg : Nat) : (s.bumpCfg pg).scor = s.scor := rfl
@[simp] theorem State.bumpCfg_pair (s : State) (pg : Nat) : (s.bumpCfg pg).pair = s.pair := rfl
@[simp] theorem State.bumpCfg_cans (s : State) (pg : Nat) : (s.bumpCfg pg).cans = s.cans := rfl
@[simp] theorem State.bumpCfg_bufs (s : State) (pg : Nat) : (s.bumpCfg pg).bufs = s.bufs := rfl
@[simp] theorem State.bumpCfg_syncT (s : State) (pg : Nat) : (s.bumpCfg pg).syncT = s.syncT := rfl
@[simp] theorem State.bumpCfg_acq (s : State) (pg : Nat) : (s.bumpCfg pg).acq = s.acq := rfl
@[simp] theorem State.bumpCfg_computing (s : State) (pg : Nat) : (s.bumpCfg pg).computing = s.computing := rfl
@[simp] theorem State.bumpCfg_sv (s : State) (pg : Nat) : (s.bumpCfg pg).sv = s.sv := rfl
@[simp] theorem State.bumpCfg_hall (s : State) (pg : Nat) : (s.bumpCfg pg).hall = s.hall := rfl
@[simp] theorem State.bumpCfg_flows (s : State) (pg : Nat) : (s.bumpCfg pg).flows = s.flows := rfl
@[simp] theorem State.bumpCfg_host (s : State) (pg : Nat) : (s.bumpCfg pg).host = s.host := rfl
@[simp] theorem State.bumpCfg_rslots (s : State) (pg : Nat) : (s.bumpCfg pg).rslots = s.rslots := rfl
@[simp] theorem State.bumpCfg_rqueue (s : State) (pg : Nat) : (s.bumpCfg pg).rqueue = s.rqueue := rfl
@[simp] theorem State.bumpCfg_ctxs (s : State) (pg : Nat) : (s.bumpCfg pg).ctxs = s.ctxs := rfl
@[simp] theorem State.bumpCfg_sctxs (s : State) (pg : Nat) : (s.bumpCfg pg).sctxs = s.sctxs := rfl
@[simp] theorem State.bumpCfg_hCtx (s : State) (pg : Nat) : (s.bumpCfg pg).hCtx = s.hCtx := rfl
@[simp] theorem State.bumpCfg_est (s : State) (pg : Nat) : (s.bumpCfg pg).est = s.est := rfl
@[simp] theorem State.bumpCfg_shuts (s : State) (pg : Nat) : (s.bumpCfg pg).shuts = s.shuts := rfl
@[simp] theorem State.bumpCfg_shutMods (s : State) (pg : Nat) : (s.bumpCfg pg).shutMods = s.shutMods := rfl
@[simp] theorem State.bumpCfg_bal (s : State) (pg : Nat) : (s.bumpCfg pg).bal = s.bal := rfl
@[simp] theorem State.bumpCfg_engs (s : State) (pg : Nat) : (s.bumpCfg pg).engs = s.engs := rfl
@[simp] theorem State.bumpCfg_txs (s : State) (pg : Nat) : (s.bumpCfg pg).txs = s.txs := rfl
@[simp] theorem State.bumpCfg_rxs (s : State) (pg : Nat) : (s.bumpCfg pg).rxs = s.rxs := rfl
@[simp] theorem State.bumpCfg_code (s : State) (pg : Nat) : (s.bumpCfg pg).code = s.code := rfl
@[simp] theorem State.bumpCfg_sEp (s : State) (pg : Nat) : (s.bumpCfg pg).sEp = s.sEp := rfl
@[simp] theorem State.bumpCfg_hEp (s : State) (pg : Nat) : (s.bumpCfg pg).hEp = s.hEp := rfl
@[simp] theorem State.log_pending (s : State) (typ : Nat) (pl : List Word) : (s.log typ pl).pending = s.pending := by unfold State.log; split <;> rfl
@[simp] theorem State.log_fresh (s : State) (typ : Nat) (pl : List Word) : (s.log typ pl).fresh = s.fresh := by unfold State.log; split <;> rfl
@[simp] theorem State.log_out (s : State) (typ : Nat) (pl : List Word) : (s.log typ pl).out = s.out := by unfold State.log; split <;> rfl
@[simp] theorem State.log_time (s : State) (typ : Nat) (pl : List Word) : (s.log typ pl).time = s.time := by unfold State.log; split <;> rfl
@[simp] theorem State.log_load (s : State) (typ : Nat) (pl : List Word) : (s.log typ pl).load = s.load := by unfold State.log; split <;> rfl
@[simp] theorem State.log_start (s : State) (typ : Nat) (pl : List Word) : (s.log typ pl).start = s.start := by unfold State.log; split <;> rfl
@[simp] theorem State.log_supply (s : State) (typ : Nat) (pl : List Word) : (s.log typ pl).supply = s.supply := by unfold State.log; split <;> rfl
@[simp] theorem State.log_dev (s : State) (typ : Nat) (pl : List Word) : (s.log typ pl).dev = s.dev := by unfold State.log; split <;> rfl
@[simp] theorem State.log_regs (s : State) (typ : Nat) (pl : List Word) : (s.log typ pl).regs = s.regs := by unfold State.log; split <;> rfl
@[simp] theorem State.log_mbx (s : State) (typ : Nat) (pl : List Word) : (s.log typ pl).mbx = s.mbx := by unfold State.log; split <;> rfl
@[simp] theorem State.log_shadow (s : State) (typ : Nat) (pl : List Word) : (s.log typ pl).shadow = s.shadow := by unfold State.log; split <;> rfl
@[simp] theorem State.log_latch (s : State) (typ : Nat) (pl : List Word) : (s.log typ pl).latch = s.latch := by unfold State.log; split <;> rfl
@[simp] theorem State.log_stw (s : State) (typ : Nat) (pl : List Word) : (s.log typ pl).stw = s.stw := by unfold State.log; split <;> rfl
@[simp] theorem State.log_mgmt (s : State) (typ : Nat) (pl : List Word) : (s.log typ pl).mgmt = s.mgmt := by unfold State.log; split <;> rfl
@[simp] theorem State.log_gen (s : State) (typ : Nat) (pl : List Word) : (s.log typ pl).gen = s.gen := by unfold State.log; split <;> rfl
@[simp] theorem State.log_otp (s : State) (typ : Nat) (pl : List Word) : (s.log typ pl).otp = s.otp := by unfold State.log; split <;> rfl
@[simp] theorem State.log_sw (s : State) (typ : Nat) (pl : List Word) : (s.log typ pl).sw = s.sw := by unfold State.log; split <;> rfl
@[simp] theorem State.log_auth (s : State) (typ : Nat) (pl : List Word) : (s.log typ pl).auth = s.auth := by unfold State.log; split <;> rfl
@[simp] theorem State.log_mode (s : State) (typ : Nat) (pl : List Word) : (s.log typ pl).mode = s.mode := by unfold State.log; split <;> rfl
@[simp] theorem State.log_land (s : State) (typ : Nat) (pl : List Word) : (s.log typ pl).land = s.land := by unfold State.log; split <;> rfl
@[simp] theorem State.log_fw (s : State) (typ : Nat) (pl : List Word) : (s.log typ pl).fw = s.fw := by unfold State.log; split <;> rfl
@[simp] theorem State.log_ports (s : State) (typ : Nat) (pl : List Word) : (s.log typ pl).ports = s.ports := by unfold State.log; split <;> rfl
@[simp] theorem State.log_mons (s : State) (typ : Nat) (pl : List Word) : (s.log typ pl).mons = s.mons := by unfold State.log; split <;> rfl
@[simp] theorem State.log_mods (s : State) (typ : Nat) (pl : List Word) : (s.log typ pl).mods = s.mods := by unfold State.log; split <;> rfl
@[simp] theorem State.log_temps (s : State) (typ : Nat) (pl : List Word) : (s.log typ pl).temps = s.temps := by unfold State.log; split <;> rfl
@[simp] theorem State.log_wires (s : State) (typ : Nat) (pl : List Word) : (s.log typ pl).wires = s.wires := by unfold State.log; split <;> rfl
@[simp] theorem State.log_cells (s : State) (typ : Nat) (pl : List Word) : (s.log typ pl).cells = s.cells := by unfold State.log; split <;> rfl
@[simp] theorem State.log_chans (s : State) (typ : Nat) (pl : List Word) : (s.log typ pl).chans = s.chans := by unfold State.log; split <;> rfl
@[simp] theorem State.log_clkPresent (s : State) (typ : Nat) (pl : List Word) : (s.log typ pl).clkPresent = s.clkPresent := by unfold State.log; split <;> rfl
@[simp] theorem State.log_clkDrive (s : State) (typ : Nat) (pl : List Word) : (s.log typ pl).clkDrive = s.clkDrive := by unfold State.log; split <;> rfl
@[simp] theorem State.log_slots (s : State) (typ : Nat) (pl : List Word) : (s.log typ pl).slots = s.slots := by unfold State.log; split <;> rfl
@[simp] theorem State.log_limits (s : State) (typ : Nat) (pl : List Word) : (s.log typ pl).limits = s.limits := by unfold State.log; split <;> rfl
@[simp] theorem State.log_levels (s : State) (typ : Nat) (pl : List Word) : (s.log typ pl).levels = s.levels := by unfold State.log; split <;> rfl
@[simp] theorem State.log_prot (s : State) (typ : Nat) (pl : List Word) : (s.log typ pl).prot = s.prot := by unfold State.log; split <;> rfl
@[simp] theorem State.log_waits (s : State) (typ : Nat) (pl : List Word) : (s.log typ pl).waits = s.waits := by unfold State.log; split <;> rfl
@[simp] theorem State.log_strs (s : State) (typ : Nat) (pl : List Word) : (s.log typ pl).strs = s.strs := by unfold State.log; split <;> rfl
@[simp] theorem State.log_coils (s : State) (typ : Nat) (pl : List Word) : (s.log typ pl).coils = s.coils := by unfold State.log; split <;> rfl
@[simp] theorem State.log_qds (s : State) (typ : Nat) (pl : List Word) : (s.log typ pl).qds = s.qds := by unfold State.log; split <;> rfl
@[simp] theorem State.log_acSeq (s : State) (typ : Nat) (pl : List Word) : (s.log typ pl).acSeq = s.acSeq := by unfold State.log; split <;> rfl
@[simp] theorem State.log_join (s : State) (typ : Nat) (pl : List Word) : (s.log typ pl).join = s.join := by unfold State.log; split <;> rfl
@[simp] theorem State.log_bfc (s : State) (typ : Nat) (pl : List Word) : (s.log typ pl).bfc = s.bfc := by unfold State.log; split <;> rfl
@[simp] theorem State.log_bvl (s : State) (typ : Nat) (pl : List Word) : (s.log typ pl).bvl = s.bvl := by unfold State.log; split <;> rfl
@[simp] theorem State.log_safeCh (s : State) (typ : Nat) (pl : List Word) : (s.log typ pl).safeCh = s.safeCh := by unfold State.log; split <;> rfl
@[simp] theorem State.log_banPair (s : State) (typ : Nat) (pl : List Word) : (s.log typ pl).banPair = s.banPair := by unfold State.log; split <;> rfl
@[simp] theorem State.log_safeSrc (s : State) (typ : Nat) (pl : List Word) : (s.log typ pl).safeSrc = s.safeSrc := by unfold State.log; split <;> rfl
@[simp] theorem State.log_tones (s : State) (typ : Nat) (pl : List Word) : (s.log typ pl).tones = s.tones := by unfold State.log; split <;> rfl
@[simp] theorem State.log_tp (s : State) (typ : Nat) (pl : List Word) : (s.log typ pl).tp = s.tp := by unfold State.log; split <;> rfl
@[simp] theorem State.log_ban (s : State) (typ : Nat) (pl : List Word) : (s.log typ pl).ban = s.ban := by unfold State.log; split <;> rfl
@[simp] theorem State.log_scor (s : State) (typ : Nat) (pl : List Word) : (s.log typ pl).scor = s.scor := by unfold State.log; split <;> rfl
@[simp] theorem State.log_pair (s : State) (typ : Nat) (pl : List Word) : (s.log typ pl).pair = s.pair := by unfold State.log; split <;> rfl
@[simp] theorem State.log_cans (s : State) (typ : Nat) (pl : List Word) : (s.log typ pl).cans = s.cans := by unfold State.log; split <;> rfl
@[simp] theorem State.log_bufs (s : State) (typ : Nat) (pl : List Word) : (s.log typ pl).bufs = s.bufs := by unfold State.log; split <;> rfl
@[simp] theorem State.log_syncT (s : State) (typ : Nat) (pl : List Word) : (s.log typ pl).syncT = s.syncT := by unfold State.log; split <;> rfl
@[simp] theorem State.log_acq (s : State) (typ : Nat) (pl : List Word) : (s.log typ pl).acq = s.acq := by unfold State.log; split <;> rfl
@[simp] theorem State.log_computing (s : State) (typ : Nat) (pl : List Word) : (s.log typ pl).computing = s.computing := by unfold State.log; split <;> rfl
@[simp] theorem State.log_sv (s : State) (typ : Nat) (pl : List Word) : (s.log typ pl).sv = s.sv := by unfold State.log; split <;> rfl
@[simp] theorem State.log_hall (s : State) (typ : Nat) (pl : List Word) : (s.log typ pl).hall = s.hall := by unfold State.log; split <;> rfl
@[simp] theorem State.log_flows (s : State) (typ : Nat) (pl : List Word) : (s.log typ pl).flows = s.flows := by unfold State.log; split <;> rfl
@[simp] theorem State.log_host (s : State) (typ : Nat) (pl : List Word) : (s.log typ pl).host = s.host := by unfold State.log; split <;> rfl
@[simp] theorem State.log_rslots (s : State) (typ : Nat) (pl : List Word) : (s.log typ pl).rslots = s.rslots := by unfold State.log; split <;> rfl
@[simp] theorem State.log_rqueue (s : State) (typ : Nat) (pl : List Word) : (s.log typ pl).rqueue = s.rqueue := by unfold State.log; split <;> rfl
@[simp] theorem State.log_ctxs (s : State) (typ : Nat) (pl : List Word) : (s.log typ pl).ctxs = s.ctxs := by unfold State.log; split <;> rfl
@[simp] theorem State.log_sctxs (s : State) (typ : Nat) (pl : List Word) : (s.log typ pl).sctxs = s.sctxs := by unfold State.log; split <;> rfl
@[simp] theorem State.log_hCtx (s : State) (typ : Nat) (pl : List Word) : (s.log typ pl).hCtx = s.hCtx := by unfold State.log; split <;> rfl
@[simp] theorem State.log_est (s : State) (typ : Nat) (pl : List Word) : (s.log typ pl).est = s.est := by unfold State.log; split <;> rfl
@[simp] theorem State.log_shuts (s : State) (typ : Nat) (pl : List Word) : (s.log typ pl).shuts = s.shuts := by unfold State.log; split <;> rfl
@[simp] theorem State.log_shutMods (s : State) (typ : Nat) (pl : List Word) : (s.log typ pl).shutMods = s.shutMods := by unfold State.log; split <;> rfl
@[simp] theorem State.log_bal (s : State) (typ : Nat) (pl : List Word) : (s.log typ pl).bal = s.bal := by unfold State.log; split <;> rfl
@[simp] theorem State.log_engs (s : State) (typ : Nat) (pl : List Word) : (s.log typ pl).engs = s.engs := by unfold State.log; split <;> rfl
@[simp] theorem State.log_txs (s : State) (typ : Nat) (pl : List Word) : (s.log typ pl).txs = s.txs := by unfold State.log; split <;> rfl
@[simp] theorem State.log_rxs (s : State) (typ : Nat) (pl : List Word) : (s.log typ pl).rxs = s.rxs := by unfold State.log; split <;> rfl
@[simp] theorem State.log_code (s : State) (typ : Nat) (pl : List Word) : (s.log typ pl).code = s.code := by unfold State.log; split <;> rfl
@[simp] theorem State.log_sEp (s : State) (typ : Nat) (pl : List Word) : (s.log typ pl).sEp = s.sEp := by unfold State.log; split <;> rfl
@[simp] theorem State.log_hEp (s : State) (typ : Nat) (pl : List Word) : (s.log typ pl).hEp = s.hEp := by unfold State.log; split <;> rfl
@[simp] theorem State.logN_pending (s : State) (typ : Nat) (pl : List Nat) : (s.logN typ pl).pending = s.pending := State.log_pending s typ _
@[simp] theorem State.logN_fresh (s : State) (typ : Nat) (pl : List Nat) : (s.logN typ pl).fresh = s.fresh := State.log_fresh s typ _
@[simp] theorem State.logN_out (s : State) (typ : Nat) (pl : List Nat) : (s.logN typ pl).out = s.out := State.log_out s typ _
@[simp] theorem State.logN_time (s : State) (typ : Nat) (pl : List Nat) : (s.logN typ pl).time = s.time := State.log_time s typ _
@[simp] theorem State.logN_load (s : State) (typ : Nat) (pl : List Nat) : (s.logN typ pl).load = s.load := State.log_load s typ _
@[simp] theorem State.logN_start (s : State) (typ : Nat) (pl : List Nat) : (s.logN typ pl).start = s.start := State.log_start s typ _
@[simp] theorem State.logN_supply (s : State) (typ : Nat) (pl : List Nat) : (s.logN typ pl).supply = s.supply := State.log_supply s typ _
@[simp] theorem State.logN_dev (s : State) (typ : Nat) (pl : List Nat) : (s.logN typ pl).dev = s.dev := State.log_dev s typ _
@[simp] theorem State.logN_regs (s : State) (typ : Nat) (pl : List Nat) : (s.logN typ pl).regs = s.regs := State.log_regs s typ _
@[simp] theorem State.logN_mbx (s : State) (typ : Nat) (pl : List Nat) : (s.logN typ pl).mbx = s.mbx := State.log_mbx s typ _
@[simp] theorem State.logN_shadow (s : State) (typ : Nat) (pl : List Nat) : (s.logN typ pl).shadow = s.shadow := State.log_shadow s typ _
@[simp] theorem State.logN_latch (s : State) (typ : Nat) (pl : List Nat) : (s.logN typ pl).latch = s.latch := State.log_latch s typ _
@[simp] theorem State.logN_stw (s : State) (typ : Nat) (pl : List Nat) : (s.logN typ pl).stw = s.stw := State.log_stw s typ _
@[simp] theorem State.logN_mgmt (s : State) (typ : Nat) (pl : List Nat) : (s.logN typ pl).mgmt = s.mgmt := State.log_mgmt s typ _
@[simp] theorem State.logN_gen (s : State) (typ : Nat) (pl : List Nat) : (s.logN typ pl).gen = s.gen := State.log_gen s typ _
@[simp] theorem State.logN_otp (s : State) (typ : Nat) (pl : List Nat) : (s.logN typ pl).otp = s.otp := State.log_otp s typ _
@[simp] theorem State.logN_sw (s : State) (typ : Nat) (pl : List Nat) : (s.logN typ pl).sw = s.sw := State.log_sw s typ _
@[simp] theorem State.logN_auth (s : State) (typ : Nat) (pl : List Nat) : (s.logN typ pl).auth = s.auth := State.log_auth s typ _
@[simp] theorem State.logN_mode (s : State) (typ : Nat) (pl : List Nat) : (s.logN typ pl).mode = s.mode := State.log_mode s typ _
@[simp] theorem State.logN_land (s : State) (typ : Nat) (pl : List Nat) : (s.logN typ pl).land = s.land := State.log_land s typ _
@[simp] theorem State.logN_fw (s : State) (typ : Nat) (pl : List Nat) : (s.logN typ pl).fw = s.fw := State.log_fw s typ _
@[simp] theorem State.logN_ports (s : State) (typ : Nat) (pl : List Nat) : (s.logN typ pl).ports = s.ports := State.log_ports s typ _
@[simp] theorem State.logN_mons (s : State) (typ : Nat) (pl : List Nat) : (s.logN typ pl).mons = s.mons := State.log_mons s typ _
@[simp] theorem State.logN_mods (s : State) (typ : Nat) (pl : List Nat) : (s.logN typ pl).mods = s.mods := State.log_mods s typ _
@[simp] theorem State.logN_temps (s : State) (typ : Nat) (pl : List Nat) : (s.logN typ pl).temps = s.temps := State.log_temps s typ _
@[simp] theorem State.logN_wires (s : State) (typ : Nat) (pl : List Nat) : (s.logN typ pl).wires = s.wires := State.log_wires s typ _
@[simp] theorem State.logN_cells (s : State) (typ : Nat) (pl : List Nat) : (s.logN typ pl).cells = s.cells := State.log_cells s typ _
@[simp] theorem State.logN_chans (s : State) (typ : Nat) (pl : List Nat) : (s.logN typ pl).chans = s.chans := State.log_chans s typ _
@[simp] theorem State.logN_clkPresent (s : State) (typ : Nat) (pl : List Nat) : (s.logN typ pl).clkPresent = s.clkPresent := State.log_clkPresent s typ _
@[simp] theorem State.logN_clkDrive (s : State) (typ : Nat) (pl : List Nat) : (s.logN typ pl).clkDrive = s.clkDrive := State.log_clkDrive s typ _
@[simp] theorem State.logN_slots (s : State) (typ : Nat) (pl : List Nat) : (s.logN typ pl).slots = s.slots := State.log_slots s typ _
@[simp] theorem State.logN_limits (s : State) (typ : Nat) (pl : List Nat) : (s.logN typ pl).limits = s.limits := State.log_limits s typ _
@[simp] theorem State.logN_levels (s : State) (typ : Nat) (pl : List Nat) : (s.logN typ pl).levels = s.levels := State.log_levels s typ _
@[simp] theorem State.logN_prot (s : State) (typ : Nat) (pl : List Nat) : (s.logN typ pl).prot = s.prot := State.log_prot s typ _
@[simp] theorem State.logN_waits (s : State) (typ : Nat) (pl : List Nat) : (s.logN typ pl).waits = s.waits := State.log_waits s typ _
@[simp] theorem State.logN_strs (s : State) (typ : Nat) (pl : List Nat) : (s.logN typ pl).strs = s.strs := State.log_strs s typ _
@[simp] theorem State.logN_coils (s : State) (typ : Nat) (pl : List Nat) : (s.logN typ pl).coils = s.coils := State.log_coils s typ _
@[simp] theorem State.logN_qds (s : State) (typ : Nat) (pl : List Nat) : (s.logN typ pl).qds = s.qds := State.log_qds s typ _
@[simp] theorem State.logN_acSeq (s : State) (typ : Nat) (pl : List Nat) : (s.logN typ pl).acSeq = s.acSeq := State.log_acSeq s typ _
@[simp] theorem State.logN_join (s : State) (typ : Nat) (pl : List Nat) : (s.logN typ pl).join = s.join := State.log_join s typ _
@[simp] theorem State.logN_bfc (s : State) (typ : Nat) (pl : List Nat) : (s.logN typ pl).bfc = s.bfc := State.log_bfc s typ _
@[simp] theorem State.logN_bvl (s : State) (typ : Nat) (pl : List Nat) : (s.logN typ pl).bvl = s.bvl := State.log_bvl s typ _
@[simp] theorem State.logN_safeCh (s : State) (typ : Nat) (pl : List Nat) : (s.logN typ pl).safeCh = s.safeCh := State.log_safeCh s typ _
@[simp] theorem State.logN_banPair (s : State) (typ : Nat) (pl : List Nat) : (s.logN typ pl).banPair = s.banPair := State.log_banPair s typ _
@[simp] theorem State.logN_safeSrc (s : State) (typ : Nat) (pl : List Nat) : (s.logN typ pl).safeSrc = s.safeSrc := State.log_safeSrc s typ _
@[simp] theorem State.logN_tones (s : State) (typ : Nat) (pl : List Nat) : (s.logN typ pl).tones = s.tones := State.log_tones s typ _
@[simp] theorem State.logN_tp (s : State) (typ : Nat) (pl : List Nat) : (s.logN typ pl).tp = s.tp := State.log_tp s typ _
@[simp] theorem State.logN_ban (s : State) (typ : Nat) (pl : List Nat) : (s.logN typ pl).ban = s.ban := State.log_ban s typ _
@[simp] theorem State.logN_scor (s : State) (typ : Nat) (pl : List Nat) : (s.logN typ pl).scor = s.scor := State.log_scor s typ _
@[simp] theorem State.logN_pair (s : State) (typ : Nat) (pl : List Nat) : (s.logN typ pl).pair = s.pair := State.log_pair s typ _
@[simp] theorem State.logN_cans (s : State) (typ : Nat) (pl : List Nat) : (s.logN typ pl).cans = s.cans := State.log_cans s typ _
@[simp] theorem State.logN_bufs (s : State) (typ : Nat) (pl : List Nat) : (s.logN typ pl).bufs = s.bufs := State.log_bufs s typ _
@[simp] theorem State.logN_syncT (s : State) (typ : Nat) (pl : List Nat) : (s.logN typ pl).syncT = s.syncT := State.log_syncT s typ _
@[simp] theorem State.logN_acq (s : State) (typ : Nat) (pl : List Nat) : (s.logN typ pl).acq = s.acq := State.log_acq s typ _
@[simp] theorem State.logN_computing (s : State) (typ : Nat) (pl : List Nat) : (s.logN typ pl).computing = s.computing := State.log_computing s typ _
@[simp] theorem State.logN_sv (s : State) (typ : Nat) (pl : List Nat) : (s.logN typ pl).sv = s.sv := State.log_sv s typ _
@[simp] theorem State.logN_hall (s : State) (typ : Nat) (pl : List Nat) : (s.logN typ pl).hall = s.hall := State.log_hall s typ _
@[simp] theorem State.logN_flows (s : State) (typ : Nat) (pl : List Nat) : (s.logN typ pl).flows = s.flows := State.log_flows s typ _
@[simp] theorem State.logN_host (s : State) (typ : Nat) (pl : List Nat) : (s.logN typ pl).host = s.host := State.log_host s typ _
@[simp] theorem State.logN_rslots (s : State) (typ : Nat) (pl : List Nat) : (s.logN typ pl).rslots = s.rslots := State.log_rslots s typ _
@[simp] theorem State.logN_rqueue (s : State) (typ : Nat) (pl : List Nat) : (s.logN typ pl).rqueue = s.rqueue := State.log_rqueue s typ _
@[simp] theorem State.logN_ctxs (s : State) (typ : Nat) (pl : List Nat) : (s.logN typ pl).ctxs = s.ctxs := State.log_ctxs s typ _
@[simp] theorem State.logN_sctxs (s : State) (typ : Nat) (pl : List Nat) : (s.logN typ pl).sctxs = s.sctxs := State.log_sctxs s typ _
@[simp] theorem State.logN_hCtx (s : State) (typ : Nat) (pl : List Nat) : (s.logN typ pl).hCtx = s.hCtx := State.log_hCtx s typ _
@[simp] theorem State.logN_est (s : State) (typ : Nat) (pl : List Nat) : (s.logN typ pl).est = s.est := State.log_est s typ _
@[simp] theorem State.logN_shuts (s : State) (typ : Nat) (pl : List Nat) : (s.logN typ pl).shuts = s.shuts := State.log_shuts s typ _
@[simp] theorem State.logN_shutMods (s : State) (typ : Nat) (pl : List Nat) : (s.logN typ pl).shutMods = s.shutMods := State.log_shutMods s typ _
@[simp] theorem State.logN_bal (s : State) (typ : Nat) (pl : List Nat) : (s.logN typ pl).bal = s.bal := State.log_bal s typ _
@[simp] theorem State.logN_engs (s : State) (typ : Nat) (pl : List Nat) : (s.logN typ pl).engs = s.engs := State.log_engs s typ _
@[simp] theorem State.logN_txs (s : State) (typ : Nat) (pl : List Nat) : (s.logN typ pl).txs = s.txs := State.log_txs s typ _
@[simp] theorem State.logN_rxs (s : State) (typ : Nat) (pl : List Nat) : (s.logN typ pl).rxs = s.rxs := State.log_rxs s typ _
@[simp] theorem State.logN_code (s : State) (typ : Nat) (pl : List Nat) : (s.logN typ pl).code = s.code := State.log_code s typ _
@[simp] theorem State.logN_sEp (s : State) (typ : Nat) (pl : List Nat) : (s.logN typ pl).sEp = s.sEp := State.log_sEp s typ _
@[simp] theorem State.logN_hEp (s : State) (typ : Nat) (pl : List Nat) : (s.logN typ pl).hEp = s.hEp := State.log_hEp s typ _
@[simp] theorem State.sendPair_pending (s : State) (typ : Nat) (ws : List Word) : (s.sendPair typ ws).pending = s.pending := by unfold State.sendPair; split <;> rfl
@[simp] theorem State.sendPair_fresh (s : State) (typ : Nat) (ws : List Word) : (s.sendPair typ ws).fresh = s.fresh := by unfold State.sendPair; split <;> rfl
@[simp] theorem State.sendPair_time (s : State) (typ : Nat) (ws : List Word) : (s.sendPair typ ws).time = s.time := by unfold State.sendPair; split <;> rfl
@[simp] theorem State.sendPair_load (s : State) (typ : Nat) (ws : List Word) : (s.sendPair typ ws).load = s.load := by unfold State.sendPair; split <;> rfl
@[simp] theorem State.sendPair_start (s : State) (typ : Nat) (ws : List Word) : (s.sendPair typ ws).start = s.start := by unfold State.sendPair; split <;> rfl
@[simp] theorem State.sendPair_supply (s : State) (typ : Nat) (ws : List Word) : (s.sendPair typ ws).supply = s.supply := by unfold State.sendPair; split <;> rfl
@[simp] theorem State.sendPair_dev (s : State) (typ : Nat) (ws : List Word) : (s.sendPair typ ws).dev = s.dev := by unfold State.sendPair; split <;> rfl
@[simp] theorem State.sendPair_pages (s : State) (typ : Nat) (ws : List Word) : (s.sendPair typ ws).pages = s.pages := by unfold State.sendPair; split <;> rfl
@[simp] theorem State.sendPair_regs (s : State) (typ : Nat) (ws : List Word) : (s.sendPair typ ws).regs = s.regs := by unfold State.sendPair; split <;> rfl
@[simp] theorem State.sendPair_mbx (s : State) (typ : Nat) (ws : List Word) : (s.sendPair typ ws).mbx = s.mbx := by unfold State.sendPair; split <;> rfl
@[simp] theorem State.sendPair_shadow (s : State) (typ : Nat) (ws : List Word) : (s.sendPair typ ws).shadow = s.shadow := by unfold State.sendPair; split <;> rfl
@[simp] theorem State.sendPair_latch (s : State) (typ : Nat) (ws : List Word) : (s.sendPair typ ws).latch = s.latch := by unfold State.sendPair; split <;> rfl
@[simp] theorem State.sendPair_gal (s : State) (typ : Nat) (ws : List Word) : (s.sendPair typ ws).gal = s.gal := by unfold State.sendPair; split <;> rfl
@[simp] theorem State.sendPair_stw (s : State) (typ : Nat) (ws : List Word) : (s.sendPair typ ws).stw = s.stw := by unfold State.sendPair; split <;> rfl
@[simp] theorem State.sendPair_mgmt (s : State) (typ : Nat) (ws : List Word) : (s.sendPair typ ws).mgmt = s.mgmt := by unfold State.sendPair; split <;> rfl
@[simp] theorem State.sendPair_gen (s : State) (typ : Nat) (ws : List Word) : (s.sendPair typ ws).gen = s.gen := by unfold State.sendPair; split <;> rfl
@[simp] theorem State.sendPair_otp (s : State) (typ : Nat) (ws : List Word) : (s.sendPair typ ws).otp = s.otp := by unfold State.sendPair; split <;> rfl
@[simp] theorem State.sendPair_sw (s : State) (typ : Nat) (ws : List Word) : (s.sendPair typ ws).sw = s.sw := by unfold State.sendPair; split <;> rfl
@[simp] theorem State.sendPair_auth (s : State) (typ : Nat) (ws : List Word) : (s.sendPair typ ws).auth = s.auth := by unfold State.sendPair; split <;> rfl
@[simp] theorem State.sendPair_mode (s : State) (typ : Nat) (ws : List Word) : (s.sendPair typ ws).mode = s.mode := by unfold State.sendPair; split <;> rfl
@[simp] theorem State.sendPair_land (s : State) (typ : Nat) (ws : List Word) : (s.sendPair typ ws).land = s.land := by unfold State.sendPair; split <;> rfl
@[simp] theorem State.sendPair_fw (s : State) (typ : Nat) (ws : List Word) : (s.sendPair typ ws).fw = s.fw := by unfold State.sendPair; split <;> rfl
@[simp] theorem State.sendPair_ports (s : State) (typ : Nat) (ws : List Word) : (s.sendPair typ ws).ports = s.ports := by unfold State.sendPair; split <;> rfl
@[simp] theorem State.sendPair_mons (s : State) (typ : Nat) (ws : List Word) : (s.sendPair typ ws).mons = s.mons := by unfold State.sendPair; split <;> rfl
@[simp] theorem State.sendPair_mods (s : State) (typ : Nat) (ws : List Word) : (s.sendPair typ ws).mods = s.mods := by unfold State.sendPair; split <;> rfl
@[simp] theorem State.sendPair_temps (s : State) (typ : Nat) (ws : List Word) : (s.sendPair typ ws).temps = s.temps := by unfold State.sendPair; split <;> rfl
@[simp] theorem State.sendPair_wires (s : State) (typ : Nat) (ws : List Word) : (s.sendPair typ ws).wires = s.wires := by unfold State.sendPair; split <;> rfl
@[simp] theorem State.sendPair_cells (s : State) (typ : Nat) (ws : List Word) : (s.sendPair typ ws).cells = s.cells := by unfold State.sendPair; split <;> rfl
@[simp] theorem State.sendPair_chans (s : State) (typ : Nat) (ws : List Word) : (s.sendPair typ ws).chans = s.chans := by unfold State.sendPair; split <;> rfl
@[simp] theorem State.sendPair_clkPresent (s : State) (typ : Nat) (ws : List Word) : (s.sendPair typ ws).clkPresent = s.clkPresent := by unfold State.sendPair; split <;> rfl
@[simp] theorem State.sendPair_clkDrive (s : State) (typ : Nat) (ws : List Word) : (s.sendPair typ ws).clkDrive = s.clkDrive := by unfold State.sendPair; split <;> rfl
@[simp] theorem State.sendPair_slots (s : State) (typ : Nat) (ws : List Word) : (s.sendPair typ ws).slots = s.slots := by unfold State.sendPair; split <;> rfl
@[simp] theorem State.sendPair_limits (s : State) (typ : Nat) (ws : List Word) : (s.sendPair typ ws).limits = s.limits := by unfold State.sendPair; split <;> rfl
@[simp] theorem State.sendPair_levels (s : State) (typ : Nat) (ws : List Word) : (s.sendPair typ ws).levels = s.levels := by unfold State.sendPair; split <;> rfl
@[simp] theorem State.sendPair_prot (s : State) (typ : Nat) (ws : List Word) : (s.sendPair typ ws).prot = s.prot := by unfold State.sendPair; split <;> rfl
@[simp] theorem State.sendPair_waits (s : State) (typ : Nat) (ws : List Word) : (s.sendPair typ ws).waits = s.waits := by unfold State.sendPair; split <;> rfl
@[simp] theorem State.sendPair_strs (s : State) (typ : Nat) (ws : List Word) : (s.sendPair typ ws).strs = s.strs := by unfold State.sendPair; split <;> rfl
@[simp] theorem State.sendPair_coils (s : State) (typ : Nat) (ws : List Word) : (s.sendPair typ ws).coils = s.coils := by unfold State.sendPair; split <;> rfl
@[simp] theorem State.sendPair_qds (s : State) (typ : Nat) (ws : List Word) : (s.sendPair typ ws).qds = s.qds := by unfold State.sendPair; split <;> rfl
@[simp] theorem State.sendPair_acSeq (s : State) (typ : Nat) (ws : List Word) : (s.sendPair typ ws).acSeq = s.acSeq := by unfold State.sendPair; split <;> rfl
@[simp] theorem State.sendPair_join (s : State) (typ : Nat) (ws : List Word) : (s.sendPair typ ws).join = s.join := by unfold State.sendPair; split <;> rfl
@[simp] theorem State.sendPair_bfc (s : State) (typ : Nat) (ws : List Word) : (s.sendPair typ ws).bfc = s.bfc := by unfold State.sendPair; split <;> rfl
@[simp] theorem State.sendPair_bvl (s : State) (typ : Nat) (ws : List Word) : (s.sendPair typ ws).bvl = s.bvl := by unfold State.sendPair; split <;> rfl
@[simp] theorem State.sendPair_safeCh (s : State) (typ : Nat) (ws : List Word) : (s.sendPair typ ws).safeCh = s.safeCh := by unfold State.sendPair; split <;> rfl
@[simp] theorem State.sendPair_banPair (s : State) (typ : Nat) (ws : List Word) : (s.sendPair typ ws).banPair = s.banPair := by unfold State.sendPair; split <;> rfl
@[simp] theorem State.sendPair_safeSrc (s : State) (typ : Nat) (ws : List Word) : (s.sendPair typ ws).safeSrc = s.safeSrc := by unfold State.sendPair; split <;> rfl
@[simp] theorem State.sendPair_tones (s : State) (typ : Nat) (ws : List Word) : (s.sendPair typ ws).tones = s.tones := by unfold State.sendPair; split <;> rfl
@[simp] theorem State.sendPair_tp (s : State) (typ : Nat) (ws : List Word) : (s.sendPair typ ws).tp = s.tp := by unfold State.sendPair; split <;> rfl
@[simp] theorem State.sendPair_ban (s : State) (typ : Nat) (ws : List Word) : (s.sendPair typ ws).ban = s.ban := by unfold State.sendPair; split <;> rfl
@[simp] theorem State.sendPair_scor (s : State) (typ : Nat) (ws : List Word) : (s.sendPair typ ws).scor = s.scor := by unfold State.sendPair; split <;> rfl
@[simp] theorem State.sendPair_cans (s : State) (typ : Nat) (ws : List Word) : (s.sendPair typ ws).cans = s.cans := by unfold State.sendPair; split <;> rfl
@[simp] theorem State.sendPair_bufs (s : State) (typ : Nat) (ws : List Word) : (s.sendPair typ ws).bufs = s.bufs := by unfold State.sendPair; split <;> rfl
@[simp] theorem State.sendPair_syncT (s : State) (typ : Nat) (ws : List Word) : (s.sendPair typ ws).syncT = s.syncT := by unfold State.sendPair; split <;> rfl
@[simp] theorem State.sendPair_acq (s : State) (typ : Nat) (ws : List Word) : (s.sendPair typ ws).acq = s.acq := by unfold State.sendPair; split <;> rfl
@[simp] theorem State.sendPair_computing (s : State) (typ : Nat) (ws : List Word) : (s.sendPair typ ws).computing = s.computing := by unfold State.sendPair; split <;> rfl
@[simp] theorem State.sendPair_sv (s : State) (typ : Nat) (ws : List Word) : (s.sendPair typ ws).sv = s.sv := by unfold State.sendPair; split <;> rfl
@[simp] theorem State.sendPair_hall (s : State) (typ : Nat) (ws : List Word) : (s.sendPair typ ws).hall = s.hall := by unfold State.sendPair; split <;> rfl
@[simp] theorem State.sendPair_flows (s : State) (typ : Nat) (ws : List Word) : (s.sendPair typ ws).flows = s.flows := by unfold State.sendPair; split <;> rfl
@[simp] theorem State.sendPair_host (s : State) (typ : Nat) (ws : List Word) : (s.sendPair typ ws).host = s.host := by unfold State.sendPair; split <;> rfl
@[simp] theorem State.sendPair_rslots (s : State) (typ : Nat) (ws : List Word) : (s.sendPair typ ws).rslots = s.rslots := by unfold State.sendPair; split <;> rfl
@[simp] theorem State.sendPair_rqueue (s : State) (typ : Nat) (ws : List Word) : (s.sendPair typ ws).rqueue = s.rqueue := by unfold State.sendPair; split <;> rfl
@[simp] theorem State.sendPair_ctxs (s : State) (typ : Nat) (ws : List Word) : (s.sendPair typ ws).ctxs = s.ctxs := by unfold State.sendPair; split <;> rfl
@[simp] theorem State.sendPair_sctxs (s : State) (typ : Nat) (ws : List Word) : (s.sendPair typ ws).sctxs = s.sctxs := by unfold State.sendPair; split <;> rfl
@[simp] theorem State.sendPair_hCtx (s : State) (typ : Nat) (ws : List Word) : (s.sendPair typ ws).hCtx = s.hCtx := by unfold State.sendPair; split <;> rfl
@[simp] theorem State.sendPair_est (s : State) (typ : Nat) (ws : List Word) : (s.sendPair typ ws).est = s.est := by unfold State.sendPair; split <;> rfl
@[simp] theorem State.sendPair_shuts (s : State) (typ : Nat) (ws : List Word) : (s.sendPair typ ws).shuts = s.shuts := by unfold State.sendPair; split <;> rfl
@[simp] theorem State.sendPair_shutMods (s : State) (typ : Nat) (ws : List Word) : (s.sendPair typ ws).shutMods = s.shutMods := by unfold State.sendPair; split <;> rfl
@[simp] theorem State.sendPair_bal (s : State) (typ : Nat) (ws : List Word) : (s.sendPair typ ws).bal = s.bal := by unfold State.sendPair; split <;> rfl
@[simp] theorem State.sendPair_engs (s : State) (typ : Nat) (ws : List Word) : (s.sendPair typ ws).engs = s.engs := by unfold State.sendPair; split <;> rfl
@[simp] theorem State.sendPair_txs (s : State) (typ : Nat) (ws : List Word) : (s.sendPair typ ws).txs = s.txs := by unfold State.sendPair; split <;> rfl
@[simp] theorem State.sendPair_rxs (s : State) (typ : Nat) (ws : List Word) : (s.sendPair typ ws).rxs = s.rxs := by unfold State.sendPair; split <;> rfl
@[simp] theorem State.sendPair_code (s : State) (typ : Nat) (ws : List Word) : (s.sendPair typ ws).code = s.code := by unfold State.sendPair; split <;> rfl
@[simp] theorem State.sendPair_sEp (s : State) (typ : Nat) (ws : List Word) : (s.sendPair typ ws).sEp = s.sEp := by unfold State.sendPair; split <;> rfl
@[simp] theorem State.sendPair_hEp (s : State) (typ : Nat) (ws : List Word) : (s.sendPair typ ws).hEp = s.hEp := by unfold State.sendPair; split <;> rfl
@[simp] theorem State.freeBool_pending (s : State) : (s.freeBool).2.pending = s.pending := rfl
@[simp] theorem State.freeBool_out (s : State) : (s.freeBool).2.out = s.out := rfl
@[simp] theorem State.freeBool_time (s : State) : (s.freeBool).2.time = s.time := rfl
@[simp] theorem State.freeBool_load (s : State) : (s.freeBool).2.load = s.load := rfl
@[simp] theorem State.freeBool_start (s : State) : (s.freeBool).2.start = s.start := rfl
@[simp] theorem State.freeBool_supply (s : State) : (s.freeBool).2.supply = s.supply := rfl
@[simp] theorem State.freeBool_dev (s : State) : (s.freeBool).2.dev = s.dev := rfl
@[simp] theorem State.freeBool_pages (s : State) : (s.freeBool).2.pages = s.pages := rfl
@[simp] theorem State.freeBool_regs (s : State) : (s.freeBool).2.regs = s.regs := rfl
@[simp] theorem State.freeBool_mbx (s : State) : (s.freeBool).2.mbx = s.mbx := rfl
@[simp] theorem State.freeBool_shadow (s : State) : (s.freeBool).2.shadow = s.shadow := rfl
@[simp] theorem State.freeBool_latch (s : State) : (s.freeBool).2.latch = s.latch := rfl
@[simp] theorem State.freeBool_gal (s : State) : (s.freeBool).2.gal = s.gal := rfl
@[simp] theorem State.freeBool_stw (s : State) : (s.freeBool).2.stw = s.stw := rfl
@[simp] theorem State.freeBool_mgmt (s : State) : (s.freeBool).2.mgmt = s.mgmt := rfl
@[simp] theorem State.freeBool_gen (s : State) : (s.freeBool).2.gen = s.gen := rfl
@[simp] theorem State.freeBool_otp (s : State) : (s.freeBool).2.otp = s.otp := rfl
@[simp] theorem State.freeBool_sw (s : State) : (s.freeBool).2.sw = s.sw := rfl
@[simp] theorem State.freeBool_auth (s : State) : (s.freeBool).2.auth = s.auth := rfl
@[simp] theorem State.freeBool_mode (s : State) : (s.freeBool).2.mode = s.mode := rfl
@[simp] theorem State.freeBool_land (s : State) : (s.freeBool).2.land = s.land := rfl
@[simp] theorem State.freeBool_fw (s : State) : (s.freeBool).2.fw = s.fw := rfl
@[simp] theorem State.freeBool_ports (s : State) : (s.freeBool).2.ports = s.ports := rfl
@[simp] theorem State.freeBool_mons (s : State) : (s.freeBool).2.mons = s.mons := rfl
@[simp] theorem State.freeBool_mods (s : State) : (s.freeBool).2.mods = s.mods := rfl
@[simp] theorem State.freeBool_temps (s : State) : (s.freeBool).2.temps = s.temps := rfl
@[simp] theorem State.freeBool_wires (s : State) : (s.freeBool).2.wires = s.wires := rfl
@[simp] theorem State.freeBool_cells (s : State) : (s.freeBool).2.cells = s.cells := rfl
@[simp] theorem State.freeBool_chans (s : State) : (s.freeBool).2.chans = s.chans := rfl
@[simp] theorem State.freeBool_clkPresent (s : State) : (s.freeBool).2.clkPresent = s.clkPresent := rfl
@[simp] theorem State.freeBool_clkDrive (s : State) : (s.freeBool).2.clkDrive = s.clkDrive := rfl
@[simp] theorem State.freeBool_slots (s : State) : (s.freeBool).2.slots = s.slots := rfl
@[simp] theorem State.freeBool_limits (s : State) : (s.freeBool).2.limits = s.limits := rfl
@[simp] theorem State.freeBool_levels (s : State) : (s.freeBool).2.levels = s.levels := rfl
@[simp] theorem State.freeBool_prot (s : State) : (s.freeBool).2.prot = s.prot := rfl
@[simp] theorem State.freeBool_waits (s : State) : (s.freeBool).2.waits = s.waits := rfl
@[simp] theorem State.freeBool_strs (s : State) : (s.freeBool).2.strs = s.strs := rfl
@[simp] theorem State.freeBool_coils (s : State) : (s.freeBool).2.coils = s.coils := rfl
@[simp] theorem State.freeBool_qds (s : State) : (s.freeBool).2.qds = s.qds := rfl
@[simp] theorem State.freeBool_acSeq (s : State) : (s.freeBool).2.acSeq = s.acSeq := rfl
@[simp] theorem State.freeBool_join (s : State) : (s.freeBool).2.join = s.join := rfl
@[simp] theorem State.freeBool_bfc (s : State) : (s.freeBool).2.bfc = s.bfc := rfl
@[simp] theorem State.freeBool_bvl (s : State) : (s.freeBool).2.bvl = s.bvl := rfl
@[simp] theorem State.freeBool_safeCh (s : State) : (s.freeBool).2.safeCh = s.safeCh := rfl
@[simp] theorem State.freeBool_banPair (s : State) : (s.freeBool).2.banPair = s.banPair := rfl
@[simp] theorem State.freeBool_safeSrc (s : State) : (s.freeBool).2.safeSrc = s.safeSrc := rfl
@[simp] theorem State.freeBool_tones (s : State) : (s.freeBool).2.tones = s.tones := rfl
@[simp] theorem State.freeBool_tp (s : State) : (s.freeBool).2.tp = s.tp := rfl
@[simp] theorem State.freeBool_ban (s : State) : (s.freeBool).2.ban = s.ban := rfl
@[simp] theorem State.freeBool_scor (s : State) : (s.freeBool).2.scor = s.scor := rfl
@[simp] theorem State.freeBool_pair (s : State) : (s.freeBool).2.pair = s.pair := rfl
@[simp] theorem State.freeBool_cans (s : State) : (s.freeBool).2.cans = s.cans := rfl
@[simp] theorem State.freeBool_bufs (s : State) : (s.freeBool).2.bufs = s.bufs := rfl
@[simp] theorem State.freeBool_syncT (s : State) : (s.freeBool).2.syncT = s.syncT := rfl
@[simp] theorem State.freeBool_acq (s : State) : (s.freeBool).2.acq = s.acq := rfl
@[simp] theorem State.freeBool_computing (s : State) : (s.freeBool).2.computing = s.computing := rfl
@[simp] theorem State.freeBool_sv (s : State) : (s.freeBool).2.sv = s.sv := rfl
@[simp] theorem State.freeBool_hall (s : State) : (s.freeBool).2.hall = s.hall := rfl
@[simp] theorem State.freeBool_flows (s : State) : (s.freeBool).2.flows = s.flows := rfl
@[simp] theorem State.freeBool_host (s : State) : (s.freeBool).2.host = s.host := rfl
@[simp] theorem State.freeBool_rslots (s : State) : (s.freeBool).2.rslots = s.rslots := rfl
@[simp] theorem State.freeBool_rqueue (s : State) : (s.freeBool).2.rqueue = s.rqueue := rfl
@[simp] theorem State.freeBool_ctxs (s : State) : (s.freeBool).2.ctxs = s.ctxs := rfl
@[simp] theorem State.freeBool_sctxs (s : State) : (s.freeBool).2.sctxs = s.sctxs := rfl
@[simp] theorem State.freeBool_hCtx (s : State) : (s.freeBool).2.hCtx = s.hCtx := rfl
@[simp] theorem State.freeBool_est (s : State) : (s.freeBool).2.est = s.est := rfl
@[simp] theorem State.freeBool_shuts (s : State) : (s.freeBool).2.shuts = s.shuts := rfl
@[simp] theorem State.freeBool_shutMods (s : State) : (s.freeBool).2.shutMods = s.shutMods := rfl
@[simp] theorem State.freeBool_bal (s : State) : (s.freeBool).2.bal = s.bal := rfl
@[simp] theorem State.freeBool_engs (s : State) : (s.freeBool).2.engs = s.engs := rfl
@[simp] theorem State.freeBool_txs (s : State) : (s.freeBool).2.txs = s.txs := rfl
@[simp] theorem State.freeBool_rxs (s : State) : (s.freeBool).2.rxs = s.rxs := rfl
@[simp] theorem State.freeBool_code (s : State) : (s.freeBool).2.code = s.code := rfl
@[simp] theorem State.freeBool_sEp (s : State) : (s.freeBool).2.sEp = s.sEp := rfl
@[simp] theorem State.freeBool_hEp (s : State) : (s.freeBool).2.hEp = s.hEp := rfl
@[simp] theorem State.freeBool_fresh (s : State) : (s.freeBool).2.fresh = s.fresh + 1 := rfl
@[simp] theorem State.freeWord_pending (s : State) : (s.freeWord).2.pending = s.pending := rfl
@[simp] theorem State.freeWord_out (s : State) : (s.freeWord).2.out = s.out := rfl
@[simp] theorem State.freeWord_time (s : State) : (s.freeWord).2.time = s.time := rfl
@[simp] theorem State.freeWord_load (s : State) : (s.freeWord).2.load = s.load := rfl
@[simp] theorem State.freeWord_start (s : State) : (s.freeWord).2.start = s.start := rfl
@[simp] theorem State.freeWord_supply (s : State) : (s.freeWord).2.supply = s.supply := rfl
@[simp] theorem State.freeWord_dev (s : State) : (s.freeWord).2.dev = s.dev := rfl
@[simp] theorem State.freeWord_pages (s : State) : (s.freeWord).2.pages = s.pages := rfl
@[simp] theorem State.freeWord_regs (s : State) : (s.freeWord).2.regs = s.regs := rfl
@[simp] theorem State.freeWord_mbx (s : State) : (s.freeWord).2.mbx = s.mbx := rfl
@[simp] theorem State.freeWord_shadow (s : State) : (s.freeWord).2.shadow = s.shadow := rfl
@[simp] theorem State.freeWord_latch (s : State) : (s.freeWord).2.latch = s.latch := rfl
@[simp] theorem State.freeWord_gal (s : State) : (s.freeWord).2.gal = s.gal := rfl
@[simp] theorem State.freeWord_stw (s : State) : (s.freeWord).2.stw = s.stw := rfl
@[simp] theorem State.freeWord_mgmt (s : State) : (s.freeWord).2.mgmt = s.mgmt := rfl
@[simp] theorem State.freeWord_gen (s : State) : (s.freeWord).2.gen = s.gen := rfl
@[simp] theorem State.freeWord_otp (s : State) : (s.freeWord).2.otp = s.otp := rfl
@[simp] theorem State.freeWord_sw (s : State) : (s.freeWord).2.sw = s.sw := rfl
@[simp] theorem State.freeWord_auth (s : State) : (s.freeWord).2.auth = s.auth := rfl
@[simp] theorem State.freeWord_mode (s : State) : (s.freeWord).2.mode = s.mode := rfl
@[simp] theorem State.freeWord_land (s : State) : (s.freeWord).2.land = s.land := rfl
@[simp] theorem State.freeWord_fw (s : State) : (s.freeWord).2.fw = s.fw := rfl
@[simp] theorem State.freeWord_ports (s : State) : (s.freeWord).2.ports = s.ports := rfl
@[simp] theorem State.freeWord_mons (s : State) : (s.freeWord).2.mons = s.mons := rfl
@[simp] theorem State.freeWord_mods (s : State) : (s.freeWord).2.mods = s.mods := rfl
@[simp] theorem State.freeWord_temps (s : State) : (s.freeWord).2.temps = s.temps := rfl
@[simp] theorem State.freeWord_wires (s : State) : (s.freeWord).2.wires = s.wires := rfl
@[simp] theorem State.freeWord_cells (s : State) : (s.freeWord).2.cells = s.cells := rfl
@[simp] theorem State.freeWord_chans (s : State) : (s.freeWord).2.chans = s.chans := rfl
@[simp] theorem State.freeWord_clkPresent (s : State) : (s.freeWord).2.clkPresent = s.clkPresent := rfl
@[simp] theorem State.freeWord_clkDrive (s : State) : (s.freeWord).2.clkDrive = s.clkDrive := rfl
@[simp] theorem State.freeWord_slots (s : State) : (s.freeWord).2.slots = s.slots := rfl
@[simp] theorem State.freeWord_limits (s : State) : (s.freeWord).2.limits = s.limits := rfl
@[simp] theorem State.freeWord_levels (s : State) : (s.freeWord).2.levels = s.levels := rfl
@[simp] theorem State.freeWord_prot (s : State) : (s.freeWord).2.prot = s.prot := rfl
@[simp] theorem State.freeWord_waits (s : State) : (s.freeWord).2.waits = s.waits := rfl
@[simp] theorem State.freeWord_strs (s : State) : (s.freeWord).2.strs = s.strs := rfl
@[simp] theorem State.freeWord_coils (s : State) : (s.freeWord).2.coils = s.coils := rfl
@[simp] theorem State.freeWord_qds (s : State) : (s.freeWord).2.qds = s.qds := rfl
@[simp] theorem State.freeWord_acSeq (s : State) : (s.freeWord).2.acSeq = s.acSeq := rfl
@[simp] theorem State.freeWord_join (s : State) : (s.freeWord).2.join = s.join := rfl
@[simp] theorem State.freeWord_bfc (s : State) : (s.freeWord).2.bfc = s.bfc := rfl
@[simp] theorem State.freeWord_bvl (s : State) : (s.freeWord).2.bvl = s.bvl := rfl
@[simp] theorem State.freeWord_safeCh (s : State) : (s.freeWord).2.safeCh = s.safeCh := rfl
@[simp] theorem State.freeWord_banPair (s : State) : (s.freeWord).2.banPair = s.banPair := rfl
@[simp] theorem State.freeWord_safeSrc (s : State) : (s.freeWord).2.safeSrc = s.safeSrc := rfl
@[simp] theorem State.freeWord_tones (s : State) : (s.freeWord).2.tones = s.tones := rfl
@[simp] theorem State.freeWord_tp (s : State) : (s.freeWord).2.tp = s.tp := rfl
@[simp] theorem State.freeWord_ban (s : State) : (s.freeWord).2.ban = s.ban := rfl
@[simp] theorem State.freeWord_scor (s : State) : (s.freeWord).2.scor = s.scor := rfl
@[simp] theorem State.freeWord_pair (s : State) : (s.freeWord).2.pair = s.pair := rfl
@[simp] theorem State.freeWord_cans (s : State) : (s.freeWord).2.cans = s.cans := rfl
@[simp] theorem State.freeWord_bufs (s : State) : (s.freeWord).2.bufs = s.bufs := rfl
@[simp] theorem State.freeWord_syncT (s : State) : (s.freeWord).2.syncT = s.syncT := rfl
@[simp] theorem State.freeWord_acq (s : State) : (s.freeWord).2.acq = s.acq := rfl
@[simp] theorem State.freeWord_computing (s : State) : (s.freeWord).2.computing = s.computing := rfl
@[simp] theorem State.freeWord_sv (s : State) : (s.freeWord).2.sv = s.sv := rfl
@[simp] theorem State.freeWord_hall (s : State) : (s.freeWord).2.hall = s.hall := rfl
@[simp] theorem State.freeWord_flows (s : State) : (s.freeWord).2.flows = s.flows := rfl
@[simp] theorem State.freeWord_host (s : State) : (s.freeWord).2.host = s.host := rfl
@[simp] theorem State.freeWord_rslots (s : State) : (s.freeWord).2.rslots = s.rslots := rfl
@[simp] theorem State.freeWord_rqueue (s : State) : (s.freeWord).2.rqueue = s.rqueue := rfl
@[simp] theorem State.freeWord_ctxs (s : State) : (s.freeWord).2.ctxs = s.ctxs := rfl
@[simp] theorem State.freeWord_sctxs (s : State) : (s.freeWord).2.sctxs = s.sctxs := rfl
@[simp] theorem State.freeWord_hCtx (s : State) : (s.freeWord).2.hCtx = s.hCtx := rfl
@[simp] theorem State.freeWord_est (s : State) : (s.freeWord).2.est = s.est := rfl
@[simp] theorem State.freeWord_shuts (s : State) : (s.freeWord).2.shuts = s.shuts := rfl
@[simp] theorem State.freeWord_shutMods (s : State) : (s.freeWord).2.shutMods = s.shutMods := rfl
@[simp] theorem State.freeWord_bal (s : State) : (s.freeWord).2.bal = s.bal := rfl
@[simp] theorem State.freeWord_engs (s : State) : (s.freeWord).2.engs = s.engs := rfl
@[simp] theorem State.freeWord_txs (s : State) : (s.freeWord).2.txs = s.txs := rfl
@[simp] theorem State.freeWord_rxs (s : State) : (s.freeWord).2.rxs = s.rxs := rfl
@[simp] theorem State.freeWord_code (s : State) : (s.freeWord).2.code = s.code := rfl
@[simp] theorem State.freeWord_sEp (s : State) : (s.freeWord).2.sEp = s.sEp := rfl
@[simp] theorem State.freeWord_hEp (s : State) : (s.freeWord).2.hEp = s.hEp := rfl
@[simp] theorem State.freeWord_fresh (s : State) : (s.freeWord).2.fresh = s.fresh + 1 := rfl

@[simp] theorem State.reach_now (s : State) (t : Nat) : (s.reach t).now = Nat.max s.now t := rfl
@[simp] theorem State.emit_out (s : State) (o : Out) : (s.emit o).out = o :: s.out := rfl
@[simp] theorem State.raise_evt (s : State) (pg n : Nat) : ((s.raise pg n).page pg).evt = (s.page pg).evt ||| (1#32 <<< n) := by
  simp [State.raise]
@[simp] theorem State.evtClear_evt (s : State) (pg : Nat) (m : Word) : ((s.evtClear pg m).page pg).evt = (s.page pg).evt &&& ~~~m := by
  simp [State.evtClear]
@[simp] theorem State.bumpCfg_cfgseq (s : State) (pg : Nat) : ((s.bumpCfg pg).page pg).cfgseq = (s.page pg).cfgseq + 1#32 := by
  simp [State.bumpCfg]
/-- A stored register reads what was written last. -/
@[simp] theorem State.setReg_reg (s : State) (pg off : Nat) (w : Word) : (s.setReg pg off w).reg pg off = w := by
  simp [State.reg, State.setReg]
theorem State.setReg_reg_ne (s : State) {pg off pg2 off2 : Nat} (w : Word) (h : regAddr pg2 off2 ≠ regAddr pg off) :
    (s.setReg pg off w).reg pg2 off2 = s.reg pg2 off2 := by
  simp only [State.reg, State.setReg, slook_sput_ne _ _ h]; rfl
/-- A record enters the append FIFO while it has room (R26). -/
theorem State.log_fifo (s : State) (typ : Nat) (pl : List Word) (h : s.gal.fifo.length < Config.appendMax) :
    (s.log typ pl).gal.fifo = s.gal.fifo ++ [s.galEntry typ pl] ∧ (s.log typ pl).gal.lost = s.gal.lost ∧
      (s.log typ pl).pages = s.pages := by
  simp [State.log, h]
/-- A full FIFO counts the record as lost and sets RECORDS_LOST (R26). -/
theorem State.log_full (s : State) (typ : Nat) (pl : List Word) (h : ¬ s.gal.fifo.length < Config.appendMax) :
    (s.log typ pl).gal.fifo = s.gal.fifo ∧ (s.log typ pl).gal.lost = s.gal.lost + 1 ∧
      (s.log typ pl).evtBit pGAL 2 = true := by
  simp [State.log, h, State.raise, State.evtBit, State.page, State.updPage, State.setPage]
/-- A record changes the append FIFO, its loss counts and the Gallery's EVT alone. -/
theorem State.log_frame (s : State) (typ : Nat) (pl : List Word) : { s.log typ pl with gal := s.gal, pages := s.pages } = s := by
  unfold State.log; split <;> rfl
theorem State.logN_frame (s : State) (typ : Nat) (pl : List Nat) : { s.logN typ pl with gal := s.gal, pages := s.pages } = s :=
  State.log_frame s typ _
@[simp] theorem foldS_nil {α : Type} (f : State → α → State) (s : State) : foldS [] f s = s := rfl
@[simp] theorem foldS_cons {α : Type} (a : α) (l : List α) (f : State → α → State) (s : State) :
    foldS (a :: l) f s = foldS l f (f s a) := rfl
/-- What every turn of a loop keeps, the loop keeps. -/
theorem foldS_keeps {α β : Type} (p : State → β) (l : List α) (f : State → α → State) (s : State)
    (h : ∀ t a, p (f t a) = p t) : p (foldS l f s) = p s := by
  induction l generalizing s with
  | nil => rfl
  | cons a t ih => exact (ih (f s a)).trans (h s a)
theorem State.when_keeps {β : Type} (p : State → β) (s : State) (c : Bool) (f : State → State) (h : p (f s) = p s) :
    p (s.when c f) = p s := by
  unfold State.when; split
  · exact h
  · rfl
@[simp] theorem State.when_true (s : State) (f : State → State) : s.when true f = f s := rfl
@[simp] theorem State.when_false (s : State) (f : State → State) : s.when false f = s := rfl

end Sys2Proof.Machine
end

