-- ==== Sys2Proof/Laws/Engine.lean ====
section
/-! SUPPORT. What the shared operations of the stair-code engines do. -/
namespace Sys2Proof.Machine

theorem Eng.setReg_advance (g : Eng) (d : RegIx) (v : Word) (p u : Nat) :
    Eng.setReg { g with pc := p, units := u } d v = { g.setReg d v with pc := p, units := u } := by
  unfold Eng.setReg; split <;> rfl
@[simp] theorem Eng.reg_zero (g : Eng) : g.reg 0 = 0#32 := rfl
@[simp] theorem Eng.setReg_zero (g : Eng) (v : Word) : g.setReg 0 v = g := rfl
theorem Eng.reg_setReg (g : Eng) (d r : RegIx) (v : Word) : (g.setReg d v).reg r = if r = d ∧ d ≠ 0 then v else g.reg r := by
  by_cases h : d = 0
  · simp [h]
  · by_cases hr : r = 0
    · have hd : r ≠ d := fun e => h (e ▸ hr)
      simp [hr, Eng.reg, Ne.symm h]
    · by_cases e : r = d
      · subst e; simp [Eng.setReg, Eng.reg, h]
      · have hv : r.val ≠ d.val := fun x => e (Fin.ext x)
        simp [Eng.setReg, Eng.reg, h, hr, e, sget_sset_ne _ _ v hv]
theorem Eng.opS_advance (g : Eng) (op : Opnd) (p u : Nat) : Eng.opS { g with pc := p, units := u } op = g.opS op := by cases op <;> rfl
theorem Eng.opZ_advance (g : Eng) (op : Opnd) (p u : Nat) : Eng.opZ { g with pc := p, units := u } op = g.opZ op := by cases op <;> rfl

/-- An engine that can run executes the instruction: past its words, its units counted, then its effect. -/
theorem State.insn_runs (s : State) (e ws u : Nat) (f : Nat → State → State) (h : s.engCan e = true) :
    s.insn e ws u f = f (s.eng e).pc (s.updEng e (fun g => { g with pc := g.pc + ws, units := g.units + u })) := by
  simp [State.insn, h]
/-- One that cannot executes nothing. -/
theorem State.insn_waits (s : State) (e ws u : Nat) (f : Nat → State → State) (h : s.engCan e = false) : s.insn e ws u f = s := by
  simp [State.insn, h]
/-- An ALU instruction changes the destination, the program counter and the units. -/
theorem State.alu_runs (s : State) (e : Nat) (d : RegIx) (op : Opnd) (u : Nat) (val : Eng → Opnd → Word) (f : Word → Word → Word)
    (hv : ∀ g p n, val { g with pc := p, units := n } op = val g op) (h : s.engCan e = true) :
    s.alu e d op u val f = s.setEng e { (s.eng e).setReg d (f ((s.eng e).reg d) (val (s.eng e) op)) with
      pc := (s.eng e).pc + (1 + opExt op), units := (s.eng e).units + (u + opExt op) } := by
  unfold State.alu
  rw [State.insn_runs _ _ _ _ _ h, State.updEng_twice]
  unfold State.updEng
  congr 1
  simp only [hv, Eng.setReg_advance]
  rfl

end Sys2Proof.Machine
end

