-- ==== Sys2Proof/Tests/Slice0.lean ====
section
/-! SUPPORT. Tests of the model: an ill-formed command for each check of WellFormed, a witness for the hypotheses of the statements
(`wit_<statement>`: concrete states and operands that meet the hypotheses of its clauses, in their order), and results worked out by hand
from the manual. -/
open Sys2Proof Sys2Proof.Machine
namespace Sys2Proof.Tests
set_option Elab.async false

/-- A running active device without partner: READY, port 0 with two modules of 14 cells, epochs sampled since 5 ms. -/
def up : State :=
  { (State.reset) with
    start := { powered := true }, mode := { mode := .ready }, pair := { role := .active }, time := { sampling := true, now := 5000000 },
    regs := [(0x8008, 1#32)], ports := [(0, { state := .running, hFound := 2, blockM := 3, blockS := 7#16 })],
    mons := [(0, { cells := 14, serial := 5 }), (1, { cells := 14, serial := 6 })] }
def okOf (o : Host.Outcome State Fault Refusal) : State := match o with | .next t => t | _ => {}
def raw1 : RawEpoch := { epoch := 1, t := 10000000, sv := {}, snaps := [] }
def ent : GalEntry := { typ := 0x0801, plane := 1, payload := [1, 2], opHours := 0, opSec := 5, pcc := 0, primary := true }
def rec1 : GalRec := { seq := 1, e := ent }
def fifo64 : List GalEntry := List.replicate 64 ent

/-- The same with string 0 on channels 0 (NEG) and 1 (POS) and FEED from outside on channel 2. -/
def upc : State := ((up.setReg pACT 0x800 0x40000000#32).setReg pACT 0x804 0x80000000#32).setReg pACT 0x808 0xFF000000#32
def shutC (c : Nat) (s : State) : State := s.updCoil c (fun k => { k with closeSeq := some 4, coil := true, aux := true, auxRaw := true })
/-- Bus voltage known (400 V), string 0 at 400 V, over-current thresholds and break ratings set, join limit 1 V. -/
def upv : State :=
  { ((((upc.setReg pCUR 0x818 0x00640064#32).setReg pCUR 0x81C 0x00C800C8#32).setReg pPROT 0xA00 10#32).setHep 0 { vStr := some 4000000 })
    with join := { vBus := some 400 }, bfc := { voa := 400, vob := 400, voaLost := false, vobLost := false, viLost := false } }

theorem wit_StepTakesTheFrontCommand : up.pending = [] ∧ State.reset.start.powered = false := by decide +kernel
theorem wit_OscillatorPeriods : up.start.powered = true ∧ up.pending = [] ∧ up.time.oscPhase = 0 := by decide +kernel
theorem wit_InterruptSummaries : 31 < 32 ∧ 11 < 32 := by decide +kernel
/-- The invariant holds at reset, and a step from there answers a next state. -/
theorem wit_StepKeepsMemoriesAndFifos : State.reset.Inv ∧ step State.reset = .next State.reset :=
  ⟨⟨⟨rfl, rfl, trivial, trivial, fun _ => rfl, fun _ => rfl⟩, by decide, by decide⟩, rfl⟩
theorem wit_EpochSampleAndLaunch :
    (let s := { up with acq := [raw1, raw1] }
     s.time.sampling = true ∧ s.mode.trans = none ∧ s.sw.confirmed = none ∧ s.shadow = [] ∧ s.acq.length < 3 ∧ s.land.landing ≠ 2) ∧
    (up.time.sampling = true ∧ up.chainMay = true ∧ up.portServed 0 = true ∧ (up.port 0).sampleSent = false ∧ up.active = true ∧
      (up.port 0).blockM ≠ 0 ∧ up.launchLead 0 ≤ up.tEpoch ∧ up.land.landing ≠ 2) := by decide +kernel
theorem wit_EpochComputationTriggerAndCommit :
    (let s := { up with acq := [raw1] }; s.computing = none ∧ s.acq = [raw1]) ∧
    (let s := { up with computing := some raw1 }
     s.computing = some raw1 ∧ raw1.ready = false ∧ (s.eng 12).source = .rom ∧ (s.eng 12).falling = false ∧ (s.eng 12).next = none) ∧
    (let r := { raw1 with ready := true }
     let s := { up with computing := some r }
     s.computing = some r ∧ r.ready = true ∧ (s.eng 12).running = false ∧ s.now ≤ r.t + s.tEpoch ∧ s.hall.writing < 3) := by decide +kernel
theorem wit_RegisterWrites :
    -- LOCK and EVT of PROT (a control page) and of BAL (data plane); another owner; an absent page
    (pagePresent 0x19 = true ∧ pageClass 0x19 ≠ .mgmt ∧ (up.page 0x19).owner = 0 ∧ shadowPage 0x19 = false ∧ shadowPage 0x15 = true ∧ pageClass 0x15 ≠ .mgmt ∧
      pagePresent 0x15 = true ∧ pagePresent 0x1E = false ∧ 5#32 ≠ word (0x5AFE0000 + 0x19) ∧ 5#32 ≠ 0#32) ∧
    (let s := up.setPage 0x19 { owner := 2 }; ¬ ((s.page 0x19).owner = 0 ∨ (s.page 0x19).owner = Origin.host.code)) ∧
    -- a register of PROT that is refused: RO only, locked, outward of its wall; one that passes
    ((regFlds 0x19 0x00C).isSome = true ∧ up.writeCheck .host 0x19 0x00C 0#32 = some .format) ∧
    (∃ fs, regFlds 0x19 0x00C = some fs ∧ fs.all (fun f => f.acc == .ro) = true) ∧
    (∃ fs, regFlds 0x15 0x100 = some fs ∧ formatOk 0x15 0x100 500#32 fs = true ∧ (up.page 0x15).owner ≠ Origin.host.code) ∧
    (up.writeCheck .host 0x19 0x024 51#32 = some .wall) ∧
    ((regFlds 0x15 0x020).isSome = true ∧ up.writeCheck .host 0x15 0x020 (up.reg 0x15 0x020) = none) ∧
    ((regFlds 0x19 0x024).isSome = true ∧ up.writeCheck .host 0x19 0x024 (up.reg 0x19 0x024) = none) ∧
    (let s := { up with mbx := [⟨.host, 0x19, 0x018, 0, .service⟩] }; s.mbx = [⟨.host, 0x19, 0x018, 0, .service⟩] ∧ s.scor.st ≠ .selftest) := by
  refine ⟨by decide, by decide, by decide, ?_, ?_, by decide, by decide, by decide, by decide⟩
  · exact ⟨_, rfl, by decide⟩
  · exact ⟨_, rfl, by decide, by decide⟩
def resp : ChainFrame := mkFrame 0x83 1 1 0#8 0#8 7#16 [0#8, 0#8]
def cmd3 : ChainFrame := mkFrame 0x03 0 1 0#8 0#8 7#16 []
def tone (flags : Byte) : ChainFrame := mkFrame 0x0C 3 0 0#8 flags 7#16 [2#8, 0#8]
def waits7 (n : Nat) : State := up.updPort 0 (fun p => { p with inFlight := [{ frame := cmd3, hop := 1, resends := n }] })
theorem wit_ChainResponsesAndTimeouts :
    ({ resp with hcrc := resp.hcrc + 1 }).ok = false ∧
    (resp.ok = true ∧ resp.dir = 1#2 ∧ resp.typ = 0x83#8 ∧ resp.flags.toNat / 16 = 0 ∧ up.portEn 0 = true ∧ (up.port 0).toneHeld = false ∧
      up.land.landing ≠ 2 ∧ (up.eng 0).source = .rom) ∧
    (∀ n ∈ [1, 2], let s := waits7 n
      (s.port 0).enumSeq = none ∧ ((s.port 0).inFlight.find? (fun j => j.frame.seq == 7#16)).isSome = true ∧ s.chainMay = true) ∧
    cmd3.typ = 0x03#8 := by decide +kernel
theorem wit_TonesTermSilence :
    (let f := tone 8#8
     f.ok = true ∧ f.dir = 3#2 ∧ f.flags.toNat / 16 = 0 ∧ f.flags.getLsbD 3 = true ∧ (up.port 0).toneHeld = false ∧ (up.port 0).state = .running ∧
      up.stw.trace = none) ∧
    (let f := tone 16#8
     let s := up.updPort 0 (fun p => { p with setRun := 1 })
     f.ok = true ∧ f.dir = 3#2 ∧ f.flags.toNat / 16 ≠ 0 ∧ 1 ≤ (s.port 0).setRun) ∧
    -- a notice that names this term 0 and the newer 1; one that names another
    (let f := mkFrame 0x8B 1 1 1#8 0#8 7#16 [1#8, 0#8]
     f.ok = true ∧ f.flags.toNat / 16 = 0 ∧ f.pl 1 1 = up.term.toNat ∧ newer8 (BitVec.ofNat 8 (f.pl 0 1)) up.term = true ∧ up.pair.role = .active) ∧
    (let f := mkFrame 0x8B 1 1 1#8 0#8 7#16 [1#8, 1#8]; f.ok = true ∧ f.flags.toNat / 16 = 0 ∧ f.pl 1 1 ≠ up.term.toNat) ∧
    (up.portEn 0 = true ∧ (up.port 0).chainSilent = false ∧ (up.toneOf 0).acting = false) ∧
    (let s := up.updPort 0 (fun p => { p with state := .silent })
     (s.port 0).state = .silent ∧ 0 < (s.port 0).hFound ∧ s.active = true ∧ s.chainMay = true ∧ s.stw.trace = none) ∧
    (let s := up.updPort 0 (fun p => { p with state := .recovering })
     (s.port 0).state = .recovering ∧ s.portEn 0 = true ∧ s.strOpen (s.strOfPort 0) = true ∧ s.active = true ∧ s.chainMay = true) := by decide +kernel
theorem wit_HopCalibration :
    up.portEn 0 = true ∧ (up.port 0).state = .running ∧ up.active = true ∧ up.chainMay = true ∧ up.pair.hasPartner = false ∧ up.stw.trace = none ∧
    0 < (up.port 0).hFound ∧ (up.port 0).calibrated = false := by decide +kernel
theorem wit_ShadowedCommands :
    up.strOpen (up.strOfPort 0) = true ∧ (let s := shutC 0 upc; s.strOpen (s.strOfPort 0) = false) ∧
    (maskPorts false 1#32).all up.wbClearable = true ∧ (maskPorts true 0#32).all up.wbClearable = true ∧ up.pinOther .host = false ∧
    (let s := { up with hall := { pin := some ⟨.stairwell, none, 0, false⟩ } }; s.pinOther .host = true) := by decide +kernel
theorem wit_EstimatorClocks :
    (let s := up.setSctx 0 { noRest := up.fld pEST 0x03C 15 0 * 3600 * 1000000000 }
     s.fld pEST 0x03C 15 0 ≠ 0 ∧ s.fld pEST 0x03C 15 0 * 3600 * 1000000000 ≤ (s.sctx 0).noRest ∧ (s.sctx 0).restReq = false) ∧
    (let s := up.setCtx 0 { started := true, epsC := 99/10 }; (s.ctx 0).started = true ∧ (s.ctx 0).epsC ≤ 99/10) := by decide +kernel
def asleep : State := { up with mode := { mode := .dormant }, land := { landing := 3 } }
theorem wit_WakeCommands :
    (asleep.md = .dormant ∧ asleep.land.waking = false ∧ asleep.land.landing = 3 ∧ asleep.mode.trans = none ∧ (asleep.eng 13).source = .rom ∧
      (asleep.eng 13).next = none ∧ (asleep.eng 13).running = false ∧ asleep.portEn 0 = true ∧ asleep.land.mask.getLsbD 0 = false) ∧
    (let s := (asleep.setCan 0 { mode := .sleep }).setReg (canPage 0) 0x008 0x10#32
     (s.can 0).mode = .sleep ∧ (s.can 0).wakeMasked = false ∧ s.fld (canPage 0) 0x008 5 4 = 1) ∧ 20 < 21 ∧ 5000 < 5001 := by decide +kernel
def stBytes (flags : Byte) : List Byte :=
  let b := [0#8, 0x10#8, 0#8, flags, 1#8]
  0xB4#8 :: b ++ leBytes 2 (crc16 b).toNat
theorem wit_CurrentChannelEvents :
    (up.chan 0).lost = false ∧ ((up.setChan 0 { lost := true }).chan 0).lost = true ∧ ((up.setChan 0 { statusBad := true }).chan 0).statusBad = true ∧
    (statusOk (stBytes 0#8) = true ∧ ((stBytes 0#8).getD 4 0#8).getLsbD 1 = false ∧ ((stBytes 0#8).getD 4 0#8).getLsbD 2 = false) ∧
    (let s := up.setChan 0 { statusRun := 3 }; statusOk [] = false ∧ (s.chan 0).statusRun = 3 ∧ (s.chan 0).statusBad = false) ∧
    (let s := { upc with time := { up.time with now := 2000000000 } }; s.mayLearn 0 = true ∧ s.tEpoch ≠ 0) ∧
    (let s := up.setChan 0 { window := some ⟨0, 0, 6000000⟩, snap := { b := 1 } }
     (s.chan 0).window = some ⟨0, 0, 6000000⟩ ∧ (0 : Int) < (s.chan 0).snap.b ∧ s.signOf 0 * ((s.chan 0).snap.a - 0) = 0) := by decide +kernel
theorem wit_OverCurrentEvents :
    (let s := shutC 0 upv
     ((s.chan 0).lost = false ∧ ∀ i ∈ [1000001, 1000001, 1000001, (1000001 : Int)], s.ocTh 0 false < i) ∧ absI 1000001 < s.brkOf 0 1000001 ∧
       (s.chan 0).brkHold = false ∧ s.isOpen 0 = false) ∧
    ((∀ i ∈ [1000001, 1000001, 1000001, (2000000 : Int)], upv.ocTh 0 false < i) ∧ upv.brkOf 0 2000000 ≤ absI 2000000) ∧
    (let s := upv.setChan 0 { oc := true }
     (s.chan 0).lost = false ∧ (s.chan 0).oc = true ∧ (s.chan 0).ocDis = false ∧ ∀ i ∈ [(899999 : Int)], i * 10 < s.ocTh 0 false * 9) ∧
    (let s := (shutC 0 upv).setChan 0 { brkHold := true, owed := true }
     (s.chan 0).brkHold = true ∧ (s.chan 0).owed = true ∧ (∀ i ∈ [(1899999 : Int)], absI i * 100 < s.brkOf 0 i * 95) ∧ s.isOpen 0 = false) := by
  decide +kernel
theorem wit_GradingLevels :
    (let s := up.setHep 0 { vMax := some 36000 }
     s.graded 0 0 = some 36000 ∧ lossQ 0 = false ∧ (signedQ 0 = true → (s.hep 0).tRead = true) ∧ s.auto 0 = false) := by decide +kernel
theorem wit_GradingClearRequestsInsulation :
    (0 ∈ up.strings ∧ up.graded 0 0 = none ∧ lossQ 0 = false) ∧
    (let s := { up.setWaitOf 0 { waiting := true } with gen := { plant := [(21 * 1048576, 1)] } }
     s.anyWait = true ∧ s.ctlBuf 0 = some 0 ∧ (s.buf 0).st ≠ .sending) ∧
    (let d : List Byte := [0, 0, 1, 5]
     4 ≤ d.length ∧ up.prot.insCounter ≠ some (d.getD 3 0#8) ∧ (d.getD 2 0#8).getLsbD 0 = true ∧ (d.getD 2 0#8).getLsbD 1 = false) ∧
    up.prot.insStale = false := by decide +kernel
theorem wit_DataStall :
    (up.md.running = true ∧ up.prot.dataStall = false) ∧
    (let s := { shutC 0 upc with prot := { dataStall := true, stallLevel := 3 } }
     s.prot.dataStall = true ∧ s.prot.stallLevel = 3 ∧ s.join.sec = .idle ∧ s.mode.trans = none ∧ 0 ∈ s.strings ∧ s.isOpen 0 = false) := by
  decide +kernel
theorem wit_DisconnectOpensTheString :
    let s := (shutC 0 upv).setWaitOf 0 { waiting := true, deadline := 6000000 }
    let b := (shutC 0 upv).setWaitOf 0 { waiting := true, brkWait := true }
    ((s.waitOf 0).waiting = true ∧ (s.chan 0).lost = false ∧ absI 999 < s.iBS 0 ∧ absI 1999999 < s.brkOf 0 1999999 ∧
      s.brkOf 0 2000000 ≤ absI 2000000 ∧ (s.waitOf 0).brkWait = false) ∧ (b.waitOf 0).brkWait = true := by decide +kernel
/-- `upc` with engine `e` activated, with 3 in s1 and 0x3004 in s2, under an expert program. -/
def engOn (e : Nat) : State :=
  upc.setEng e { running := true, source := .genImage, pc := 20, regs := [(1, 3#32), (2, 0x3004#32), (3, 0x300C#32), (4, 0x1041#32), (5, 196#32), (6, 2#32)] }
theorem wit_AluInstructionResults : (engOn 0).engCan 0 = true ∧ (engOn 12).engCan 12 = true ∧ (engOn 13).engCan 13 = true := by decide +kernel
theorem wit_OperandForms : (1 : RegIx) ≠ 0 ∧ (2 : RegIx) ≠ 1 := by decide
theorem wit_EngineMemoryInstructions :
    (∃ w t, ((engOn 0).updEng 0 (fun g => { g with pc := 21, units := 2 })).engRead 0 (((engOn 0).eng 0).addr 1 none) = some (w, t)) ∧
    (((engOn 0).eng 0).addr 1 none < dataWords 0) ∧ (((engOn 0).eng 0).addr 2 none = 0x3004) ∧
    (((engOn 0).eng 0).addr 3 none = 0x300C) ∧ (0x1000 ≤ ((engOn 0).eng 0).addr 4 none ∧ ((engOn 0).eng 0).addr 4 none < 0x1400) ∧
    (((engOn 0).eng 0).addr 1 none < constWords 0) ∧ (1 : RegIx) ≠ 15 := by
  refine ⟨⟨_, _, rfl⟩, ?_⟩; decide +kernel
theorem wit_EngineControlFlow :
    (let g := (engOn 0).eng 0
     (g.stack.length < 4) ∧ (g.reg 1).toNat ≠ 0 ∧ lowBit (Nat.land g.trig.toNat (Nat.land 1 (engTriggers 0))) = none ∧
      4 ≤ g.ext ∧ g.next = none ∧ g.trig = 0#6) ∧
    (let s := (engOn 0).updEng 0 (fun g => { g with stack := [7, 8, 9, 10] }); s.engCan 0 = true ∧ (s.eng 0).stack = 7 :: [8, 9, 10] ∧ 4 ≤ (s.eng 0).ext) := by
  decide +kernel
theorem wit_EnginePort :
    (let s := (engOn 0).setRxp 3 { unread := [7] }; s.engCan 0 = true ∧ ((s.eng 0).reg 1).toNat < 4 ∧ (s.rxp (4 * 0 + ((s.eng 0).reg 1).toNat)).unread = [7]) ∧
    (((engOn 0).rxp 3).unread = []) ∧
    (let s := (engOn 0).setTxb 3 { queued := true }; ((s.eng 0).reg 1).toNat < 16 ∧ (s.txb 3).queued = true) ∧
    (let s := (engOn 0).setTxb 3 { words := [(0, 2#32)] }
     s.engCan 0 = true ∧ (s.txb 3).queued = false ∧ field (sget 0#32 (s.txb 3).words 0) 7 0 ∉ [0x01, 0x08, 0x0E] ∧
      field (sget 0#32 (s.txb 3).words 0) 24 24 = 0 ∧ s.active = true) ∧
    ((engOn 12).engCan 12 = true ∧ (((engOn 12).eng 12).reg 5).toNat = 196 ∧ (((engOn 12).eng 12).reg 1).toNat ≤ 195) ∧
    ((engOn 13).engCan 13 = true ∧ (((engOn 13).eng 13).reg 6).toNat = 2) ∧
    (let s := engOn 0; (((s.eng 0).reg 1).toNat ≤ 7 ∧ ((s.eng 0).reg 6).toNat < 32 ∧
      (rxFrame (sget [] (s.rxp (4 * 0 + 0)).bufs 2)).typ ≠ slotType 3)) := by decide +kernel
theorem wit_EngineEvents :
    (let s := (engOn 0).updEng 0 (fun g => { g with wait := some ⟨1, some 9000000, 4⟩ }); (s.eng 0).wait = some ⟨1, some 9000000, 4⟩) ∧
    (let s := (engOn 0).updEng 0 (fun g => { g with timer := some 6000000 })
     (s.eng 0).timer = some 6000000 ∧ s.land.landing ≠ 2 ∧ (s.eng 0).running = true ∧ (s.eng 0).wait = none ∧ (s.eng 0).source = .genImage) ∧
    (let s := (engOn 0).updEng 0 (fun g => { g with units := 200000, outRun := 1 })
     (s.eng 0).running = true ∧ (s.eng 0).stopped = false ∧ (s.eng 0).source = .genImage ∧ (s.eng 0).falling = false ∧ (s.eng 0).outRun < 2 ∧
      s.budget 0 ≤ (s.eng 0).units ∧ s.gal.fifo.length < Config.appendMax) := by decide +kernel
theorem wit_EngineFaults :
    (let s := engOn 0
     s.engCan 0 = true ∧ (s.eng 0).source = .genImage ∧ (s.eng 0).falling = false ∧ s.gal.fifo.length + 1 < Config.appendMax ∧
      (s.eng 0).stack = [] ∧ (s.eng 0).reg 9 = 0#32 ∧ Nat.land 0 (engTriggers 0) = 0 ∧ slotMax 0 < ((s.eng 0).reg 5).toNat) ∧
    (let s := (engOn 0).updEng 0 (fun g => { g with regs := sset 0#32 g.regs 1 0xFFF#32, stack := [1, 2, 3, 4] })
     dataWords 0 ≤ (s.eng 0).addr 1 none ∧ (s.eng 0).addr 1 none < 0x1000 ∧ constWords 0 ≤ (s.eng 0).addr 1 none ∧ (s.eng 0).stack.length = 4) := by
  decide +kernel
/-- An empty program of the port sequencers: header, no constants, no data, 8 halfwords of vectors. -/
def img0 : List Byte :=
  let h := leBytes 4 0x53540001 ++ leBytes 1 0 ++ leBytes 1 0 ++ leBytes 1 1 ++ leBytes 1 0 ++ leBytes 2 8 ++ leBytes 2 0 ++ leBytes 2 0 ++ leBytes 2 0
  let p := List.replicate 16 0#8
  h ++ leBytes 4 (crc32c (h ++ p)).toNat ++ p
def codeUp (l : List Byte) : State :=
  { upc.setPage pCODE { owner := 1 } with mode := { mode := .commission }, code := { buf := Memory.write [] 0 l } }
theorem wit_CodePageCommands :
    (let s := codeUp img0; s.md = .commission ∧ s.mgmt.restarting = false ∧ s.stwBarred .host = false ∧ s.unlockedFor .host pCODE = true ∧
      s.codeImage = img0 ∧ verifyImage s.codeImage = none ∧ s.pair.hasPartner = false) ∧
    verifyImage (codeUp []).codeImage = some (1, 0) ∧
    ({ codeUp [] with code := { waiting := some img0 } }).code.waiting = some img0 := by decide +kernel
def qdBytes : List Byte :=
  let b := [0#8, 0#8, 0#8, 0#8, 0x01#8, 0x01#8, 0#8, 0#8, 0#8, 49#8, 0#8, 0#8, 0#8]
  0x5C#8 :: b ++ leBytes 2 (crc16 b).toNat
theorem wit_ActuatorLinkCommands :
    upc.alSilent = false ∧ State.reset.alSilent = true ∧ upc.qdPresent 0 = true ∧
    (qdBytes.length = 16 ∧ (qdBytes.getD 0 0#8).toNat = 0x5C ∧ (crc16 ((qdBytes.drop 1).take 13)).toNat = leAt qdBytes 14 2 ∧
      (qdBytes.getD 1 0#8).toNat / 16 % 2 = 0 ∧ (qdBytes.getD 7 0#8).toNat = 0 ∧ (qdBytes.getD 8 0#8).toNat = 0 ∧ leAt qdBytes 10 2 < 50) ∧
    (upc.qd 0).lost = false ∧ ((upc.setQd 0 { lost := true }).qd 0).lost = true ∧
    (let s := upc.setCoil 0 { openedAt := some 0, aux := true }
     (s.coil 0).openedAt = some 0 ∧ (s.coil 0).aux = true ∧ (s.coil 0).openFail = false) := by decide +kernel
theorem wit_AuxiliariesAdvanceTheJoin :
    upc.chRole 5 = 0 ∧
    (let s := upc.setStr 0 { st := .negClosing }
     (s.coil 0).aux = false ∧ s.chRole 0 = 1 ∧ (s.str (s.chStr 0)).st = .negClosing ∧ s.closeForbidden = false) ∧
    (let s := (upc.setStr 0 { st := .negClosing }).setWaitOf 1 { waiting := true }; (s.str (s.chStr 0)).st = .negClosing ∧ s.closeForbidden = true) ∧
    (let s := upc.setStr 0 { st := .posClosing }; (s.coil 1).aux = false ∧ s.chRole 1 = 2 ∧ (s.str (s.chStr 1)).st = .posClosing) ∧
    (let s := { upc.setCoil 2 { closeSeq := some 4 } with join := { sec := .feed } }
     (s.coil 2).aux = false ∧ s.chRole 2 = 3 ∧ (s.coil 2).closeSeq.isSome = true ∧ s.join.sec = .feed) ∧
    (let s := (shutC 0 upv).setChan 0 { iNow := 5000 }
     (s.coil 0).aux = true ∧ s.chRole 0 = 1 ∧ (s.coil 0).closeSeq.isSome = true ∧ (s.coil 0).coil = true ∧ (s.coil 0).auxSuspended = false ∧
      s.iNow (s.chStr 0) = some 5000 ∧ s.iOpenRes ≤ absI 5000) := by decide +kernel
theorem wit_CloseFailOpensAndDisarms :
    let s := (upc.setCoil 0 { closeSeq := some 4 }).setCoil 2 { closeSeq := some 4 }
    ((s.coil 0).closeSeq.isSome = true ∧ (s.coil 0).aux = false ∧ s.join.sec = .idle ∧ s.chStr 0 = 0 ∧ s.negOf 0 = some 0) ∧
    ((s.coil 2).closeSeq.isSome = true ∧ (s.coil 2).aux = false ∧ s.feedCh = some 2) := by decide +kernel
theorem wit_JoinStepsOfAString :
    (let s := upv.setStr 0 { st := .probe }
     (s.str 0).st = .probe ∧ (s.str 0).probeHot = false ∧ s.join.sec ≠ .first ∧ s.dvOf 0 = some 0 ∧ absR 0 ≤ s.dvJoin ∧ s.closeForbidden = false ∧
      s.posOf 0 = some 1 ∧ s.active = true) ∧
    (let s := (upv.setStr 0 { st := .probe }).setHep 0 { vStr := some 5000000 }; s.dvOf 0 = some 100 ∧ s.dvJoin < absR 100) ∧
    (let s := upv.setStr 0 { st := .probe, probeHot := true }; (s.str 0).st = .probe ∧ (s.str 0).probeHot = true ∧ s.join.sec ≠ .first) ∧
    (let s := { upv.setStr 0 { st := .armed, jdeb := upv.fld pJOIN 0x020 15 8 } with join := { sec := .run, vBus := some 400 } }
     s.negOf 0 = some 0 ∧ s.join.sec = .run ∧ s.active = true ∧ s.mayClose 0 = true ∧ s.absDv 0 ≤ s.dvJoin ∧ s.fld pJOIN 0x020 15 8 ≤ (s.str 0).jdeb ∧
      s.closingList.length < s.fld pJOIN 0x020 7 4) ∧
    (let s := upc.setStr 0 { st := .opening, openCmdAt := some 0, weldRun := 3, weldHot := 2 }
     (s.str 0).openCmdAt = some 0 ∧ (s.str 0).st = .opening ∧ (s.str 0).weldHot < 3 ∧ 3 ≤ (s.str 0).weldRun ∧ ∀ j ∈ s.chansOf 0, (s.coil j).aux = false) ∧
    (let s := upc.setStr 0 { openCmdAt := some 0, weldHot := 3 }; (s.str 0).openCmdAt = some 0 ∧ 3 ≤ (s.str 0).weldHot ∧ s.md ≠ .lockout) ∧
    (let s := { upc with join := { feedOpenAt := some 0 } }; s.join.feedOpenAt = some 0 ∧ s.feedCh = some 2) ∧
    (let s := { upc with join := { sec := .first } }; s.joining = true ∧ s.mode.trans = none) ∧ upc.joining = false := by decide +kernel
theorem wit_GuardedModeRequests :
    (let s := { up with regs := [] }; s.md = .ready ∧ s.active = true ∧ s.mode.trans = none ∧ s.failed .dormant = 0#12 ∧ s.failed .commission = 0#12) ∧
    (let s := { up with mode := { mode := .commission }, gen := { slot := 1 }, scor := { permit := true, compOk := true } }
     s.md = .commission ∧ (s.failed .ready).toNat % 1024 / 4 % 2 = 0) ∧
    (let s := { up with mode := { mode := .online } }; s.md = .online ∧ s.active = true ∧ s.mode.trans = none) ∧
    (up.failed .joining ≠ 0#12) := by decide +kernel
theorem wit_JoinAndWeldCommands :
    (let s := { upc with mode := { mode := .joining }, join := { sec := .first } }; s.md = .joining ∧ s.joining = true) ∧ upc.md ≠ .joining ∧
    (0 ∈ maskPorts false 1#32 ∧ upc.strUse 0 = true ∧ (shutC 0 upc).isOpen 0 = false ∧ 1 ∉ maskPorts false 1#32) ∧
    ((0#6).toNat < 48 ∧ ∀ c ∈ upc.chansOf 0, (upc.coil c).aux = false) ∧ (∀ c, upc.feedCh = some c → (upc.coil c).aux = false) ∧
    (0 ∈ (shutC 0 upc).chansOf 0 ∧ ((shutC 0 upc).coil 0).aux = true) ∧ (48 ≤ (48#6).toNat ∧ 48#6 ≠ 63#6) := by
  refine ⟨by decide +kernel, by decide +kernel, by decide +kernel, by decide +kernel, ?_, by decide +kernel, by decide +kernel⟩
  intro c h
  have e : upc.feedCh = some 2 := by decide +kernel
  obtain rfl : 2 = c := by rw [e] at h; exact Option.some.inj h
  decide +kernel
/-- Converter with six phases of 10 A, over-current at 20 A, window 2 V, PWM 50 kHz, at least 2 phases, target 400 V in force. -/
def conv (st : ConvSt) : State :=
  let s := ((((upc.setReg pBFC 0x028 0xC40001F4#32).setReg pBFC 0x02C 0x006400C8#32).setReg pBFC 0x030 0x06406414#32).setReg pBFC 0x034 0x00000A06#32)
  { s with bfc := { st := st, vOut := 400, r := 400, voaLost := false, vobLost := false, viLost := false, driving := true },
           bvl := { target := 4000, eff := 400, targetValid := true } }
theorem wit_ConverterLoops :
    (conv .regulating).bfc.st = .regulating ∧ (conv .regulating).bfc.st.running = true ∧ (conv .off).bfc.st.running = false ∧
    (let s := { conv .starting with bvl := { ack := 1, eff := 0 }, join := { sec := .forming } }
     s.bfc.st = .starting ∧ s.bvl.slew = 0 ∧ s.bfc.clamped = false ∧ s.bvl.ack = 1 ∧ s.join.sec = .forming) ∧
    (let s := conv .regulating; s.fld pBFC 0x100 15 8 * 2 ≤ 1000) := by decide +kernel
theorem wit_ConverterFaults :
    (let s := conv .regulating
     s.bfc.st ≠ .latched ∧ s.ocPh < absR (mkRat 20001 1000) ∧ s.ocPh < absR (mkRat (-20001) 1000) ∧
      s.bfc.viLost = false ∧ s.bfc.voaLost = false ∧ s.bfc.vobLost = false ∧ s.bfc.st.running = true) ∧
    (let s := conv .regulating; let t := { s with bfc := { s.bfc with vOut := 397 } }; t.bfc.st = .regulating ∧ t.bfcWin < absR (t.bfc.vOut - t.eff)) ∧
    (conv .off).bfc.st.running = false ∧
    (let s := conv .starting; let t := { s with bfc := { s.bfc with vOut := 10 } }
     t.bfc.st = .starting ∧ t.bfc.vOut < maxR (t.eff / 20) 30 ∧ t.fld pBFC 0x100 1 0 ≤ t.bfc.retriesUsed) ∧
    (let s := (conv .starting).setReg pBFC 0x100 1#32; s.bfc.retriesUsed < s.fld pBFC 0x100 1 0) ∧
    (conv .retryWait).bfc.st = .retryWait := by decide +kernel
theorem wit_ConverterPhaseOut :
    let s := conv .regulating
    s.bfc.st.running = true ∧ 0 ∈ s.inService ∧ s.fld pBFC 0x028 27 25 ≤ s.nAct - 1 ∧ s.feedCh = some 2 ∧
      (let t := s.setReg pBFC 0x028 0xCC0001F4#32; t.nAct - 1 < t.fld pBFC 0x028 27 25 ∧ 0 ∈ t.inService) := by decide +kernel
theorem wit_ConverterStopSyncAndClear :
    (let s := conv .stopping; let t := { s with bfc := { s.bfc with driving := false } }
     s.bfc.st = .stopping ∧ t.bfc.st = .stopping ∧ t.bfc.driving = false ∧ t.bfc.stopEnd ≤ t.now ∧ t.feedCh = some 2) ∧
    (let s := (conv .regulating).setReg pBFC 0x008 1#32
     s.bit pBFC 0x008 0 = true ∧ 0 < s.fSw ∧ 9 * (1000000000 / s.fSw) ≤ 10 * 18000 ∧ 10 * 22000 ≤ 11 * (1000000000 / s.fSw) ∧
      11 * (1000000000 / s.fSw) < 10 * 22001 ∧ 10 * 17999 < 9 * (1000000000 / s.fSw)) ∧
    (let s := conv .regulating; ({ s with bfc := { s.bfc with syncLock := true } }).bfc.syncLock = true) ∧
    ((conv .handover).bfc.st = .handover ∧ (conv .handover).active = true) ∧
    (let s := conv .latched; let t := { s with bfc := { s.bfc with fseq := 3, cause := 1 } }
     t.bfc.st = .latched ∧ field 0x03010000#32 31 24 = t.bfc.fseq ∧ field 0x03010000#32 23 16 = t.bfc.cause ∧ field 0x03020000#32 23 16 ≠ t.bfc.cause) ∧
    (conv .off).bfc.st ≠ .latched := by decide +kernel
def bvlF (kind seq tgt resv : Nat) : DWord :=
  let hi := kind * 2 ^ 52 + seq * 2 ^ 44 + tgt * 2 ^ 28 + resv
  BitVec.ofNat 64 (hi * 256 + (crc8 (beBytes 7 hi)).toNat)
def bvlOk (f : DWord) : Bool := (crc8 (beBytes 7 (f.toNat / 256))).toNat == f.toNat % 256
theorem wit_BusVoltageCommandLink :
    (bvlOk (bvlF 5 1 4000 0) = true ∧ (bvlF 5 1 4000 0).toNat / 2 ^ 60 = 5 ∧ (bvlF 5 1 4000 0).toNat / 2 ^ 52 % 256 = 1) ∧
    (bvlOk (bvlF 10 0 0 0) = true ∧ (bvlF 10 0 0 0).toNat / 2 ^ 60 = 10 ∧ (bvlF 10 0 0 0).toNat / 2 ^ 60 ≠ 5) ∧ bvlOk (bvlF 5 1 4000 0 + 1) = false ∧
    (let s := conv .off; let t := { s.setReg pBVL 0x024 0x13880000#32 with bvl := { any := true, seq := 1 } }
     t.bvl.any = true ∧ newer8 255#8 t.bvl.seq = false ∧ 255#8 ≠ t.bvl.seq ∧ newer8 2#8 t.bvl.seq = true ∧ 2#8 ≠ t.bvl.seq ∧
      t.bvlDecide (bvlF 5 2 4000 0).toNat = 0 ∧ t.md = .ready ∧ t.bvlDecide (bvlF 5 2 5001 0).toNat = 3) ∧
    ((conv .off).fld pBVL 0x020 31 16 ≤ 100 ∧ (conv .off).bvl.silent = false) := by decide +kernel
/-- Pair 0: ESTOP naming SO0 and SO1, channel A fed by TP1, T_d 1 ms, out of demand; outputs as they may be; walk passed; all quiet. -/
def ban0 : State :=
  let s := (upc.setReg pBAN 0x800 0x303A0000#32).setReg pBAN 0x804 0x00010000#32
  let s := (s.setSafe 0 { demand := false }).setSafe 1 { demand := false }
  let s := s.setBpair 0 { dem := false }
  { s with ban := { so := 15, bfcEn := true, walkPassed := true, peerValid := true } }
def banQuiet (s : State) : Bool :=
  decide (s.join.sec = .idle) && decide (s.md ≠ .joining) && decide (s.md ≠ .online) && decide (s.bfc.st = .off) && s.strings.all s.isOpen &&
    (match s.feedCh with | some c => (s.coil c).closeSeq.isNone | none => true)
theorem wit_SafeOutputs :
    (ban0.outMask / 2 ^ 0 % 2 = 1 ∧ banQuiet ban0 = true ∧ ban0.isStop 0 = true ∧ (ban0.safe 0).changes = [] ∧ (ban0.bpair 0).waiting = none ∧
      ban0.land.landing < 3 ∧ (ban0.safe 1).demand = (ban0.safe 0).demand ∧ (ban0.safe 0).demand = false ∧ ban0.manual 0 = true ∧ (ban0.bpair 0).dem = false ∧
      ban0.fld pBAN (pairCfg 0) 23 20 / 2 ^ 0 % 2 = 1) ∧
    (let s := (ban0.setSafe 0 {}).setSafe 1 {}; banQuiet s = true ∧ (s.safe 0).demand = true ∧ (s.safe 1).demand = true) ∧
    (let s := { ban0 with scor := { permit := false } }; s.scor.permit = false ∧ s.active = true ∧ s.ban.permitActing = false) ∧
    (let s := { ban0 with ban := { walking := true } }; banQuiet s = true ∧ s.ban.walking = true ∧ s.md ≠ .lockout) := by decide +kernel
theorem wit_BanisterFaults :
    (let s := (ban0.setBpair 0 { waiting := some (5000000, true) })
     (s.bpair 0).waiting = some (5000000, true) ∧ s.func 0 ≠ 0 ∧ s.func 0 ≠ 5 ∧ s.md ≠ .lockout ∧ (s.bpair 0).discrep = false ∧
      s.tD 0 + 250000 ≤ 1250 * 1000 ∧ 750 * 1000 + 250000 ≤ s.tD 0) ∧
    (let s := ban0.setTpOf 1 { drive := true }; (s.tpOf 1).drive = true) ∧
    (let s := ban0.setSafe 0 { demand := false, misses := 1 }
     s.tpSource 0 = some 1 ∧ s.func (0 / 2) ≠ 0 ∧ (s.safe 0).demand = false ∧ (s.safe 0).misses = 1 ∧ (s.safe 0).stuck = false) ∧
    ((ban0.safe 0).misses = 0 ∧ ban0.isStop 0 = true) ∧
    ((ban0.tpOf 1).lost = false ∧ ∀ q < 8, ban0.func q ≠ 5 ∧ ban0.func q ≠ 4) ∧
    (let s := { ban0 with time := { ban0.time with now := 30000000 } }; s.start.powered = true ∧ (s.tpOf 1).lastSeen + 30000000 ≤ s.now) ∧
    (let s := ban0.setBpair 0 { peerSince := some 0 }; (s.bpair 0).peerSince = some 0 ∧ s.ban.peerValid = true ∧ s.pairDemand 0 = false) ∧
    ((ban0.ban.so.getLsbD 0 ≠ false) ∧ ban0.bfcEnHigh ≠ true ∧ ban0.ban.soFault = false) := by decide +kernel
def safeF (demand : Nat) (seq : Nat) : CanFrame :=
  let b := leBytes 1 demand ++ leBytes 1 0 ++ leBytes 2 seq
  { id := 0x123, xtd := false, fdf := false, brs := false, dlc := 8, data := b ++ leBytes 4 (safeCrc false 0x123 b).toNat }
/-- SAFE source 0 takes identifier 0x123; the control buffers of SAFE are 0 and 1. -/
def safe0 : State :=
  { (ban0.setReg pBAN 0xA00 0x20000123#32).setSrc 0 { demand := false, timeout := false, seqA := some 7 } with
    gen := { plant := [(21 * 1048576 + 1, 1), (21 * 1048576 + 2, 2)] } }
theorem wit_SafeFrames :
    (safe0.ctlBuf 1 = some 0 ∧ safe0.ctlBuf 2 = some 1 ∧ (safe0.buf 0).st ≠ .sending ∧ (safe0.buf 1).st ≠ .sending) ∧
    (let f := safeF 1 8
     f.data.length = 8 ∧ f.fdf = false ∧ (safeCrc f.xtd f.id.toNat (f.data.take 4)).toNat = leAt f.data 4 4 ∧
      safe0.safeEn 0 = true ∧ (safe0.reg pBAN 0xA00).getLsbD 31 = f.xtd ∧ f.id.toNat = field (safe0.reg pBAN 0xA00) 28 0 ∧
      (∀ m < 4, m ≠ 0 → safe0.safeEn m = false) ∧ (safe0.src 0).copy = none ∧ (safe0.src 0).seqA = some 7 ∧
      newer16 (BitVec.ofNat 16 (leAt f.data 2 2)) 7#16 = true ∧ f.data.getD 0 0#8 ≠ 0#8 ∧
      newer16 (BitVec.ofNat 16 (leAt (safeF 1 7).data 2 2)) 7#16 = false) ∧
    (let f := { safeF 1 8 with fdf := true }; ¬ (f.data.length = 8 ∧ f.fdf = false)) ∧
    (let s := safe0.setSrc 0 { copy := some (7, false, 5000000, 0) }; (s.src 0).copy = some (7, false, 5000000, 0) ∧ (s.src 0).copyP = none) ∧
    ((safe0.src 0).timeout = false) ∧ (let s := { safe0 with pair := { role := .active, hasPartner := true } }; s.pair.hasPartner = true ∧ s.pair.role ≠ .singleOp) := by
  decide +kernel
/-- Two-hand pairs 2 and 3, both held; channel 0 (NEG of string 0) selected in COMMISSION. -/
def hands : State :=
  let s := (ban0.setReg pBAN 0x820 0x80000000#32).setReg pBAN 0x830 0x88000000#32
  { s with mode := { mode := .commission }, join := { thSel := 0, thValid := true }, ban := { s.ban with thFirst := some 5000000 } }
theorem wit_WalkAndTwoHand :
    ((ban0.md = .ready ∧ ban0.allOpen = true ∧ ban0.ban.walking = false ∧ (∀ q < 8, ban0.pairDemand q = false) ∧
      (∀ q < 48, (ban0.toneOf q).acting = false) ∧ (∀ r < 4, (ban0.safeEn r && (ban0.src r).demand) = false)) ∧
      ({ ban0 with ban := { walking := true } }).ban.walking ≠ false) ∧
    (let s := hands
     s.md = .commission ∧ s.ban.thOn = false ∧ s.chRole 0 = 1 ∧ s.posOf (s.chStr 0) = some 1 ∧ (s.coil 1).closeSeq = none ∧ (s.coil 1).aux = false ∧
      s.chRole 1 = 2 ∧ s.negOf (s.chStr 1) = some 0 ∧ s.chRole 2 = 3 ∧ s.bfc.st = .off ∧ s.chRole 3 = 0) ∧
    (let s := hands
     (s.handOff 0 && s.handOff 1) = false ∧ s.handOn 0 = true ∧ s.handOn 1 = true ∧ s.ban.thFirst = some 5000000 ∧
      s.now - 5000000 + 250000 ≤ 500000000 ∧ s.scor.st ≠ .split ∧ s.active = true ∧ s.ban.so.getLsbD (s.soOf (s.join.thSel / 8)) = true) ∧
    (let s := ban0.setBpair 0 { latched := true }
     s.ban.resetBad = false ∧ s.resetHeld = none ∧ s.mode.causes = 0#5) := by decide +kernel
def core (st : CoreState) : State := { upc with scor := { st := st, compOk := true, permit := true }, regs := upc.regs }
theorem wit_CoreWindowComparison :
    (({ core .dual with scor := {} }).scor.compOk = false) ∧
    (let s := core .dual; s.scor.compOk = true ∧ s.scor.st = .dual ∧ s.agreeMode = false) ∧
    (let s := { core .dual with pair := { role := .active, hasPartner := true, partnerSynced := true, partnerEligible := true } }
     s.pairedActive = true ∧ s.pair.partnerEligible = true ∧ s.pair.handover = none) ∧
    (let s := (core .dual).setReg pSCOR 0x020 0x04800000#32; let t := { s with scor := { s.scor with disRun := [(7, 2)] } }
     t.scor.st = .dual ∧ t.scor.compOk = true ∧ t.agreeMode = true ∧ ∃ d ∈ [((7 : Nat), 1#32, 2#32)], 2 ≤ sget 0 t.scor.disRun d.1) ∧
    (∀ r ∈ [1, 2, 3], let s := core .rejoining; let t := { s with scor := { s.scor with rejoin := r } }
      t.scor.compOk = true ∧ t.scor.st = .rejoining ∧ t.agreeMode = false ∧ t.scor.rejoin = r) ∧
    (let s := core .singleMain; s.scor.st ≠ .selftest ∧ s.scor.st ≠ .noCore ∧ s.scor.mainIso = false) := by decide +kernel
theorem wit_CoreSelfTest :
    ((core .selftest).scor.st = .selftest ∧ (core .selftest).scor.mainIso = false ∧ (core .selftest).scor.chkIso = false ∧ (core .selftest).standby = false) ∧
    (let s := { core .selftest with pair := { role := .standby } }; s.standby = true) ∧ (core .dual).scor.st ≠ .selftest ∧
    (let s := core .singleMain; s.singleCore = true ∧ s.standby = false ∧ s.md ≠ .lockout ∧ s.pair.hasPartner = false ∧ s.pair.handover = none) ∧
    (let s := core .singleMain; let t := { s with scor := { s.scor with singleSince := some 1000000 } }
     t.scor.singleSince = some 1000000 ∧ t.singleCore = true ∧ t.scor.singleExpired = false) := by decide +kernel
theorem wit_SplitRejoinAndCoreDebug :
    ((core .dual).scor.st = .dual ∧ (core .dual).md = .ready ∧ (core .dual).scor.permit = true) ∧ ((core .split).scor.st = .split) ∧
    (let s := { core .dual with mode := { mode := .online } }; s.md.joinOrOnline = true) ∧
    (let s := { core .dual with stw := { level := .service } }; s.debugMay = true ∧ s.scor.st = .dual) ∧ (core .dual).debugMay = false ∧
    (let s := { core .halted with stw := { level := .service, halted := true } }; s.debugMay = true ∧ s.scor.st = .halted) ∧
    (let s := { core .halted with scor := { st := .halted, mem := [(4, 9#32)] } }; slook s.scor.mem ((0#32).toNat + 4 * 1) = some 9#32) := by
  decide +kernel
def act2 : State := { upc with pair := { role := .active, hasPartner := true, partnerSynced := true, partnerEligible := true, linkDown := false, aliveLost := false } }
def stb : State :=
  { upc with pair := { role := .standby, hasPartner := true, sync := .synced, linkDown := false, lane0Down := false, lane1Down := false, aliveLost := false },
             scor := { permit := true, compOk := true } }
def hbOf (role : Role) (term : Byte) (primary : Bool) : Heartbeat :=
  { role := role, term := term, epoch := 5, mode := .ready, sync := .synced, eligible := true, primary := primary }
theorem wit_PairLinkFrames :
    (act2.gen.single = false ∧ act2.pair.role ≠ .singleOp ∧ act2.pair.linkDown = false) ∧
    (let h := hbOf .standby 0 (!act2.start.primary); h.primary ≠ act2.start.primary ∧ (newer8 h.term act2.term && act2.active) = false ∧ act2.joinDue = false) ∧
    (let h := hbOf .active 1 (!stb.start.primary)
     h.primary ≠ stb.start.primary ∧ (newer8 h.term stb.term && stb.active) = false ∧ stb.joinDue = false ∧ stb.standby = true ∧ stb.pair.sync ≠ .syncing ∧
      h.role = .active ∧ newer8 h.term stb.term = true) ∧
    ((hbOf .active 0 act2.start.primary).primary = act2.start.primary ∧ act2.pair.fault = false) ∧
    (newer8 (hbOf .active 1 true).term act2.term = true ∧ act2.active = true ∧ act2.standby = false) ∧
    (let s := { stb with pair := { stb.pair with sync := .degraded } }
     s.standby = true ∧ s.pair.sync = .degraded ∧ (1000000 : Int) < ((3000001 : Nat) : Int) - 0 - (((((3000001 : Nat) : Int) - 1) - (0 - (3000000 : Nat))) / 2 - 3000000).toNat) ∧
    (stb.pair.sync ≠ .degraded) ∧ (newer32 (word (seqNext 5)) (word act2.gal.nextSeq) = true ∧ newer32 (word (seqNext 0xFFFFFF00)) (word act2.gal.nextSeq) = false) ∧
    ((0x20#8 : Byte) ≠ 0x21#8 ∧ act2.pair.joining = false) := by decide +kernel
theorem wit_LinkLossAndTakeover :
    (stb.pair.lane0Down = false ∧ stb.pair.lane1Down = false) ∧
    (let s := { stb with pair := { stb.pair with lane1Down := true } }
     s.pair.lane1Down = true ∧ s.standby = true ∧ s.pair.sync = .synced ∧ s.pair.aliveLost = false ∧ s.pair.linkDown = false) ∧
    (stb.md ≠ .dormant) ∧ (let s := { stb with pair := { stb.pair with linkDown := true } }; s.pair.linkDown = true ∧ s.pair.lockCause = 0 ∧ s.eligible = true) ∧
    (let s := { stb with scor := {}, pair := { stb.pair with linkDown := true } }; s.standby = true ∧ s.eligible = false) ∧
    (let s := { act2 with pair := { act2.pair with linkDown := true } }; s.active = true ∧ s.pair.aliveLost = false) ∧
    (let s := { stb with pair := { stb.pair with aliveLost := true } }
     s.pair.aliveLost = true ∧ s.pair.linkDown = false ∧ s.sw.proposed = none ∧ s.pair.drill = 0 ∧ s.eligible = true) ∧
    (({ stb with mode := { mode := .dormant } }).md = .dormant) ∧ stb.joinDue = false ∧ (99 * 500 ≤ 100 * 495 ∧ 100 * 505 ≤ 101 * 500) ∧
    (let s := { act2 with pair := { act2.pair with partnerLost := true } }
     s.pair.partnerLost = true ∧ s.active = true ∧ s.chainMay = true ∧ s.stw.trace = none) ∧ stb.pair.partnerLost = false ∧
    (({ act2 with pair := { act2.pair with baseHold := some 9000000 } }).pair.baseHold = some 9000000) := by decide +kernel
def ho (accepted : Bool) (tries cause : Nat) : Handover := { instant := 6000000, cause := cause, tries := tries, accepted := accepted }
theorem wit_Handover :
    (stb.gen.single = false ∧ stb.eligible = true ∧ stb.pair.sync ≠ .degraded ∧ stb.roleBarred 3 = false) ∧
    (act2.eligible = false ∧ act2.pair.role ≠ .singleOp) ∧
    (∀ n ∈ [1, 4], let s := { act2 with pair := { act2.pair with handover := some (ho false n 3) } }
      s.active = true ∧ s.pair.handover = some (ho false n 3) ∧ (ho false n 3).accepted = false ∧ 5800000 + 200000 ≤ (ho false n 3).instant ∧
      (ho false n 3).instant < 5800001 + 200000 ∧ s.pair.lockCause = 0) ∧
    (act2.pair.handover = none) ∧
    (let s := { act2 with pair := { act2.pair with handover := some (ho true 1 3) } }
     s.pair.handover = some (ho true 1 3) ∧ (ho true 1 3).accepted = true ∧ s.active = true ∧ (ho true 1 3).cause ≠ 4) ∧
    (let s := { stb with pair := { stb.pair with handover := some (ho true 1 2) } }; s.standby = true ∧ (ho true 1 2).cause ≠ 3) ∧
    (let s := { stb.setReg pPAIR 0x020 0x00580000#32 with start := { stb.start with primary := true }, pair := { stb.pair with revertSince := some 0 } }
     s.pair.revertSince = some 0 ∧ s.bit pPAIR 0x020 19 = true ∧ s.start.primary = true ∧ s.eligible = true ∧ s.pair.sync = .synced ∧ s.scor.st = .dual ∧
      s.convQuiet = true ∧ s.pair.linkDown = false) ∧
    (act2.pairedActive = true ∧ act2.pair.partnerEligible = true ∧ act2.convQuiet = true ∧ act2.pair.linkDown = false ∧ act2.singleCore = false) ∧
    (upc.pairedActive = false ∧ upc.md.joinOrOnline = false) ∧
    (let s := { upc with mode := { mode := .online } }; s.pairedActive = false ∧ s.md.joinOrOnline = true ∧ s.standby = false) := by decide +kernel
def stMsg : StateMsg :=
  { mode := .ready, causes := 0, firstCause := 0, join := .idle, joinFirst := 0, strings := [(0, .closed)], closes := [(0, 9)], conv := .off, convOut := 0,
    convSenseLost := 0, convRetries := 0, convFault := 0, genId := 7, switchEpoch := 0, nextSeq := [], wear := [] }
theorem wit_StandbyMirrors :
    (stb.standby = true ∧ stb.pair.sync ≠ .syncing ∧ stMsg.mode ≠ .lockout ∧ stb.md ≠ .lockout ∧ stb.mode.causes = 0#5 ∧ stb.mode.trans = none ∧
      stMsg.strings.filter (fun q => q.1 == 0) = [(0, .closed)] ∧ (∀ q ∈ stMsg.strings, q.1 ≠ 1) ∧ (∀ q ∈ stMsg.closes, q.1 ≠ 1) ∧
      stMsg.closes.find? (fun z => z.1 == 0) = some (0, 9) ∧ (stb.coil 0).closeSeq = none ∧ (stb.coil 0).openedAt = none) ∧
    (act2.active = true ∧ act2.mode.causes = 0#5) ∧ (5#32 ≠ stb.time.epoch) ∧ act2.standby = false ∧
    (0 ∈ stb.modulesInUse ∧ 3 < stb.nCells 0 ∧
      ([{ module := 0, cell := 3, cur := 5 }] : List Shuttle).filter (fun x => x.module == 0 && x.cell == 3) = [{ module := 0, cell := 3, cur := 5 }]) ∧
    1 < (2#8).toNat := by decide +kernel
theorem wit_StandbyCellCount : ∀ z, stb.nCells z ≤ 16 := by
  intro z
  have h : ∀ z, stb.nCells z = (stb.mon z).cells := fun _ => rfl
  rw [h]
  by_cases h0 : z = 0
  · subst h0; decide +kernel
  by_cases h1 : z = 1
  · subst h1; decide +kernel
  have e : stb.mon z = {} := by
    show sget {} stb.mons z = _
    have : stb.mons = [(0, { cells := 14, serial := 5 }), (1, { cells := 14, serial := 6 })] := rfl
    rw [this]; simp [sget, Ne.symm h0, Ne.symm h1]
  rw [e]; decide
def joiner (n : Nat) : State :=
  { upc with pair := { role := if n < 3 then .starting else .standby, sync := .syncing, joining := true, joinStep := n },
             fw := { imageA := .written ((((Memory.write [] 4 [5]).write 8 [1]).write 12 [9])) } }
theorem wit_JoinSequence :
    (∀ n ∈ [0, 1, 2, 3, 4], (joiner n).gen.single = false ∧ (joiner n).pair.joining = true ∧ (joiner n).active = false ∧ (joiner n).pair.joinStep = n) ∧
    ((!(joiner 0).start.primary) ≠ (joiner 0).start.primary ∧ (joiner 0).compatibleWith 5 1 9 = true ∧ (joiner 0).compatibleWith 10 1 9 = false ∧
      (7#32 ≠ (joiner 1).gen.id)) ∧
    (stb.pair.joining = false ∧ stb.active = false) ∧
    (let s := { act2 with fw := (joiner 0).fw }; s.pair.role = .active ∧ s.pair.fault = false ∧ s.compatibleWith 5 1 9 = true) ∧
    (let s := { stb with mode := { mode := .commission } }; s.md = .commission) ∧ stb.md ≠ .commission := by decide +kernel
def drillOk : DrillResult := { echoFailed := [], qdFailed := 0, canFailed := false }
theorem wit_DrillAndProposal :
    (act2.pairedActive = true ∧ act2.pair.partnerEligible = true ∧ act2.convQuiet = true ∧ act2.md ≠ .lockout ∧ act2.pair.linkDown = false ∧
      act2.pair.handover = none ∧ act2.pair.drill = 0) ∧ upc.pairedActive = false ∧
    (let s := { act2 with pair := { act2.pair with drill := 2 } }; s.pair.drill = 2 ∧ s.pair.handover = none) ∧
    (drillOk.echoFailed = [] ∧ drillOk.qdFailed = 0#8 ∧ drillOk.canFailed = false ∧ ({ drillOk with canFailed := true }).canFailed ≠ false) ∧
    (upc.sw.asked = none) ∧
    (let s := { upc with sw := { asked := some 3 } }
     s.sw.asked = some 3 ∧ s.switchAccepted 3 = true ∧ s.active = true ∧ s.sw.confirmed = none ∧ s.pair.genMismatch = false ∧ s.pair.compatFault = false ∧
      s.pair.hasPartner = false) ∧
    (let s := { act2 with sw := { asked := some 3, partnerHas := some (genIdOf (act2.slotState 3).bytes) } }
     s.pair.hasPartner = true ∧ s.sw.partnerHas = some (genIdOf (s.slotState 3).bytes) ∧ act2.sw.partnerHas ≠ some (genIdOf (act2.slotState 3).bytes)) ∧
    (let s := { stb with sw := { asked := some 3 }, pair := { stb.pair with genMismatch := true } }
     s.sw.asked = some 3 ∧ s.switchAccepted 3 = true ∧ s.pair.genMismatch = true ∧ ∀ pg < 0x2C, (s.page pg).owner = 0) := by decide +kernel
/-- CANA and CANB active; buffer 0 of CANA is the host's. -/
def can0 : State :=
  { upc.setCan 0 { mode := .active } with gen := { plant := [(20 * 1048576, 4)] } }
theorem wit_CanTransmitBuffers :
    (can0.bufOwner 0 0 = 4 ∧ can0.bufOwner 0 1 ≠ 4 ∧ (can0.buf 0).st ≠ .queued ∧ (can0.buf 0).st ≠ .sending) ∧
    (let s := can0.setBuf 0 { st := .queued, words := [0x80000000#32, 8#32, 6000000#32, 0#32, 7000000#32, 0#32] ++ List.replicate 16 0#32 }
     (s.buf 0).st = .queued ∧ (s.buf 0).timed = true ∧ s.canUp 0 = true ∧ s.pairHeld (s.buf 0) = false ∧ (s.buf 0).expire ≠ 0 ∧
      ((s.reach (s.buf 0).launch).setBuf 0 { s.buf 0 with eligible := true }).canOffer 0 = some 0) ∧
    (let s := can0.setBuf 0 { st := .queued }; (s.buf 0).expire = 0 ∧ (s.buf 0).st = .queued) ∧
    (let s := can0.setBuf 0 { st := .sending }; let t := can0.setBuf 0 { st := .sending, rewrite := some [1#32], words := [0#32, 0x30#32] }
     (s.buf 0).st = .sending ∧ s.canOffer 0 = some 0 ∧ (s.buf 0).flow = none ∧ (((s.buf 0).w 1).getLsbD 4 && ((s.buf 0).w 1).getLsbD 5) = false ∧
      (s.buf 0).rewrite = none ∧ (t.buf 0).rewrite = some [1#32] ∧ ((t.buf 0).w 1).getLsbD 4 = true ∧ ((t.buf 0).w 1).getLsbD 5 = true) := by decide +kernel
def rxF : CanFrame := { id := 0x55, xtd := false, fdf := false, brs := false, dlc := 8, data := leBytes 8 1 }
def flt (fifo1 : Bool) : State := (can0.setReg pCAN 0xA00 (if fifo1 then 0xA1540000#32 else 0x81540000#32)).setReg pCAN 0xA04 0x1FFC0000#32
theorem wit_CanReception :
    ((can0.can 0).mode = .active ∧ (can0.can 0).busOff = false ∧ (can0.can 0).rxErr ≤ 127 ∧ can0.pairBuf 0 rxF = none ∧ can0.filterOf 0 rxF = none) ∧
    ((flt false).filterOf 0 rxF = some false ∧ ((flt false).can 0).fifo0.length < 32) ∧
    (32 ≤ (((flt false).setCan 0 { mode := .active, fifo0 := List.replicate 32 ⟨rxF, 1⟩ }).can 0).fifo0.length) ∧
    (let s := flt true
     s.filterOf 0 rxF = some true ∧ (s.can 0).fifo1 = [] ∧ s.mgmt.restarting = false ∧ s.host.lossPending = 0 ∧
      s.host.fifo.length + (rxWords ⟨rxF, 1⟩).length + 1 ≤ 4096 ∧ { s with mgmt := { restarting := true } }.mgmt.restarting = true) ∧
    (127 < ((can0.setCan 0 { mode := .active, rxErr := 128 }).can 0).rxErr) ∧
    (let s := { can0 with gen := { plant := [(21 * 1048576, 1)] } }
     let t := s.setBuf 0 { words := [0x41540000#32, 8#32] ++ List.replicate 20 0#32 }
     let f := { rxF with data := [0, 0, 0, 0, 1, 0, 0, 0] }
     t.pairBuf 0 f = some 0 ∧ t.pairTerm 0 0 f = some 1 ∧ newer8 1 t.term = true ∧ (act2.pair.role = .active)) ∧
    (¬ ((upc.can 0).mode = .active ∨ (upc.can 0).mode = .listen)) ∧ can0.canUp 0 = true ∧ upc.canUp 0 = false ∧ (can0.can 0).errPassive = false ∧
    (let s := can0.setCan 0 { mode := .active, busOff := true, recovering := true }; (s.can 0).busOff = true ∧ (s.can 0).recovering = true) := by
  decide +kernel
def pps (y : SyncTime) : State := { upc.setReg pTIME 0x030 0x50000000#32 with syncT := y }
theorem wit_SynchronisedTime :
    (let s := pps { lock := true, lastEdge := 1000000000 }
     s.inFmt = 1 ∧ s.syncT.lock = true ∧ 2000100000 ≤ s.syncT.lastEdge + (s.syncT.misses + 1) * 1000000000 + 100000 ∧
      s.syncT.lastEdge + (s.syncT.misses + 1) * 1000000000 ≤ 1999900000 + 100000 ∧ s.syncT.lastEdge + (s.syncT.misses + 1) * 1000000000 + 100000 < 2000100001 ∧
      s.ownTime = true ∧ s.md.running = true) ∧
    (({ stb with syncT := {} }).ownTime = false) ∧
    (let s := pps { lastEdge := 1000000000 }; s.syncT.lock = false ∧ 999900000 ≤ 1999900000 - s.syncT.lastEdge ∧ 1999900000 - s.syncT.lastEdge ≤ 1000100000 ∧ s.syncT.lastEdge ≠ 0) ∧
    (upc.inFmt ≠ 1 ∧ upc.inFmt ≠ 2 ∧ upc.outFmt ≠ 1 ∧ upc.outFmt ≠ 2 ∧ (pps {}).outFmt = 1) ∧
    (let s := can0.setReg pTIME 0x038 0x90000064#32
     let m := { s with syncT := { sending := true } }
     s.ntmRole = 2 ∧ s.ntmPrio = 2 ∧ s.heardHigher = false ∧ s.active = true ∧ s.syncT.sending = false ∧ s.syncT.conflict = false ∧ m.syncT.sending = true ∧
      s.canUp s.ntmCan = true ∧ { s with syncT := { sending := true, heard := some (1, 5000000) } }.heardHigher = true ∧
      (0 = s.ntmCan ∧ ({ rxF with id := 2 }).id.toNat - ({ rxF with id := 2 }).id.toNat % 8 = s.refBase ∧ ({ rxF with id := 2 }).id.toNat % 8 = s.ntmPrio ∧ rxF.xtd = s.bit pTIME 0x03C 29 ∧ rxF.fdf = false ∧
       (let f := { rxF with data := [18#8, 1#8] ++ leBytes 6 3000000 }; f.data.length = 8 ∧ (f.data.getD 0 0#8).toNat / 16 = 1) ∧ s.standby = false)) ∧
    (let s := { can0.setReg pTIME 0x038 0x40000064#32 with syncT := { lastCount := some 0, heard := some (2, 0) } }
     let f := { rxF with id := 2, data := [18#8, 1#8] ++ leBytes 6 3000000 }
     s.ntmRole = 1 ∧ (s.syncT.heard.any (fun e => e.1 == f.id.toNat % 8)) = true ∧ s.syncT.lastCount = some (f.data.getD 1 0#8 - 1#8) ∧ leAt f.data 2 6 ≠ 2 ^ 48 - 1 ∧ s.ownTime = true ∧
      s.syncT.lock = false ∧ ¬ (1 = s.ntmCan)) := by decide +kernel
def hcrcOf (op : Nat) (addr : Word) (len : Half) : Half := crc16 (headBytes op .four addr len)
theorem wit_HostTransactions :
    (∀ op ∈ [1, 3], ∃ h, crc16 (headBytes op .four 0x4000#32 1) = h ∧ crc16 (headBytes op .four 0x4000#32 1) ≠ h + 1) ∧
    (let ws := [5#32, 6#32]; crc16 (headBytes 2 .four 0x4004#32 (BitVec.ofNat 16 ws.length)) = hcrcOf 2 0x4004#32 2 ∧ crc16 (bytesOf ws) = crc16 (bytesOf [5#32, 6#32]) ∧
      crc16 (bytesOf ws) ≠ crc16 (bytesOf [5#32])) ∧
    ((0#16 : Half).toNat = 0 ∧ 1024 < (1025#16 : Half).toNat) ∧
    (∃ a ∈ [0x25020, 0x25024, 0x0D020, 0x0D024], (regFlds (a / 0x1000) (a % 0x1000)).isSome = true ∧ pageClass (a / 0x1000) ≠ .mgmt ∧
      (regFlds ((a + 4) / 0x1000) ((a + 4) % 0x1000)).isSome = true ∧ pageClass ((a + 4) / 0x1000) ≠ .mgmt ∧ a + 4 < 0x80000 ∧ a % 4 = 0) ∧
    (lowWord pPROT 0xA00 = false ∧ lowWord pPROT 0x9FC = false ∧ pPROT ≠ pEST ∧ pPROT ≠ pBFC ∧ pPROT * 0x1000 + 0xA00 < 0x80000) ∧
    (regFlds 0x7F 0 = none) ∧ (({ upc with hall := { stale := [.host] } }).hallRead .host 0 = none) ∧
    (upc.mbx.length < 32 ∧ (List.replicate 31 (⟨.host, 1, 2, 3, .service⟩ : MbxEntry)).length = 31) := by
  refine ⟨?_, by decide +kernel, by decide +kernel, ?_, by decide +kernel, by decide +kernel, by decide +kernel, by decide +kernel⟩
  · intro op h
    refine ⟨_, rfl, ?_⟩
    rcases List.mem_cons.1 h with rfl | h
    · decide +kernel
    · rcases List.mem_cons.1 h with rfl | h
      · decide +kernel
      · cases h
  · decide +kernel
/-- A restore image of a port that has found no module. -/
def ctxImg : List Byte :=
  let h := leBytes 4 0x43580601 ++ leBytes 1 1 ++ List.replicate 31 0#8 ++ leBytes 4 (crc32c []).toNat ++ List.replicate 20 0#8
  h ++ leBytes 4 (crc32c h).toNat
def noMod : State := upc.updPort 0 (fun p => { p with hFound := 0 })
def slotOf (m : Memory) (st : SlotState) : State := { upc.setRslot 3 { mem := m, written := true, st := st } with rqueue := [3] }
theorem wit_HostPortCommands :
    ((0x05#8).toNat < 16 ∧ (16 ≤ (0x12#8).toNat ∧ (0x12#8).toNat < 64 ∧ (0x12#8).toNat / 4 % 4 = 0 ∧ (0x12#8).toNat % 4 ≠ 3)) ∧
    (upc.stwBarred .host = false ∧ upc.mgmt.restarting = false ∧ ({ upc with gen := { view := some ([], []) } }).stwBarred .stairwell = true) ∧
    ((slotOf [] .validating).rslot 3).st = .validating ∧ ((upc.rslot 3).st ≠ .validating ∧ (upc.rslot 3).written = false ∧ upc.rqueue = []) ∧
    (((upc.setRslot 3 { written := true }).rslot 3).written = true ∧ ((upc.setRslot 3 { written := true }).rslot 3).st = .empty) ∧
    (({ upc with rqueue := [2] }).rqueue ≠ [] ∧ 3 ∉ ({ upc with rqueue := [2] }).rqueue) ∧
    (upc.imageCheck [] = some (1, 1) ∧ noMod.imageCheck ctxImg = none ∧ upc.est.portsMirrored.getLsbD 0 = false ∧ upc.est.restore < 2 ∧
      (upc.est.portsMirrored ||| 1).getLsbD 0 = true ∧ ({ upc with est := { restore := 2 } }).est.restore = 2 ∧
      ((upc.setStr 0 { st := .closed }).lateOk 0 = false)) ∧
    (let a := (pSCOR * 0x1000 + 0x28 : Nat); a % 4 = 0 ∧ a < 0x80000 ∧ lowWord pSCOR 0x28 = true) := by decide +kernel
theorem wit_ImageOfASlot : (Memory.write [] 0 ctxImg).read 0 64 = ctxImg := by decide +kernel
def ready1 : State :=
  { up with gen := { slot := 1 }, scor := { permit := true, compOk := true }, ban := { so := 15, bfcEn := true, walkPassed := true }, est := { restore := 2 } }
theorem wit_GuardedModeRequests2 :
    (let s := { ready1.updPort 0 (fun p => { p with enumerated := true }) with mode := { mode := .commission } }
     s.md = .commission ∧ s.active = true ∧ s.failed .ready = 0#12) ∧
    (let s := (ready1.setStr 0 { st := .armed }).setHep 0 { vStr := some 4000000 }
     s.md = .ready ∧ s.active = true ∧ s.mode.trans = none ∧ s.failed .joining = 0#12 ∧ s.pair.fault = false) := by decide +kernel
def rrMsg (causes : Nat) : List Byte := leBytes 8 0 ++ leBytes 4 1 ++ leBytes 1 causes
def rrUp (causes : Nat) : State :=
  let m := hmac (List.replicate 32 0#8) (rrMsg causes)
  { upc with
    mode := { mode := .lockout, causes := BitVec.ofNat 5 causes, rrEpoch := 1, rrMac0 := word (leAt m 0 4), rrMac1 := word (leAt m 4 4) },
    hall := { newest := some 0, banks := [(0, { epoch := 1 })] } }
theorem wit_RemoteResetOfLockout :
    ((rrUp 4).rrCheck 4#5 = none ∧ 4#5 &&& 24#5 = 0#5) ∧ ((rrUp 8).rrCheck 8#5 = none ∧ 8#5 &&& 24#5 ≠ 0#5) ∧ (rrUp 4).rrCheck 0#5 ≠ none := by
  decide +kernel
theorem wit_LandingExits :
    (let s := { up with land := { waking := true } }; s.land.waking = true ∧ s.active = true ∧ s.portsDone = true ∧ s.authDone = true ∧ s.mode.reqCauses = 0#5) ∧
    (let s := { up with land := { landing := 3, exitAt := some 7000000 } }; s.land.exitAt = some 7000000 ∧ 3 ≤ s.land.landing) ∧
    (up.stwBarred .host = false ∧ up.mgmt.restarting = false ∧ 1#32 &&& ~~~1#32 = 0#32 ∧ 1#32 &&& ~~~0#32 ≠ 0#32) ∧
    (let s := { up with land := { waking := true }, pair := { role := .standby, waitUntil := some 9000000 } }
     s.pair.waitUntil = some 9000000 ∧ s.land.waking = true ∧ s.pair.role = .standby) := by decide +kernel
theorem wit_PowerResetSupply :
    (State.reset.start.powered = false ∧ up.start.powered = true ∧ (999 < 1000 ∧ 10000 ≤ 10000)) ∧
    (up.supply.vauxFault = false ∧ ({ up with supply := { vauxFault := true } }).supply.vauxFault = true ∧ up.supply.tjHigh = false) := by decide +kernel
def atStart (n : Nat) : State := { upc with start := { powered := true, step := n }, mode := { mode := .start } }
theorem wit_StartupSteps :
    ((atStart 1).start.bootHold = false ∧ (atStart 1).start.step = 1 ∧ (atStart 2).start.step = 2) ∧
    (let s := atStart 3; s.start.step = 3 ∧ s.gal.journal = none ∧ s.fw.failA < 3 ∧ s.fw.preferredB = false ∧ fwCheck s.otp.svnMin (s.fwImage false) = 0) ∧
    ((atStart 4).start.step = 4) ∧
    (let s := { atStart 5 with start := { powered := true, step := 5, onlyG0 := true } }; s.atStep 5 = true ∧ s.start.onlyG0 = true ∧ s.start.leaving = 0#5) ∧
    (let s := { upc with pair := { waitUntil := some 9000000 } }; s.pair.waitUntil = some 9000000 ∧ s.pair.role = .starting ∧ s.gen.single = false) ∧
    (let s := atStart 6; s.atStep 6 = true ∧ s.active = true ∧ s.portsDone = true ∧ s.md ≠ .dormant) ∧
    (let s := atStart 7; s.atStep 7 = true ∧ s.authDone = true) ∧
    (let s := { atStart 8 with est := { restore := 1 } }; s.est.restore = 1 ∧ s.atStep 8 = true ∧ s.md = .start ∧ s.mode.reqCauses = 0#5) := by decide +kernel
theorem wit_VinSurge :
    (6500 < 6501 ∧ 10000 ≤ 10000 ∧ 400 ≤ 400 ∧ ({ up with supply := { vinSurge := true } }).supply.vinSurge = true ∧ up.gal.fifo.length < 64) ∧
    (∃ f, execVinSurge 10001 0 up = .fault f) ∧ (∃ f, execVinSurgeEnd 401 up = .fault f) := by
  exact ⟨by decide +kernel, ⟨_, rfl⟩, ⟨_, rfl⟩⟩
def fwS (st : FwState) (opened : Bool) : State := { upc with fw := { state := st, opened := opened, imageB := .written [] } }
theorem wit_FirmwareImages :
    ((fwS .empty true).stwBarred .host = false ∧ (fwS .empty true).mgmt.restarting = false ∧ (fwS .empty true).fw.state ≠ .verifying ∧ (fwS .empty true).mgmt.shed ≠ 3) ∧
    (({ upc with gen := { view := some ([], []) } }).stwBarred .stairwell = true ∧ ({ upc with mgmt := { restarting := true } }).mgmt.restarting = true ∧
      ({ upc with mgmt := { shed := 3 } }).mgmt.shed = 3) ∧
    ((fwS .erasing false).fw.state = .erasing ∧ (fwS .verifying false).fw.state = .verifying ∧ (fwS .valid false).fw.state = .valid) ∧
    (let s := (fwS .empty true).setReg pDEV 0x048 0x1F7FFC#32
     s.fw.state = .empty ∧ s.fw.opened = true ∧ s.fld pDEV 0x048 20 0 % 4 = 0 ∧ s.fld pDEV 0x048 20 0 < 2064384 ∧ s.idleImage = .written []) ∧
    (let s := (fwS .writing false).setReg pDEV 0x048 0x1F8000#32; s.fw.state = .writing ∧ 2064384 ≤ s.fld pDEV 0x048 20 0) := by decide +kernel
theorem wit_AppendPort :
    ((up.gal.fifo.length < 64) ∧ 64 ≤ ({ up with gal := { fifo := fifo64 } }).gal.fifo.length) ∧
    (let s := { up with gal := { fifo := fifo64, lost := 1, lostFirst := 5, lostLast := 5 } }
     s.gal.fifo = ent :: List.replicate 63 ent ∧ (List.replicate 63 ent).length < 64 ∧ s.gal.clearing = none ∧ s.gal.lost ≠ 0) := by decide +kernel
def clrMsg (s : State) : List Byte := leBytes 8 s.gen.sectionId.toNat ++ leBytes 4 5 ++ [0x43#8, 0x4C#8, 0x52#8]
def clr0 : State :=
  let s := { upc with gal := { ring := [{ seq := 5, e := ent }], nextSeq := 6 } }
  let m := hmac s.resetKey (clrMsg s)
  ((s.setReg pGAL 0x044 5#32).setReg pGAL 0x048 (word (leAt m 0 4))).setReg pGAL 0x04C (word (leAt m 4 4))
theorem wit_GalleryStoreAndClear :
    (let s := { up with gal := { fifo := [ent], ring := [rec1] } }
     s.gal.fifo = [ent] ∧ s.gal.clearing = none ∧ s.gal.ring.getLast? = some rec1 ∧ rec1.e.typ = ent.typ ∧ mergeKey rec1.e = mergeKey ent ∧ rec1.e.pcc = ent.pcc ∧
      rec1.lastSec ≠ 0xFFFF ∧ merges { rec1 with lastSec := 0xFFFF } ent = false) ∧ up.gal.fifo = [] ∧
    (let s := clr0; let c := s.reg pGAL 0x044
     s.mgmt.restarting = false ∧ s.stwBarred .host = false ∧ (hmac s.resetKey (clrMsg s)).take 8 = leBytes 4 (s.reg pGAL 0x048).toNat ++ leBytes 4 (s.reg pGAL 0x04C).toNat ∧
      c = 5#32 ∧ newer32 c (word s.galNewest) = false ∧ s.galNewest ≠ 0 ∧ newer32 c (word s.gal.lastClr) = true ∧ s.md ≠ .lockout ∧
      s.gal.clearLog.length < 256 ∧ s.gal.clearing = none) ∧
    (let s := { clr0 with mode := { mode := .lockout } }; ¬ (s.md ≠ .lockout)) ∧
    (let s := upc; (hmac s.resetKey (leBytes 8 0 ++ leBytes 4 0 ++ [0x43#8, 0x4C#8, 0x52#8])).take 8 ≠ leBytes 4 (s.reg pGAL 0x048).toNat ++ leBytes 4 (s.reg pGAL 0x04C).toNat) ∧
    (({ clr0 with gal := { clr0.gal with clearing := some (.host, 5) } }).gal.clearing = some (.host, 5)) := by decide +kernel
theorem wit_GalleryReadSessions :
    (let s := { upc with gal := { ring := [{ seq := 5, e := ent }, { seq := 6, e := ent }], nextSeq := 7, clearLog := [rec1], sessions := [(1, { state := 1, lo := 5, hi := 6 })] } }
     s.mgmt.restarting = false ∧ s.bit pGAL 0x00C 31 = false ∧ s.galAllowed .host = true ∧ (s.session .host).state ≠ 0 ∧ s.galAllowed .mgmt = true ∧ (s.session .mgmt).state = 0 ∧
      s.gal.clearLog[(0#32).toNat]? = some rec1 ∧ s.gal.clearLog.length ≤ (1#32).toNat ∧ s.gal.ring.find? (fun r => r.seq == 6) = some { seq := 6, e := ent } ∧
      (∀ c ∈ [3, 7], ∀ r ∈ s.gal.ring, r.seq ≠ c) ∧ s.gal.ring.head? = some { seq := 5, e := ent } ∧ newer32 7 (word s.galNewest) = true ∧
      newer32 3 (word s.galNewest) = false ∧ newer32 (word 5) (word 3) = true) ∧
    (let s := upc.setReg pGAL 0x00C 0x80000000#32; s.bit pGAL 0x00C 31 = true ∧ s.galAllowed .host = false) ∧
    (let s := { upc with gal := { ring := [{ seq := 3, e := ent }, { seq := 6, e := ent }], nextSeq := 7 } }
     (∀ r ∈ s.gal.ring, r.seq ≠ 4) ∧ newer32 (word 4) (word s.galNewest) = false ∧ newer32 (word 3) (word 4) = false) := by decide +kernel
theorem wit_StairwellSession :
    (let s := { upc with gen := { view := none } }; s.stw.hold = none ∧ ([] : List Byte).length ≤ 32) ∧
    (pwMatch (upc.loginEntry .service) [1] = false ∧ upc.stw.fails < 2 ∧ ({ upc with stw := { fails := 2 } }).stw.fails = 2 ∧ upc.gal.fifo.length < 64) ∧
    (({ upc with stw := { hold := some 65000000000 } }).stw.hold = some 65000000000) ∧
    (let s := { core .halted with stw := { halted := true, level := .service } }; s.stw.halted = true ∧ s.scor.st = .halted) ∧ upc.stw.halted = false ∧
    (upc.stwBarred .host = false ∧ upc.mgmt.restarting = false ∧ ({ upc with gen := { view := some ([], []) } }).stwBarred .stairwell = true) ∧
    (1 ≤ upc.stwLevel.code ∧ ({ upc with gen := { view := some ([], []) } }).stwLevel.code < 1 ∧ 9600 ∉ [115200, 230400, 460800, 921600, 1500000, 3000000]) ∧
    (({ upc with stw := { newBaud := some (230400, 5010000) } }).stw.newBaud = some (230400, 5010000)) ∧ upc.stw.newBaud = none := by decide +kernel
theorem wit_StairwellAccess :
    (({ upc with gen := { view := some ([], []) } }).stwLevel.code < 1 ∧ upc.stwLevel.code < 2 ∧ 1 ≤ upc.stwLevel.code) ∧
    (let s := { upc with stw := { level := .service } }
     2 ≤ s.stwLevel.code ∧ (0x20#32).toNat % 4 = 0 ∧ pPROT ∉ [pCUR, pSCOR, pEST, pBFC] ∧
      (∃ a ∈ [0x25020, 0x25024, 0x0D020, 0x0D024], (regFlds (a / 0x1000) (a % 0x1000)).isSome = true ∧ pageClass (a / 0x1000) ≠ .mgmt) ∧
      regFlds 0x7F 0 = none ∧ s.pinOther .stairwell = false ∧ s.mgmt.restarting = false ∧ s.otp.stage ≠ .programming ∧ s.otp.stage ≠ .verifying) ∧
    (let s := { upc with hall := { pin := some { owner := .host, bank := none, age := 0, released := false } } }; s.pinOther .stairwell = true) := by decide +kernel
theorem wit_ManagementPlane :
    (upc.mgmt.shed ≤ 3 ∧ upc.gal.fifo.length < 62 ∧ upc.mgmt.restarting = false ∧ ({ upc with mgmt := { restarting := true } }).mgmt.restarting = true) ∧
    (let s := (upc.setPage pPROT { owner := Origin.stairwell.code }).setPage pLIM { owner := Origin.host.code }
     (s.page pPROT).owner = Origin.stairwell.code ∧ (s.page pLIM).owner = Origin.host.code ∧ pPROT < 0x2C) ∧
    ((fwS .erasing false).fw.state = .erasing ∧ (fwS .valid false).fw.state ≠ .erasing ∧ (fwS .valid false).fw.state ≠ .writing) ∧
    (∀ x < 4, (upc.can x).fifo1 = []) := by decide +kernel
def otpS (st : Stage) (m : Memory) : State := { upc with otp := { stage := st, buf := m } }
theorem wit_StagingAGeneration :
    (upc.stwBarred .host = false ∧ upc.mgmt.restarting = false ∧ upc.otp.stage ≠ .programming ∧ upc.otp.stage ≠ .verifying ∧ upc.otp.stage = .empty) ∧
    ((otpS .programming []).otp.stage = .programming) ∧
    (let s := otpS .loading []; s.otp.stage ≠ .programming ∧ s.otp.stage ≠ .empty ∧ leAt s.stageBytes 0 4 ≠ 0x47450001 ∧ leAt s.stageBytes 5 1 ≠ 1 ∧
      sget none s.otp.keys (leAt s.stageBytes 7 1) = none) := by decide +kernel
def ks0 : KeySet := { plant := [], reset := [], challenge := [] }
theorem wit_CommitSwitchAndKeys :
    (let s := otpS .verified []
     s.stwBarred .host = false ∧ s.mgmt.restarting = false ∧ s.otp.stage = .verified ∧ s.pendingSlot = none ∧ s.mgmt.shed ≠ 3 ∧ s.freeSlot = some 1 ∧ ¬ (genFlags s.stageBytes % 2 = 1) ∧
      s.safetyPw = true) ∧
    (genFlags (otpS .verified [(6, 1)]).stageBytes % 2 = 1) ∧
    (let s := { otpS .programming [] with otp := { stage := .programming, slots := [(1, { prog := true })] } }
     s.otp.stage = .programming ∧ s.progSlot = some 1) ∧
    (upc.otp.stage ≠ .programming ∧ upc.pendingSlot = none ∧ ¬ (upc.otp.stage = .verified)) ∧
    (let s := { upc with otp := { slots := [(2, { prog := true, committed := true })] } }
     s.pendingSlot = some 2 ∧ s.md = .ready ∧ (s.slotState 2).flags / 4 % 2 = 0 ∧ s.sw.confirmed = none ∧ { s with sw := { confirmed := some 5 } }.sw.confirmed.isSome = true) ∧
    (let s := { shutC 0 upc with mode := { mode := .online }, otp := { slots := [(2, { prog := true, committed := true, mem := [(6, 6)] })] } }
     s.pendingSlot = some 2 ∧ ¬ (s.md = .ready ∨ s.md = .commission) ∧ (s.slotState 2).flags / 2 % 2 = 1 ∧ (s.slotState 2).flags / 4 % 2 = 1 ∧ s.allOpen = false) ∧
    (let s := { upc with mode := { mode := .commission } }
     s.md = .commission ∧ s.fld pOTP 0x028 4 2 ≤ 3 ∧ sget none s.otp.keys (s.fld pOTP 0x028 4 2) = none ∧ s.safetyPw = true ∧ ¬ (upc.md = .commission)) := by decide +kernel
/-- A generation whose safety entry no password of the buffer matches. -/
theorem wit_SafetyPasswordWrong (s : State) :
    ({ s with gen := { safety := some ([], pbkdf2 s.pwBytes [] ++ [0#8]) } }).safetyPw = false := by
  have h : ({ s with gen := { safety := some ([], pbkdf2 s.pwBytes [] ++ [0#8]) } } : State).pwBytes = s.pwBytes := rfl
  simp only [State.safetyPw, pwMatch, h, Option.isNone_some, Bool.false_or]
  exact beq_eq_false_iff_ne.2 (fun e => by simpa using congrArg List.length e)
theorem wit_AuthenticationRounds :
    (({ upc with gen := { view := some ([], []) } }).stwBarred .stairwell = true ∧ upc.stwBarred .host = false ∧ upc.mgmt.restarting = false ∧ upc.active = true ∧ stb.active = false) ∧
    (upc.modulesInUse = [0, 1] ∧ (∀ x ∈ upc.modulesInUse, upc.modOf (modPort x) (modHop x) = x) ∧ upc.challengedNow 0 = false ∧ ({ upc with auth := { sent := [(0, upc.time.epoch, 0, 0)] } }).challengedNow 0 = true ∧ upc.mgmt.shed < 2 ∧ upc.chainMay = true ∧ upc.stw.trace = none) ∧
    (({ upc with regs := [] }).modulesInUse = []) ∧
    (let s := { upc with mgmt := { shed := 2 } }; 2 ≤ s.mgmt.shed ∧ s.now < (s.auth.deferredSince.getD s.now) + 600000000000) ∧
    (let s := { upc with mgmt := { shed := 2 }, auth := { deferredSince := some 0 }, time := { upc.time with now := 600000000000 } }
     2 ≤ s.mgmt.shed ∧ s.auth.deferredSince.getD s.now + 600000000000 ≤ s.now) := by decide +kernel
theorem wit_PadsOfTable2114 :
    State.reset.padReset = true ∧
    (let s := { upc with start := { powered := true, step := 3, bootHold := true } }; s.padReset = false ∧ s.start.bootHold = true) ∧
    (let s := { upc with land := { landing := 3 } }; s.padReset = false ∧ s.start.bootHold = false ∧ 3 ≤ s.land.landing) ∧
    (upc.padReset = false ∧ upc.start.bootHold = false ∧ upc.land.landing < 3 ∧ upc.active = true) ∧ upc.start.powered = true := by decide +kernel

/-! ### Results from the manual's worked examples and check values -/

/-- Table 03 (HCRC, PCRC): check values of the ASCII string of the digits 1 to 9. -/
theorem test_chain_crcs : crc8 ((List.range 9).map (fun i => BitVec.ofNat 8 (49 + i))) = 0xDF#8 ∧
    crc32c ((List.range 9).map (fun i => BitVec.ofNat 8 (49 + i))) = 0xE3069283#32 := by decide +kernel
/-- The manual's SP9: 29 monitors, medians of 10.962 and 53.102 µs give T_U 0x1E10 and T_HOP 0x2F08. -/
theorem test_hopcal_sp9 :
    (let s := up.updPort 0 (fun p => { p with hFound := 29 })
     let t := okOf (execHopcalDone 0 ((List.range 29).map (fun h => List.replicate 64 (if h = 0 then 10962 else if h = 28 then 53102 else 20000))) s)
     (t.port 0).tU = 0x1E10 ∧ (t.port 0).tHop = 0x2F08) := by decide +kernel
/-- The charge of one epoch (string 17): 1,572,802 µC and 157,280 mA. -/
theorem test_charge_of_an_epoch :
    (let s := { up with gen := { plant := [(6 * 1048576 + 17, 312500000), (7 * 1048576 + 17, 50)] } }
     let q := s.chargeOf 17 { a := 81234567890, b := 360001170000 } { a := 81234572930, b := 360001270000, dieT := 450, off := 42950 }
     roundR q.1 = 1572802 ∧ q.2.map roundR = some 157280) := by decide +kernel
/-- Table 04.5: cells 6 to 9 read under shuttle and compensated. -/
theorem test_compensated_readings :
    (let s := (((up.setWire 7 { res := 1200 }).setWire 8 { res := 1800 }).setWire 9 { res := 1000 }).setShut 7 { cmd := 75 }
     let s := s.setShut 8 { cmd := -50 }
     (s.compensate 0xFFFF#16 0 14 6 33300).1 = 33120 ∧ (s.compensate 0xFFFF#16 0 14 7 32475).1 = 33105 ∧
      (s.compensate 0xFFFF#16 0 14 8 33648).1 = 33098 ∧ (s.compensate 0xFFFF#16 0 14 9 33012).1 = 33112) := by decide +kernel
/-- The limit program of Table 08.10: its tables at 415 and 9,320. -/
theorem test_tlerp_of_the_limit_program :
    tlerpTab [-100, 0, 100, 350, 450, 550] [0, 31400, 157000, 157000, 94200, 0] 415 = 116180 ∧
    tlerpTab [0, 8000, 9000, 9500, 9800, 10000] [157000, 157000, 94200, 47100, 15700, 0] 9320 = 64056 := by decide +kernel
def limitProgram : List Nat :=
  [0, 0, 0, 0, 8, 0, 0, 0, 0x0481, 0x4A42, 0x0000, 0x4A82, 0x0001, 0x4AC2, 0x0002, 0x4B02, 0x0003, 0x4B42, 0x0004, 0x0782, 0x0030, 0x0624, 0x0A2C,
   0x40E0, 0x5D0E, 0x0010, 0x0624, 0x0A30, 0x4160, 0x5D96, 0x0020, 0x3518, 0x3534, 0x05C8, 0x29C9, 0x6D1C, 0x0A68, 0x0885, 0x4CBA, 0x0015, 0x7000]
/-- Its instructions start where Table 08.10 puts them, and its branch and vector name instruction starts. -/
theorem test_limit_program_scans :
    scanCode 12 limitProgram limitProgram.length 8 [] = .ok [8, 9, 0xB, 0xD, 0xF, 0x11, 0x13, 0x15, 0x16, 0x17, 0x18, 0x1A, 0x1B, 0x1C, 0x1D, 0x1F,
      0x20, 0x21, 0x22, 0x23, 0x24, 0x25, 0x26, 0x28] ∧
    badTarget limitProgram [8, 9, 0xB, 0xD, 0xF, 0x11, 0x13, 0x15, 0x16, 0x17, 0x18, 0x1A, 0x1B, 0x1C, 0x1D, 0x1F,
      0x20, 0x21, 0x22, 0x23, 0x24, 0x25, 0x26, 0x28] false = none := by decide +kernel
/-- DIV by zero saturates by the sign of the dividend and sets DIV0; SHL takes the count mod 32; MIN is signed. -/
theorem test_alu_corners :
    (let s := engOn 0
     ((okOf (execDiv 0 1 (.imm 0) s)).eng 0).reg 1 = 0x7FFFFFFF#32 ∧ ((okOf (execDiv 0 1 (.imm 0) s)).eng 0).div0 = true ∧
      ((okOf (execShl 0 1 (.ext 33) s)).eng 0).reg 1 = 6#32 ∧ ((okOf (execMin 0 1 (.ext 0xFFFF) s)).eng 0).reg 1 = 0xFFFFFFFF#32 ∧
      ((okOf (execMulq 0 1 (.extHi 0x8000) s)).eng 0).reg 1 = 0xFFFE8000#32) := by decide +kernel

/-! ### Ill-formed commands, one for each check of WellFormed -/

def okCan : CanFrame := { id := 5, xtd := false, fdf := false, brs := false, dlc := 1, data := [0] }
def okChain : ChainFrame := { typ := 0x7E, dir := 3, hop := 0, term := 0, flags := 0, seq := 0, len := 1, payload := [0, 0], hcrc := 0, pcrc := 0 }
def shut5 : Shuttle := { module := 0, cell := 5, cur := 0 }
theorem test_wf_frames : okCan.wf = true ∧ okChain.wf = true ∧ shut5.wf = true ∧
    ({ okCan with dlc := 2 }).wf = false ∧ ({ okCan with id := 2048 }).wf = false ∧ ({ okCan with brs := true }).wf = false ∧
    ({ okChain with len := 2 }).wf = false ∧ ({ okChain with len := 121, payload := List.replicate 242 0 }).wf = false ∧
    ({ shut5 with module := 1920 }).wf = false ∧ ({ shut5 with cell := 16 }).wf = false := by decide +kernel
theorem test_wf_refuses_frames :
    (Instr.insulationStatus { okCan with dlc := 2 }).wf = false ∧ (Instr.safeFrame false { okCan with dlc := 2 }).wf = false ∧
    (Instr.canFrameRx 0 { okCan with dlc := 2 } 0).wf = false ∧ (Instr.canWake 0 (some { okCan with dlc := 2 })).wf = false ∧
    (Instr.refMessageRx 0 { okCan with dlc := 2 } 0).wf = false ∧ (Instr.canRemoteReset { okCan with dlc := 2 }).wf = false ∧
    (Instr.chainFrame 0 { okChain with len := 2 }).wf = false ∧ (Instr.tone 0 { okChain with len := 2 }).wf = false ∧
    (Instr.tone 0 { okChain with typ := 0x7F }).wf = false ∧ (Instr.tone 0 { okChain with dir := 2 }).wf = false ∧
    (Instr.staleTerm 0 { okChain with len := 2 }).wf = false := by decide +kernel
theorem test_wf_refuses_lengths :
    (Instr.sampleInstant (List.replicate 49 ⟨0, 0, 0, 0⟩)).wf = false ∧ (Instr.sampleInstant [⟨1, 0, 0, 0⟩, ⟨1, 0, 0, 0⟩]).wf = false ∧
    (Instr.hopcalDone 0 (List.replicate 41 [])).wf = false ∧ (Instr.modStatusFrame .voa [0]).wf = false ∧ (Instr.ocTrip 0 [0, 0, 0]).wf = false ∧
    (Instr.ocClear 0 [0, 0, 0]).wf = false ∧ (Instr.brkHoldClear 0 [0, 0, 0]).wf = false ∧ (Instr.clkTaken 0 0 [1] false).wf = false ∧
    (Instr.clkTaken 0 0 (List.replicate 8 257) false).wf = false ∧ (Instr.qdResponse 0 [0]).wf = false ∧ (Instr.currentLoop [0, 0, 0, 0, 0]).wf = false := by
  decide +kernel
theorem test_wf_refuses_numbers :
    (Instr.startupSelftestPassed true (some 64) none).wf = false ∧ (Instr.startupSelftestPassed true none (some 128)).wf = false ∧
    (Instr.clamp 0 0 15).wf = false ∧ (Instr.walkEnd (some 128)).wf = false ∧ (Instr.handoverRequest 0 5).wf = false ∧
    (Instr.state { stMsg with strings := [(48, .armed)] }).wf = false ∧ (Instr.state { stMsg with closes := [(128, 0)] }).wf = false ∧
    (Instr.state { stMsg with nextSeq := [(48, 0)] }).wf = false ∧ (Instr.state { stMsg with wear := [(128, 0, 0, 0)] }).wf = false ∧
    (Instr.block 0 [(48, 0, 0)]).wf = false ∧ (Instr.plan 0 [{ shut5 with cell := 16 }]).wf = false := by decide +kernel
theorem test_wf_refuses_items :
    (Instr.sync (.status 0 .ready 0 0 0 [(128, 0, 0, 0)])).wf = false ∧ (Instr.sync (.plan [{ shut5 with cell := 16 }])).wf = false ∧
    (Instr.sync (.join .idle [(48, .armed)] [])).wf = false ∧ (Instr.sync (.join .idle [] [(128, 0)])).wf = false := by decide +kernel
theorem test_wf_refuses_lines :
    (Instr.stwLogin .out []).wf = false ∧ (Instr.stwLogin .view (List.replicate 33 0)).wf = false ∧ (Instr.baud 9600).wf = false ∧
    (Instr.peek 0 0).wf = false ∧ (Instr.peek 0 257).wf = false ∧ (Instr.trace 0 0 false).wf = false ∧ (Instr.trace 0 513 false).wf = false ∧
    (Instr.coreStep 0).wf = false ∧ (Instr.coreMem 0 0).wf = false ∧ (Instr.coreMem 0 257).wf = false := by decide +kernel
theorem test_wf_refuses_long (l : List Byte) (w : List Word) (hl : 65536 < l.length) (hw : 65536 ≤ w.length) :
    (Instr.context 0 0 l).wf = false ∧ (Instr.sync (.image l)).wf = false ∧ (Instr.sync (.code l)).wf = false ∧ (Instr.otpStage l).wf = false ∧
    (Instr.write .one 0 w 0 0 false).wf = false := by
  refine ⟨?_, ?_, ?_, ?_, ?_⟩ <;> simp [Instr.wf, SyncItem.wf] <;> omega
end Sys2Proof.Tests
end

section
/-! What every served write does (R23, R52, R53, R56, R471), and the answer to its origin. -/
namespace Sys2Proof.Machine

/-- A Stairwell session below service level is answered 5 and writes nothing (Table 18.7). -/
theorem State.served_of_barred {s : State} {o : Origin} {pg : Nat} (off : Nat) (r : Except Refuse State) (hc : pageClass pg = .mgmt)
    (hg : pg ≠ pGAL) (hb : s.stwBarred o = true) : s.served o pg off r = s.answer o 5 [] := by
  simp [State.served, hc, hg, hb]

/-- During a restart of the management plane a direct write is refused (R471). -/
theorem State.served_of_restarting {s : State} {o : Origin} {pg : Nat} (off : Nat) (r : Except Refuse State) (hc : pageClass pg = .mgmt)
    (hb : s.stwBarred o = false) (hr : s.mgmt.restarting = true) : s.served o pg off r = s.refuse o pg off .mode := by
  simp [State.served, hc, hb, hr]

/-- A direct write that is admitted and succeeds counts in CFGSEQ and is answered 0. -/
theorem State.served_ok_of_mgmt {s : State} {o : Origin} {pg : Nat} (off : Nat) (t : State) (hc : pageClass pg = .mgmt)
    (hb : s.stwBarred o = false) (hr : s.mgmt.restarting = false) : s.served o pg off (.ok t) = (t.bumpCfg pg).answer o 0 [] := by
  simp [State.served, hc, hb, hr]

theorem State.served_error_of_mgmt {s : State} {o : Origin} {pg : Nat} (off : Nat) (e : Refuse) (hc : pageClass pg = .mgmt)
    (hb : s.stwBarred o = false) (hr : s.mgmt.restarting = false) : s.served o pg off (.error e) = s.refuse o pg off e := by
  simp [State.served, hc, hb, hr]

/-- A mailbox write that succeeds counts in CFGSEQ of its page (R58). -/
theorem State.served_ok_of_mailbox (s : State) (o : Origin) {pg : Nat} (off : Nat) (t : State) (hc : pageClass pg ≠ .mgmt) :
    s.served o pg off (.ok t) = t.bumpCfg pg := by
  simp [State.served, hc]

theorem State.served_error_of_mailbox (s : State) (o : Origin) {pg : Nat} (off : Nat) (e : Refuse) (hc : pageClass pg ≠ .mgmt) :
    s.served o pg off (.error e) = s.refuse o pg off e := by
  simp [State.served, hc]

/-- An answer is an output and nothing else. -/
theorem State.answer_frame (s : State) (o : Origin) (n : Nat) (ws : List Word) : { s.answer o n ws with out := s.out } = s := by
  cases o with
  | host => rfl
  | stairwell => cases ws <;> rfl
  | mgmt => rfl

/-- What a served success leaves to its effect: the state of the effect, but for the page's CFGSEQ and the answer. -/
theorem State.answered_frame (t : State) (o : Origin) (pg n : Nat) (ws : List Word) :
    { (t.bumpCfg pg).answer o n ws with out := t.out, pages := t.pages } = t :=
  (congrArg (fun u : State => { u with out := t.out, pages := t.pages }) (State.answer_frame (t.bumpCfg pg) o n ws) :)

@[simp] theorem State.answer_page (s : State) (o : Origin) (n : Nat) (ws : List Word) (pg : Nat) : (s.answer o n ws).page pg = s.page pg :=
  (congrArg (fun u : State => u.page pg) (State.answer_frame s o n ws) :)

end Sys2Proof.Machine
end

section
/-! Sending an ad hoc command on a chain port (R87). -/
namespace Sys2Proof.Machine

/-- Every port after an update of one. -/
theorem State.updPort_port (s : State) (k j : Nat) (f : PortSt → PortSt) :
    (s.updPort k f).port j = if j = k then f (s.port k) else s.port j := by
  simp [State.updPort, State.setPort, State.port, sget_sset]

theorem State.updPort_keeps {β : Type} (q : PortSt → β) (s : State) (k j : Nat) (f : PortSt → PortSt) (h : ∀ t, q (f t) = q t) :
    q ((s.updPort k f).port j) = q (s.port j) := by
  rw [State.updPort_port]
  split
  · next e => rw [h, e]
  · rfl

/-- A trace is an output of the Stairwell. -/
theorem State.traceFrame_frame (s : State) (p : Nat) (f : ChainFrame) (ts : Nat) :
    { s.traceFrame p f ts with out := s.out, stw := s.stw } = s := by
  unfold State.traceFrame
  split
  · split <;> rfl
  · rfl

theorem State.traceFrame_of_none {s : State} (p : Nat) (f : ChainFrame) (ts : Nat) (h : s.stw.trace = none) : s.traceFrame p f ts = s := by
  simp [State.traceFrame, h]

theorem State.chainOut_frame (s : State) (p : Nat) (f : ChainFrame) : { s.chainOut p f with out := s.out, stw := s.stw } = s :=
  State.traceFrame_frame s p f _

/-- A sent command changes the ports (SEQ, commands awaiting their response), the outputs and the Stairwell's trace alone. -/
theorem State.sendAdhoc_frame (s : State) (p typ hop : Nat) (pl : List Byte) :
    { s.sendAdhoc p typ hop pl with ports := s.ports, out := s.out, stw := s.stw } = s := by
  unfold State.sendAdhoc
  split
  · have h := fun f => (congrArg (fun u : State => { u with ports := s.ports }) (State.chainOut_frame (s.takeSeq p).2 p f) :)
    dsimp only
    split <;> exact h _
  · rfl

@[simp] theorem State.sendAdhoc_time (s : State) (p typ hop : Nat) (pl : List Byte) : (s.sendAdhoc p typ hop pl).time = s.time :=
  (congrArg State.time (State.sendAdhoc_frame s p typ hop pl) :)

theorem State.chainOut_port (s : State) (p : Nat) (f : ChainFrame) (k : Nat) : (s.chainOut p f).port k = s.port k :=
  (congrArg (fun u : State => u.port k) (State.chainOut_frame s p f) :)

/-- Sending finds no module: the hops of every port stay. -/
theorem State.sendAdhoc_hFound (s : State) (p typ hop : Nat) (pl : List Byte) (k : Nat) :
    ((s.sendAdhoc p typ hop pl).port k).hFound = (s.port k).hFound := by
  have hseq : ((s.takeSeq p).2.port k).hFound = (s.port k).hFound := State.updPort_keeps PortSt.hFound s _ k _ (fun _ => rfl)
  unfold State.sendAdhoc
  split
  · dsimp only
    split
    · rw [State.chainOut_port, hseq]
    · refine (State.updPort_keeps PortSt.hFound _ p k _ fun _ => ?_).trans ?_
      · rfl
      · rw [State.chainOut_port, hseq]
  · rfl

/-- A device that may send puts the command on the line; without a running trace that is all it drives. -/
theorem State.sendAdhoc_out {s : State} (p typ hop : Nat) (pl : List Byte) (ha : s.active = true) (hm : s.chainMay = true)
    (ht : s.stw.trace = none) : ∃ fl seq, (s.sendAdhoc p typ hop pl).out = .chain p (mkFrame typ 0 hop s.term fl seq pl) :: s.out := by
  have hout : ∀ f, ((s.takeSeq p).2.chainOut p f).out = .chain p f :: s.out := by
    intro f
    have h : (s.takeSeq p).2.stw.trace = none := ht
    rw [State.chainOut, State.traceFrame_of_none _ _ _ h]
    rfl
  refine ⟨if hop = 0 then flagBCAST else 0#8, (s.takeSeq p).1, ?_⟩
  simp only [State.sendAdhoc, ha, hm, Bool.and_self, if_true]
  split <;> exact hout _

end Sys2Proof.Machine
end

section
/-! Challenges to the modules (R482, R484, R485). -/
namespace Sys2Proof.Machine

theorem State.authChallenge_of_inactive {s : State} (p h : Nat) (ha : s.active = false) : s.authChallenge p h = s := by
  simp [State.authChallenge, ha]

/-- A module challenged in this epoch is owed a challenge and nothing is sent. -/
theorem State.authChallenge_of_challenged {s : State} {p h : Nat} (ha : s.active = true) (hc : s.challengedNow (s.modOf p h) = true) :
    s.authChallenge p h = { s with auth := { s.auth with
      round := if s.auth.round.contains (s.modOf p h) then s.auth.round else s.auth.round ++ [s.modOf p h] } } := by
  simp [State.authChallenge, ha, hc]

/-- Any other module is sent its challenge, and none is owed to it. -/
theorem State.authChallenge_of_not_challenged {s : State} {p h : Nat} (ha : s.active = true) (hc : s.challengedNow (s.modOf p h) = false) :
    s.authChallenge p h = { s.sendAdhoc p 0x09 h (s.challenge p h s.time.epoch) with
      auth := { s.auth with
        sent := (s.modOf p h, s.time.epoch, s.tOf s.time.epoch, s.term) :: s.auth.sent.filter (fun e => e.2.1 == s.time.epoch)
        round := s.auth.round.filter (· != s.modOf p h) } } := by
  simp only [State.authChallenge, ha, hc, Bool.not_true, Bool.false_eq_true, if_false]

/-- A challenge changes the bookkeeping of the challenges and what sending changes. -/
theorem State.authChallenge_frame (s : State) (p h : Nat) :
    { s.authChallenge p h with auth := s.auth, ports := s.ports, out := s.out, stw := s.stw } = s := by
  rcases Bool.eq_false_or_eq_true s.active with ha | ha
  · rcases Bool.eq_false_or_eq_true (s.challengedNow (s.modOf p h)) with hc | hc
    · rw [State.authChallenge_of_challenged ha hc]
    · rw [State.authChallenge_of_not_challenged ha hc]
      exact (congrArg (fun u : State => { u with auth := s.auth }) (State.sendAdhoc_frame s p 0x09 h (s.challenge p h s.time.epoch)) :)
  · rw [State.authChallenge_of_inactive p h ha]

theorem State.authChallenge_hFound (s : State) (p h k : Nat) : ((s.authChallenge p h).port k).hFound = (s.port k).hFound := by
  rcases Bool.eq_false_or_eq_true s.active with ha | ha
  · rcases Bool.eq_false_or_eq_true (s.challengedNow (s.modOf p h)) with hc | hc
    · rw [State.authChallenge_of_challenged ha hc]
      rfl
    · rw [State.authChallenge_of_not_challenged ha hc]
      exact State.sendAdhoc_hFound s p 0x09 h (s.challenge p h s.time.epoch) k
  · rw [State.authChallenge_of_inactive p h ha]

/-- The address of a module is a matter of the settings and of the hops found. -/
theorem State.modOf_congr {s t : State} (hr : t.regs = s.regs) (hg : t.gen = s.gen) (hf : ∀ k, (t.port k).hFound = (s.port k).hFound)
    (p h : Nat) : t.modOf p h = s.modOf p h := by
  have hd : t.dualUpper p = s.dualUpper p := by
    simp only [State.dualUpper, State.bit, State.fld, State.reg, State.genWord, hr, hg]
  simp only [State.modOf, hd, hf]

theorem State.modOf_authChallenge (s : State) (p h q i : Nat) : (s.authChallenge p h).modOf q i = s.modOf q i :=
  State.modOf_congr (t := s.authChallenge p h) (congrArg State.regs (State.authChallenge_frame s p h) :)
    (congrArg State.gen (State.authChallenge_frame s p h) :) (State.authChallenge_hFound s p h) q i

theorem State.active_authChallenge (s : State) (p h : Nat) : (s.authChallenge p h).active = s.active :=
  (congrArg State.active (State.authChallenge_frame s p h) :)

/-- A module that has been challenged in this epoch stays so. -/
theorem State.challengedNow_authChallenge {s : State} {x : Nat} (p h : Nat) (hx : s.challengedNow x = true) :
    (s.authChallenge p h).challengedNow x = true := by
  rcases Bool.eq_false_or_eq_true s.active with ha | ha
  · rcases Bool.eq_false_or_eq_true (s.challengedNow (s.modOf p h)) with hc | hc
    · rw [State.authChallenge_of_challenged ha hc]; exact hx
    · rw [State.authChallenge_of_not_challenged ha hc]
      simp only [State.challengedNow, List.any_eq_true, State.sendAdhoc_time] at hx ⊢
      obtain ⟨e, hm, hp⟩ := hx
      exact ⟨e, List.mem_cons_of_mem _ (List.mem_filter.mpr ⟨hm, (Bool.and_eq_true_iff.mp hp).2⟩), hp⟩
  · rwa [State.authChallenge_of_inactive p h ha]

/-- What is owed to a module challenged in this epoch stays owed: only a module without a challenge leaves the round. -/
theorem State.mem_round_authChallenge {s : State} {x : Nat} (p h : Nat) (hx : s.challengedNow x = true) (hr : x ∈ s.auth.round) :
    x ∈ (s.authChallenge p h).auth.round := by
  rcases Bool.eq_false_or_eq_true s.active with ha | ha
  · rcases Bool.eq_false_or_eq_true (s.challengedNow (s.modOf p h)) with hc | hc
    · rw [State.authChallenge_of_challenged ha hc]
      dsimp only
      split
      · exact hr
      · exact List.mem_append_left _ hr
    · rw [State.authChallenge_of_not_challenged ha hc]
      have hne : x ≠ s.modOf p h := by rintro rfl; simp [hx] at hc
      exact List.mem_filter.mpr ⟨hr, by simpa using hne⟩
  · rwa [State.authChallenge_of_inactive p h ha]

/-- R484: a second challenge in an epoch is owed for the next one. -/
theorem State.modOf_mem_round_authChallenge {s : State} {p h : Nat} (ha : s.active = true) (hc : s.challengedNow (s.modOf p h) = true) :
    s.modOf p h ∈ (s.authChallenge p h).auth.round := by
  rw [State.authChallenge_of_challenged ha hc]
  dsimp only
  split
  · next hm => exact List.contains_iff_mem.mp hm
  · exact List.mem_append_right _ (List.mem_singleton_self _)

/-- A challenge to each module of a list. -/
def State.challengeAll (s : State) (l : List Nat) : State := foldS l (fun s m => s.authChallenge (modPort m) (modHop m)) s

theorem State.challengeAll_cons (s : State) (m : Nat) (l : List Nat) :
    s.challengeAll (m :: l) = (s.authChallenge (modPort m) (modHop m)).challengeAll l := rfl

/-- What every challenge keeps, a list of them keeps. -/
theorem State.challengeAll_keeps {β : Type} (q : State → β) (h : ∀ s p i, q (State.authChallenge s p i) = q s) (s : State) (l : List Nat) :
    q (s.challengeAll l) = q s :=
  foldS_keeps q l _ s (fun t m => h t (modPort m) (modHop m))

/-- After a list of challenges a module that already had one in this epoch is owed another. -/
theorem State.mem_round_challengeAll {s : State} {x : Nat} (l : List Nat) (ha : s.active = true) (hx : s.challengedNow x = true)
    (hm : s.modOf (modPort x) (modHop x) = x) (h : x ∈ l ∨ x ∈ s.auth.round) : x ∈ (s.challengeAll l).auth.round := by
  induction l generalizing s with
  | nil => exact h.resolve_left List.not_mem_nil
  | cons m l ih =>
    rw [State.challengeAll_cons]
    refine ih (by rwa [State.active_authChallenge]) (State.challengedNow_authChallenge _ _ hx) (by rwa [State.modOf_authChallenge]) ?_
    rcases h with h | h
    · rcases List.mem_cons.mp h with rfl | h
      · have howed := State.modOf_mem_round_authChallenge (p := modPort x) (h := modHop x) ha (by rwa [hm])
        rw [hm] at howed
        exact .inr howed
      · exact .inl h
    · exact .inr (State.mem_round_authChallenge _ _ hx h)

/-- The end of a round is its mark and its event. -/
theorem State.roundCheck_frame (s : State) :
    { s.roundCheck with auth := { s.roundCheck.auth with roundOn := s.auth.roundOn }, pages := s.pages } = s := by
  unfold State.roundCheck
  split <;> rfl

theorem State.roundCheck_cfgseq (s : State) (pg : Nat) : (s.roundCheck.page pg).cfgseq = (s.page pg).cfgseq := by
  unfold State.roundCheck
  split
  · by_cases e : pg = pAUTH
    · subst e; simp only [State.raise, State.updPage_same]; rfl
    · simp only [State.raise, State.updPage_ne _ _ e]; rfl
  · rfl

theorem State.authRound_eq (s : State) :
    s.authRound = (({ s with auth := { s.auth with roundOn := true } } : State).challengeAll s.modulesInUse).roundCheck := rfl

/-- A round changes the challenges' bookkeeping, what sending changes, and the event of its end. -/
theorem State.authRound_frame (s : State) :
    { s.authRound with auth := s.auth, ports := s.ports, out := s.out, stw := s.stw, pages := s.pages } = s := by
  have hall := State.challengeAll_keeps (fun t : State => { t with auth := s.auth, ports := s.ports, out := s.out, stw := s.stw })
    (fun t p i => (congrArg (fun u : State => { u with auth := s.auth, ports := s.ports, out := s.out, stw := s.stw })
      (State.authChallenge_frame t p i) :)) { s with auth := { s.auth with roundOn := true } } s.modulesInUse
  have hend := (congrArg (fun u : State => { u with auth := s.auth, ports := s.ports, out := s.out, stw := s.stw, pages := s.pages })
    (State.roundCheck_frame (({ s with auth := { s.auth with roundOn := true } } : State).challengeAll s.modulesInUse)) :)
  exact hend.trans (congrArg (fun u : State => { u with pages := s.pages }) hall :)

theorem State.authRound_cfgseq (s : State) (pg : Nat) : (s.authRound.page pg).cfgseq = (s.page pg).cfgseq := by
  rw [State.authRound_eq, State.roundCheck_cfgseq]
  exact State.challengeAll_keeps (fun t => (t.page pg).cfgseq)
    (fun t p i => (congrArg (fun u : State => (u.page pg).cfgseq) (State.authChallenge_frame t p i) :)) _ _

/-- A round owes a challenge to every module that has had one in this epoch. -/
theorem State.mem_round_authRound {s : State} {x : Nat} (ha : s.active = true) (hx : s.challengedNow x = true)
    (hm : s.modOf (modPort x) (modHop x) = x) (hin : x ∈ s.modulesInUse) : x ∈ s.authRound.auth.round := by
  have h : x ∈ (({ s with auth := { s.auth with roundOn := true } } : State).challengeAll s.modulesInUse).auth.round :=
    State.mem_round_challengeAll s.modulesInUse ha hx hm (.inl hin)
  rw [State.authRound_eq]
  exact (congrArg (fun u : State => u.auth.round) (State.roundCheck_frame _) :).symm ▸ h

/-- The module at the cursor, and the cursor kept within the modules in use. -/
def State.challengeTurn (s : State) : Nat := if s.auth.cursor < s.modulesInUse.length then s.auth.cursor else 0
/-- The state in which the turn has moved on and nothing is deferred any more. -/
def State.turnTaken (s : State) : State :=
  { s with auth := { s.auth with cursor := (s.challengeTurn + 1) % s.modulesInUse.length, deferredSince := none } }

theorem execAuthChallengeDue_of_idle {s : State} (h : s.active = false ∨ s.modulesInUse = []) : execAuthChallengeDue s = .next s := by
  rcases h with h | h <;> simp [execAuthChallengeDue, h]

theorem execAuthChallengeDue_of_shedding {s : State} (ha : s.active = true) (hm : s.modulesInUse ≠ []) (hs : 2 ≤ s.mgmt.shed)
    (ht : s.now < s.auth.deferredSince.getD s.now + 600000000000) :
    execAuthChallengeDue s = .next { s with auth := { s.auth with deferredSince := some (s.auth.deferredSince.getD s.now) } } := by
  simp [execAuthChallengeDue, ha, hm, hs, ht, sNs]

theorem execAuthChallengeDue_of_due {s : State} (ha : s.active = true) (hm : s.modulesInUse ≠ [])
    (hd : s.mgmt.shed < 2 ∨ s.auth.deferredSince.getD s.now + 600000000000 ≤ s.now) :
    execAuthChallengeDue s = .next (s.turnTaken.authChallenge (modPort (s.modulesInUse.getD s.challengeTurn 0))
      (modHop (s.modulesInUse.getD s.challengeTurn 0))) := by
  have hn : ¬ (2 ≤ s.mgmt.shed ∧ s.now < s.auth.deferredSince.getD s.now + sNs 600) := by
    simp only [sNs]; omega
  have hi : (!s.active || s.modulesInUse == []) = false := by simp [ha, hm]
  simp only [execAuthChallengeDue, hi, hn, if_false, Bool.false_eq_true]
  rfl

/-- A challenge that goes out: what is marked and what is driven. -/
theorem State.authChallenge_sent {s : State} {p h : Nat} (ha : s.active = true) (hc : s.challengedNow (s.modOf p h) = false) :
    (s.authChallenge p h).challengedNow (s.modOf p h) = true ∧ s.modOf p h ∉ (s.authChallenge p h).auth.round ∧
      (s.chainMay = true → s.stw.trace = none → ∃ f, (s.authChallenge p h).out = .chain p f :: s.out ∧ f.typ = 0x09#8 ∧
        f.payload = s.challenge p h s.time.epoch) := by
  rw [State.authChallenge_of_not_challenged ha hc]
  refine ⟨by simp [State.challengedNow], by simp, fun hm ht => ?_⟩
  obtain ⟨fl, seq, ho⟩ := State.sendAdhoc_out p 0x09 h (s.challenge p h s.time.epoch) ha hm ht
  exact ⟨mkFrame 0x09 0 h s.term fl seq (s.challenge p h s.time.epoch), ho, rfl, rfl⟩

/-- The challenge of a turn: the cursor moves on whether the challenge goes out or is owed. -/
theorem State.authChallenge_cursor (s : State) (p h : Nat) :
    (s.authChallenge p h).auth.cursor = s.auth.cursor ∧ (s.authChallenge p h).auth.deferredSince = s.auth.deferredSince := by
  rcases Bool.eq_false_or_eq_true s.active with ha | ha
  · rcases Bool.eq_false_or_eq_true (s.challengedNow (s.modOf p h)) with hc | hc
    · rw [State.authChallenge_of_challenged ha hc]; exact ⟨rfl, rfl⟩
    · rw [State.authChallenge_of_not_challenged ha hc]; exact ⟨rfl, rfl⟩
  · rw [State.authChallenge_of_inactive p h ha]; exact ⟨rfl, rfl⟩

end Sys2Proof.Machine
end

section
/-! AuthenticationRounds (19_otp_and_authentication.md, R482 to R486). -/
namespace Sys2Proof.Machine

theorem exec_round (o : Origin) (s : State) :
    exec (.round o) s = .next (s.served o pAUTH 0x008 (if s.active then .ok s.authRound else .error .mode)) := rfl

theorem exec_authChallengeDue (s : State) : exec .authChallengeDue s = execAuthChallengeDue s := rfl

/-- The next module's turn has come. -/
theorem State.challenge_of_the_turn {s : State} (ha : s.active = true) {m : Nat} (hm : s.modOf (modPort m) (modHop m) = m) :
    let t := s.turnTaken.authChallenge (modPort m) (modHop m)
    t.auth.cursor = (s.challengeTurn + 1) % s.modulesInUse.length ∧ t.auth.deferredSince = none ∧
      (s.challengedNow m = true → m ∈ t.auth.round ∧ t.ports = s.ports ∧ t.out = s.out) ∧
      (s.challengedNow m = false → t.challengedNow m = true ∧ m ∉ t.auth.round ∧
        (s.chainMay = true → s.stw.trace = none → ∃ f, t.out = .chain (modPort m) f :: s.out ∧ f.typ = 0x09#8 ∧
          f.payload = s.challenge (modPort m) (modHop m) s.time.epoch)) ∧ t.regs = s.regs ∧ t.coils = s.coils := by
  intro t
  have hmod : s.turnTaken.modOf (modPort m) (modHop m) = m := hm
  have hact : s.turnTaken.active = true := ha
  obtain ⟨hcur, hdef⟩ := State.authChallenge_cursor s.turnTaken (modPort m) (modHop m)
  have hframe := State.authChallenge_frame s.turnTaken (modPort m) (modHop m)
  refine ⟨hcur, hdef, fun hc => ?_, fun hc => ?_, (congrArg State.regs hframe :), (congrArg State.coils hframe :)⟩
  · have hc' : s.turnTaken.challengedNow (s.turnTaken.modOf (modPort m) (modHop m)) = true := by rw [hmod]; exact hc
    have howed := State.modOf_mem_round_authChallenge hact hc'
    have heq := State.authChallenge_of_challenged hact hc'
    rw [hmod] at howed
    exact ⟨howed, (congrArg State.ports heq :), (congrArg State.out heq :)⟩
  · have hsent := State.authChallenge_sent (p := modPort m) (h := modHop m) hact (by rw [hmod]; exact hc)
    rw [hmod] at hsent
    exact hsent

/-- Settles O59: the challenge to one module says when it is sent and when owed; a round is a list of such challenges. -/
theorem authenticationRounds : Obligations.AuthenticationRounds := by
  unfold Obligations.AuthenticationRounds
  intro s o
  dsimp only
  simp only [exec_round, exec_authChallengeDue]
  refine ⟨fun hb => ?_, fun hb h => ?_, fun hb hr ha => ⟨_, rfl, ?_⟩, execAuthChallengeDue_of_idle, execAuthChallengeDue_of_shedding,
    fun ha hne hm hd => ⟨_, execAuthChallengeDue_of_due ha hne hd, State.challenge_of_the_turn ha hm⟩⟩
  · rw [State.served_of_barred _ _ rfl (by decide) hb]
  · rcases Bool.eq_false_or_eq_true s.mgmt.restarting with hr | hr
    · rw [State.served_of_restarting _ _ rfl hb hr]
    · have ha : s.active = false := h.resolve_left (by simp [hr])
      rw [ha, if_neg (by simp), State.served_error_of_mgmt _ _ rfl hb hr]
  · rw [ha, if_pos rfl, State.served_ok_of_mgmt _ _ rfl hb hr]
    have hframe := (congrArg (fun u : State => { u with auth := s.auth, ports := s.ports, out := s.out, stw := s.stw, pages := s.pages })
      (State.answered_frame s.authRound o pAUTH 0 []) :).trans s.authRound_frame
    have hauth := (congrArg State.auth (State.answered_frame s.authRound o pAUTH 0 []) :)
    refine ⟨?_, fun hmods x hx hc => ?_, (congrArg State.regs hframe :), (congrArg State.coils hframe :), (congrArg State.mbx hframe :)⟩
    · rw [State.answer_page, State.bumpCfg_cfgseq, State.authRound_cfgseq]
    · exact hauth.symm ▸ State.mem_round_authRound ha hc (hmods x hx) hx

end Sys2Proof.Machine
end

section
/-! Pages and events: what records, events and locks leave of a page. -/
namespace Sys2Proof.Machine

theorem State.page_of_pages {s t : State} (h : t.pages = s.pages) (pg : Nat) : t.page pg = s.page pg := by
  simp only [State.page, h]

theorem State.evtBit_of_page {s t : State} {pg : Nat} (n : Nat) (h : t.page pg = s.page pg) : t.evtBit pg n = s.evtBit pg n := by
  simp only [State.evtBit, h]

/-- A record touches no page but the Gallery's. -/
theorem State.log_page (s : State) (typ : Nat) (pl : List Word) {pg : Nat} (h : pg ≠ pGAL) : (s.log typ pl).page pg = s.page pg := by
  unfold State.log
  split
  · rfl
  · exact State.updPage_ne _ _ h

theorem State.logN_page (s : State) (typ : Nat) (pl : List Nat) {pg : Nat} (h : pg ≠ pGAL) : (s.logN typ pl).page pg = s.page pg :=
  State.log_page s typ _ h

theorem State.raise_page_ne (s : State) {pg k : Nat} (n : Nat) (h : k ≠ pg) : (s.raise pg n).page k = s.page k :=
  State.updPage_ne s _ h

/-- A raised event shows (R60). -/
theorem State.raise_evtBit (s : State) (pg : Nat) {n : Nat} (h : n < 32) : (s.raise pg n).evtBit pg n = true := by
  simp [State.evtBit, h]

@[simp] theorem State.sendPair_page (s : State) (typ : Nat) (ws : List Word) (pg : Nat) : (s.sendPair typ ws).page pg = s.page pg :=
  State.page_of_pages (State.sendPair_pages s typ ws) pg

/-- Locking a page takes its owner away, and from no other page (R57). -/
theorem State.lockPage_page (s : State) (p k : Nat) :
    (s.lockPage p).page k = if k = p then { s.page k with owner := 0 } else s.page k := by
  have hlapse : ∀ t : State, (t.lapseSession .host false).page k = t.page k := by
    intro t
    unfold State.lapseSession
    split <;> rfl
  have hlock : (s.updPage p (fun x => { x with owner := 0 })).page k = if k = p then { s.page k with owner := 0 } else s.page k := by
    split
    · next e => rw [e, State.updPage_same]
    · next e => exact State.updPage_ne s _ e
  unfold State.lockPage
  dsimp only
  split
  · rw [hlapse, hlock]
  · exact hlock

theorem foldS_lockPage_page (l : List Nat) (s : State) (k : Nat) :
    (foldS l (fun s pg => s.lockPage pg) s).page k = if k ∈ l then { s.page k with owner := 0 } else s.page k := by
  induction l generalizing s with
  | nil => rfl
  | cons p l ih =>
    rw [foldS_cons, ih, State.lockPage_page]
    by_cases hp : k = p <;> by_cases hl : k ∈ l <;> simp [hp, hl]

/-- Every page of the map returns to locked, and keeps the rest (R57). -/
theorem State.lockAll_page (s : State) {k : Nat} (h : k < 0x2C) : s.lockAll.page k = { s.page k with owner := 0 } := by
  rw [State.lockAll, foldS_lockPage_page, if_pos (List.mem_range.mpr h)]

theorem State.lockAll_evtBit (s : State) {k : Nat} (n : Nat) (h : k < 0x2C) : s.lockAll.evtBit k n = s.evtBit k n := by
  simp only [State.evtBit, State.lockAll_page s h]

/-- Locking changes pages, and with the Gallery's page its sessions. -/
theorem State.lockAll_frame (s : State) : { s.lockAll with pages := s.pages, gal := s.gal } = s :=
  foldS_keeps (fun t : State => { t with pages := s.pages, gal := s.gal }) (List.range 0x2C) _ s (fun t p => by
    unfold State.lockPage
    dsimp only
    split
    · unfold State.lapseSession
      split <;> rfl
    · rfl)

@[simp] theorem State.lockAll_pair (s : State) : s.lockAll.pair = s.pair := by
  simpa only using congrArg State.pair (State.lockAll_frame s)

end Sys2Proof.Machine
end

section
/-! Start-up's end and a mode taking effect (R428, Table 17.6). -/
namespace Sys2Proof.Machine

theorem State.startEnds_pair (s : State) : s.startEnds.pair = s.pair := State.logN_pair _ _ _
theorem State.startEnds_md (s : State) : s.startEnds.md = s.md := by
  simp [State.md, State.startEnds]

theorem State.startEnds_page (s : State) {pg : Nat} (h : pg ≠ pGAL) : s.startEnds.page pg = s.page pg :=
  State.logN_page _ _ _ h

theorem State.revertRestart_frame (s : State) : { s.revertRestart with pair := s.pair } = s := by
  unfold State.revertRestart
  split <;> rfl

/-- Outside LOCKOUT a mode that takes effect leaves the pair as it was. -/
theorem State.setMode_pair {s : State} (m : Mode) (o : Nat) (h : s.md ≠ .lockout) : (s.setMode m o).pair = s.pair := by
  have hw : (s.md == Mode.lockout) = false := by simpa using h
  unfold State.setMode
  rw [hw, State.when_false]
  rw [State.lockAll_pair, State.raise_pair, State.logN_pair]

/-- A mode that takes effect raises an event of page MODE alone. -/
theorem State.setMode_evtBit (s : State) (m : Mode) (o : Nat) {pg : Nat} (n : Nat) (hp : pg < 0x2C) (hg : pg ≠ pGAL) (hm : pg ≠ pMODE) :
    (s.setMode m o).evtBit pg n = s.evtBit pg n := by
  unfold State.setMode
  rw [State.lockAll_evtBit _ n hp]
  refine State.evtBit_of_page n ?_
  rw [State.raise_page_ne _ 0 hm, State.logN_page _ _ _ hg]
  exact State.when_keeps (fun t => t.page pg) _ _ _ (congrArg (fun u : State => u.page pg) (State.revertRestart_frame _) :)

end Sys2Proof.Machine
end

section
/-! The section's operations (R253 to R257, R281, R294, R431) and the Banister's evaluation (R316, R317) keep to their fields. -/
namespace Sys2Proof.Machine

/-- The state without the fields of the section: contactors, waits, join, converter, modes, Banister outputs, records and outputs. -/
def State.besideSection (s : State) : State :=
  { s with out := [], pages := [], gal := {}, mode := {}, waits := [], strs := [], coils := [], join := {}, bfc := {}, ban := {} }

theorem State.besideSection_pair (s : State) : s.besideSection.pair = s.pair := rfl
theorem State.besideSection_banPair (s : State) : s.besideSection.banPair = s.banPair := rfl

theorem foldS_besideSection {α : Type} (l : List α) (f : State → α → State) (s : State)
    (h : ∀ t a, (f t a).besideSection = t.besideSection) : (foldS l f s).besideSection = s.besideSection :=
  foldS_keeps State.besideSection l f s h

theorem State.withMode_besideSection (s : State) (m : ModeSt) : ({ s with mode := m } : State).besideSection = s.besideSection := rfl
theorem State.withJoin_besideSection (s : State) (j : JoinState) : ({ s with join := j } : State).besideSection = s.besideSection := rfl
theorem State.withBfc_besideSection (s : State) (b : BfcSt) : ({ s with bfc := b } : State).besideSection = s.besideSection := rfl
theorem State.withBan_besideSection (s : State) (b : BanSt) : ({ s with ban := b } : State).besideSection = s.besideSection := rfl

theorem State.log_besideSection (s : State) (typ : Nat) (pl : List Word) : (s.log typ pl).besideSection = s.besideSection := by
  unfold State.log
  split <;> rfl
theorem State.raise_besideSection (s : State) (pg n : Nat) : (s.raise pg n).besideSection = s.besideSection := rfl
theorem State.record_besideSection (s : State) (typ : Nat) (pl : List Nat) (pg n : Nat) :
    ((s.logN typ pl).raise pg n).besideSection = s.besideSection := State.log_besideSection s typ _

theorem State.urgent_besideSection (s : State) (cs : List Nat) : (s.urgent cs).besideSection = s.besideSection := by
  unfold State.urgent
  split
  · rfl
  · exact foldS_besideSection _ _ s (fun _ _ => rfl)

theorem State.openChans_besideSection (s : State) (cs : List Nat) : (s.openChans cs).besideSection = s.besideSection := by
  refine (foldS_besideSection cs _ (s.urgent cs) fun _ _ => ?_).trans (State.urgent_besideSection s cs)
  rfl

theorem State.wearCheck_besideSection (s : State) (c : Nat) (b : Bool) : (s.wearCheck c b).besideSection = s.besideSection := by
  simp only [State.wearCheck, apply_ite State.besideSection, State.record_besideSection, ite_self]

theorem State.wearUnderLoad_besideSection (s : State) (a c : Nat) : (s.wearUnderLoad a c).besideSection = s.besideSection := by
  rw [State.wearUnderLoad, State.wearCheck_besideSection]
  rfl

theorem State.recordOpening_besideSection (s : State) (x : Nat) (o : DiscOrigin) (i : Option Int) (w : Nat) (cs : List Nat) :
    (s.recordOpening x o i w cs).besideSection = s.besideSection := by
  simp only [State.recordOpening, apply_ite State.besideSection, State.raise_besideSection, State.log_besideSection, foldS_besideSection,
    State.wearUnderLoad_besideSection, implies_true, ite_self]

theorem State.openNow_besideSection (s : State) (x : Nat) (o : DiscOrigin) (i : Option Int) :
    (s.openNow x o i).besideSection = s.besideSection := by
  have hstring : ∀ (t : State) (w : WaitSt) (f : StrSt → StrSt), ((t.setWaitOf x w).updStr x f).besideSection = t.besideSection :=
    fun _ _ _ => rfl
  unfold State.openNow
  dsimp only
  rw [hstring, State.openChans_besideSection, State.recordOpening_besideSection]

theorem State.discRecord_besideSection (s : State) (x : Nat) (o : DiscOrigin) (b : Bool) (d : Nat) :
    (s.discRecord x o b d).besideSection = s.besideSection := State.log_besideSection s _ _

theorem State.softReq_besideSection (s : State) (x : Nat) (o : DiscOrigin) : (s.softReq x o).besideSection = s.besideSection := by
  have hnew : ∀ (t : State) (w : WaitSt), (t.setWaitOf x w).besideSection = t.besideSection := fun _ _ => rfl
  simp only [State.softReq, State.updWaitOf, apply_ite State.besideSection, hnew, State.discRecord_besideSection, ite_self]

theorem State.hardReq_besideSection (s : State) (x : Nat) (o : DiscOrigin) : (s.hardReq x o).besideSection = s.besideSection := by
  simp only [State.hardReq, apply_ite State.besideSection, State.openNow_besideSection, State.discRecord_besideSection, ite_self]

theorem State.openFeed_besideSection (s : State) : s.openFeed.besideSection = s.besideSection := by
  unfold State.openFeed
  split
  · simp only [apply_ite State.besideSection, State.withJoin_besideSection, State.openChans_besideSection, ite_self]
  · rfl

theorem State.convRelease_besideSection (s : State) (st : ConvSt) : (s.convRelease st).besideSection = s.besideSection := rfl

theorem State.convStop_besideSection (s : State) : s.convStop.besideSection = s.besideSection := by
  unfold State.convStop
  split <;> simp only [State.openFeed_besideSection, State.convRelease_besideSection, State.withBfc_besideSection]

theorem State.askReady_besideSection (s : State) : s.askReady.besideSection = s.besideSection := by
  unfold State.askReady
  split
  · rfl
  · simp only [apply_ite State.besideSection, State.withMode_besideSection, ite_self]

theorem State.joinAbort_besideSection (s : State) (cause : Nat) : (s.joinAbort cause).besideSection = s.besideSection := by
  simp only [State.joinAbort, apply_ite State.besideSection, State.askReady_besideSection, State.convStop_besideSection,
    State.withJoin_besideSection, foldS_besideSection, State.softReq_besideSection, State.hardReq_besideSection, implies_true,
    State.record_besideSection, ite_self]

theorem State.lockout_besideSection (s : State) (cause : Nat) : (s.lockout cause).besideSection = s.besideSection := by
  simp only [State.lockout, apply_ite State.besideSection, foldS_besideSection, State.softReq_besideSection, implies_true,
    State.convStop_besideSection, State.joinAbort_besideSection, State.withMode_besideSection, State.record_besideSection, ite_self]

theorem State.banisterStop_besideSection (s : State) : s.banisterStop.besideSection = s.besideSection := by
  unfold State.banisterStop
  split <;> simp only [State.openFeed_besideSection, State.convRelease_besideSection, State.log_besideSection]

theorem State.soDropped_besideSection (s : State) (d : Nat) (lock : Bool) : (s.soDropped d lock).besideSection = s.besideSection := by
  simp only [State.soDropped, apply_ite State.besideSection, State.lockout_besideSection, State.askReady_besideSection,
    State.joinAbort_besideSection, ite_self]
  split <;> simp only [apply_ite State.besideSection, State.openFeed_besideSection, foldS_besideSection, State.hardReq_besideSection,
    implies_true, ite_self]

/-- An evaluation of the Banister stays within the section: roles, pair, latches, settings and the rest keep their values. -/
theorem State.banEval_besideSection (s : State) (lock : Bool) : (s.banEval lock).besideSection = s.besideSection := by
  simp only [State.banEval, apply_ite State.besideSection, State.soDropped_besideSection, State.banisterStop_besideSection,
    State.withBan_besideSection, ite_self]

end Sys2Proof.Machine
end

section
/-! A message of the join sequence on the device that joins (R6, R7, R363). -/
namespace Sys2Proof.Machine

/-- The state in which an item of the sequence is looked at: the link carries, the message is complete. -/
def State.syncHeard (s : State) : State := { s.linkHeard with pair := { s.linkHeard.pair with asm := serase s.linkHeard.pair.asm 0x21 } }

theorem State.syncHeard_frame (s : State) : { s.syncHeard with pair := s.pair } = s := by
  simp only [State.syncHeard, State.linkHeard]

theorem exec_sync (i : SyncItem) (s : State) : exec (.sync i) s = execSync i s := rfl

/-- A CODE image is not part of the sequence: it is verified whatever the role (R232). -/
theorem exec_sync_code {s : State} (l : List Byte) (hg : s.gen.single = false) : exec (.sync (.code l)) s = .next (s.syncHeard.codeMirror l) := by
  rw [exec_sync, execSync, if_neg (by simp [hg])]
  rfl

/-- A device that is not active takes an item where it is joining, and nothing of it where it is not. -/
theorem exec_sync_of_inactive {s : State} (i : SyncItem) (hg : s.gen.single = false) (ha : s.active = false) (hi : ∀ l, i ≠ .code l) :
    exec (.sync i) s = .next (if s.pair.joining then s.syncHeard.joinItem i else s.syncHeard) := by
  have hact : ¬ s.syncHeard.active = true := by
    rw [show s.syncHeard.active = s.active from rfl, ha]
    exact Bool.false_ne_true
  rw [exec_sync, execSync, if_neg (by simp [hg])]
  cases i with
  | code l => exact absurd rfl (hi l)
  | hello => exact if_neg hact
  | _ => rfl

theorem exec_sync_of_joining {s : State} (i : SyncItem) (hg : s.gen.single = false) (hj : s.pair.joining = true) (ha : s.active = false)
    (hi : ∀ l, i ≠ .code l) : exec (.sync i) s = .next (s.syncHeard.joinItem i) := by
  rw [exec_sync_of_inactive i hg ha hi, hj, if_pos rfl]

/-- SYNCING keeps the actuator links silent (R363). -/
theorem State.alSilent_of_syncing {s : State} (h : s.pair.sync = .syncing) : s.alSilent = true := by
  simp [State.alSilent, h]

/-- A refused device stops joining and keeps the rest of what it knows of the pair; page PAIR shows the fault. -/
theorem State.stayReady_pair (s : State) : s.stayReady.pair = { s.pair with joining := false } := by
  unfold State.stayReady
  dsimp only
  split
  · next h =>
    rw [State.setMode_pair _ _ (by rw [State.startEnds_md, h]; decide), State.startEnds_pair]
    rfl
  · rfl

theorem State.stayReady_evtBit (s : State) : s.stayReady.evtBit pPAIR 0 = true := by
  have h := State.raise_evtBit { s with pair := { s.pair with joining := false } } pPAIR (n := 0) (by decide)
  unfold State.stayReady
  dsimp only
  split
  · rw [State.setMode_evtBit _ _ _ _ (by decide) (by decide) (by decide), State.evtBit_of_page 0 (State.startEnds_page _ (by decide))]
    exact h
  · exact h

theorem State.strapCheck_of_ne {s : State} {pr : Bool} (h : pr ≠ s.start.primary) : s.strapCheck pr = s := by
  simp [State.strapCheck, h]

/-- Equal straps are a fault of the pair (R7). -/
theorem State.strapCheck_fault {s : State} {pr : Bool} (h : pr = s.start.primary) : (s.strapCheck pr).pair.fault = true := by
  unfold State.strapCheck
  split
  · simp
  · next hn => simpa [h] using hn

/-! Step 1: strap and firmware. -/

theorem State.joinItem_hello_accepted {s : State} {pr : Bool} {v lo hi : Word} (hk : s.pair.joinStep = 0) (hp : pr ≠ s.start.primary)
    (hc : s.compatibleWith v lo hi = true) : s.joinItem (.hello pr v lo hi) = { s with pair := { s.pair with joinStep := 1 } } := by
  simp [State.joinItem, hk, hp, hc]

theorem State.joinItem_hello_incompatible {s : State} {pr : Bool} {v lo hi : Word} (hk : s.pair.joinStep = 0) (hp : pr ≠ s.start.primary)
    (hc : s.compatibleWith v lo hi = false) : s.joinItem (.hello pr v lo hi) =
      ((({ s with pair := { s.pair with compatFault := true } } : State)).log 0x0A02 [s.fwVersion, v]).stayReady := by
  simp [State.joinItem, hk, hp, hc]

theorem State.joinItem_hello_sameStrap {s : State} {pr : Bool} {v lo hi : Word} (hk : s.pair.joinStep = 0) (hp : pr = s.start.primary) :
    s.joinItem (.hello pr v lo hi) = (s.strapCheck pr).stayReady := by
  simp [State.joinItem, hk, hp]

/-! Step 2: the generation in force. -/

theorem State.joinItem_generation_same {s : State} {id : Word} (hk : s.pair.joinStep = 1) (hi : id = s.gen.id) :
    s.joinItem (.generation id) = { s with pair := { s.pair with partnerGen := id, joinStep := 2 } } := by
  simp [State.joinItem, hk, hi]

theorem State.joinItem_generation_other {s : State} {id : Word} (hk : s.pair.joinStep = 1) (hi : id ≠ s.gen.id) :
    s.joinItem (.generation id) = ((({ s with pair := { s.pair with partnerGen := id, genMismatch := true, role := .standby, sync := .syncing } } :
      State)).log 0x0A03 [s.gen.id, id]).stayReady := by
  simp [State.joinItem, hk, hi]

/-! Step 3: time. -/

theorem State.joinItem_time {s : State} {now tb : Nat} {ep : Word} (hk : s.pair.joinStep = 2) :
    let t := s.joinItem (.time now ep tb)
    t.pair.joinStep = 3 ∧ t.pair.role = .standby ∧ t.pair.sync = .syncing ∧ t.time.epoch = ep ∧ t.time.tBase = tb ∧ t.time.sampling = true := by
  simp [State.joinItem, hk]

/-! Step 4: term, mode, Banister latches. -/

theorem foldS_updBpair_bpair (l : List Nat) (f : Nat → BanPairSt → BanPairSt) (s : State) {q : Nat} (hl : l.Nodup) (hq : q ∈ l) :
    (foldS l (fun s p => s.updBpair p (f p)) s).bpair q = f q (s.bpair q) := by
  have hkeep : ∀ (l : List Nat) (t : State), q ∉ l → (foldS l (fun s p => s.updBpair p (f p)) t).bpair q = t.bpair q := by
    intro l
    induction l with
    | nil => exact fun _ _ => rfl
    | cons p l ih =>
      intro t h
      rw [List.mem_cons, not_or] at h
      rw [foldS_cons, ih _ h.2, State.updBpair_ne _ _ h.1]
  induction l generalizing s with
  | nil => exact absurd hq List.not_mem_nil
  | cons p l ih =>
    rw [List.nodup_cons] at hl
    rw [foldS_cons]
    by_cases e : q = p
    · subst e
      rw [hkeep l _ hl.1, State.updBpair_same]
    · rw [ih _ hl.2 ((List.mem_cons.mp hq).resolve_left e), State.updBpair_ne _ _ e]

theorem State.banEval_pair (s : State) (lock : Bool) : (s.banEval lock).pair = s.pair := by
  rw [← State.besideSection_pair, State.banEval_besideSection, State.besideSection_pair]

theorem State.banEval_bpair (s : State) (lock : Bool) (q : Nat) : (s.banEval lock).bpair q = s.bpair q := by
  have h : (s.banEval lock).banPair = s.banPair := by
    rw [← State.besideSection_banPair, State.banEval_besideSection, State.besideSection_banPair]
  simp only [State.bpair, h]

theorem State.joinItem_status {s : State} {tm : Byte} {md : Mode} {cs : BitVec 5} {fb : Byte} {lat : BitVec 8} (hk : s.pair.joinStep = 3) :
    let t := s.joinItem (.status tm md cs fb lat [])
    t.pair.joinStep = 4 ∧ t.pair.term = tm ∧ t.pair.partnerMode = md ∧ ∀ q < 8, (t.bpair q).latched = lat.getLsbD q := by
  have hlatch : ∀ (l : List Nat) (t : State), (foldS l (fun s p => s.updBpair p (fun b => { b with latched := lat.getLsbD p })) t).pair = t.pair :=
    fun l t => foldS_keeps State.pair l _ t (fun _ _ => rfl)
  simp only [State.joinItem, hk, ne_eq, not_true, if_false, State.wearMerge, foldS_nil, true_and]
  refine ⟨?_, ?_, fun q hq => ?_⟩
  · rw [State.banEval_pair, hlatch]
  · rw [State.banEval_pair, hlatch]
  · have h := congrArg BanPairSt.latched (foldS_updBpair_bpair (List.range 8) (fun p b => { b with latched := lat.getLsbD p })
      { s with pair := { s.pair with term := tm, partnerMode := md, changed := true }, ban := { s.ban with partnerActing := false } }
      List.nodup_range (List.mem_range.mpr hq))
    refine Eq.trans ?_ h
    exact congrArg BanPairSt.latched (State.banEval_bpair _ false q)

/-! Step 5: converter and join state. -/

theorem State.joinItem_converter {s : State} {st : ConvSt} {w : Word} (hk : s.pair.joinStep = 4) :
    s.joinItem (.converter st w) = s.mirrorConv st w := by
  simp [State.joinItem, hk]

theorem State.mirrorConv_frame (s : State) (st : ConvSt) (w : Word) : { s.mirrorConv st w with bfc := s.bfc } = s := rfl

/-- The FAULT word is mirrored field by field (R303). -/
theorem State.mirrorConv_faultWord (s : State) (st : ConvSt) (w : Word) : (s.mirrorConv st w).faultWord =
    word (field w 31 24 * 2 ^ 24 + field w 23 16 * 2 ^ 16 + field w 15 8 * 2 ^ 8 + field w 7 0) := by
  simp only [State.faultWord, State.mirrorConv, at_]

theorem State.joinItem_join {s : State} {sec : JoinSec} {sts : List (Nat × JoinSt)} {cl : List (Nat × Half)} (hk : s.pair.joinStep = 4) :
    s.joinItem (.join sec sts cl) = s.mirrorJoin sec sts cl := by
  simp [State.joinItem, hk]

/-- A channel that the active device does not close is not closed here. -/
def State.dropClose (s : State) (c : Nat) : State :=
  if (s.coil c).closeSeq.isSome then s.updCoil c (fun k => { k with closeSeq := none }) else s

theorem State.mirrorJoin_nil (s : State) (sec : JoinSec) :
    s.mirrorJoin sec [] [] = foldS (List.range 128) State.dropClose { s with join := { s.join with sec := sec } } := rfl

theorem State.dropClose_frame (s : State) (c : Nat) : { s.dropClose c with coils := s.coils } = s := by
  unfold State.dropClose
  split <;> rfl

theorem State.dropClose_closeSeq (s : State) (c d : Nat) (h : c = d ∨ (s.coil d).closeSeq = none) : ((s.dropClose c).coil d).closeSeq = none := by
  unfold State.dropClose
  by_cases e : d = c
  · subst e
    split
    · rw [State.updCoil_same]
    · next hn => simpa using hn
  · have hd := h.resolve_left (Ne.symm e)
    split
    · rwa [State.updCoil_ne _ _ e]
    · exact hd

theorem foldS_dropClose_closeSeq (l : List Nat) (s : State) (d : Nat) (h : d ∈ l ∨ (s.coil d).closeSeq = none) :
    ((foldS l State.dropClose s).coil d).closeSeq = none := by
  induction l generalizing s with
  | nil => exact h.resolve_left List.not_mem_nil
  | cons c l ih =>
    rw [foldS_cons]
    rcases h with h | h
    · rcases List.mem_cons.mp h with rfl | h
      · exact ih _ (.inr (State.dropClose_closeSeq s d d (.inl rfl)))
      · exact ih _ (.inl h)
    · exact ih _ (.inr (State.dropClose_closeSeq s c d (.inr h)))

theorem State.mirrorJoin_nil_frame (s : State) (sec : JoinSec) :
    { s.mirrorJoin sec [] [] with coils := s.coils } = { s with join := { s.join with sec := sec } } :=
  foldS_keeps (fun t : State => { t with coils := s.coils }) (List.range 128) State.dropClose { s with join := { s.join with sec := sec } }
    (fun t c => congrArg (fun u : State => { u with coils := s.coils }) (State.dropClose_frame t c))

/-! Step 6: the last item. -/

/-- The end of the restore wait changes contexts, their serials, the estimator's state, records and its event. -/
theorem State.restoreEndNow_pair (s : State) (code : Nat) : (s.restoreEndNow code).pair = s.pair := by
  unfold State.restoreEndNow
  split
  · dsimp only
    rw [State.raise_pair, State.logN_pair]
    dsimp only
    rw [foldS_keeps State.pair _ _ _ (fun _ _ => by rfl), foldS_keeps State.pair _ _ s (fun _ _ => by rfl)]
  · rfl

theorem State.restoreEndNow_page (s : State) (code : Nat) {pg : Nat} (hg : pg ≠ pGAL) (he : pg ≠ pEST) :
    (s.restoreEndNow code).page pg = s.page pg := by
  unfold State.restoreEndNow
  split
  · dsimp only
    rw [State.raise_page_ne _ 2 he, State.logN_page _ _ _ hg]
    refine State.page_of_pages ?_ pg
    dsimp only
    rw [foldS_keeps State.pages _ _ _ (fun _ _ => by rfl), foldS_keeps State.pages _ _ s (fun _ _ => by rfl)]
  · rfl

theorem State.portsMirrored_pair (s : State) : s.portsMirrored.pair = s.pair := by
  unfold State.portsMirrored
  rw [foldS_keeps State.pair _ _ s (fun _ _ => by rfl)]

theorem State.portsMirrored_pages (s : State) : s.portsMirrored.pages = s.pages := by
  unfold State.portsMirrored
  rw [foldS_keeps State.pages _ _ s (fun _ _ => by rfl)]

theorem State.startCompleted_frame (s : State) : { s.startCompleted with fw := s.fw, start := s.start, otp := s.otp } = s := by
  unfold State.startCompleted
  split <;> rfl

theorem State.joinMode_frame (s : State) : { s.joinMode with mode := s.mode } = s := by
  unfold State.joinMode
  dsimp only
  split <;> split <;> rfl

/-- What follows SYNCED on the device itself: the restore wait ends, the ports run, the start is complete, the partner's mode is due. -/
def State.startsAsSynced (s : State) : State := (s.restoreEndNow 2).portsMirrored.startCompleted.joinMode

theorem State.startsAsSynced_pair (s : State) : s.startsAsSynced.pair = s.pair := by
  have hmode := congrArg State.pair (State.joinMode_frame (s.restoreEndNow 2).portsMirrored.startCompleted)
  have hstart := congrArg State.pair (State.startCompleted_frame (s.restoreEndNow 2).portsMirrored)
  dsimp only at hmode hstart
  rw [State.startsAsSynced, hmode, hstart, State.portsMirrored_pair, State.restoreEndNow_pair]

theorem State.startsAsSynced_page (s : State) {pg : Nat} (hg : pg ≠ pGAL) (he : pg ≠ pEST) : s.startsAsSynced.page pg = s.page pg := by
  have hmode := congrArg State.pages (State.joinMode_frame (s.restoreEndNow 2).portsMirrored.startCompleted)
  have hstart := congrArg State.pages (State.startCompleted_frame (s.restoreEndNow 2).portsMirrored)
  dsimp only at hmode hstart
  rw [State.startsAsSynced, State.page_of_pages (hmode.trans (hstart.trans (State.portsMirrored_pages _))) pg,
    State.restoreEndNow_page s 2 hg he]

theorem State.joinItem_complete {s : State} (hk : s.pair.joinStep = 4) :
    let t := s.joinItem .complete
    t.pair.sync = .synced ∧ t.pair.joining = false ∧ t.pair.joinStep = 6 ∧ t.evtBit pPAIR 4 = true ∧ t.pair.revertSince = some s.now := by
  have h : ∃ u : State, s.joinItem .complete = (u.raise pPAIR 4).startsAsSynced ∧
      u.pair = { s.pair with sync := .synced, joining := false, joinStep := 6, stopRefresh := false, revertSince := some s.now } := by
    simp only [State.joinItem, hk, ne_eq, not_true, if_false]
    exact ⟨_, rfl, State.logN_pair _ _ _⟩
  obtain ⟨u, ht, hu⟩ := h
  simp only [ht, State.startsAsSynced_pair, State.raise_pair, hu, true_and, and_true]
  rw [State.evtBit_of_page 4 (State.startsAsSynced_page _ (by decide) (by decide))]
  exact State.raise_evtBit u pPAIR (by decide)

end Sys2Proof.Machine
end

section
/-! The pair link: what sending a message changes, the answer to a joining partner, a mirrored CODE image (R232, R358, R363). -/
namespace Sys2Proof.Machine

/-- The state without what sending on the pair link changes: the numbers of frames and messages, and the outputs. -/
def State.besidePairLink (s : State) : State := { s with pair := { s.pair with lseq := 0, msgNo := [] }, out := [] }

theorem State.sendPair_besidePairLink (s : State) (typ : Nat) (ws : List Word) : (s.sendPair typ ws).besidePairLink = s.besidePairLink := by
  unfold State.sendPair
  split <;> rfl

/-- A field of the pair that is no number of the link keeps its value. -/
theorem State.sendPair_pair_keeps {β : Type} (q : PairSt → β) (hq : ∀ p : PairSt, q { p with lseq := 0, msgNo := [] } = q p) (s : State)
    (typ : Nat) (ws : List Word) : q (s.sendPair typ ws).pair = q s.pair := by
  have h := congrArg (fun t : State => q t.pair) (State.sendPair_besidePairLink s typ ws)
  simpa only [State.besidePairLink, hq] using h

/-- Outside single operation a message goes out. -/
theorem State.sendPair_out {s : State} (typ : Nat) (ws : List Word) (h : s.pair.role ≠ .singleOp) :
    (s.sendPair typ ws).out = .pair typ s.pair.lseq (sget 0#16 s.pair.msgNo typ) ws :: s.out := by
  unfold State.sendPair
  rw [if_neg h]
  rfl

/-- The answer to a joining partner is a series of messages that ends with item 9. -/
theorem State.joinAnswer_ends (s : State) : ∃ u : State, s.joinAnswer = u.sendPair 0x21 [9#32] ∧ u.besidePairLink = s.besidePairLink := by
  refine ⟨_, rfl, ?_⟩
  simp only [State.sendPair_besidePairLink]
  rw [foldS_keeps State.besidePairLink _ _ _ (fun t p => State.sendPair_besidePairLink t 0x21 _)]
  simp only [State.sendPair_besidePairLink]

theorem exec_sync_hello_of_active {s : State} {pr : Bool} {v lo hi : Word} (hg : s.gen.single = false) (hr : s.pair.role = .active)
    (hp : pr ≠ s.start.primary) (hf : s.pair.fault = false) (hc : s.compatibleWith v lo hi = true) :
    exec (.sync (.hello pr v lo hi)) s =
      .next ({ s.syncHeard with pair := { s.syncHeard.pair with hasPartner := true } } : State).joinAnswer := by
  have hact : s.syncHeard.active = true := by
    rw [show s.syncHeard.active = s.active from rfl, State.active, hr]
    rfl
  have hgo : ¬ (s.pair.fault = true ∨ s.compatibleWith v lo hi = false) := by simp [hf, hc]
  rw [exec_sync, execSync, if_neg (by simp [hg])]
  refine (if_pos hact).trans ?_
  dsimp only
  rw [State.strapCheck_of_ne (by exact hp)]
  exact congrArg Host.Outcome.next (if_neg hgo)

theorem State.codeMirror_installs {s : State} {l : List Byte} (hm : s.md = .commission) (hv : (verifyImage l).isNone = true) :
    (s.codeMirror l).code.ready = some l ∧ (s.codeMirror l).code.result = 1 := by
  simp [State.codeMirror, hm, hv]

theorem State.codeMirror_refuses {s : State} (l : List Byte) (hm : s.md ≠ .commission) :
    (s.codeMirror l).code.ready = s.code.ready ∧ (s.codeMirror l).code.result = 3 ∧ (s.codeMirror l).evtBit pCODE 4 = true := by
  have hmd : (s.md == Mode.commission) = false := by simpa using hm
  unfold State.codeMirror
  simp only [hmd, Bool.false_and, Bool.false_eq_true, if_false, State.codeRefuse]
  exact ⟨by simp, by simp, State.raise_evtBit _ pCODE (by decide)⟩

end Sys2Proof.Machine
end

section
/-! Handover requests, the swap drill and its outcome (R368, R378). -/
namespace Sys2Proof.Machine

theorem le_pickMs (n t : Nat) (l : List Nat) : t ≤ pickMs n t l := by
  induction n generalizing t with
  | zero => exact Nat.le_refl t
  | succ n ih =>
    unfold pickMs
    split
    · exact Nat.le_trans (Nat.le_add_right t 1000000) (ih _)
    · exact Nat.le_refl t

/-- A handover lies at least 500 µs ahead (R368). -/
theorem State.now_add_le_handoverAt (s : State) : s.now + 500000 ≤ s.handoverAt := by
  refine Nat.le_trans ?_ (le_pickMs _ _ _)
  omega

/-- A request for the roles, as it stands at the asking device until the partner answers. -/
theorem State.askHandover_handover (s : State) (cause tries : Nat) :
    (s.askHandover cause tries).pair.handover = some { instant := s.handoverAt, cause := cause, tries := tries, accepted := false } :=
  State.sendPair_pair_keeps PairSt.handover (fun _ => rfl) _ _ _

/-- A request leaves every other field of the pair but the link's numbers. -/
theorem State.askHandover_pair_keeps {β : Type} (q : PairSt → β) (hl : ∀ p : PairSt, q { p with lseq := 0, msgNo := [] } = q p)
    (hh : ∀ (p : PairSt) (h : Option Handover), q { p with handover := h } = q p) (s : State) (cause tries : Nat) :
    q (s.askHandover cause tries).pair = q s.pair :=
  (State.sendPair_pair_keeps q hl _ _ _).trans (hh s.pair _)

theorem State.askHandover_page (s : State) (cause tries pg : Nat) : (s.askHandover cause tries).page pg = s.page pg :=
  State.sendPair_page _ _ _ pg

theorem exec_swap (o : Origin) (s : State) : exec (.swap o) s = .next (s.served o pPAIR 0x008 s.swapDrill) := rfl

/-- The drill of R378 that has just been asked for. -/
def State.drillAsked (s : State) : State :=
  { s with pair := { s.pair with drill := 1, drillResult := 1, drillFailed := 0, drillQd := 0, drillCan := false } }.askHandover 3 1

/-- What SWAP needs: an active device with a synchronised eligible partner, the converter at rest, no handover and no drill (R303, R378). -/
def State.maySwap (s : State) : Prop :=
  s.pairedActive = true ∧ s.pair.partnerEligible = true ∧ s.convQuiet = true ∧ s.md ≠ .lockout ∧ s.pair.linkDown = false ∧
    s.pair.handover = none ∧ s.pair.drill = 0

theorem State.swapDrill_of_may {s : State} (h : s.maySwap) : s.swapDrill = .ok s.drillAsked := by
  obtain ⟨hp, he, hc, hm, hl, hh, hd⟩ := h
  unfold State.swapDrill
  exact if_pos (by simp [hp, he, hc, hm, hl, hh, hd])

theorem State.swapDrill_of_not_may {s : State} (h : ¬ s.maySwap) : s.swapDrill = .error .mode := by
  unfold State.swapDrill
  refine if_neg fun hn => h ?_
  simpa [State.maySwap, and_assoc] using hn

theorem drillSteps_eq_zero_iff (r : DrillResult) : drillSteps r = 0 ↔ r.echoFailed = [] ∧ r.qdFailed = 0#8 ∧ r.canFailed = false := by
  unfold drillSteps
  by_cases he : r.echoFailed = [] <;> by_cases hq : r.qdFailed = 0#8 <;> cases r.canFailed <;> simp [he, hq]

theorem execDrillCheck_of_none {s : State} (r : DrillResult) (h : s.pair.drill = 0 ∨ s.pair.handover.isSome = true) :
    execDrillCheck r s = .next s := if_pos h

/-- The findings of a drill as the new active device keeps them. -/
def State.drillNoted (s : State) (r : DrillResult) (result : Nat) : State :=
  { s with pair := { s.pair with drill := 0, drillResult := result, drillFailed := Nat.min 63 r.echoFailed.length,
                                 drillQd := r.qdFailed, drillCan := r.canFailed } }

/-- A drill whose checks pass ends with its event. -/
theorem execDrillCheck_of_passed {s : State} {r : DrillResult} (hd : s.pair.drill = 2) (hh : s.pair.handover = none) (h : drillSteps r = 0) :
    ∃ pl, execDrillCheck r s = .next (((s.drillNoted r 2).logN 0x0A0C pl).raise pPAIR 10) := by
  have hb : decide (drillSteps r ≠ 0) = false := by simp [h]
  refine ⟨[s.portsUsed.length, ((List.range 16).filter s.qdPresent).length], ?_⟩
  unfold execDrillCheck
  rw [if_neg (by simp [hd, hh]), hb]
  exact if_pos hd

/-- A drill with a failing check ends with its event and asks for the roles back. -/
theorem execDrillCheck_of_failed {s : State} {r : DrillResult} (hd : s.pair.drill = 2) (hh : s.pair.handover = none) (h : drillSteps r ≠ 0) :
    ∃ pl, execDrillCheck r s = .next ((((s.drillNoted r 3).logN 0x0A0D pl).raise pPAIR 10).askHandover 3 1) := by
  have hb : decide (drillSteps r ≠ 0) = true := by simp [h]
  refine ⟨[drillSteps r] ++ [bitsOf (fun p => r.echoFailed.contains p) 32, bitsOf (fun p => r.echoFailed.contains (p + 32)) 16], ?_⟩
  unfold execDrillCheck
  rw [if_neg (by simp [hd, hh]), hb]
  exact if_pos hd

end Sys2Proof.Machine
end

section
/-! The switch of the settings generation: proposal, confirmation, switching alone (R35, R51, R310, R363, R476). -/
namespace Sys2Proof.Machine

theorem exec_genSwitchPropose (s : State) : exec .genSwitchPropose s = execGenSwitchPropose s := rfl

theorem execGenSwitchPropose_of_none {s : State} (h : s.sw.asked = none) : execGenSwitchPropose s = .next s := by
  simp only [execGenSwitchPropose, h]

/-- An accepted generation may be proposed here and now. -/
def State.mayPropose (s : State) : Prop :=
  s.active = true ∧ s.sw.confirmed = none ∧ s.pair.genMismatch = false ∧ s.pair.compatFault = false

theorem execGenSwitchPropose_of_may {s : State} {k : Nat} (hk : s.sw.asked = some k) (ha : s.switchAccepted k = true) (hm : s.mayPropose) :
    execGenSwitchPropose s =
      if s.pair.hasPartner then
        if s.sw.partnerHas = some (genIdOf (s.slotState k).bytes) ∧ s.pair.linkDown = false then
          .next ({ s with sw := { s.sw with proposed := some (s.epochFrom (s.now + s.tEpoch)) } }.sendPair 5
            [genIdOf (s.slotState k).bytes, s.epochFrom (s.now + s.tEpoch)])
        else .next s
      else .next { s with sw := { s.sw with confirmed := some (s.epochFrom (s.now + s.tEpoch)) } } := by
  obtain ⟨hact, hc, hg, hf⟩ := hm
  simp [execGenSwitchPropose, hk, ha, hact, hc, hg, hf]

theorem execGenSwitchPropose_of_not_may {s : State} {k : Nat} (hk : s.sw.asked = some k) (hg : s.pair.genMismatch = false)
    (hm : ¬ s.mayPropose) : execGenSwitchPropose s = .next s := by
  have hn : s.active = false ∨ s.switchAccepted k = false ∨ s.sw.confirmed.isSome = true ∨ s.pair.genMismatch = true ∨
      s.pair.compatFault = true := by
    by_contra h
    push Not at h
    obtain ⟨hact, -, hc, -, hf⟩ := h
    exact hm ⟨by simpa using hact, by simpa using hc, hg, by simpa using hf⟩
  simp only [execGenSwitchPropose, hk, hg, Bool.false_eq_true, false_and, if_false]
  exact if_pos (by simpa [hg] using hn)

/-- A device that joins with another generation switches alone (R363 step 2). -/
theorem execGenSwitchPropose_of_mismatch {s : State} {k : Nat} (hk : s.sw.asked = some k) (ha : s.switchAccepted k = true)
    (hg : s.pair.genMismatch = true) : execGenSwitchPropose s = .next { s.switchGen k s.nextN with
      pair := { (s.switchGen k s.nextN).pair with
        genMismatch := (s.switchGen k s.nextN).gen.id != (s.switchGen k s.nextN).pair.partnerGen } } := by
  simp only [execGenSwitchPropose, hk, ha, hg, and_self, if_true]

/-- What a switch decides first and then keeps: the generation, its slots, the pair. -/
def State.generationView (s : State) : GenSt × OtpSt × PairSt := (s.gen, s.otp, s.pair)

theorem foldS_generationView {α : Type} (l : List α) (f : State → α → State) (s : State)
    (h : ∀ t a, (f t a).generationView = t.generationView) : (foldS l f s).generationView = s.generationView :=
  foldS_keeps State.generationView l f s h

theorem State.genInSlot_slot (s : State) (k : Nat) : (s.genInSlot k).slot = k := by
  unfold State.genInSlot
  split
  · next h => exact h.symm
  · rfl

theorem State.loadGen_generationView (s : State) (k : Nat) :
    (s.loadGen k).generationView = (s.genInSlot k, { s.otp with inForce := k }, s.pair) := by
  unfold State.loadGen
  dsimp only
  rw [foldS_generationView _ _ _ (fun _ _ => by rfl)]
  rfl

theorem State.log_generationView (s : State) (typ : Nat) (pl : List Word) : (s.log typ pl).generationView = s.generationView := by
  unfold State.log
  split <;> rfl

theorem State.withTime_generationView (s : State) (x : TimeSt) : ({ s with time := x } : State).generationView = s.generationView := rfl

theorem State.raise_generationView (s : State) (pg n : Nat) : (s.raise pg n).generationView = s.generationView := rfl

theorem State.reloadRegs_generationView (s t : State) : (s.reloadRegs t).1.generationView = s.generationView := by
  have hfold : ∀ (l : List (Nat × Word)) (f : State × Bool → Nat × Word → State × Bool) (a : State × Bool),
      (∀ a e, (f a e).1.generationView = a.1.generationView) → (l.foldl f a).1.generationView = a.1.generationView := by
    intro l f a h
    induction l generalizing a with
    | nil => rfl
    | cons e l ih => exact (ih (f a e)).trans (h a e)
  refine hfold t.regs _ (s, false) fun a e => ?_
  dsimp only
  split
  · exact State.log_generationView _ _ _
  · rfl

theorem State.bufDrop_generationView (s : State) (k : Nat) (d : BufState) : (s.bufDrop k d).generationView = s.generationView := by
  unfold State.bufDrop
  dsimp only
  split
  · rfl
  · split <;> rfl

theorem State.engInstall_generationView (s : State) (e : Nat) : (s.engInstall e).generationView = s.generationView := by
  unfold State.engInstall
  split
  · rfl
  · split
    · dsimp only
      split
      · rfl
      · exact State.log_generationView _ _ _
    · rfl

theorem State.rescaleAll_generationView (s : State) : s.rescaleAll.generationView = s.generationView := by
  refine foldS_generationView _ _ s fun t e => ?_
  dsimp only
  split <;> rfl

theorem State.banReload_generationView (s t : State) : (s.banReload t).generationView = t.generationView := by
  unfold State.banReload
  dsimp only
  rw [foldS_generationView, foldS_generationView, foldS_generationView]
  · intro u p
    split
    · simp only [State.generationView, State.setSafe_gen, State.setSafe_otp, State.setSafe_pair, State.setBpair_gen, State.setBpair_otp,
        State.setBpair_pair]
    · rfl
  · intro u r
    split
    · simp only [State.generationView, State.setSrc_gen, State.setSrc_otp, State.setSrc_pair]
    · rfl
  · intro u p
    split
    · simp only [State.generationView, State.updToneOf_gen, State.updToneOf_otp, State.updToneOf_pair]
    · rfl

/-- The state in which slot k is SWITCHED. -/
def State.slotSwitched (s : State) (k : Nat) : State := s.setSlotState k { s.slotState k with switched := true }

/-- The state in which no switch is asked for. -/
def State.switchOver (s : State) (sy : SyncTime) (st : StartSt) : State := { s with sw := {}, syncT := sy, start := st }

theorem State.switchOver_generationView (s : State) (sy : SyncTime) (st : StartSt) :
    (s.switchOver sy st).generationView = s.generationView := rfl

/-- A switch marks the slot, reloads the Banister and clears the request; its record, its event and the locking of every page end it. -/
theorem State.switchGen_ends (t : State) (k : Nat) (n : Word) : ∃ (u : State) (sy : SyncTime) (st : StartSt) (pl : List Nat),
    t.switchGen k n = ((((t.banReload (u.slotSwitched k)).switchOver sy st).logN 0x0D03 pl).raise pOTP 2).lockAll ∧
    u.generationView = (t.genInSlot k, { t.otp with inForce := k }, t.pair) := by
  refine ⟨_, _, _, _, rfl, ?_⟩
  rw [foldS_generationView, foldS_generationView, State.rescaleAll_generationView, foldS_generationView, foldS_generationView,
    State.when_keeps State.generationView]
  · exact (State.reloadRegs_generationView _ t).trans ((State.withTime_generationView _ _).trans (State.loadGen_generationView t k))
  · rfl
  · intro w pg
    split <;> rfl
  · intro w b
    split
    · exact State.bufDrop_generationView w b _
    · rfl
  · exact fun w e => State.engInstall_generationView _ e
  · exact fun _ _ => rfl

theorem State.lockAll_generationView (s : State) : s.lockAll.generationView = s.generationView := by
  have hgen := congrArg State.gen (State.lockAll_frame s)
  have hotp := congrArg State.otp (State.lockAll_frame s)
  dsimp only at hgen hotp
  rw [State.generationView, hgen, hotp, State.lockAll_pair, State.generationView]

theorem State.lockAll_sw (s : State) : s.lockAll.sw = s.sw := by
  simpa only using congrArg State.sw (State.lockAll_frame s)

/-- R35, R476: after the switch the generation of slot k is in force, the slot is SWITCHED, nothing is asked for, every page is locked
and page OTP shows the event; the pair is as before. -/
theorem State.switchGen_result (t : State) (k : Nat) (n : Word) :
    let u := t.switchGen k n
    u.otp.inForce = k ∧ u.gen.slot = k ∧ u.sw = {} ∧ (u.slotState k).switched = true ∧ u.evtBit pOTP 2 = true ∧ u.pair = t.pair ∧
      ∀ pg < 0x2C, (u.page pg).owner = 0 := by
  intro u
  obtain ⟨w, sy, st, pl, hu, htaken⟩ := t.switchGen_ends k n
  have hview : u.generationView = (w.slotSwitched k).generationView := by
    show (t.switchGen k n).generationView = _
    rw [hu, State.lockAll_generationView, State.raise_generationView, State.logN, State.log_generationView, State.switchOver_generationView,
      State.banReload_generationView]
  simp only [State.generationView, State.slotSwitched, State.setSlotState, Prod.mk.injEq] at hview htaken
  obtain ⟨hgen, hotp, hpair⟩ := hview
  obtain ⟨htgen, htotp, htpair⟩ := htaken
  refine ⟨?_, ?_, ?_, ?_, ?_, ?_, fun pg hpg => ?_⟩
  · rw [hotp, htotp]
  · rw [hgen, htgen, State.genInSlot_slot]
  · show (t.switchGen k n).sw = _
    rw [hu, State.lockAll_sw, State.raise_sw, State.logN_sw]
    rfl
  · rw [State.slotState, hotp, sget_sset_same]
  · show (t.switchGen k n).evtBit pOTP 2 = true
    rw [hu, State.lockAll_evtBit _ 2 (by decide), State.raise_evtBit _ _ (by decide)]
  · rw [hpair, htpair]
  · show ((t.switchGen k n).page pg).owner = 0
    rw [hu, State.lockAll_page _ hpg]

end Sys2Proof.Machine
end

section
/-! JoinSequenceDrillAndProposal (R6, R7, R35, R51, R232, R310, R344, R362, R363, R378, R476). -/
namespace Sys2Proof.Machine

theorem exec_sync_joined {s t : State} {i : SyncItem} (hg : s.gen.single = false) (hj : s.pair.joining = true) (ha : s.active = false)
    (hi : ∀ l, i ≠ .code l) (h : s.syncHeard.joinItem i = t) : exec (.sync i) s = .next t := by
  rw [exec_sync_of_joining i hg hj ha hi, h]

/-- Step 1 with the other strap and a compatible firmware. -/
theorem sync_hello_accepted {s : State} {pr : Bool} {v lo hi : Word} (hg : s.gen.single = false) (hj : s.pair.joining = true)
    (ha : s.active = false) (hk : s.pair.joinStep = 0) (hp : pr ≠ s.start.primary) (hc : s.compatibleWith v lo hi = true) :
    ∃ t, exec (.sync (.hello pr v lo hi)) s = .next t ∧ t.pair.joinStep = 1 ∧ { t with pair := s.pair } = s :=
  ⟨_, exec_sync_joined hg hj ha nofun (State.joinItem_hello_accepted hk hp hc), rfl, State.syncHeard_frame s⟩

theorem sync_hello_incompatible {s : State} {pr : Bool} {v lo hi : Word} (hg : s.gen.single = false) (hj : s.pair.joining = true)
    (ha : s.active = false) (hk : s.pair.joinStep = 0) (hp : pr ≠ s.start.primary) (hc : s.compatibleWith v lo hi = false) :
    ∃ t, exec (.sync (.hello pr v lo hi)) s = .next t ∧ t.pair.compatFault = true ∧ t.pair.joining = false ∧ t.evtBit pPAIR 0 = true := by
  refine ⟨_, exec_sync_joined hg hj ha nofun (State.joinItem_hello_incompatible hk hp hc), ?_, ?_, State.stayReady_evtBit _⟩
  · rw [State.stayReady_pair, State.log_pair]
  · rw [State.stayReady_pair]

theorem sync_hello_sameStrap {s : State} {pr : Bool} (v lo hi : Word) (hg : s.gen.single = false) (hj : s.pair.joining = true)
    (ha : s.active = false) (hk : s.pair.joinStep = 0) (hp : pr = s.start.primary) :
    ∃ t, exec (.sync (.hello pr v lo hi)) s = .next t ∧ t.pair.fault = true ∧ t.pair.joining = false := by
  refine ⟨_, exec_sync_joined hg hj ha nofun (State.joinItem_hello_sameStrap hk hp), ?_, ?_⟩
  · rw [State.stayReady_pair]
    exact State.strapCheck_fault hp
  · rw [State.stayReady_pair]

theorem sync_generation_other {s : State} {id : Word} (hg : s.gen.single = false) (hj : s.pair.joining = true) (ha : s.active = false)
    (hk : s.pair.joinStep = 1) (hi : id ≠ s.gen.id) : ∃ t, exec (.sync (.generation id)) s = .next t ∧ t.pair.genMismatch = true ∧
      t.pair.joining = false ∧ t.pair.role = .standby ∧ t.pair.sync = .syncing ∧ t.alSilent = true := by
  refine ⟨_, exec_sync_joined hg hj ha nofun (State.joinItem_generation_other hk hi), ?_, ?_, ?_, ?_, State.alSilent_of_syncing ?_⟩
  all_goals rw [State.stayReady_pair, State.log_pair]

theorem sync_generation_same {s : State} {id : Word} (hg : s.gen.single = false) (hj : s.pair.joining = true) (ha : s.active = false)
    (hk : s.pair.joinStep = 1) (hi : id = s.gen.id) : ∃ t, exec (.sync (.generation id)) s = .next t ∧ t.pair.joinStep = 2 ∧
      t.pair.partnerGen = id ∧ { t with pair := s.pair } = s :=
  ⟨_, exec_sync_joined hg hj ha nofun (State.joinItem_generation_same hk hi), rfl, rfl, State.syncHeard_frame s⟩

theorem sync_time {s : State} (now tb : Nat) (ep : Word) (hg : s.gen.single = false) (hj : s.pair.joining = true) (ha : s.active = false)
    (hk : s.pair.joinStep = 2) : ∃ t, exec (.sync (.time now ep tb)) s = .next t ∧ t.pair.joinStep = 3 ∧ t.pair.role = .standby ∧
      t.pair.sync = .syncing ∧ t.time.epoch = ep ∧ t.time.tBase = tb ∧ t.time.sampling = true :=
  ⟨_, exec_sync_of_joining _ hg hj ha nofun, State.joinItem_time (s := s.syncHeard) hk⟩

theorem sync_status {s : State} (tm : Byte) (md : Mode) (cs : BitVec 5) (fb : Byte) (lat : BitVec 8) (hg : s.gen.single = false)
    (hj : s.pair.joining = true) (ha : s.active = false) (hk : s.pair.joinStep = 3) :
    ∃ t, exec (.sync (.status tm md cs fb lat [])) s = .next t ∧ t.pair.joinStep = 4 ∧ t.pair.term = tm ∧ t.pair.partnerMode = md ∧
      ∀ q < 8, (t.bpair q).latched = lat.getLsbD q :=
  ⟨_, exec_sync_of_joining _ hg hj ha nofun, State.joinItem_status (s := s.syncHeard) hk⟩

theorem sync_converter {s : State} (st : ConvSt) (w : Word) (hg : s.gen.single = false) (hj : s.pair.joining = true) (ha : s.active = false)
    (hk : s.pair.joinStep = 4) : ∃ t, exec (.sync (.converter st w)) s = .next t ∧ t.bfc.st = st ∧
      t.faultWord = word (field w 31 24 * 2 ^ 24 + field w 23 16 * 2 ^ 16 + field w 15 8 * 2 ^ 8 + field w 7 0) ∧
      { t with bfc := s.bfc, pair := s.pair } = s :=
  ⟨_, exec_sync_joined hg hj ha nofun (State.joinItem_converter hk), rfl,
    State.mirrorConv_faultWord _ st w,
    (congrArg (fun u : State => { u with pair := s.pair }) (State.mirrorConv_frame s.syncHeard st w)).trans (State.syncHeard_frame s)⟩

theorem sync_complete {s : State} (hg : s.gen.single = false) (hj : s.pair.joining = true) (ha : s.active = false)
    (hk : s.pair.joinStep = 4) : ∃ t, exec (.sync .complete) s = .next t ∧ t.pair.sync = .synced ∧ t.pair.joining = false ∧
      t.pair.joinStep = 6 ∧ t.evtBit pPAIR 4 = true ∧ t.pair.revertSince = some s.now :=
  ⟨_, exec_sync_of_joining _ hg hj ha nofun, State.joinItem_complete (s := s.syncHeard) hk⟩

theorem sync_join {s : State} (sec : JoinSec) (hg : s.gen.single = false) (hj : s.pair.joining = true) (ha : s.active = false)
    (hk : s.pair.joinStep = 4) : ∃ t, exec (.sync (.join sec [] [])) s = .next t ∧ t.join = { s.join with sec := sec } ∧ t.strs = s.strs ∧
      ∀ c < 128, (t.coil c).closeSeq = none := by
  have hframe := State.mirrorJoin_nil_frame s.syncHeard sec
  have hjoin := congrArg State.join hframe
  have hstrs := congrArg State.strs hframe
  dsimp only at hjoin hstrs
  refine ⟨_, exec_sync_joined hg hj ha nofun (State.joinItem_join hk), hjoin, hstrs, fun c hc => ?_⟩
  rw [State.mirrorJoin_nil]
  exact foldS_dropClose_closeSeq _ _ c (.inl (List.mem_range.mpr hc))

theorem sync_hello_of_idle {s : State} (pr : Bool) (v lo hi : Word) (hg : s.gen.single = false) (hj : s.pair.joining = false)
    (ha : s.active = false) : ∃ t, exec (.sync (.hello pr v lo hi)) s = .next t ∧ { t with pair := s.pair } = s ∧
      t.pair.joinStep = s.pair.joinStep := by
  refine ⟨s.syncHeard, ?_, State.syncHeard_frame s, rfl⟩
  rw [exec_sync_of_inactive (.hello pr v lo hi) hg ha nofun, hj, if_neg Bool.false_ne_true]

theorem sync_hello_answered {s : State} {pr : Bool} {v lo hi : Word} (hg : s.gen.single = false) (hr : s.pair.role = .active)
    (hp : pr ≠ s.start.primary) (hf : s.pair.fault = false) (hc : s.compatibleWith v lo hi = true) :
    ∃ t l q, exec (.sync (.hello pr v lo hi)) s = .next t ∧ t.out.head? = some (.pair 0x21 l q [9#32]) ∧ t.pair.hasPartner = true ∧
      { t with pair := s.pair, out := s.out } = s := by
  obtain ⟨u, hu, hbeside⟩ := State.joinAnswer_ends { s.syncHeard with pair := { s.syncHeard.pair with hasPartner := true } }
  have hrole : u.pair.role = .active := (congrArg (fun t : State => t.pair.role) hbeside).trans hr
  have hpartner : u.pair.hasPartner = true := congrArg (fun t : State => t.pair.hasPartner) hbeside
  have hsent := (State.sendPair_besidePairLink u 0x21 [9#32]).trans hbeside
  have hout := State.sendPair_out (s := u) 0x21 [9#32] (by rw [hrole]; decide)
  refine ⟨_, u.pair.lseq, sget 0#16 u.pair.msgNo 0x21, (exec_sync_hello_of_active hg hr hp hf hc).trans (congrArg _ hu), ?_, ?_, ?_⟩
  · rw [hout, List.head?_cons]
  · rw [State.sendPair_pair_keeps PairSt.hasPartner (fun _ => rfl), hpartner]
  · have hout' := congrArg (fun t : State => { t with out := s.out }) (State.syncHeard_frame s)
    exact (congrArg (fun t : State => { t with pair := s.pair, out := s.out }) hsent).trans hout'

theorem swap_starts_a_drill {s : State} (o : Origin) (h : s.maySwap) : ∃ t, exec (.swap o) s = .next t ∧
    (∃ i, t.pair.handover = some { instant := i, cause := 3, tries := 1, accepted := false } ∧ s.now + 500000 ≤ i) ∧ t.pair.drill = 1 ∧
      t.pair.drillResult = 1 ∧ t.pair.drillFailed = 0 ∧ t.pair.role = .active ∧ (t.page pPAIR).cfgseq = (s.page pPAIR).cfgseq + 1#32 := by
  have hrole : s.pair.role = .active := by
    have hp := h.1
    simp only [State.pairedActive, Bool.and_eq_true, beq_iff_eq] at hp
    exact hp.1.1
  refine ⟨s.drillAsked.bumpCfg pPAIR, ?_, ⟨_, State.askHandover_handover _ 3 1, State.now_add_le_handoverAt _⟩,
    State.askHandover_pair_keeps PairSt.drill (fun _ => rfl) (fun _ _ => rfl) _ 3 1,
    State.askHandover_pair_keeps PairSt.drillResult (fun _ => rfl) (fun _ _ => rfl) _ 3 1,
    State.askHandover_pair_keeps PairSt.drillFailed (fun _ => rfl) (fun _ _ => rfl) _ 3 1,
    (State.askHandover_pair_keeps PairSt.role (fun _ => rfl) (fun _ _ => rfl) _ 3 1).trans hrole, ?_⟩
  · rw [exec_swap, State.swapDrill_of_may h, State.served_ok_of_mailbox _ _ _ _ (by decide)]
  · rw [State.bumpCfg_cfgseq, State.drillAsked, State.askHandover_page]
    rfl

theorem drillCheck_passed {s : State} {r : DrillResult} (hd : s.pair.drill = 2) (hh : s.pair.handover = none) (h : drillSteps r = 0) :
    ∃ t, exec (.drillCheck r) s = .next t ∧ t.pair.drill = 0 ∧ t.pair.drillResult = 2 ∧ t.pair.handover = none ∧
      t.evtBit pPAIR 10 = true := by
  obtain ⟨pl, he⟩ := execDrillCheck_of_passed hd hh h
  have hpair : (((s.drillNoted r 2).logN 0x0A0C pl).raise pPAIR 10).pair = (s.drillNoted r 2).pair := by
    rw [State.raise_pair, State.logN_pair]
  refine ⟨_, he, ?_, ?_, ?_, State.raise_evtBit _ _ (by decide)⟩ <;> rw [hpair]
  · rfl
  · rfl
  · exact hh

theorem drillCheck_failed {s : State} {r : DrillResult} (hd : s.pair.drill = 2) (hh : s.pair.handover = none) (h : drillSteps r ≠ 0) :
    ∃ t, exec (.drillCheck r) s = .next t ∧ t.pair.drill = 0 ∧ t.pair.drillResult = 3 ∧ t.pair.drillFailed = Nat.min 63 r.echoFailed.length ∧
      t.pair.drillQd = r.qdFailed ∧ t.pair.drillCan = r.canFailed ∧
      (∃ i, t.pair.handover = some { instant := i, cause := 3, tries := 1, accepted := false } ∧ s.now + 500000 ≤ i) ∧
      t.evtBit pPAIR 10 = true := by
  obtain ⟨pl, he⟩ := execDrillCheck_of_failed hd hh h
  have hpair : (((s.drillNoted r 3).logN 0x0A0D pl).raise pPAIR 10).pair = (s.drillNoted r 3).pair := by
    rw [State.raise_pair, State.logN_pair]
  have hnow : (((s.drillNoted r 3).logN 0x0A0D pl).raise pPAIR 10).now = s.now := by
    simp only [State.now, State.raise_time, State.logN_time]
    rfl
  have hkeeps : ∀ {β : Type} (q : PairSt → β), (∀ p : PairSt, q { p with lseq := 0, msgNo := [] } = q p) →
      (∀ (p : PairSt) (x : Option Handover), q { p with handover := x } = q p) →
      q ((((s.drillNoted r 3).logN 0x0A0D pl).raise pPAIR 10).askHandover 3 1).pair = q (s.drillNoted r 3).pair := by
    intro β q hl hx
    rw [State.askHandover_pair_keeps q hl hx, hpair]
  refine ⟨_, he, hkeeps PairSt.drill (fun _ => rfl) (fun _ _ => rfl), hkeeps PairSt.drillResult (fun _ => rfl) (fun _ _ => rfl),
    hkeeps PairSt.drillFailed (fun _ => rfl) (fun _ _ => rfl), hkeeps PairSt.drillQd (fun _ => rfl) (fun _ _ => rfl),
    hkeeps PairSt.drillCan (fun _ => rfl) (fun _ _ => rfl), ⟨_, State.askHandover_handover _ 3 1, ?_⟩, ?_⟩
  · rw [← hnow]
    exact State.now_add_le_handoverAt _
  · rw [State.evtBit_of_page 10 (State.askHandover_page _ 3 1 pPAIR)]
    exact State.raise_evtBit _ _ (by decide)

/-- What GEN_SWITCH_PROPOSE shows of a switch that it has carried out. -/
theorem genSwitchPropose_of_switched {s u : State} {k : Nat}
    (hexec : execGenSwitchPropose s = .next { u with pair := { u.pair with genMismatch := u.gen.id != u.pair.partnerGen } })
    (hu : u.otp.inForce = k ∧ u.gen.slot = k ∧ u.sw = {} ∧ (u.slotState k).switched = true ∧ u.evtBit pOTP 2 = true ∧ u.pair = s.pair ∧
      ∀ pg < 0x2C, (u.page pg).owner = 0) :
    ∃ t, exec .genSwitchPropose s = .next t ∧ t.otp.inForce = k ∧ t.gen.slot = k ∧ t.sw = {} ∧ (t.slotState k).switched = true ∧
      t.evtBit pOTP 2 = true ∧ t.pair.genMismatch = (t.gen.id != s.pair.partnerGen) ∧ ∀ pg < 0x2C, (t.page pg).owner = 0 := by
  obtain ⟨hforce, hslot, hsw, hswitched, hevt, hpair, howner⟩ := hu
  refine ⟨_, (exec_genSwitchPropose s).trans hexec, hforce, hslot, hsw, hswitched, hevt, ?_, howner⟩
  rw [hpair]

/-- Settles O39: an item of the join sequence, the drill and the proposal each have their outcome by the case they are in. -/
theorem joinSequenceDrillAndProposal : Obligations.JoinSequenceDrillAndProposal := by
  unfold Obligations.JoinSequenceDrillAndProposal
  refine ⟨fun s pr v lo hi id ep w tm md cs fb lat now tb cst sec hg => ?_, fun s o r k => ?_⟩
  · dsimp only
    refine ⟨fun ⟨hj, ha, hk⟩ hp hc => sync_hello_accepted hg hj ha hk hp hc,
      fun ⟨hj, ha, hk⟩ hp hc => sync_hello_incompatible hg hj ha hk hp hc,
      fun ⟨hj, ha, hk⟩ hp => sync_hello_sameStrap v lo hi hg hj ha hk hp,
      fun ⟨hj, ha, hk⟩ hi => sync_generation_same hg hj ha hk hi,
      fun ⟨hj, ha, hk⟩ hi => sync_generation_other hg hj ha hk hi,
      fun ⟨hj, ha, hk⟩ => sync_time now tb ep hg hj ha hk,
      fun ⟨hj, ha, hk⟩ => sync_status tm md cs fb lat hg hj ha hk,
      fun ⟨hj, ha, hk⟩ => ⟨sync_converter cst w hg hj ha hk, sync_join sec hg hj ha hk, sync_complete hg hj ha hk⟩,
      fun hj ha => sync_hello_of_idle pr v lo hi hg hj ha,
      fun hr hp hf hc => sync_hello_answered hg hr hp hf hc,
      fun l hm hv => ⟨_, exec_sync_code l hg, State.codeMirror_installs hm hv⟩,
      fun l hm => ⟨_, exec_sync_code l hg, State.codeMirror_refuses l hm⟩⟩
  · dsimp only
    rw [← drillSteps_eq_zero_iff r]
    refine ⟨swap_starts_a_drill o, fun h => ?_, execDrillCheck_of_none r, drillCheck_passed, drillCheck_failed,
      execGenSwitchPropose_of_none, fun ⟨hk, ha⟩ hm hn => ?_, fun ⟨hk, ha⟩ hm hn hl hp => ?_, fun ⟨hk, ha⟩ hm hn h => ?_,
      fun ⟨hk, ha⟩ hg => ?_, fun ⟨hk, ha⟩ hg =>
        genSwitchPropose_of_switched (execGenSwitchPropose_of_mismatch hk ha hg) (s.switchGen_result k s.nextN)⟩
    · rw [exec_swap, State.swapDrill_of_not_may h, State.served_error_of_mailbox _ _ _ _ (by decide)]
    · rw [exec_genSwitchPropose, execGenSwitchPropose_of_may hk ha hm, if_neg (by simp [hn])]
    · rw [exec_genSwitchPropose, execGenSwitchPropose_of_may hk ha hm, if_pos hn, if_pos ⟨hp, hl⟩]
    · have hno : ¬ (s.sw.partnerHas = some (genIdOf (s.slotState k).bytes) ∧ s.pair.linkDown = false) := by
        rintro ⟨hp, hl⟩
        rcases h with h | h
        · simp [h] at hl
        · exact h hp
      rw [exec_genSwitchPropose, execGenSwitchPropose_of_may hk ha hm, if_pos hn, if_neg hno]
    · exact Classical.or_iff_not_imp_left.mpr (execGenSwitchPropose_of_not_may hk hg)

end Sys2Proof.Machine
end

section
/-! One step of the block (R21, R41) and the state at reset (R436, R514 Table 21.14). -/
namespace Sys2Proof.Machine

theorem step_of_queue (c : Instr) (s : State) (rest : List Instr) :
    step { s with pending := c :: rest } = exec c { s with pending := rest } := rfl

theorem step_of_idle {s : State} (h : s.pending = []) : step s = .next (oscTick s) := by
  rw [step, h]

theorem oscTick_of_unpowered {s : State} (h : s.start.powered = false) : oscTick s = s := by
  simp [oscTick, h]

/-- The state n nanoseconds on, at place k of the group of six periods. -/
def State.ticked (s : State) (n : Nat) (k : Fin 6) : State :=
  { s with time := { s.time with now := s.time.now + n, opNs := s.time.opNs + n, oscPhase := k } }

theorem oscTick_of_powered {s : State} (h : s.start.powered = true) :
    oscTick s = s.ticked (oscStep s.time.oscPhase) (s.time.oscPhase + 1) := by
  simp [oscTick, h, State.ticked]

theorem State.ticked_ticked (s : State) (m n : Nat) (j k : Fin 6) : (s.ticked m j).ticked n k = s.ticked (m + n) k := by
  simp [State.ticked, Nat.add_assoc]

/-- Nanoseconds of n oscillator periods from place k of the group on. -/
def oscSum : Nat → Fin 6 → Nat
  | 0, _ => 0
  | n + 1, k => oscStep k + oscSum n (k + 1)

/-- n idle steps of a powered device: the time of n periods, n places on in the group. -/
theorem run_of_idle (n : Nat) {s : State} (hp : s.start.powered = true) (hq : s.pending = []) :
    core.run n s = .next (s.ticked (oscSum n s.time.oscPhase) (s.time.oscPhase + Fin.ofNat 6 n)) := by
  induction n generalizing s with
  | zero =>
    have h0 : s.ticked 0 (s.time.oscPhase + Fin.ofNat 6 0) = s := by
      rw [show Fin.ofNat 6 0 = 0 from rfl, add_zero]
      rfl
    simp only [Host.Core.run, oscSum, h0]
  | succ n ih =>
    have hstep : core.step s = .next (s.ticked (oscStep s.time.oscPhase) (s.time.oscPhase + 1)) :=
      (step_of_idle hq).trans (congrArg Host.Outcome.next (oscTick_of_powered hp))
    have hplace : s.time.oscPhase + 1 + Fin.ofNat 6 n = s.time.oscPhase + Fin.ofNat 6 (n + 1) := by
      apply Fin.ext
      simp only [Fin.val_add, Fin.val_ofNat, Fin.val_one]
      omega
    simp only [Host.Core.run, hstep]
    refine (ih (s := s.ticked _ _) hp hq).trans ?_
    rw [State.ticked_ticked, ← hplace]
    rfl

/-- A group of six periods takes 125 ns from each of its places (R41). -/
theorem oscSum_six (k : Fin 6) : oscSum 6 k = 125 := by
  revert k
  decide

/-- Settles O1: the step is the match of its definition on the queue. -/
theorem stepTakesTheFrontCommand : Obligations.StepTakesTheFrontCommand := by
  unfold Obligations.StepTakesTheFrontCommand
  exact ⟨step_of_queue, fun s h => step_of_idle h, fun s h hp => by rw [step_of_idle h, oscTick_of_unpowered hp]⟩

/-- Settles O2: by the sum of the periods of n idle steps, 105 ns for the first five of a group and 125 ns for any six. -/
theorem oscillatorPeriodsAddUpTo125ns : Obligations.OscillatorPeriodsAddUpTo125ns := by
  unfold Obligations.OscillatorPeriodsAddUpTo125ns
  refine ⟨fun s hp hq h0 => ?_, fun s hp hq => ?_⟩
  · rw [run_of_idle 5 hp hq, h0]
    rfl
  · rw [run_of_idle 6 hp hq, oscSum_six, show Fin.ofNat 6 6 = 0 from rfl, add_zero]
    rfl

theorem State.reset_inv : State.reset.Inv := by
  have hmem : Memory.wf [] = true := Memory.wf_nil
  have hfifo : State.reset.fifosFit := ⟨by decide, by decide⟩
  exact ⟨⟨hmem, hmem, trivial, trivial, fun _ => hmem, fun _ => hmem⟩, hfifo⟩

/-- Settles O5: every field of the state at reset has the value of its definition, and empty memories are canonical. -/
theorem resetState : Obligations.ResetState := by
  unfold Obligations.ResetState
  have hpage : ∀ pg, State.reset.page pg = {} := fun _ => rfl
  refine ⟨rfl, rfl, rfl, rfl, rfl, rfl, fun pg => ⟨hpage pg, ?_⟩, fun _ => rfl, rfl, rfl, rfl, State.reset_inv⟩
  rw [hpage]
  exact ⟨rfl, rfl, rfl⟩

end Sys2Proof.Machine
end

section
/-! The append port and the append engine (R26). -/
namespace Sys2Proof.Machine

/-- A record enters an append FIFO that has room, and nothing else changes. -/
theorem State.log_of_room {s : State} (typ : Nat) (pl : List Word) (h : s.gal.fifo.length < 64) :
    s.log typ pl = { s with gal := { s.gal with fifo := s.gal.fifo ++ [s.galEntry typ pl] } } := if_pos h

/-- A record at a full FIFO is counted with its type code and not stored. -/
theorem State.log_gal_of_full {s : State} (typ : Nat) (pl : List Word) (h : 64 ≤ s.gal.fifo.length) :
    (s.log typ pl).gal = { s.gal with
      lost := s.gal.lost + 1, lostTotal := s.gal.lostTotal + 1,
      lostFirst := if s.gal.lost = 0 then typ else s.gal.lostFirst, lostLast := typ } :=
  congrArg State.gal (if_neg (Nat.not_lt.mpr h))

theorem State.galAppend_gal (s : State) (e : GalEntry) : ∃ l n, (s.galAppend e).gal = { s.gal with ring := l, nextSeq := n } :=
  ⟨_, _, rfl⟩

/-- Storing an entry changes the ring and the next SEQ of the Gallery's state, not the FIFO and its losses. -/
theorem State.galPut_gal (s : State) (e : GalEntry) : ∃ l n, (s.galPut e).gal = { s.gal with ring := l, nextSeq := n } := by
  unfold State.galPut
  split
  · split
    · exact ⟨_, _, rfl⟩
    · exact s.galAppend_gal e
  · exact s.galAppend_gal e

/-- The engine takes the oldest entry; where records have been lost, the lost-records record follows it (R26). -/
theorem State.galTake_of_lost {s : State} {e : GalEntry} {rest : List GalEntry} (hf : s.gal.fifo = e :: rest) (hr : rest.length < 64)
    (hl : s.gal.lost ≠ 0) :
    ∃ r : GalEntry, s.galTake.gal.fifo = rest ++ [r] ∧ r.typ = 0x0E02 ∧
      r.payload = [word s.gal.lost, word s.gal.lostFirst, word s.gal.lostLast] ∧
      s.galTake.gal.lost = 0 ∧ s.galTake.gal.lostTotal = s.gal.lostTotal := by
  obtain ⟨l, n, hput⟩ := State.galPut_gal { s with gal := { s.gal with fifo := rest } } e
  have htake : s.galTake = ({ State.galPut { s with gal := { s.gal with fifo := rest } } e with
      gal := { s.gal with fifo := rest, ring := l, nextSeq := n, lost := 0, lostFirst := 0, lostLast := 0 } } : State).logN 0x0E02
        [s.gal.lost, s.gal.lostFirst, s.gal.lostLast] := by
    unfold State.galTake
    rw [hf]
    simp only [hput, if_neg hl]
  rw [htake, State.logN, State.log_of_room _ _ hr]
  exact ⟨_, rfl, rfl, rfl, rfl, rfl⟩

/-- Settles O51: by what a record does at a FIFO with room and at a full one, and by what the engine does after losses. -/
theorem appendPortNeverWaits : Obligations.AppendPortNeverWaits := by
  unfold Obligations.AppendPortNeverWaits
  refine fun s typ pl => ⟨State.log_of_room typ pl, fun h => ⟨State.log_gal_of_full typ pl h, State.log_frame s typ pl⟩,
    fun e rest hf hr hc hl => ?_⟩
  have hexec : exec .galleryStore s = .next s.galTake := by
    show execGalleryStore s = _
    simp [execGalleryStore, hc]
  obtain ⟨r, h⟩ := State.galTake_of_lost hf hr hl
  exact ⟨s.galTake, r, hexec, h⟩

end Sys2Proof.Machine
end

section
/-! The invariant of R26, R417, R419, R440, R473, R475 as a predicate on the fields it speaks of, and the operations that keep it. -/
namespace Sys2Proof.Machine

/-- The invariant speaks of six fields; a record that takes these from s meets it exactly where s does. -/
theorem State.inv_mk (s : State)
    (x0 x1 x2 x3 x4 x5 x6 x7 x8 x9 x10 x11 x12 x14 x15 x16 x18 x19 x20 x21 x23 x24 x25 x26 x27 x28 x29 x30 x31 x32 x33 x34 x35 x36 x37 x38
     x39 x40 x41 x42 x43 x44 x45 x46 x47 x48 x49 x50 x51 x52 x53 x54 x55 x56 x57 x58 x59 x62 x63 x64 x65 x66 x67 x68 x69 x70 x71 x72 x74
     x75) :
    (State.mk x0 x1 x2 x3 x4 x5 x6 x7 x8 x9 x10 x11 x12 s.gal x14 x15 x16 s.otp x18 x19 x20 x21 s.fw x23 x24 x25 x26 x27 x28 x29 x30 x31 x32
     x33 x34 x35 x36 x37 x38 x39 x40 x41 x42 x43 x44 x45 x46 x47 x48 x49 x50 x51 x52 x53 x54 x55 x56 x57 x58 x59 s.host s.rslots x62 x63 x64
     x65 x66 x67 x68 x69 x70 x71 x72 s.code x74 x75).Inv = s.Inv := propext Iff.rfl

/-- What a loop does to the invariant, if each turn keeps it. -/
theorem foldS_inv {α : Type} (l : List α) (f : State → α → State) (s : State) (h : ∀ t a, (f t a).Inv = t.Inv) :
    (foldS l f s).Inv = s.Inv := foldS_keeps State.Inv l f s h
theorem foldl_inv {α : Type} (l : List α) (f : State → α → State) (s : State) (h : ∀ t a, (f t a).Inv = t.Inv) :
    (l.foldl f s).Inv = s.Inv := foldS_keeps State.Inv l f s h
theorem State.when_inv (s : State) (c : Bool) (f : State → State) (h : (f s).Inv = s.Inv) : (s.when c f).Inv = s.Inv :=
  State.when_keeps State.Inv s c f h

/-- The invariant of an outcome's next state; a stop leaves it that of s. -/
def invNext (s : State) : Host.Outcome State Fault Refusal → Prop
  | .next t => t.Inv
  | .fault _ => s.Inv
  | .refused _ => s.Inv
/-- The invariant of a served write's state; a refusal leaves it that of s. -/
def invOk (s : State) : Except Refuse State → Prop
  | .ok t => t.Inv
  | .error _ => s.Inv
theorem invNext_next (s t : State) : invNext s (.next t) = t.Inv := rfl
theorem invNext_fault (s : State) (f : Fault) : invNext s (.fault f) = s.Inv := rfl
theorem invOk_ok (s t : State) : invOk s (.ok t) = t.Inv := rfl
theorem invOk_error (s : State) (r : Refuse) : invOk s (.error r) = s.Inv := rfl

/-- States that differ in no protected field but the marks of their generation slots. -/
theorem State.inv_of_slots {s t : State} (h : ∀ k, (t.slotState k).mem = (s.slotState k).mem) (hb : t.otp.buf = s.otp.buf) (hg : t.gal = s.gal)
    (hh : t.host = s.host) (hc : t.code = s.code) (hf : t.fw = s.fw) (hr : t.rslots = s.rslots) : t.Inv = s.Inv := by
  simp only [State.slotState] at h
  simp only [State.Inv, State.memoriesCanonical, State.fifosFit, h, hb, hg, hh, hc, hf, hr]
/-- States that differ in no protected field but the marks of their restore slots. -/
theorem State.inv_of_rslots {s t : State} (h : ∀ k, (t.rslot k).mem = (s.rslot k).mem) (hg : t.gal = s.gal) (hh : t.host = s.host)
    (ho : t.otp = s.otp) (hc : t.code = s.code) (hf : t.fw = s.fw) : t.Inv = s.Inv := by
  simp only [State.rslot] at h
  simp only [State.Inv, State.memoriesCanonical, State.fifosFit, h, hg, hh, ho, hc, hf]
theorem State.withGal_inv (s : State) (g : GalSt) (h : g.fifo = s.gal.fifo) : ({ s with gal := g } : State).Inv = s.Inv := by
  simp only [State.Inv, State.memoriesCanonical, State.fifosFit, h]
theorem State.withOtp_inv (s : State) (o : OtpSt) (hb : o.buf = s.otp.buf) (hs : o.slots = s.otp.slots) :
    ({ s with otp := o } : State).Inv = s.Inv := by
  simp only [State.Inv, State.memoriesCanonical, State.fifosFit, hb, hs]
theorem State.withCode_inv (s : State) (c : CodeSt) (h : c.buf = s.code.buf) : ({ s with code := c } : State).Inv = s.Inv := by
  simp only [State.Inv, State.memoriesCanonical, State.fifosFit, h]
theorem State.withFw_inv (s : State) (f : FwSt) (ha : f.imageA = s.fw.imageA) (hb : f.imageB = s.fw.imageB) :
    ({ s with fw := f } : State).Inv = s.Inv := by
  simp only [State.Inv, State.memoriesCanonical, State.fifosFit, ha, hb]
/-- What a loop over a pair or a longer tuple keeps, if each turn keeps it. -/
theorem foldl_keeps {α β γ : Type} (p : β → γ) (l : List α) (f : β → α → β) (b : β) (h : ∀ b a, p (f b a) = p b) :
    p (l.foldl f b) = p b := by
  induction l generalizing b with
  | nil => rfl
  | cons a l ih => exact (ih (f b a)).trans (h b a)
/-- The state of a pair that a function answers, taken apart by a pattern. -/
theorem State.inv_of_snd {α : Type} {s t : State} {p : α × State} {a : α} (e : p = (a, t)) (h : p.2.Inv = s.Inv) : t.Inv = s.Inv := by
  rw [← h, e]
theorem State.inv_of_fst {α : Type} {s t : State} {p : State × α} {a : α} (e : p = (t, a)) (h : p.1.Inv = s.Inv) : t.Inv = s.Inv := by
  rw [← h, e]

/-! ### Access -/

theorem State.setPage_inv (s : State) (k : Nat) (x : PageSt) : (s.setPage k x).Inv = s.Inv := by
  simp only [State.setPage, State.inv_mk]

theorem State.updPage_inv (s : State) (k : Nat) (f : PageSt → PageSt) : (s.updPage k f).Inv = s.Inv := by
  simp only [State.updPage, State.setPage_inv]

theorem State.setLatchOf_inv (s : State) (k : Nat) (x : LatchSt) : (s.setLatchOf k x).Inv = s.Inv := by
  simp only [State.setLatchOf, State.inv_mk]

theorem State.updLatchOf_inv (s : State) (k : Nat) (f : LatchSt → LatchSt) : (s.updLatchOf k f).Inv = s.Inv := by
  simp only [State.updLatchOf, State.setLatchOf_inv]

theorem State.setPort_inv (s : State) (k : Nat) (x : PortSt) : (s.setPort k x).Inv = s.Inv := by
  simp only [State.setPort, State.inv_mk]

theorem State.updPort_inv (s : State) (k : Nat) (f : PortSt → PortSt) : (s.updPort k f).Inv = s.Inv := by
  simp only [State.updPort, State.setPort_inv]

theorem State.setMon_inv (s : State) (k : Nat) (x : Monitor) : (s.setMon k x).Inv = s.Inv := by
  simp only [State.setMon, State.inv_mk]

theorem State.updMon_inv (s : State) (k : Nat) (f : Monitor → Monitor) : (s.updMon k f).Inv = s.Inv := by
  simp only [State.updMon, State.setMon_inv]

theorem State.setMod_inv (s : State) (k : Nat) (x : Module) : (s.setMod k x).Inv = s.Inv := by
  simp only [State.setMod, State.inv_mk]

theorem State.updMod_inv (s : State) (k : Nat) (f : Module → Module) : (s.updMod k f).Inv = s.Inv := by
  simp only [State.updMod, State.setMod_inv]

theorem State.setTemp_inv (s : State) (k : Nat) (x : Temp) : (s.setTemp k x).Inv = s.Inv := by
  simp only [State.setTemp, State.inv_mk]

theorem State.updTemp_inv (s : State) (k : Nat) (f : Temp → Temp) : (s.updTemp k f).Inv = s.Inv := by
  simp only [State.updTemp, State.setTemp_inv]

theorem State.setWire_inv (s : State) (k : Nat) (x : Wire) : (s.setWire k x).Inv = s.Inv := by
  simp only [State.setWire, State.inv_mk]

theorem State.updWire_inv (s : State) (k : Nat) (f : Wire → Wire) : (s.updWire k f).Inv = s.Inv := by
  simp only [State.updWire, State.setWire_inv]

theorem State.setCell_inv (s : State) (k : Nat) (x : Cell) : (s.setCell k x).Inv = s.Inv := by
  simp only [State.setCell, State.inv_mk]

theorem State.updCell_inv (s : State) (k : Nat) (f : Cell → Cell) : (s.updCell k f).Inv = s.Inv := by
  simp only [State.updCell, State.setCell_inv]

theorem State.setChan_inv (s : State) (k : Nat) (x : ChanSt) : (s.setChan k x).Inv = s.Inv := by
  simp only [State.setChan, State.inv_mk]

theorem State.updChan_inv (s : State) (k : Nat) (f : ChanSt → ChanSt) : (s.updChan k f).Inv = s.Inv := by
  simp only [State.updChan, State.setChan_inv]

theorem State.setSlotOf_inv (s : State) (k : Nat) (x : SlotSt) : (s.setSlotOf k x).Inv = s.Inv := by
  simp only [State.setSlotOf, State.inv_mk]

theorem State.updSlotOf_inv (s : State) (k : Nat) (f : SlotSt → SlotSt) : (s.updSlotOf k f).Inv = s.Inv := by
  simp only [State.updSlotOf, State.setSlotOf_inv]

theorem State.setLevel_inv (s : State) (k : Nat) (x : LevelSt) : (s.setLevel k x).Inv = s.Inv := by
  simp only [State.setLevel, State.inv_mk]

theorem State.updLevel_inv (s : State) (k : Nat) (f : LevelSt → LevelSt) : (s.updLevel k f).Inv = s.Inv := by
  simp only [State.updLevel, State.setLevel_inv]

theorem State.setWaitOf_inv (s : State) (k : Nat) (x : WaitSt) : (s.setWaitOf k x).Inv = s.Inv := by
  simp only [State.setWaitOf, State.inv_mk]

theorem State.updWaitOf_inv (s : State) (k : Nat) (f : WaitSt → WaitSt) : (s.updWaitOf k f).Inv = s.Inv := by
  simp only [State.updWaitOf, State.setWaitOf_inv]

theorem State.setStr_inv (s : State) (k : Nat) (x : StrSt) : (s.setStr k x).Inv = s.Inv := by
  simp only [State.setStr, State.inv_mk]

theorem State.updStr_inv (s : State) (k : Nat) (f : StrSt → StrSt) : (s.updStr k f).Inv = s.Inv := by
  simp only [State.updStr, State.setStr_inv]

theorem State.setCoil_inv (s : State) (k : Nat) (x : CoilSt) : (s.setCoil k x).Inv = s.Inv := by
  simp only [State.setCoil, State.inv_mk]

theorem State.updCoil_inv (s : State) (k : Nat) (f : CoilSt → CoilSt) : (s.updCoil k f).Inv = s.Inv := by
  simp only [State.updCoil, State.setCoil_inv]

theorem State.setQd_inv (s : State) (k : Nat) (x : QdSt) : (s.setQd k x).Inv = s.Inv := by
  simp only [State.setQd, State.inv_mk]

theorem State.updQd_inv (s : State) (k : Nat) (f : QdSt → QdSt) : (s.updQd k f).Inv = s.Inv := by
  simp only [State.updQd, State.setQd_inv]

theorem State.setSafe_inv (s : State) (k : Nat) (x : SafeCh) : (s.setSafe k x).Inv = s.Inv := by
  simp only [State.setSafe, State.inv_mk]

theorem State.updSafe_inv (s : State) (k : Nat) (f : SafeCh → SafeCh) : (s.updSafe k f).Inv = s.Inv := by
  simp only [State.updSafe, State.setSafe_inv]

theorem State.setBpair_inv (s : State) (k : Nat) (x : BanPairSt) : (s.setBpair k x).Inv = s.Inv := by
  simp only [State.setBpair, State.inv_mk]

theorem State.updBpair_inv (s : State) (k : Nat) (f : BanPairSt → BanPairSt) : (s.updBpair k f).Inv = s.Inv := by
  simp only [State.updBpair, State.setBpair_inv]

theorem State.setSrc_inv (s : State) (k : Nat) (x : SafeSrc) : (s.setSrc k x).Inv = s.Inv := by
  simp only [State.setSrc, State.inv_mk]

theorem State.updSrc_inv (s : State) (k : Nat) (f : SafeSrc → SafeSrc) : (s.updSrc k f).Inv = s.Inv := by
  simp only [State.updSrc, State.setSrc_inv]

theorem State.setToneOf_inv (s : State) (k : Nat) (x : ToneSrc) : (s.setToneOf k x).Inv = s.Inv := by
  simp only [State.setToneOf, State.inv_mk]

theorem State.updToneOf_inv (s : State) (k : Nat) (f : ToneSrc → ToneSrc) : (s.updToneOf k f).Inv = s.Inv := by
  simp only [State.updToneOf, State.setToneOf_inv]

theorem State.setTpOf_inv (s : State) (k : Nat) (x : TpSt) : (s.setTpOf k x).Inv = s.Inv := by
  simp only [State.setTpOf, State.inv_mk]

theorem State.updTpOf_inv (s : State) (k : Nat) (f : TpSt → TpSt) : (s.updTpOf k f).Inv = s.Inv := by
  simp only [State.updTpOf, State.setTpOf_inv]

theorem State.setCan_inv (s : State) (k : Nat) (x : CanSt) : (s.setCan k x).Inv = s.Inv := by
  simp only [State.setCan, State.inv_mk]

theorem State.updCan_inv (s : State) (k : Nat) (f : CanSt → CanSt) : (s.updCan k f).Inv = s.Inv := by
  simp only [State.updCan, State.setCan_inv]

theorem State.setBuf_inv (s : State) (k : Nat) (x : TxBuf) : (s.setBuf k x).Inv = s.Inv := by
  simp only [State.setBuf, State.inv_mk]

theorem State.updBuf_inv (s : State) (k : Nat) (f : TxBuf → TxBuf) : (s.updBuf k f).Inv = s.Inv := by
  simp only [State.updBuf, State.setBuf_inv]

theorem State.setFlow_inv (s : State) (k : Nat) (x : FlowSt) : (s.setFlow k x).Inv = s.Inv := by
  simp only [State.setFlow, State.inv_mk]

theorem State.updFlow_inv (s : State) (k : Nat) (f : FlowSt → FlowSt) : (s.updFlow k f).Inv = s.Inv := by
  simp only [State.updFlow, State.setFlow_inv]

/-- Writing a restore slot whose bytes stay. -/
theorem State.setRslot_inv (s : State) (k : Nat) (x : RestoreSlot) (h : x.mem = (s.rslot k).mem) : (s.setRslot k x).Inv = s.Inv := by
  have hslot : ∀ j, ((s.setRslot k x).rslot j).mem = (s.rslot j).mem := by
    intro j
    rw [State.rslot, State.setRslot, sget_sset]
    split
    · next e => rw [e, h]
    · rfl
  exact State.inv_of_rslots hslot rfl rfl rfl rfl rfl

theorem State.updRslot_inv (s : State) (k : Nat) (f : RestoreSlot → RestoreSlot) (h : ∀ r, (f r).mem = r.mem) :
    (s.updRslot k f).Inv = s.Inv := State.setRslot_inv s k _ (h _)

theorem State.setCtx_inv (s : State) (k : Nat) (x : Ctx) : (s.setCtx k x).Inv = s.Inv := by
  simp only [State.setCtx, State.inv_mk]

theorem State.updCtx_inv (s : State) (k : Nat) (f : Ctx → Ctx) : (s.updCtx k f).Inv = s.Inv := by
  simp only [State.updCtx, State.setCtx_inv]

theorem State.setSctx_inv (s : State) (k : Nat) (x : SCtx) : (s.setSctx k x).Inv = s.Inv := by
  simp only [State.setSctx, State.inv_mk]

theorem State.updSctx_inv (s : State) (k : Nat) (f : SCtx → SCtx) : (s.updSctx k f).Inv = s.Inv := by
  simp only [State.updSctx, State.setSctx_inv]

theorem State.setShut_inv (s : State) (k : Nat) (x : Shut) : (s.setShut k x).Inv = s.Inv := by
  simp only [State.setShut, State.inv_mk]

theorem State.updShut_inv (s : State) (k : Nat) (f : Shut → Shut) : (s.updShut k f).Inv = s.Inv := by
  simp only [State.updShut, State.setShut_inv]

theorem State.setShutMod_inv (s : State) (k : Nat) (x : ShutMod) : (s.setShutMod k x).Inv = s.Inv := by
  simp only [State.setShutMod, State.inv_mk]

theorem State.updShutMod_inv (s : State) (k : Nat) (f : ShutMod → ShutMod) : (s.updShutMod k f).Inv = s.Inv := by
  simp only [State.updShutMod, State.setShutMod_inv]

theorem State.setEng_inv (s : State) (k : Nat) (x : Eng) : (s.setEng k x).Inv = s.Inv := by
  simp only [State.setEng, State.inv_mk]

theorem State.updEng_inv (s : State) (k : Nat) (f : Eng → Eng) : (s.updEng k f).Inv = s.Inv := by
  simp only [State.updEng, State.setEng_inv]

theorem State.setTxb_inv (s : State) (k : Nat) (x : TxChain) : (s.setTxb k x).Inv = s.Inv := by
  simp only [State.setTxb, State.inv_mk]

theorem State.updTxb_inv (s : State) (k : Nat) (f : TxChain → TxChain) : (s.updTxb k f).Inv = s.Inv := by
  simp only [State.updTxb, State.setTxb_inv]

theorem State.setRxp_inv (s : State) (k : Nat) (x : RxPort) : (s.setRxp k x).Inv = s.Inv := by
  simp only [State.setRxp, State.inv_mk]

theorem State.updRxp_inv (s : State) (k : Nat) (f : RxPort → RxPort) : (s.updRxp k f).Inv = s.Inv := by
  simp only [State.updRxp, State.setRxp_inv]

theorem State.setEp_inv (s : State) (k : Nat) (x : StrEp) : (s.setEp k x).Inv = s.Inv := by
  simp only [State.setEp, State.inv_mk]

theorem State.setHep_inv (s : State) (k : Nat) (x : StrEp) : (s.setHep k x).Inv = s.Inv := by
  simp only [State.setHep, State.inv_mk]

/-! ### Ops -/

theorem State.setReg_inv (s : State) (pg off : Nat) (w : Word) : (s.setReg pg off w).Inv = s.Inv := by
  simp only [State.setReg, State.inv_mk]

theorem State.reach_inv (s : State) (t : Nat) : (s.reach t).Inv = s.Inv := by
  simp only [State.reach, State.inv_mk]

theorem State.freeBool_inv (s : State) : s.freeBool.2.Inv = s.Inv := rfl

/-- A finding that two bounds settle, and that is free between them. -/
theorem State.freeBool_else_inv (s : State) {c d : Prop} [Decidable c] [Decidable d] :
    (if c then (true, s) else if d then (false, s) else s.freeBool).2.Inv = s.Inv := by
  simp only [apply_ite Prod.snd, apply_ite State.Inv, State.freeBool_inv, ite_self]

theorem State.freeWord_inv (s : State) : s.freeWord.2.Inv = s.Inv := rfl

theorem State.emit_inv (s : State) (o : Out) : (s.emit o).Inv = s.Inv := by
  simp only [State.emit, State.inv_mk]

theorem State.sendPair_inv (s : State) (typ : Nat) (ws : List Word) : (s.sendPair typ ws).Inv = s.Inv := by
  simp only [State.sendPair, State.emit_inv, State.inv_mk, apply_ite State.Inv, ite_self]

theorem State.raise_inv (s : State) (pg n : Nat) : (s.raise pg n).Inv = s.Inv := by
  simp only [State.raise, State.updPage_inv]

theorem State.evtClear_inv (s : State) (pg : Nat) (m : Word) : (s.evtClear pg m).Inv = s.Inv := by
  simp only [State.evtClear, State.updPage_inv]

theorem State.bumpCfg_inv (s : State) (pg : Nat) : (s.bumpCfg pg).Inv = s.Inv := by
  simp only [State.bumpCfg, State.updPage_inv]

/-- A record never overfills the append FIFO (R26). -/
theorem State.log_inv (s : State) (typ : Nat) (pl : List Word) : (s.log typ pl).Inv = s.Inv := by
  unfold State.log
  split
  · next h =>
    have hlen : (s.gal.fifo ++ [s.galEntry typ pl]).length ≤ Config.appendMax ↔ s.gal.fifo.length ≤ Config.appendMax := by
      rw [List.length_append, List.length_singleton]
      omega
    exact propext (and_congr_right fun _ => and_congr_left fun _ => hlen)
  · rfl

theorem State.logN_inv (s : State) (typ : Nat) (pl : List Nat) : (s.logN typ pl).Inv = s.Inv := by
  simp only [State.logN, State.log_inv]

/-! ### Section -/

theorem State.lapseSession_inv (s : State) (o : Origin) (allowed : Bool) : (s.lapseSession o allowed).Inv = s.Inv := by
  simp only [State.lapseSession, State.withGal_inv, apply_ite State.Inv, ite_self]

theorem State.lockPage_inv (s : State) (pg : Nat) : (s.lockPage pg).Inv = s.Inv := by
  simp only [State.lockPage, State.updPage_inv, State.lapseSession_inv, apply_ite State.Inv, ite_self]

theorem State.lockAll_inv (s : State) : s.lockAll.Inv = s.Inv := by
  simp only [State.lockAll, State.lockPage_inv, foldS_inv, implies_true]

theorem State.lockOwned_inv (s : State) (o : Origin) : (s.lockOwned o).Inv = s.Inv := by
  simp only [State.lockOwned, State.lockPage_inv, foldS_inv, implies_true, apply_ite State.Inv, ite_self]

theorem State.revertRestart_inv (s : State) : s.revertRestart.Inv = s.Inv := by
  simp only [State.revertRestart, State.inv_mk, apply_ite State.Inv, ite_self]

theorem State.setMode_inv (s : State) (m : Mode) (origin : Nat) : (s.setMode m origin).Inv = s.Inv := by
  rw [State.setMode, State.lockAll_inv, State.raise_inv, State.logN_inv, State.when_inv _ _ _ (State.revertRestart_inv _), State.inv_mk]

theorem State.askReady_inv (s : State) : s.askReady.Inv = s.Inv := by
  unfold State.askReady
  split <;> simp only [State.inv_mk, apply_ite State.Inv, ite_self]

theorem State.urgent_inv (s : State) (cs : List Nat) : (s.urgent cs).Inv = s.Inv := by
  simp only [State.urgent, State.emit_inv, foldS_inv, implies_true, apply_ite State.Inv, ite_self]

theorem State.openChans_inv (s : State) (cs : List Nat) : (s.openChans cs).Inv = s.Inv := by
  simp only [State.openChans, State.updCoil_inv, State.urgent_inv, foldS_inv, implies_true]

theorem State.closeChan_inv (s : State) (c : Nat) : (s.closeChan c).Inv = s.Inv := by
  simp only [State.closeChan, State.updCoil_inv, State.sendPair_inv, apply_ite State.Inv, ite_self]

theorem State.wearCheck_inv (s : State) (c : Nat) (ops : Bool) : (s.wearCheck c ops).Inv = s.Inv := by
  simp only [State.wearCheck, State.raise_inv, State.logN_inv, apply_ite State.Inv, ite_self]

theorem State.wearUnderLoad_inv (s : State) (amps : Nat) (c : Nat) : (s.wearUnderLoad amps c).Inv = s.Inv := by
  simp only [State.wearUnderLoad, State.updCoil_inv, State.wearCheck_inv]

theorem State.recordOpening_inv (s : State) (x : Nat) (o : DiscOrigin) (i : Option Int) (waitMs : Nat) (cs : List Nat) :
    (s.recordOpening x o i waitMs cs).Inv = s.Inv := by
  simp only [State.recordOpening, State.raise_inv, State.log_inv, State.wearUnderLoad_inv, foldS_inv, implies_true, apply_ite State.Inv, ite_self]

theorem State.openNow_inv (s : State) (x : Nat) (o : DiscOrigin) (i : Option Int) : (s.openNow x o i).Inv = s.Inv := by
  simp only [State.openNow, State.setWaitOf_inv, State.updStr_inv, State.openChans_inv, State.recordOpening_inv]

theorem State.discRecord_inv (s : State) (x : Nat) (o : DiscOrigin) (hard : Bool) (deadline : Nat) :
    (s.discRecord x o hard deadline).Inv = s.Inv := by
  simp only [State.discRecord, State.log_inv]

theorem State.softReq_inv (s : State) (x : Nat) (o : DiscOrigin) : (s.softReq x o).Inv = s.Inv := by
  simp only [State.softReq, State.setWaitOf_inv, State.updWaitOf_inv, State.discRecord_inv, apply_ite State.Inv, ite_self]

theorem State.hardReq_inv (s : State) (x : Nat) (o : DiscOrigin) : (s.hardReq x o).Inv = s.Inv := by
  simp only [State.hardReq, State.openNow_inv, State.discRecord_inv, apply_ite State.Inv, ite_self]

theorem State.setArm_inv (s : State) (x : Nat) (b : Bool) : (s.setArm x b).Inv = s.Inv := by
  simp only [State.setArm, State.setReg_inv]

theorem State.disarm_inv (s : State) (x cause : Nat) : (s.disarm x cause).Inv = s.Inv := by
  simp only [State.disarm, State.updStr_inv, State.raise_inv, State.logN_inv, State.setArm_inv]

theorem State.openFeed_inv (s : State) : s.openFeed.Inv = s.Inv := by
  unfold State.openFeed
  split <;> simp only [State.openChans_inv, State.inv_mk, apply_ite State.Inv, ite_self]

theorem State.convRelease_inv (s : State) (st : ConvSt) : (s.convRelease st).Inv = s.Inv := by
  simp only [State.convRelease, State.inv_mk]

theorem State.convStop_inv (s : State) : s.convStop.Inv = s.Inv := by
  unfold State.convStop
  split <;> simp only [State.openFeed_inv, State.convRelease_inv, State.inv_mk]

theorem State.joinAbort_inv (s : State) (cause : Nat) : (s.joinAbort cause).Inv = s.Inv := by
  simp only [State.joinAbort, State.raise_inv, State.logN_inv, State.askReady_inv, State.softReq_inv, State.hardReq_inv, State.convStop_inv,
    foldS_inv, implies_true, State.inv_mk, apply_ite State.Inv, ite_self]

theorem State.convLatch_inv (s : State) (cause detail : Nat) : (s.convLatch cause detail).Inv = s.Inv := by
  simp only [State.convLatch, State.raise_inv, State.log_inv, State.openFeed_inv, State.convRelease_inv, State.joinAbort_inv, State.when_inv,
    State.inv_mk, apply_ite State.Inv, ite_self]

theorem State.lockout_inv (s : State) (cause : Nat) : (s.lockout cause).Inv = s.Inv := by
  simp only [State.lockout, State.raise_inv, State.logN_inv, State.softReq_inv, State.convStop_inv, State.joinAbort_inv, foldS_inv, implies_true,
    State.inv_mk, apply_ite State.Inv, ite_self]

theorem State.enterLockout_inv (s : State) : s.enterLockout.Inv = s.Inv := by
  simp only [State.enterLockout, State.setMode_inv, State.inv_mk, apply_ite State.Inv, ite_self]

theorem State.lockoutAtOnce_inv (s : State) (cause : Nat) : (s.lockoutAtOnce cause).Inv = s.Inv := by
  simp only [State.lockoutAtOnce, State.lockout_inv, State.enterLockout_inv, State.inv_mk]

theorem State.goPassive_inv (s : State) (source : Nat) (newer : Byte) : (s.goPassive source newer).Inv = s.Inv := by
  simp only [State.goPassive, State.raise_inv, State.logN_inv, State.inv_mk, apply_ite State.Inv, ite_self]

/-! ### Contactors -/

theorem State.settle_inv (s : State) (x : Nat) : (s.settle x).Inv = s.Inv := by
  simp only [State.settle, State.updStr_inv]

theorem State.startClose_inv (s : State) (x : Nat) : (s.startClose x).Inv = s.Inv := by
  unfold State.startClose
  split <;> simp only [State.updStr_inv, State.closeChan_inv]

theorem State.abandonClose_inv (s : State) (x : Nat) (st : JoinSt) : (s.abandonClose x st).Inv = s.Inv := by
  simp only [State.abandonClose, State.updStr_inv, State.openChans_inv]

theorem State.startCandidates_inv (s : State) (ok : Nat → Bool) : (s.startCandidates ok).Inv = s.Inv := by
  simp only [State.startCandidates, State.startClose_inv, foldS_inv, implies_true]

theorem State.effFollow_inv (s : State) : s.effFollow.Inv = s.Inv := by
  unfold State.effFollow
  repeat' split
  all_goals simp only [State.inv_mk]

theorem State.convStart_inv (s : State) : s.convStart.Inv = s.Inv := by
  simp only [State.convStart, State.inv_mk]

theorem State.enterForming_inv (s : State) (x : Nat) : (s.enterForming x).Inv = s.Inv := by
  simp only [State.enterForming, State.effFollow_inv, State.convStart_inv, State.inv_mk, apply_ite State.Inv, ite_self]

theorem State.firstFail_inv (s : State) (x finding : Nat) : (s.firstFail x finding).Inv = s.Inv := by
  simp only [State.firstFail, State.raise_inv, State.logN_inv, State.disarm_inv, State.joinAbort_inv, State.inv_mk, apply_ite State.Inv]
  (repeat' split) <;> simp only [State.raise_inv, State.logN_inv, State.disarm_inv, State.joinAbort_inv, State.enterForming_inv, State.inv_mk]

theorem State.firstTry_inv (s : State) : s.firstTry.Inv = s.Inv := by
  simp only [State.firstTry, State.startClose_inv, apply_ite State.Inv, ite_self]

theorem State.sweepDone_inv (s : State) : s.sweepDone.Inv = s.Inv := by
  simp only [State.sweepDone, State.inv_mk, apply_ite State.Inv, ite_self]

theorem State.wordOr_inv (s : State) (o : Option Word) : (s.wordOr o).2.Inv = s.Inv := by
  unfold State.wordOr
  split <;> simp only [State.freeWord_inv]

theorem State.strClosed_inv (s : State) (x : Nat) : (s.strClosed x).Inv = s.Inv := by
  simp only [State.strClosed, apply_ite State.Inv, State.sweepDone_inv, State.startCandidates_inv, State.convStop_inv, State.inv_mk,
    State.raise_inv, State.log_inv, State.freeWord_inv, State.wordOr_inv, State.updStr_inv, ite_self]

theorem State.weldRecord_inv (s : State) (c pole : Nat) (i : Option Int) (dv : Option Rat) : (s.weldRecord c pole i dv).Inv = s.Inv := by
  simp only [State.weldRecord, State.raise_inv, State.log_inv, State.wordOr_inv]

theorem State.latchWeld_inv (s : State) (x : Nat) (neg pos : Bool) : (s.latchWeld x neg pos).Inv = s.Inv := by
  simp only [State.latchWeld, State.updStr_inv, State.disarm_inv, State.weldRecord_inv, foldS_inv, implies_true, apply_ite State.Inv, ite_self]

theorem State.finding_inv (s : State) (c : Nat) (closeFail : Bool) : (s.finding c closeFail).Inv = s.Inv := by
  simp only [State.finding, State.hardReq_inv, State.disarm_inv, State.openFeed_inv, State.joinAbort_inv, apply_ite State.Inv, ite_self]

theorem execActuatorRefresh_inv (s : State) : invNext s (execActuatorRefresh s) = s.Inv := by
  simp only [execActuatorRefresh, State.updQd_inv, State.reach_inv, State.emit_inv, foldS_inv, implies_true, State.inv_mk, invNext_next,
    apply_ite (invNext s), ite_self]

theorem State.coilStuck_inv (s : State) (c ma : Nat) : (s.coilStuck c ma).Inv = s.Inv := by
  simp only [State.coilStuck, State.updCoil_inv, State.raise_inv, State.logN_inv, State.lockout_inv, apply_ite State.Inv, ite_self]

theorem State.coilFault_inv (s : State) (c : Nat) : (s.coilFault c).Inv = s.Inv := by
  simp only [State.coilFault, State.raise_inv, State.logN_inv, State.finding_inv]

theorem State.superviseCoil_inv (s : State) (ich : Nat) (c : Nat) : (s.superviseCoil ich c).Inv = s.Inv := by
  simp only [State.superviseCoil, State.coilFault_inv, apply_ite State.Inv, ite_self]
  (repeat' split) <;> simp only [State.updCoil_inv, State.coilStuck_inv]

theorem execQdResponse_inv (link : Fin 2) (bytes : List Byte) (s : State) : invNext s (execQdResponse link bytes s) = s.Inv := by
  simp only [execQdResponse, State.updCoil_inv, State.updQd_inv, State.raise_inv, State.goPassive_inv, State.superviseCoil_inv, foldS_inv,
    implies_true, invNext_next, apply_ite (invNext s), ite_self]

theorem execQdLost_inv (n : Qd) (s : State) : invNext s (execQdLost n s) = s.Inv := by
  simp only [execQdLost, State.updQd_inv, State.raise_inv, State.logN_inv, invNext_next, apply_ite (invNext s), ite_self]

theorem State.toProbe_inv (s : State) (x : Nat) : (s.toProbe x).Inv = s.Inv := by
  simp only [State.toProbe, State.updStr_inv, State.abandonClose_inv, apply_ite State.Inv, ite_self]

theorem State.auxTiming_inv (s : State) (x : Nat) (closed : Bool) : (s.auxTiming x closed).Inv = s.Inv := by
  simp only [State.auxTiming, State.updChan_inv, apply_ite State.Inv, ite_self]

theorem execAuxDebounced_inv (c : Chan) (closed : Bool) (s : State) : invNext s (execAuxDebounced c closed s) = s.Inv := by
  simp only [execAuxDebounced, State.updCoil_inv, State.raise_inv, State.log_inv, State.wearCheck_inv, State.enterForming_inv,
    State.strClosed_inv, State.finding_inv, State.toProbe_inv, State.auxTiming_inv, invNext_next, apply_ite (invNext s), apply_ite State.Inv,
    ite_self]

theorem execCloseFail_inv (c : Chan) (s : State) : invNext s (execCloseFail c s) = s.Inv := by
  simp only [execCloseFail, State.raise_inv, State.logN_inv, State.firstFail_inv, State.finding_inv, invNext_next, apply_ite (invNext s), ite_self]

theorem execOpenFail_inv (c : Chan) (s : State) : invNext s (execOpenFail c s) = s.Inv := by
  unfold execOpenFail
  dsimp only
  split <;> simp only [State.updCoil_inv, State.raise_inv, State.logN_inv, invNext_next, apply_ite (invNext s), ite_self]

theorem State.leaveOpening_inv (s : State) (x : Nat) : (s.leaveOpening x).Inv = s.Inv := by
  simp only [State.leaveOpening, State.updStr_inv]

theorem State.onlineEmpty_inv (s : State) : s.onlineEmpty.Inv = s.Inv := by
  simp only [State.onlineEmpty, State.askReady_inv, apply_ite State.Inv, ite_self]

theorem State.weldString_inv (s : State) (x : Nat) : (s.weldString x).Inv = s.Inv := by
  simp only [State.weldString, State.updStr_inv, State.lockout_inv, State.firstFail_inv, State.latchWeld_inv, State.leaveOpening_inv,
    apply_ite State.Inv, ite_self]

theorem execWeldCheck_inv (leg : Leg) (s : State) : invNext s (execWeldCheck leg s) = s.Inv := by
  unfold execWeldCheck
  repeat' split
  all_goals simp only [State.reach_inv, State.sweepDone_inv, State.weldRecord_inv, State.onlineEmpty_inv, State.weldString_inv, State.inv_mk,
    invNext_next, apply_ite (invNext s), ite_self]

theorem execProbeEnd_inv (x : Str) (s : State) : invNext s (execProbeEnd x s) = s.Inv := by
  simp only [execProbeEnd, State.reach_inv, State.settle_inv, State.abandonClose_inv, State.firstFail_inv, State.latchWeld_inv, invNext_next,
    apply_ite (invNext s)]
  (repeat' split) <;> simp only [State.updStr_inv, State.reach_inv, State.closeChan_inv, State.abandonClose_inv, invNext_next]

theorem execJoinTmo_inv (s : State) : invNext s (execJoinTmo s) = s.Inv := by
  simp only [execJoinTmo, State.reach_inv, State.joinAbort_inv, invNext_next, apply_ite (invNext s), ite_self]

theorem execRunClose_inv (x : Str) (s : State) : invNext s (execRunClose x s) = s.Inv := by
  simp only [execRunClose, State.startClose_inv, invNext_next, apply_ite (invNext s), ite_self]

theorem State.joinEpoch_inv (s : State) (x : Nat) : (s.joinEpoch x).Inv = s.Inv := by
  simp only [State.joinEpoch, State.updStr_inv]

/-! ### Converter -/

theorem State.pushTel_inv (s : State) (q : Nat) (v : Rat) : (s.pushTel q v).Inv = s.Inv := by
  simp only [State.pushTel, State.inv_mk]

theorem State.telemetry_inv (s : State) : s.telemetry.Inv = s.Inv := by
  simp only [State.telemetry, State.pushTel_inv, foldS_inv, implies_true]

theorem State.voltageLaw_inv (s : State) (r : Rat) : (s.voltageLaw r).Inv = s.Inv := by
  simp only [State.voltageLaw, State.inv_mk]

theorem State.reachedCheck_inv (s : State) : s.reachedCheck.Inv = s.Inv := by
  simp only [State.reachedCheck, State.raise_inv, State.firstTry_inv, State.inv_mk, apply_ite State.Inv, ite_self]

theorem execVoltageLoop_inv (voaMv vobMv viMv : Int) (s : State) : invNext s (execVoltageLoop voaMv vobMv viMv s) = s.Inv := by
  unfold execVoltageLoop
  extract_lets va vb l1 s1 s2 l2 s3 f step f' l3 s4 ramp left
  have h1 : s1.Inv = s.Inv := State.inv_mk s ..
  have h2 : s2.Inv = s.Inv := (State.telemetry_inv _).trans ((State.pushTel_inv _ _ _).trans ((State.pushTel_inv _ _ _).trans h1))
  have h4 : s4.Inv = s.Inv := (State.inv_mk s3 ..).trans ((State.inv_mk s2 ..).trans h2)
  split
  · rw [invNext_next, State.reachedCheck_inv, State.voltageLaw_inv, h4]
  · rw [invNext_next, State.voltageLaw_inv, h4]
  · exact (State.inv_mk s4 ..).trans h4
  · exact h4

theorem execCurrentLoop_inv (phaseMa : List Int) (s : State) : invNext s (execCurrentLoop phaseMa s) = s.Inv := by
  simp only [execCurrentLoop, apply_ite (invNext s), invNext_next, foldS_inv, State.inv_mk, implies_true, ite_self]

theorem execPhaseOc_inv (k : Phase) (i1 i2 : Int) (s : State) : invNext s (execPhaseOc k i1 i2 s) = s.Inv := by
  simp only [execPhaseOc, State.convLatch_inv, invNext_next, apply_ite (invNext s), ite_self]

theorem State.phaseOut_inv (s : State) (k : Nat) (sense : Bool) : (s.phaseOut k sense).Inv = s.Inv := by
  simp only [State.phaseOut, State.raise_inv, State.log_inv, State.convLatch_inv, State.inv_mk, apply_ite State.Inv, ite_self]

theorem execFailedOpen_inv (k : Phase) (s : State) : invNext s (execFailedOpen k s) = s.Inv := by
  simp only [execFailedOpen, State.phaseOut_inv, State.inv_mk, invNext_next, apply_ite (invNext s), ite_self]

theorem State.senseLose_inv (s : State) (k : Nat) : (s.senseLose k).Inv = s.Inv := by
  simp only [State.senseLose, State.phaseOut_inv, State.inv_mk, apply_ite State.Inv, ite_self]

theorem execSenseLost_inv (k : Phase) (s : State) : invNext s (execSenseLost k s) = s.Inv := by
  simp only [execSenseLost, State.senseLose_inv, invNext_next]

theorem execShortDetect_inv (clampMs : Nat) (riseMv : Int) (s : State) : invNext s (execShortDetect clampMs riseMv s) = s.Inv := by
  simp only [execShortDetect, State.raise_inv, State.log_inv, State.convRelease_inv, State.convLatch_inv, State.inv_mk, invNext_next,
    apply_ite (invNext s), ite_self]

theorem execRetryWaitEnd_inv (s : State) : invNext s (execRetryWaitEnd s) = s.Inv := by
  simp only [execRetryWaitEnd, State.reach_inv, State.convStart_inv, invNext_next, apply_ite (invNext s), ite_self]

theorem execSag_inv (s : State) : invNext s (execSag s) = s.Inv := by
  simp only [execSag, State.convLatch_inv, invNext_next, apply_ite (invNext s), ite_self]

theorem State.lineRecord_inv (s : State) (k : Nat) : (s.lineRecord k).Inv = s.Inv := by
  simp only [State.lineRecord, State.raise_inv, State.log_inv]

theorem State.lineLose_inv (s : State) (lineB : Bool) : (s.lineLose lineB).Inv = s.Inv := by
  simp only [State.lineLose, State.convLatch_inv, State.lineRecord_inv, State.inv_mk, apply_ite State.Inv, ite_self]

theorem execLineLost_inv (lineB : Bool) (s : State) : invNext s (execLineLost lineB s) = s.Inv := by
  simp only [execLineLost, State.lineLose_inv, invNext_next]

theorem execLineRecovered_inv (lineB : Bool) (s : State) : invNext s (execLineRecovered lineB s) = s.Inv := by
  simp only [execLineRecovered, State.inv_mk, invNext_next]

theorem State.viLose_inv (s : State) : s.viLose.Inv = s.Inv := by
  simp only [State.viLose, State.convLatch_inv, State.lineRecord_inv, State.inv_mk, apply_ite State.Inv, ite_self]

theorem execViLost_inv (s : State) : invNext s (execViLost s) = s.Inv := by
  simp only [execViLost, State.viLose_inv, invNext_next]

theorem execStopRampEnd_inv (s : State) : invNext s (execStopRampEnd s) = s.Inv := by
  simp only [execStopRampEnd, State.reach_inv, State.inv_mk, invNext_next, apply_ite (invNext s), ite_self]

theorem execConverterOff_inv (s : State) : invNext s (execConverterOff s) = s.Inv := by
  simp only [execConverterOff, State.openFeed_inv, State.convRelease_inv, invNext_next, apply_ite (invNext s), ite_self]

theorem State.banisterStop_inv (s : State) : s.banisterStop.Inv = s.Inv := by
  unfold State.banisterStop
  split <;> simp only [State.log_inv, State.openFeed_inv, State.convRelease_inv]

theorem execBfcSyncEdge_inv (intervalNs : Nat) (s : State) : invNext s (execBfcSyncEdge intervalNs s) = s.Inv := by
  simp only [execBfcSyncEdge, State.inv_mk, invNext_next, apply_ite (invNext s), ite_self]

theorem execBfcSyncLost_inv (lastIntervalNs : Nat) (s : State) : invNext s (execBfcSyncLost lastIntervalNs s) = s.Inv := by
  simp only [execBfcSyncLost, State.raise_inv, State.logN_inv, State.inv_mk, invNext_next, apply_ite (invNext s), ite_self]

theorem execNetsFree_inv (waitUs : Nat) (s : State) : invNext s (execNetsFree waitUs s) = s.Inv := by
  simp only [execNetsFree, State.raise_inv, State.log_inv, State.logN_inv, State.convStart_inv, invNext_next, apply_ite (invNext s),
    apply_ite State.Inv, ite_self]

theorem State.convTakeover_inv (s : State) : s.convTakeover.Inv = s.Inv := by
  unfold State.convTakeover
  split <;> simp only [State.openFeed_inv, State.convRelease_inv, State.inv_mk]

theorem State.bfcClear_inv (s : State) (o : Origin) (v : Word) : invOk s (s.bfcClear o v) = s.Inv := by
  simp only [State.bfcClear, State.logN_inv, State.inv_mk, invOk_ok, invOk_error, apply_ite (invOk s), ite_self]

theorem State.peakTake_inv (s : State) (o : Origin) (q : Nat) : (s.peakTake o q).2.Inv = s.Inv := by
  simp only [State.peakTake, State.inv_mk]

theorem State.bvlReject_inv (s : State) (frame : DWord) (edges minPeriodNs kind : Nat) :
    (s.bvlReject frame edges minPeriodNs kind).2.Inv = s.Inv := by
  simp only [State.bvlReject, State.raise_inv, State.freeBool_inv, State.inv_mk, apply_ite Prod.snd, apply_ite State.Inv, ite_self]

theorem execBvlSet_inv (frame : DWord) (edges minPeriodNs : Nat) (s : State) : invNext s (execBvlSet frame edges minPeriodNs s) = s.Inv := by
  have h := State.bvlReject_inv s frame edges minPeriodNs 5
  unfold execBvlSet
  split
  · next e =>
    rw [e] at h
    exact h
  · next e =>
    rw [e] at h
    simp only [apply_ite (invNext s), invNext_next, State.emit_inv, apply_ite State.Inv, State.raise_inv, State.logN_inv, State.inv_mk, h, ite_self]

theorem execBvlPoll_inv (frame : DWord) (edges minPeriodNs : Nat) (s : State) : invNext s (execBvlPoll frame edges minPeriodNs s) = s.Inv := by
  have h := State.bvlReject_inv s frame edges minPeriodNs 10
  unfold execBvlPoll
  split <;> next e => rw [e] at h; exact h

theorem execBvlSilent_inv (sinceMs : Nat) (s : State) : invNext s (execBvlSilent sinceMs s) = s.Inv := by
  simp only [execBvlSilent, State.raise_inv, State.logN_inv, State.inv_mk, invNext_next, apply_ite (invNext s), ite_self]

/-! ### Served -/

theorem State.answer_inv (s : State) (o : Origin) (status : Nat) (ws : List Word) : (s.answer o status ws).Inv = s.Inv := by
  unfold State.answer
  split <;> simp only [State.emit_inv, apply_ite State.Inv, ite_self]

theorem State.refuse_inv (s : State) (o : Origin) (pg off : Nat) (r : Refuse) : (s.refuse o pg off r).Inv = s.Inv := by
  simp only [State.refuse, State.raise_inv, State.logN_inv, State.answer_inv, State.inv_mk, apply_ite State.Inv, ite_self]

theorem State.served_inv {s : State} (o : Origin) (pg off : Nat) {r : Except Refuse State} (h : invOk s r = s.Inv) :
    (s.served o pg off r).Inv = s.Inv := by
  unfold State.served
  split
  · exact State.answer_inv s o _ _
  · split
    · exact State.refuse_inv s o pg off _
    · split
      · simp only [apply_ite State.Inv, State.answer_inv, State.bumpCfg_inv, ite_self]
        exact h
      · exact State.refuse_inv s o pg off _

theorem State.served_keeps_inv {s : State} (o : Origin) (pg off : Nat) {r : Except Refuse State} (h : s.Inv) (hr : invOk s r) :
    (s.served o pg off r).Inv := by
  have hs : invOk s r = s.Inv := propext ⟨fun _ => h, fun _ => hr⟩
  rwa [State.served_inv o pg off hs]

theorem State.toShadow_inv (s : State) (o : Origin) (pg off : Nat) (v : Word) : (s.toShadow o pg off v).Inv = s.Inv := by
  simp only [State.toShadow, State.inv_mk]

theorem State.shadowed_inv (s : State) (o : Origin) (pg off : Nat) (v : Word) (ok : Bool) : (s.shadowed o pg off v ok).Inv = s.Inv := by
  simp only [State.shadowed, State.refuse_inv, State.toShadow_inv, apply_ite State.Inv, ite_self]

theorem State.storeReg_inv (s : State) (pg off : Nat) (v : Word) : (s.storeReg pg off v).Inv = s.Inv := by
  simp only [State.storeReg, State.setReg_inv]

/-! ### TimeBase -/

theorem State.rebase_inv (s : State) (t : Nat) : (s.rebase t).Inv = s.Inv := by
  simp only [State.rebase, State.inv_mk, apply_ite State.Inv, ite_self]

theorem State.correct_inv (s : State) (src : Nat) (off : Int) : (s.correct src off).Inv = s.Inv := by
  unfold State.correct
  extract_lets big stepMode
  split
  · next t l v _ =>
    have hu : v.Inv = s.Inv := State.rebase_inv _ _
    split
    next w x e => rw [State.log_inv, State.inv_of_snd e (State.freeWord_inv v), hu]
  · rfl

/-! ### Can -/

theorem State.bufQueue_inv (s : State) (k : Nat) (ws : List Word) : (s.bufQueue k ws).Inv = s.Inv := by
  simp only [State.bufQueue, State.updBuf_inv, apply_ite State.Inv, ite_self]

theorem State.bufDrop_inv (s : State) (k : Nat) (dest : BufState) : (s.bufDrop k dest).Inv = s.Inv := by
  simp only [State.bufDrop, State.updBuf_inv, apply_ite State.Inv, ite_self]

theorem State.txQueue_inv (s : State) (o : Origin) (x b : Nat) : invOk s (s.txQueue o x b) = s.Inv := by
  simp only [State.txQueue, State.bufQueue_inv, invOk_ok, invOk_error, apply_ite (invOk s), ite_self]

theorem State.txWithdraw_inv (s : State) (o : Origin) (x b : Nat) : invOk s (s.txWithdraw o x b) = s.Inv := by
  simp only [State.txWithdraw, State.bufDrop_inv, invOk_ok, invOk_error, apply_ite (invOk s), ite_self]

theorem execQueue_inv (o : Origin) (x : CanIx) (b : BufIx) (s : State) : invNext s (execQueue o x b s) = s.Inv := by
  simp only [execQueue, State.served_inv, State.txQueue_inv, invNext_next]

theorem execWithdraw_inv (o : Origin) (x : CanIx) (b : BufIx) (s : State) : invNext s (execWithdraw o x b s) = s.Inv := by
  simp only [execWithdraw, State.served_inv, State.txWithdraw_inv, invNext_next]

theorem execTxLaunch_inv (x : CanIx) (b : BufIx) (sofAt : Nat) (s : State) : invNext s (execTxLaunch x b sofAt s) = s.Inv := by
  simp only [execTxLaunch, State.updBuf_inv, State.reach_inv, State.raise_inv, State.logN_inv, State.when_inv, invNext_next,
    apply_ite (invNext s), ite_self]

theorem execTxExpire_inv (x : CanIx) (b : BufIx) (s : State) : invNext s (execTxExpire x b s) = s.Inv := by
  simp only [execTxExpire, State.reach_inv, State.raise_inv, State.logN_inv, State.bufDrop_inv, invNext_next, apply_ite (invNext s), ite_self]

theorem State.attemptFailed_inv (s : State) (x b : Nat) : (s.attemptFailed x b).Inv = s.Inv := by
  unfold State.attemptFailed
  dsimp only
  split <;> simp only [State.updBuf_inv, State.raise_inv, State.logN_inv, apply_ite State.Inv, ite_self]

theorem execBusOffWaitEnd_inv (x : CanIx) (s : State) : invNext s (execBusOffWaitEnd x s) = s.Inv := by
  simp only [execBusOffWaitEnd, State.updCan_inv, State.reach_inv, invNext_next, apply_ite (invNext s), ite_self]

theorem execCanRecovered_inv (x : CanIx) (s : State) : invNext s (execCanRecovered x s) = s.Inv := by
  simp only [execCanRecovered, State.updCan_inv, State.raise_inv, State.logN_inv, invNext_next, apply_ite (invNext s), ite_self]

theorem State.wakeRearm_inv (s : State) (x recessiveMs : Nat) : invOk s (s.wakeRearm x recessiveMs) = s.Inv := by
  simp only [State.wakeRearm, State.updCan_inv, invOk_ok, invOk_error, apply_ite (invOk s), ite_self]

theorem execWakeRearm_inv (o : Origin) (x : CanIx) (recessiveMs : Nat) (s : State) : invNext s (execWakeRearm o x recessiveMs s) = s.Inv := by
  simp only [execWakeRearm, State.served_inv, State.wakeRearm_inv, invNext_next]

/-- A host FIFO that grows to what fits held no more than fits. -/
theorem State.withHost_inv (s : State) (h : HostSt) (hs : s.host.fifo.length ≤ Config.hostFifoMax) (hh : h.fifo.length ≤ Config.hostFifoMax) :
    ({ s with host := h } : State).Inv = s.Inv :=
  propext (and_congr_right fun _ => and_congr_right fun _ => ⟨fun _ => hs, fun _ => hh⟩)

theorem State.hostPush_inv (s : State) (kind : Nat) (ws : List Word) : (s.hostPush kind ws).Inv = s.Inv := by
  unfold State.hostPush
  extract_lets entry loss f g
  split
  · next h =>
    have hg : g.length = f.length + loss.length + entry.length := by simp [g, Nat.add_assoc]
    have hf : f.length ≤ Config.hostFifoMax := by omega
    rw [State.when_inv _ _ _ (State.raise_inv _ _ _), State.when_inv _ _ _ (State.raise_inv _ _ _)]
    exact State.withHost_inv s _ hf (hg ▸ h)
  · rfl

theorem State.drainFifo1_inv (s : State) (x : Nat) : (s.drainFifo1 x).Inv = s.Inv := by
  simp only [State.drainFifo1, State.updCan_inv, State.hostPush_inv, foldS_inv, implies_true]

theorem State.fifo0Put_inv (s : State) (x : Nat) (e : RxEntry) : (s.fifo0Put x e).Inv = s.Inv := by
  simp only [State.fifo0Put, State.updCan_inv, State.raise_inv, State.logN_inv, apply_ite State.Inv, ite_self]

theorem State.fifo1Put_inv (s : State) (x : Nat) (e : RxEntry) : (s.fifo1Put x e).Inv = s.Inv := by
  simp only [State.fifo1Put, State.updCan_inv, State.raise_inv, State.logN_inv, State.drainFifo1_inv, apply_ite State.Inv, ite_self]

theorem execCanFrameRx_inv (x : CanIx) (f : CanFrame) (stamp : Nat) (s : State) : invNext s (execCanFrameRx x f stamp s) = s.Inv := by
  simp only [execCanFrameRx, invNext_next, apply_ite (invNext s)]
  (repeat' split) <;> simp only [State.updCan_inv, State.goPassive_inv, State.fifo0Put_inv, State.fifo1Put_inv, State.freeWord_inv, invNext_next]

theorem State.fifo0Take_inv (s : State) (f : CanFrame) : (s.fifo0Take f).Inv = s.Inv := by
  simp only [State.fifo0Take, State.updCan_inv, foldS_inv, implies_true]

theorem State.syncLost_inv (s : State) : s.syncLost.Inv = s.Inv := by
  simp only [State.syncLost, State.raise_inv, State.logN_inv, State.inv_mk]

theorem State.syncMiss_inv (s : State) : s.syncMiss.Inv = s.Inv := by
  simp only [State.syncMiss, State.syncLost_inv, State.inv_mk, apply_ite State.Inv, ite_self]

theorem execSyncInEdge_inv (t : Nat) (s : State) : invNext s (execSyncInEdge t s) = s.Inv := by
  simp only [execSyncInEdge, State.reach_inv, State.raise_inv, State.log_inv, State.correct_inv, State.syncMiss_inv, State.inv_mk, invNext_next,
    apply_ite (invNext s), ite_self]

theorem execSyncInMiss_inv (s : State) : invNext s (execSyncInMiss s) = s.Inv := by
  simp only [execSyncInMiss, State.syncMiss_inv, invNext_next]

theorem execSyncOutPulse_inv (s : State) : invNext s (execSyncOutPulse s) = s.Inv := by
  simp only [execSyncOutPulse, State.reach_inv, State.emit_inv, invNext_next, apply_ite (invNext s), ite_self]

theorem execMasterCandidateStart_inv (s : State) : invNext s (execMasterCandidateStart s) = s.Inv := by
  simp only [execMasterCandidateStart, State.logN_inv, State.inv_mk, invNext_next, apply_ite (invNext s), ite_self]

theorem execRefMessageTx_inv (s : State) : invNext s (execRefMessageTx s) = s.Inv := by
  simp only [execRefMessageTx, State.emit_inv, State.logN_inv, State.inv_mk, invNext_next, apply_ite (invNext s), apply_ite State.Inv, ite_self]

theorem execRefMessageRx_inv (x : CanIx) (f : CanFrame) (stamp : Nat) (s : State) : invNext s (execRefMessageRx x f stamp s) = s.Inv := by
  simp only [execRefMessageRx, State.raise_inv, State.log_inv, State.logN_inv, State.correct_inv, State.fifo0Take_inv, State.when_inv,
    State.inv_mk, invNext_next, apply_ite (invNext s), apply_ite State.Inv, ite_self]

/-! ### Protection -/

theorem State.sendProtFrame_inv (s : State) : s.sendProtFrame.Inv = s.Inv := by
  unfold State.sendProtFrame
  split <;> simp only [State.bufQueue_inv]

theorem State.protFrame_inv (s : State) : s.protFrame.Inv = s.Inv := by
  simp only [State.protFrame, State.sendProtFrame_inv, State.inv_mk, apply_ite State.Inv, ite_self]

theorem State.enforce259_inv (s : State) : s.enforce259.Inv = s.Inv := by
  simp only [State.enforce259, State.abandonClose_inv, foldS_inv, implies_true, apply_ite State.Inv, ite_self]

theorem State.levelEntered_inv (s : State) (x q k : Nat) (v : Rat) : (s.levelEntered x q k v).Inv = s.Inv := by
  simp only [State.levelEntered, State.raise_inv, State.log_inv, State.askReady_inv, State.softReq_inv, State.disarm_inv, State.joinAbort_inv,
    State.lockout_inv, foldS_inv, implies_true, apply_ite State.Inv, ite_self]

theorem State.latchClear_inv (s : State) (x q cause : Nat) : (s.latchClear x q cause).Inv = s.Inv := by
  simp only [State.latchClear, State.updLevel_inv, State.raise_inv, State.logN_inv, foldS_inv, implies_true]

theorem State.gradeOne_inv (s : State) (x q : Nat) : (s.gradeOne x q).Inv = s.Inv := by
  unfold State.gradeOne
  dsimp only
  split <;> simp only [State.updLevel_inv, State.logN_inv, State.levelEntered_inv, State.latchClear_inv, foldS_inv, implies_true,
    apply_ite State.Inv, ite_self]

theorem execGrading_inv (s : State) : invNext s (execGrading s) = s.Inv := by
  simp only [execGrading, State.settle_inv, State.startCandidates_inv, State.firstTry_inv, State.sweepDone_inv, State.protFrame_inv,
    State.enforce259_inv, State.gradeOne_inv, foldS_inv, implies_true, State.inv_mk, invNext_next, apply_ite State.Inv, ite_self]

theorem State.protClear_inv (s : State) : invOk s s.protClear = s.Inv := by
  simp only [State.protClear, State.settle_inv, State.latchClear_inv, foldS_inv, implies_true, invOk_ok, apply_ite State.Inv, ite_self]

theorem execProtClear_inv (o : Origin) (s : State) : invNext s (execProtClear o s) = s.Inv := by
  simp only [execProtClear, State.served_inv, State.protClear_inv, invNext_next]

theorem execProtFrameRepeat_inv (s : State) : invNext s (execProtFrameRepeat s) = s.Inv := by
  simp only [execProtFrameRepeat, State.sendProtFrame_inv, invNext_next, apply_ite (invNext s), ite_self]

theorem execDataStall_inv (s : State) : invNext s (execDataStall s) = s.Inv := by
  simp only [execDataStall, State.reach_inv, State.raise_inv, State.log_inv, State.protFrame_inv, State.enforce259_inv, State.inv_mk,
    invNext_next, apply_ite (invNext s), ite_self]

theorem execDataStallOpenAll_inv (s : State) : invNext s (execDataStallOpenAll s) = s.Inv := by
  simp only [execDataStallOpenAll, State.reach_inv, State.askReady_inv, State.softReq_inv, State.joinAbort_inv, State.protFrame_inv, foldS_inv,
    implies_true, State.inv_mk, invNext_next, apply_ite (invNext s), apply_ite State.Inv, ite_self]

theorem State.stallEnd_inv (s : State) : s.stallEnd.Inv = s.Inv := by
  simp only [State.stallEnd, State.log_inv, State.inv_mk, apply_ite State.Inv, ite_self]

theorem execBreakSafeOpen_inv (x : Str) (i1 i2 : Int) (s : State) : invNext s (execBreakSafeOpen x i1 i2 s) = s.Inv := by
  simp only [execBreakSafeOpen, State.updChan_inv, State.openNow_inv, invNext_next, apply_ite (invNext s), ite_self]

theorem execDisconnectDeadline_inv (x : Str) (i : Int) (s : State) : invNext s (execDisconnectDeadline x i s) = s.Inv := by
  simp only [execDisconnectDeadline, State.updChan_inv, State.updWaitOf_inv, State.reach_inv, State.raise_inv, State.log_inv, State.openNow_inv,
    invNext_next, apply_ite (invNext s), ite_self]

theorem execBrkWaitOpen_inv (x : Str) (i : Int) (s : State) : invNext s (execBrkWaitOpen x i s) = s.Inv := by
  simp only [execBrkWaitOpen, State.updChan_inv, State.openNow_inv, invNext_next, apply_ite (invNext s), ite_self]

theorem State.insStaleNow_inv (s : State) : s.insStaleNow.Inv = s.Inv := by
  simp only [State.insStaleNow, State.updLevel_inv, State.raise_inv, State.logN_inv, State.protFrame_inv, State.enforce259_inv,
    State.levelEntered_inv, State.inv_mk, apply_ite State.Inv, ite_self]

theorem execInsulationStatus_inv (f : CanFrame) (s : State) : invNext s (execInsulationStatus f s) = s.Inv := by
  simp only [execInsulationStatus, State.fifo0Take_inv, State.insStaleNow_inv, State.inv_mk, invNext_next, apply_ite (invNext s), ite_self]

theorem execInsTimeout_inv (s : State) : invNext s (execInsTimeout s) = s.Inv := by
  simp only [execInsTimeout, State.reach_inv, State.insStaleNow_inv, invNext_next]

/-! ### Current -/

theorem State.snapshotCur_inv (s : State) (cur : List CurIn) (t : Nat) : (s.snapshotCur cur t).Inv = s.Inv := by
  simp only [State.snapshotCur, State.updChan_inv, foldS_inv, implies_true]

theorem execStreamLost_inv (c : Str) (bit : Bool) (s : State) : invNext s (execStreamLost c bit s) = s.Inv := by
  simp only [execStreamLost, State.updChan_inv, State.raise_inv, State.log_inv, invNext_next, apply_ite (invNext s), ite_self]

theorem execStreamRecovered_inv (c : Str) (s : State) : invNext s (execStreamRecovered c s) = s.Inv := by
  simp only [execStreamRecovered, State.updChan_inv, State.logN_inv, invNext_next, apply_ite (invNext s), ite_self]

theorem execTempStale_inv (c : Str) (s : State) : invNext s (execTempStale c s) = s.Inv := by
  simp only [execTempStale, State.updChan_inv, State.reach_inv, invNext_next, apply_ite (invNext s), ite_self]

theorem State.chanStatus_inv (s : State) (k : Nat) (bytes : List Byte) : (s.chanStatus k bytes).Inv = s.Inv := by
  simp only [State.chanStatus, State.updChan_inv, State.raise_inv, State.log_inv, apply_ite State.Inv, ite_self]

theorem State.convStatus_inv (s : State) (j : Nat) (bytes : List Byte) : (s.convStatus j bytes).Inv = s.Inv := by
  simp only [State.convStatus, State.senseLose_inv, State.lineLose_inv, State.viLose_inv, State.inv_mk, apply_ite State.Inv, ite_self]

theorem execModStatusFrame_inv (src : ModSrc) (bytes : List Byte) (s : State) : invNext s (execModStatusFrame src bytes s) = s.Inv := by
  unfold execModStatusFrame
  split <;> simp only [State.chanStatus_inv, State.convStatus_inv, invNext_next]

theorem execClkTaken_inv (n : Phase) (stretchNs : Nat) (ones : List Nat) (byPartner : Bool) (s : State) :
    invNext s (execClkTaken n stretchNs ones byPartner s) = s.Inv := by
  unfold execClkTaken
  extract_lets x periods s1 s2
  have h1 : s1.Inv = s.Inv := foldS_inv _ _ _ fun t j => State.updChan_inv _ _ _
  have h2 : s2.Inv = s.Inv := (State.inv_mk s1 ..).trans h1
  split
  · exact h2
  · rw [invNext_next, State.raise_inv, State.logN_inv]
    exact (State.inv_mk s2 ..).trans h2

theorem execOffsetWindowStart_inv (x : Str) (s : State) : invNext s (execOffsetWindowStart x s) = s.Inv := by
  simp only [execOffsetWindowStart, State.updChan_inv, invNext_next, apply_ite (invNext s), ite_self]

theorem execOffsetLearned_inv (x : Str) (s : State) : invNext s (execOffsetLearned x s) = s.Inv := by
  unfold execOffsetLearned
  dsimp only
  split <;> simp only [State.updChan_inv, State.reach_inv, State.raise_inv, State.log_inv, invNext_next, apply_ite (invNext s), ite_self]

theorem State.offlearn_inv (s : State) : s.offlearn.Inv = s.Inv := by
  simp only [State.offlearn, State.updChan_inv, foldS_inv, implies_true, apply_ite State.Inv, ite_self]

theorem execOfflearn_inv (o : Origin) (s : State) : invNext s (execOfflearn o s) = s.Inv := by
  simp only [execOfflearn, State.toShadow_inv, invNext_next]

theorem State.ocEvaluate_inv (s : State) (k : Nat) (i : Int) : (s.ocEvaluate k i).Inv = s.Inv := by
  simp only [State.ocEvaluate, State.updChan_inv, State.raise_inv, State.log_inv, State.hardReq_inv, State.protFrame_inv, State.enforce259_inv,
    apply_ite State.Inv, ite_self]

theorem execOcTrip_inv (c : Str) (outputs : List Int) (s : State) : invNext s (execOcTrip c outputs s) = s.Inv := by
  simp only [execOcTrip, State.updChan_inv, State.raise_inv, State.log_inv, State.ocEvaluate_inv, invNext_next, apply_ite (invNext s),
    apply_ite State.Inv, ite_self]

theorem execOcClear_inv (c : Str) (outputs : List Int) (s : State) : invNext s (execOcClear c outputs s) = s.Inv := by
  simp only [execOcClear, State.updChan_inv, invNext_next, apply_ite (invNext s), ite_self]

theorem execBrkHoldClear_inv (c : Str) (outputs : List Int) (s : State) : invNext s (execBrkHoldClear c outputs s) = s.Inv := by
  simp only [execBrkHoldClear, State.updChan_inv, State.hardReq_inv, invNext_next, apply_ite (invNext s), apply_ite State.Inv, ite_self]

/-! ### Code -/

theorem State.engInstall_inv (s : State) (e : Nat) : (s.engInstall e).Inv = s.Inv := by
  unfold State.engInstall
  repeat' split
  all_goals simp only [State.updEng_inv, State.raise_inv, State.log_inv]

theorem State.engGeneration_inv (s : State) (e : Nat) : (s.engGeneration e).Inv = s.Inv := by
  simp only [State.engGeneration, State.updEng_inv]

/-! ### Gallery -/

theorem State.galAppend_inv (s : State) (e : GalEntry) : (s.galAppend e).Inv = s.Inv := by
  rfl

theorem State.galPut_inv (s : State) (e : GalEntry) : (s.galPut e).Inv = s.Inv := by
  unfold State.galPut
  split <;> simp only [State.galAppend_inv, apply_ite State.Inv, ite_self, State.withGal_inv]

/-! ### Ops -/

theorem foldS_keeps_inv {α : Type} (l : List α) (f : State → α → State) {s : State} (hs : s.Inv) (hf : ∀ t a, t.Inv → (f t a).Inv) :
    (foldS l f s).Inv := by
  induction l generalizing s with
  | nil => exact hs
  | cons a l ih => exact ih (hf s a hs)

/-! ### Gallery -/

theorem State.galTake_keeps_inv {s : State} (h : s.Inv) : s.galTake.Inv := by
  unfold State.galTake
  split
  · exact h
  · next e t hf =>
    obtain ⟨hmem, hgal, hhost⟩ := h
    have hput : (State.galPut { s with gal := { s.gal with fifo := t } } e).Inv := by
      rw [State.galPut_inv]
      refine ⟨hmem, Nat.le_trans (Nat.le_succ t.length) ?_, hhost⟩
      rwa [hf] at hgal
    dsimp only
    split
    · exact hput
    · rw [State.logN_inv]
      exact hput

theorem execGalleryStore_keeps_inv {s : State} (h : s.Inv) : invNext s (execGalleryStore s) := by
  unfold execGalleryStore
  split
  · exact h
  · exact State.galTake_keeps_inv h

theorem State.journalReplay_inv (s : State) : s.journalReplay.Inv = s.Inv := by
  unfold State.journalReplay
  split <;> simp only [State.raise_inv, State.logN_inv, State.withGal_inv]

theorem State.journalReplay_fw (s : State) : s.journalReplay.fw = s.fw := by
  unfold State.journalReplay
  split
  · rfl
  · simp only [State.raise_fw, State.logN_fw]

/-- Counting a start changes the marks of the images, not their words (R440). -/
theorem FwSt.countStart_image (f : FwSt) : f.countStart.imageA = f.imageA ∧ f.countStart.imageB = f.imageB := by
  simp only [FwSt.countStart, apply_ite FwSt.imageA, apply_ite FwSt.imageB, ite_self, and_self]

theorem State.setSession_inv (s : State) (o : Origin) (x : GalSession) : (s.setSession o x).Inv = s.Inv := by
  rfl

theorem State.galRead_inv (s : State) (o : Origin) (f : GalSession → GalSession) : invOk s (s.galRead o f) = s.Inv := by
  simp only [State.galRead, State.emit_inv, State.setSession_inv, invOk_ok, invOk_error, apply_ite (invOk s), apply_ite State.Inv, ite_self]

theorem State.galOpen_inv (s : State) (o : Origin) : invOk s (s.galOpen o) = s.Inv := by
  simp only [State.galOpen, State.setSession_inv, invOk_ok, invOk_error, apply_ite (invOk s), ite_self]

theorem execGalOpen_inv (o : Origin) (s : State) : invNext s (execGalOpen o s) = s.Inv := by
  simp only [execGalOpen, State.served_inv, State.galOpen_inv, invNext_next]

theorem State.galFirst_inv (s : State) (o : Origin) : invOk s (s.galFirst o) = s.Inv := by
  simp only [State.galFirst, State.galRead_inv]

theorem execGalFirst_inv (o : Origin) (s : State) : invNext s (execGalFirst o s) = s.Inv := by
  simp only [execGalFirst, State.served_inv, State.galFirst_inv, invNext_next]

theorem State.galNext_inv (s : State) (o : Origin) : invOk s (s.galNext o) = s.Inv := by
  simp only [State.galNext, State.galRead_inv]

theorem execGalNext_inv (o : Origin) (s : State) : invNext s (execGalNext o s) = s.Inv := by
  simp only [execGalNext, State.served_inv, State.galNext_inv, invNext_next]

theorem State.galSeek_inv (s : State) (o : Origin) (target : Word) : invOk s (s.galSeek o target) = s.Inv := by
  simp only [State.galSeek, State.galRead_inv]

theorem execGalSeek_inv (o : Origin) (target : Word) (s : State) : invNext s (execGalSeek o target s) = s.Inv := by
  simp only [execGalSeek, State.served_inv, State.galSeek_inv, invNext_next]

theorem State.galToNewest_inv (s : State) (o : Origin) : invOk s (s.galToNewest o) = s.Inv := by
  simp only [State.galToNewest, State.galRead_inv]

theorem execGalNewest_inv (o : Origin) (s : State) : invNext s (execGalNewest o s) = s.Inv := by
  simp only [execGalNewest, State.served_inv, State.galToNewest_inv, invNext_next]

theorem State.galClose_inv (s : State) (o : Origin) : invOk s (s.galClose o) = s.Inv := by
  simp only [State.galClose, State.setSession_inv, invOk_ok]

theorem execGalClose_inv (o : Origin) (s : State) : invNext s (execGalClose o s) = s.Inv := by
  simp only [execGalClose, State.served_inv, State.galClose_inv, invNext_next]

theorem State.galClearlog_inv (s : State) (o : Origin) (k : Word) : invOk s (s.galClearlog o k) = s.Inv := by
  simp only [State.galClearlog, State.galRead_inv]

theorem execGalClearlog_inv (o : Origin) (entry : Word) (s : State) : invNext s (execGalClearlog o entry s) = s.Inv := by
  simp only [execGalClearlog, State.served_inv, State.galClearlog_inv, invNext_next]

theorem State.galClear_inv (s : State) (o : Origin) : invOk s (s.galClear o) = s.Inv := by
  simp only [State.galClear, invOk_ok, invOk_error, apply_ite (invOk s), ite_self, State.withGal_inv]

theorem execGalClear_inv (o : Origin) (s : State) : invNext s (execGalClear o s) = s.Inv := by
  simp only [execGalClear, State.served_inv, State.galClear_inv, invNext_next]

theorem execGalClearDone_inv (s : State) : invNext s (execGalClearDone s) = s.Inv := by
  unfold execGalClearDone
  split <;> simp only [State.raise_inv, State.galAppend_inv, invNext_next, State.withGal_inv]

/-! ### Otp -/

/-- Marking a generation slot whose bytes stay. -/
theorem State.setSlotState_inv (s : State) (k : Nat) (x : Slot) (h : x.mem = (s.slotState k).mem) : (s.setSlotState k x).Inv = s.Inv := by
  have hslot : ∀ j, ((s.setSlotState k x).slotState j).mem = (s.slotState j).mem := by
    intro j
    rw [State.slotState, State.setSlotState, sget_sset]
    split
    · next e => rw [e, h]
    · rfl
  exact State.inv_of_slots hslot rfl rfl rfl rfl rfl rfl

theorem State.setSlot_keeps_inv {s : State} (k : Nat) (x : Slot) (h : s.Inv) (hx : x.mem.wf = true) : (s.setSlotState k x).Inv := by
  obtain ⟨⟨hbuf, hcode, ha, hb, hslots, hrslots⟩, hfifo⟩ := h
  refine ⟨⟨hbuf, hcode, ha, hb, fun j => ?_, hrslots⟩, hfifo⟩
  rw [State.setSlotState, sget_sset]
  split
  · exact hx
  · exact hslots j

theorem State.loadGen_inv (s : State) (k : Nat) : (s.loadGen k).Inv = s.Inv := by
  unfold State.loadGen
  dsimp only
  rw [foldS_inv]
  · rfl
  · exact fun t a => State.updFlow_inv t _ _

theorem State.selectGen_inv (s : State) : s.selectGen.Inv = s.Inv := by
  simp only [State.selectGen, State.raise_inv, State.logN_inv, State.loadGen_inv, foldS_inv, implies_true, State.withOtp_inv]

theorem State.stageClr_keeps_inv {s : State} (h : s.Inv) : invOk s s.stageClr := by
  unfold State.stageClr
  split
  · exact h
  · obtain ⟨⟨_, hmem⟩, hfifo⟩ := h
    exact ⟨⟨Memory.wf_nil, hmem⟩, hfifo⟩

theorem execStageClr_keeps_inv (o : Origin) {s : State} (h : s.Inv) : invNext s (execStageClr o s) :=
  State.served_keeps_inv _ _ _ h (State.stageClr_keeps_inv h)

theorem State.stgData_keeps_inv {s : State} (o : Origin) (v : Word) (h : s.Inv) : invOk s (s.stgData o v) := by
  unfold State.stgData
  split
  · exact h
  · obtain ⟨⟨hbuf, hmem⟩, hfifo⟩ := h
    exact ⟨⟨Memory.wf_writeWord _ _ _ hbuf, hmem⟩, hfifo⟩

theorem execStgData_keeps_inv (o : Origin) (v : Word) {s : State} (h : s.Inv) : invNext s (execStgData o v s) :=
  State.served_keeps_inv _ _ _ h (State.stgData_keeps_inv o v h)

theorem State.genRefused_inv (s : State) (r b off : Nat) : (s.genRefused r b off).Inv = s.Inv := by
  simp only [State.genRefused, State.raise_inv, State.logN_inv, State.withOtp_inv]

theorem State.otpVerify_inv (s : State) : invOk s s.otpVerify = s.Inv := by
  simp only [State.otpVerify, invOk_error, apply_ite (invOk s)]
  (repeat' split) <;> simp only [State.genRefused_inv, invOk_ok, State.withOtp_inv]

theorem execOtpVerify_inv (o : Origin) (s : State) : invNext s (execOtpVerify o s) = s.Inv := by
  simp only [execOtpVerify, State.served_inv, State.otpVerify_inv, invNext_next]

theorem State.pwClear_inv (s : State) : s.pwClear.Inv = s.Inv := by
  rfl

theorem State.commit_inv (s : State) (o : Origin) : invOk s (s.commit o).1 = s.Inv ∧ (s.commit o).2.Inv = s.Inv := by
  have hc := State.pwClear_inv s
  unfold State.commit
  dsimp only
  split
  · exact ⟨rfl, hc⟩
  · split
    · exact ⟨rfl, hc⟩
    · split
      · next k e =>
        refine ⟨?_, hc⟩
        rw [invOk_ok, State.withOtp_inv _ _ rfl rfl]
        exact (State.setSlotState_inv s.pwClear k { s.slotState k with prog := true } rfl).trans hc
      · exact ⟨rfl, hc⟩

theorem State.commitServed_inv {s : State} {p : Except Refuse State × State} (o : Origin) (hp : invOk s p.1 = s.Inv ∧ p.2.Inv = s.Inv) :
    invNext s (match p.1 with
      | .ok t => .next (t.served o pOTP 0x008 (.ok t))
      | .error e => .next (p.2.served o pOTP 0x008 (.error e))) = s.Inv := by
  obtain ⟨hok, hc⟩ := hp
  split
  · next t e =>
    rw [e] at hok
    exact (State.served_inv o _ _ rfl).trans hok
  · exact (State.served_inv o _ _ rfl).trans hc

theorem execCommit_inv (o : Origin) (s : State) : invNext s (execCommit o s) = s.Inv := by
  refine State.commitServed_inv o (p := if s.stwBarred o || s.mgmt.restarting then (.error .auth, s) else s.commit o) ?_
  split
  · exact ⟨rfl, rfl⟩
  · exact s.commit_inv o

theorem execCommitDone_keeps_inv (ok : Bool) {s : State} (h : s.Inv) : invNext s (execCommitDone ok s) := by
  have hbuf : s.otp.buf.wf = true := h.1.1
  unfold execCommitDone
  split
  · split
    · exact h
    · next k _ =>
      dsimp only
      split
      · obtain ⟨⟨_, hmem⟩, hfifo⟩ := State.setSlot_keeps_inv (s := s) k { prog := true, committed := true, mem := s.otp.buf } h hbuf
        simp only [invNext_next, State.raise_inv, State.log_inv]
        exact ⟨⟨Memory.wf_nil, hmem⟩, hfifo⟩
      · simp only [invNext_next, State.logN_inv, State.genRefused_inv]
        rw [State.setSlotState_inv s k { s.slotState k with void := true } rfl]
        exact h
  · exact h

theorem State.otpSwitch_inv (s : State) : invOk s s.otpSwitch = s.Inv := by
  unfold State.otpSwitch
  split <;> simp only [State.inv_mk, invOk_ok, invOk_error, apply_ite (invOk s), ite_self]

theorem execSwitch_inv (o : Origin) (s : State) : invNext s (execSwitch o s) = s.Inv := by
  simp only [execSwitch, State.served_inv, State.otpSwitch_inv, invNext_next]

theorem State.abandon_inv (s : State) : invOk s s.abandon = s.Inv := by
  unfold State.abandon
  split <;> simp only [State.logN_inv, State.setSlotState_inv, State.inv_mk, invOk_ok, invOk_error, apply_ite (invOk s), ite_self]

theorem execAbandon_inv (o : Origin) (s : State) : invNext s (execAbandon o s) = s.Inv := by
  simp only [execAbandon, State.served_inv, State.abandon_inv, invNext_next]

theorem State.keysetWr_inv (s : State) : invOk s s.keysetWr.1 = s.Inv ∧ s.keysetWr.2.Inv = s.Inv := by
  have hc := State.pwClear_inv s
  unfold State.keysetWr
  dsimp only
  split
  · exact ⟨rfl, hc⟩
  · split
    · exact ⟨rfl, hc⟩
    · exact ⟨(State.logN_inv _ _ _).trans hc, hc⟩

theorem execKeysetWr_inv (o : Origin) (s : State) : invNext s (execKeysetWr o s) = s.Inv := by
  refine State.commitServed_inv o (p := if s.stwBarred o || s.mgmt.restarting then (.error .auth, s) else s.keysetWr) ?_
  split
  · exact ⟨rfl, rfl⟩
  · exact s.keysetWr_inv

theorem State.banReload_inv (s t : State) : (s.banReload t).Inv = t.Inv := by
  simp only [State.banReload, foldS_inv, apply_ite State.Inv, State.setSafe_inv, State.setBpair_inv, State.setSrc_inv, State.updToneOf_inv,
    ite_self, implies_true]

/-! ### Firmware -/

theorem State.fwOpen_inv (s : State) : invOk s s.fwOpen = s.Inv := by
  simp only [State.fwOpen, State.setReg_inv, invOk_ok, invOk_error, apply_ite (invOk s), ite_self, State.withFw_inv]

theorem execFwOpen_inv (o : Origin) (s : State) : invNext s (execFwOpen o s) = s.Inv := by
  simp only [execFwOpen, State.served_inv, State.fwOpen_inv, invNext_next]

theorem State.setIdleImage_keeps_inv {s : State} {m : Memory} (h : s.Inv) (hm : m.wf = true) : (s.setIdleImage (.written m)).Inv := by
  obtain ⟨⟨hbuf, hcode, ha, hb, hmem⟩, hfifo⟩ := h
  unfold State.setIdleImage
  cases hr : s.fw.runningB with
  | true => exact ⟨⟨hbuf, hcode, hm, hb, hmem⟩, hfifo⟩
  | false => exact ⟨⟨hbuf, hcode, ha, hm, hmem⟩, hfifo⟩

theorem State.idleImage_wf {s : State} {m : Memory} (h : s.Inv) (hi : s.idleImage = .written m) : m.wf = true := by
  obtain ⟨⟨_, _, ha, hb, _⟩, _⟩ := h
  unfold State.idleImage State.fwImage at hi
  cases hr : s.fw.runningB <;> simp [hr] at hi
  · rw [hi] at hb; exact hb
  · rw [hi] at ha; exact ha

theorem execFwEraseDone_keeps_inv {s : State} (h : s.Inv) : invNext s (execFwEraseDone s) := by
  unfold execFwEraseDone
  split
  · rw [invNext_next, State.withFw_inv]
    · exact State.setIdleImage_keeps_inv h Memory.wf_nil
    · split <;> rfl
    · split <;> rfl
  · exact h

theorem State.fwData_keeps_inv {s : State} (v : Word) (h : s.Inv) : invOk s (s.fwData v) := by
  have hm : Memory.wf (match s.idleImage with | .written m => m | _ => []) = true := by
    split
    · next m e => exact State.idleImage_wf h e
    · exact Memory.wf_nil
  unfold State.fwData
  extract_lets a m u
  split
  · exact h
  · split
    · exact h
    · exact State.setIdleImage_keeps_inv h (Memory.wf_writeWord m a v hm)

theorem execFwData_keeps_inv (o : Origin) (v : Word) {s : State} (h : s.Inv) : invNext s (execFwData o v s) :=
  State.served_keeps_inv _ _ _ h (State.fwData_keeps_inv v h)

theorem State.fwVerify_inv (s : State) : invOk s s.fwVerify = s.Inv := by
  simp only [State.fwVerify, invOk_ok, invOk_error, apply_ite (invOk s), ite_self, State.withFw_inv]

theorem execFwVerify_inv (o : Origin) (s : State) : invNext s (execFwVerify o s) = s.Inv := by
  simp only [execFwVerify, State.served_inv, State.fwVerify_inv, invNext_next]

theorem execFwVerifyDone_inv (s : State) : invNext s (execFwVerifyDone s) = s.Inv := by
  simp only [execFwVerifyDone, invNext_next, apply_ite (invNext s), ite_self, State.withFw_inv]

theorem State.fwPrefer_inv (s : State) : invOk s s.fwPrefer = s.Inv := by
  simp only [State.fwPrefer, invOk_ok, invOk_error, apply_ite (invOk s), ite_self, State.withFw_inv]

theorem execFwPrefer_inv (o : Origin) (s : State) : invNext s (execFwPrefer o s) = s.Inv := by
  simp only [execFwPrefer, State.served_inv, State.fwPrefer_inv, invNext_next]

theorem State.startCompleted_inv (s : State) : s.startCompleted.Inv = s.Inv := by
  unfold State.startCompleted
  split <;> rfl

/-- A restart keeps the slots and the images and loses what was staged. -/
theorem State.coldStart_keeps_inv {s : State} (n : Nat) (powered : Bool) (h : s.Inv) : (s.coldStart n powered).Inv := by
  obtain ⟨⟨_, _, ha, hb, hslots, _⟩, _⟩ := h
  exact ⟨⟨Memory.wf_nil, Memory.wf_nil, ha, hb, hslots, fun _ => Memory.wf_nil⟩, Nat.zero_le _, Nat.zero_le _⟩

theorem State.restartDevice_keeps_inv {s : State} (leaving : BitVec 5) (h : s.Inv) : (s.restartDevice leaving).Inv :=
  State.coldStart_keeps_inv 2 true h

theorem State.clearCauses_inv (s : State) (m : BitVec 5) (kind : Nat) : (s.clearCauses m kind).Inv = s.Inv := by
  simp only [State.clearCauses, State.raise_inv, State.logN_inv, State.latchClear_inv, foldS_inv, implies_true, State.inv_mk, apply_ite State.Inv,
    ite_self]

/-! ### Banister -/

theorem State.soDropped_inv (s : State) (dropped : Nat) (lock : Bool) : (s.soDropped dropped lock).Inv = s.Inv := by
  unfold State.soDropped
  dsimp only
  split <;> simp only [State.askReady_inv, State.hardReq_inv, State.openFeed_inv, State.joinAbort_inv, State.lockout_inv, foldS_inv, implies_true,
    apply_ite State.Inv, ite_self]

theorem State.banEval_inv (s : State) (lock : Bool) : (s.banEval lock).Inv = s.Inv := by
  simp only [State.banEval, State.banisterStop_inv, State.soDropped_inv, State.inv_mk, apply_ite State.Inv, ite_self]

theorem State.pairEval_inv (s : State) (p ch : Nat) : (s.pairEval p ch).Inv = s.Inv := by
  simp only [State.pairEval, State.updBpair_inv, State.raise_inv, State.logN_inv, State.banEval_inv, apply_ite State.Inv, ite_self]

theorem State.pairFaulted_inv (s : State) (p ch : Nat) : (s.pairFaulted p ch).Inv = s.Inv := by
  simp only [State.pairFaulted, State.raise_inv, State.lockout_inv, State.banEval_inv, State.pairEval_inv]

theorem State.discrepNow_inv (s : State) (p diffNs : Nat) : (s.discrepNow p diffNs).2.Inv = s.Inv := by
  simp only [State.discrepNow, State.freeBool_inv, apply_ite Prod.snd, apply_ite State.Inv, ite_self]

theorem State.setDiscrep_inv (s : State) (p edge diffNs : Nat) : (s.setDiscrep p edge diffNs).Inv = s.Inv := by
  simp only [State.setDiscrep, State.updBpair_inv, State.logN_inv, State.pairFaulted_inv, State.inv_mk, apply_ite State.Inv, ite_self]

theorem execDiscrep_inv (p : BanPair) (diffUs : Nat) (s : State) : invNext s (execDiscrep p diffUs s) = s.Inv := by
  unfold execDiscrep
  extract_lets k
  split
  · split
    · rfl
    · split
      next f t e =>
      have ht : t.Inv = s.Inv := State.inv_of_snd e (State.discrepNow_inv _ _ _)
      split
      · rwa [invNext_next, State.setDiscrep_inv, State.updBpair_inv, State.reach_inv]
      · exact ht
  · rfl

theorem State.chChanged_inv (s : State) (ch : Nat) (entering : Bool) : (s.chChanged ch entering).Inv = s.Inv := by
  unfold State.chChanged
  extract_lets p recent u v other w
  have hv : v.Inv = s.Inv := by
    simp only [v, u, apply_ite State.Inv, State.raise_inv, State.logN_inv, State.updBpair_inv, State.updSafe_inv, ite_self]
  split
  · split
    · have hw : w.Inv = s.Inv := (State.updBpair_inv _ _ _).trans hv
      split
      · split
        next f x e =>
        have hx : x.Inv = s.Inv := (State.inv_of_snd e (State.discrepNow_inv _ _ _)).trans hw
        simp only [apply_ite State.Inv, State.setDiscrep_inv, State.updBpair_inv, ite_self, hx]
      · exact hw
    · exact hv
  · split <;> exact (State.updBpair_inv _ _ _).trans hv

theorem State.thClose_inv (s : State) : s.thClose.Inv = s.Inv := by
  simp only [State.thClose, State.updStr_inv, State.closeChan_inv, apply_ite State.Inv, ite_self]

theorem State.thOpen_inv (s : State) (p : Nat) : (s.thOpen p).Inv = s.Inv := by
  simp only [State.thOpen, State.updStr_inv, State.logN_inv, State.openChans_inv, State.inv_mk, apply_ite State.Inv, ite_self]

theorem State.thEval_inv (s : State) (p : Nat) : (s.thEval p).Inv = s.Inv := by
  unfold State.thEval
  extract_lets on
  split
  · split
    · rfl
    · exact (State.thOpen_inv _ _).trans (State.inv_mk s ..)
  split
  · exact State.inv_mk s ..
  split
  · split
    · extract_lets d fr u l v
      have hfr : fr.2.Inv = s.Inv := by
        clear_value (hq : fr = _)
        rw [hq]
        exact State.freeBool_else_inv s
      have hv : v.Inv = s.Inv := (State.inv_mk u ..).trans hfr
      split
      · exact (State.thClose_inv _).trans ((State.inv_mk v ..).trans hv)
      · exact hv
    · rfl
  split
  · exact State.inv_mk s ..
  · rfl

theorem State.thSelect_inv (s : State) (v : Word) : invOk s (s.thSelect v) = s.Inv := by
  simp only [State.thSelect, State.inv_mk, invOk_ok, invOk_error, apply_ite (invOk s), ite_self]

theorem execThSel_inv (o : Origin) (v : Word) (s : State) : invNext s (execThSel o v s) = s.Inv := by
  simp only [execThSel, State.served_inv, State.thSelect_inv, invNext_next]

theorem State.resetRefused_inv (s : State) (p cause : Nat) : (s.resetRefused p cause).Inv = s.Inv := by
  simp only [State.resetRefused, State.raise_inv, State.logN_inv]

theorem State.resetAccept_keeps_inv {s : State} (p : Nat) (h : s.Inv) : (s.resetAccept p).Inv := by
  unfold State.resetAccept
  dsimp only
  split
  · refine State.restartDevice_keeps_inv _ ?_
    simp only [State.clearCauses_inv, foldS_inv, State.updBpair_inv, State.inv_mk, State.updSrc_inv, State.updToneOf_inv, State.updSafe_inv,
      State.raise_inv, State.logN_inv, implies_true, h]
  · simp only [State.banEval_inv, State.clearCauses_inv, foldS_inv, State.updBpair_inv, State.inv_mk, State.updSrc_inv, State.updToneOf_inv,
    State.updSafe_inv,
      State.raise_inv, State.logN_inv, implies_true, h]

theorem State.resetPressed_keeps_inv {s : State} (p d : Nat) (h : s.Inv) : (s.resetPressed p d).Inv := by
  unfold State.resetPressed
  extract_lets bad b u
  have hu : u.Inv := h
  split
  · exact hu
  · split
    · rwa [State.resetRefused_inv]
    · split
      · rwa [State.resetRefused_inv]
      · split
        · rwa [State.resetRefused_inv]
        · exact State.resetAccept_keeps_inv p hu

theorem State.chFollow_keeps_inv {s : State} (ch : Nat) (h : s.Inv) : (s.chFollow ch).Inv := by
  unfold State.chFollow
  extract_lets p u a b
  have hu : u.Inv := by rwa [State.pairEval_inv]
  split
  · rwa [State.thEval_inv]
  · split
    · split
      · split <;> exact hu
      · split
        · split
          · exact State.resetPressed_keeps_inv _ _ hu
          · exact hu
        · exact hu
    · exact hu

theorem execChannelDemand_keeps_inv (ch : SafetyIn) {s : State} (h : s.Inv) : invNext s (execChannelDemand ch s) := by
  unfold execChannelDemand
  dsimp only
  split
  · exact h
  · exact State.chFollow_keeps_inv _ (by rwa [State.chChanged_inv])

theorem execChannelRelease_keeps_inv (ch : SafetyIn) {s : State} (h : s.Inv) : invNext s (execChannelRelease ch s) := by
  unfold execChannelRelease
  dsimp only
  split
  · exact h
  · exact State.chFollow_keeps_inv _ (by rwa [State.chChanged_inv])

theorem execTestPulse_inv (k : Fin 4) (s : State) : invNext s (execTestPulse k s) = s.Inv := by
  simp only [execTestPulse, State.updTpOf_inv, State.reach_inv, State.emit_inv, State.banEval_inv, invNext_next, apply_ite (invNext s), ite_self]

theorem execTestPulseCheck_keeps_inv (ch : SafetyIn) (lowUs : Nat) {s : State} (h : s.Inv) : invNext s (execTestPulseCheck ch lowUs s) := by
  unfold execTestPulseCheck
  dsimp only
  split
  · exact h
  · split
    · rwa [invNext_next, State.updTpOf_inv]
    · split
      · refine State.chFollow_keeps_inv _ ?_
        simp only [apply_ite State.Inv, State.updTpOf_inv, State.updSafe_inv, ite_self, h]
      · simp only [apply_ite (invNext s), invNext_next, State.pairFaulted_inv, State.logN_inv, State.updBpair_inv, State.updSafe_inv,
          State.updTpOf_inv, ite_self, h]

theorem execTpLost_keeps_inv (k : Fin 4) {s : State} (h : s.Inv) : invNext s (execTpLost k s) := by
  unfold execTpLost
  dsimp only
  split
  · exact h
  · refine foldS_keeps_inv _ _ ?_ fun t c => State.chFollow_keeps_inv c
    simp only [State.raise_inv, State.logN_inv, foldS_inv, State.updSafe_inv, State.updTpOf_inv, State.reach_inv, implies_true, h]

theorem execTpDrive_inv (k : Fin 4) (s : State) : invNext s (execTpDrive k s) = s.Inv := by
  simp only [execTpDrive, State.updTpOf_inv, invNext_next, apply_ite (invNext s), ite_self]

theorem execPermitTimeout_inv (s : State) : invNext s (execPermitTimeout s) = s.Inv := by
  simp only [execPermitTimeout, State.reach_inv, State.raise_inv, State.logN_inv, State.banEval_inv, State.inv_mk, invNext_next,
    apply_ite (invNext s), ite_self]

theorem execPairBanister_inv (b : BanPeer) (s : State) : invNext s (execPairBanister b s) = s.Inv := by
  simp only [execPairBanister, State.updBpair_inv, State.lockout_inv, State.banEval_inv, foldS_inv, implies_true, State.inv_mk, invNext_next,
    apply_ite State.Inv, ite_self]

theorem execPeerDisagree_inv (p : BanPair) (s : State) : invNext s (execPeerDisagree p s) = s.Inv := by
  unfold execPeerDisagree
  dsimp only
  split <;> simp only [State.updBpair_inv, State.reach_inv, State.raise_inv, State.logN_inv, State.banEval_inv, invNext_next,
    apply_ite (invNext s), ite_self]

theorem State.banLinkLost_inv (s : State) : s.banLinkLost.Inv = s.Inv := by
  simp only [State.banLinkLost, State.banEval_inv, State.inv_mk]

theorem execBanisterTx_inv (s : State) : invNext s (execBanisterTx s) = s.Inv := by
  simp only [execBanisterTx, State.sendPair_inv, invNext_next, apply_ite (invNext s), ite_self]

theorem State.toneOn_inv (s : State) (p bits hop : Nat) : (s.toneOn p bits hop).Inv = s.Inv := by
  simp only [State.toneOn, State.setToneOf_inv, State.updToneOf_inv, State.raise_inv, State.logN_inv, State.banEval_inv, apply_ite State.Inv,
    ite_self]

theorem State.toneOff_inv (s : State) (p : Nat) : (s.toneOff p).Inv = s.Inv := by
  simp only [State.toneOff, State.updToneOf_inv, State.banEval_inv, apply_ite State.Inv, ite_self]

theorem execSafeFrameTx_inv (s : State) : invNext s (execSafeFrameTx s) = s.Inv := by
  unfold execSafeFrameTx
  rw [invNext_next, foldS_inv]
  · rfl
  · intro t n
    split
    · exact State.bufQueue_inv t _ _
    · rfl

theorem State.safeOn_inv (s : State) (r : Nat) (netB : Bool) : (s.safeOn r netB).Inv = s.Inv := by
  simp only [State.safeOn, State.updSrc_inv, State.raise_inv, State.logN_inv, State.banEval_inv, State.when_inv]

theorem State.safeOff_inv (s : State) (r : Nat) : (s.safeOff r).Inv = s.Inv := by
  simp only [State.safeOff, State.updSrc_inv, State.banEval_inv]

theorem State.safeTake_inv (s : State) (r : Nat) (netB plus : Bool) (f : CanFrame) : (s.safeTake r netB plus f).Inv = s.Inv := by
  simp only [State.safeTake, State.updSrc_inv, State.raise_inv, State.logN_inv, State.safeOn_inv, State.safeOff_inv, apply_ite State.Inv, ite_self]

theorem execSafeFrame_inv (netB : Bool) (f : CanFrame) (s : State) : invNext s (execSafeFrame netB f s) = s.Inv := by
  simp only [execSafeFrame, State.fifo0Take_inv, State.safeTake_inv, foldS_inv, implies_true, invNext_next, apply_ite (invNext s),
    apply_ite State.Inv, ite_self]

theorem execSafeSingle_inv (r : Fin 4) (s : State) : invNext s (execSafeSingle r s) = s.Inv := by
  unfold execSafeSingle
  dsimp only
  split <;> simp only [State.updSrc_inv, State.reach_inv, State.raise_inv, State.logN_inv, State.safeOff_inv, invNext_next, apply_ite (invNext s),
    ite_self]

theorem execSafeTimeout_inv (r : Fin 4) (s : State) : invNext s (execSafeTimeout r s) = s.Inv := by
  simp only [execSafeTimeout, State.updSrc_inv, State.reach_inv, State.raise_inv, State.logN_inv, State.safeOn_inv, invNext_next,
    apply_ite (invNext s), ite_self]

theorem execSoTestPulse_inv (k : Fin 4) (s : State) : invNext s (execSoTestPulse k s) = s.Inv := by
  simp only [execSoTestPulse, State.reach_inv, State.emit_inv, State.banEval_inv, invNext_next, apply_ite (invNext s), ite_self]

theorem execSoFault_inv (k : Fin 5) (read : Bool) (s : State) : invNext s (execSoFault k read s) = s.Inv := by
  simp only [execSoFault, State.raise_inv, State.logN_inv, State.lockout_inv, State.banEval_inv, State.inv_mk, invNext_next,
    apply_ite (invNext s), ite_self]

theorem State.walkStart_inv (s : State) : invOk s s.walkStart = s.Inv := by
  simp only [State.walkStart, State.banEval_inv, State.inv_mk, invOk_ok, invOk_error, apply_ite (invOk s), ite_self]

theorem execWalk_inv (o : Origin) (s : State) : invNext s (execWalk o s) = s.Inv := by
  simp only [execWalk, State.served_inv, State.walkStart_inv, invNext_next]

theorem State.walkResult_inv (s : State) (fail : Option Nat) : (s.walkResult fail).Inv = s.Inv := by
  unfold State.walkResult
  split <;> simp only [State.raise_inv, State.logN_inv, State.lockout_inv, State.banEval_inv, State.inv_mk]

theorem execWalkEnd_inv (failedNode : Option Nat) (s : State) : invNext s (execWalkEnd failedNode s) = s.Inv := by
  simp only [execWalkEnd, State.walkResult_inv, invNext_next, apply_ite (invNext s), ite_self]

theorem State.banStart_inv (s : State) : s.banStart.Inv = s.Inv := by
  simp only [State.banStart, State.updBpair_inv, State.updSrc_inv, foldS_inv, implies_true]

theorem State.banReturn_inv (s : State) : s.banReturn.Inv = s.Inv := by
  simp only [State.banReturn, State.inv_mk]

/-! ### ChainOps -/

theorem State.traceFrame_inv (s : State) (p : Nat) (f : ChainFrame) (ts : Nat) : (s.traceFrame p f ts).Inv = s.Inv := by
  unfold State.traceFrame
  split <;> simp only [State.emit_inv, State.inv_mk, apply_ite State.Inv, ite_self]

theorem State.traceRx_inv (s : State) (p : Nat) (f : ChainFrame) : (s.traceRx p f).Inv = s.Inv := by
  simp only [State.traceRx, State.traceFrame_inv]

theorem State.chainOut_inv (s : State) (p : Nat) (f : ChainFrame) : (s.chainOut p f).Inv = s.Inv := by
  simp only [State.chainOut, State.emit_inv, State.traceFrame_inv]

theorem State.takeSeq_inv (s : State) (p : Nat) : (s.takeSeq p).2.Inv = s.Inv := by
  simp only [State.takeSeq, State.updPort_inv]

theorem State.sendAdhoc_inv (s : State) (p typ hop : Nat) (pl : List Byte) : (s.sendAdhoc p typ hop pl).Inv = s.Inv := by
  simp only [State.sendAdhoc, State.updPort_inv, State.chainOut_inv, State.takeSeq_inv, apply_ite State.Inv, ite_self]

theorem State.writeMctrl_inv (s : State) (p : Nat) (sleep : Bool) : (s.writeMctrl p sleep).Inv = s.Inv := by
  simp only [State.writeMctrl, State.updPort_inv, State.sendAdhoc_inv]

theorem State.toneHeader_inv (s : State) (p : Nat) (flags : Byte) (faultHop : Nat) : (s.toneHeader p flags faultHop).Inv = s.Inv := by
  simp only [State.toneHeader, State.updPort_inv, State.raise_inv, State.toneOn_inv, State.toneOff_inv, State.when_inv, apply_ite State.Inv,
    ite_self]

theorem State.startEnum_inv (s : State) (p : Nat) : (s.startEnum p).Inv = s.Inv := by
  simp only [State.startEnum, State.updPort_inv, State.updMon_inv, State.updMod_inv, State.updSctx_inv, State.chainOut_inv, State.takeSeq_inv,
    foldS_inv, implies_true, apply_ite State.Inv, ite_self]

theorem State.enumResponse_inv (s : State) (p h : Nat) (f : ChainFrame) : (s.enumResponse p h f).Inv = s.Inv := by
  simp only [State.enumResponse, State.updPort_inv, State.updMon_inv, apply_ite State.Inv, ite_self]

theorem State.sendHopcal_inv (s : State) (p : Nat) : (s.sendHopcal p).Inv = s.Inv := by
  simp only [State.sendHopcal, State.updPort_inv, State.sendAdhoc_inv, foldS_inv, implies_true, apply_ite State.Inv, ite_self]

theorem State.sendThresholds_inv (s : State) (p : Nat) : (s.sendThresholds p).Inv = s.Inv := by
  simp only [State.sendThresholds, State.sendAdhoc_inv, foldS_inv, implies_true]

theorem State.portBroken_inv (s : State) (p hop : Nat) : (s.portBroken p hop).Inv = s.Inv := by
  simp only [State.portBroken, State.updPort_inv, State.raise_inv]

theorem State.configurePort_inv (s : State) (p : Nat) : (s.configurePort p).Inv = s.Inv := by
  simp only [State.configurePort, State.updPort_inv, State.raise_inv, State.sendAdhoc_inv, State.writeMctrl_inv, State.sendHopcal_inv,
    State.sendThresholds_inv, State.portBroken_inv, apply_ite State.Inv, ite_self]

theorem State.enumDone_inv (s : State) (p : Nat) : (s.enumDone p).Inv = s.Inv := by
  simp only [State.enumDone, State.updPort_inv, State.configurePort_inv, foldS_inv, implies_true, State.inv_mk, apply_ite State.Inv, ite_self]

theorem State.calibrate_inv (s : State) (p : Nat) (rtts : List (List Nat)) : (s.calibrate p rtts).Inv = s.Inv := by
  simp only [State.calibrate, State.updPort_inv, State.raise_inv, State.log_inv, State.logN_inv, State.when_inv, apply_ite State.Inv, ite_self]

theorem State.startEpochs_inv (s : State) : s.startEpochs.Inv = s.Inv := by
  simp only [State.startEpochs, State.inv_mk, apply_ite State.Inv, ite_self]

theorem State.testWireAll_inv (s : State) (p w : Nat) : (s.testWireAll p w).Inv = s.Inv := by
  simp only [State.testWireAll, State.updPort_inv, State.sendAdhoc_inv, foldS_inv, implies_true, apply_ite State.Inv, ite_self]

theorem State.portRunning_inv (s : State) (p : Nat) : (s.portRunning p).Inv = s.Inv := by
  simp only [State.portRunning, State.updPort_inv, apply_ite State.Inv, ite_self]

theorem State.testNext_inv (s : State) (p : Nat) : (s.testNext p).Inv = s.Inv := by
  unfold State.testNext
  split <;> simp only [State.testWireAll_inv, State.portRunning_inv, apply_ite State.Inv, ite_self]

theorem State.hopcalDone_inv (s : State) (p : Nat) (rtts : List (List Nat)) : (s.hopcalDone p rtts).Inv = s.Inv := by
  simp only [State.hopcalDone, State.updPort_inv, State.calibrate_inv, State.startEpochs_inv, State.testWireAll_inv, apply_ite State.Inv, ite_self]

theorem execHopcalDone_inv (p : Port) (rtts : List (List Nat)) (s : State) : invNext s (execHopcalDone p rtts s) = s.Inv := by
  simp only [execHopcalDone, State.hopcalDone_inv, invNext_next]

theorem execHopcalPeriodic_inv (p : Port) (s : State) : invNext s (execHopcalPeriodic p s) = s.Inv := by
  simp only [execHopcalPeriodic, State.sendHopcal_inv, invNext_next, apply_ite (invNext s), ite_self]

theorem State.portRecover_inv (s : State) (p : Nat) : (s.portRecover p).Inv = s.Inv := by
  simp only [State.portRecover, State.updPort_inv, apply_ite State.Inv, ite_self]

theorem State.toneFrame_inv (s : State) (p : Nat) (f : ChainFrame) : (s.toneFrame p f).Inv = s.Inv := by
  simp only [State.toneFrame, State.updPort_inv, State.traceRx_inv, State.toneHeader_inv, State.portBroken_inv, State.portRecover_inv,
    apply_ite State.Inv, ite_self]

theorem execTone_inv (p : Port) (f : ChainFrame) (s : State) : invNext s (execTone p f s) = s.Inv := by
  simp only [execTone, State.toneFrame_inv, invNext_next, apply_ite (invNext s), ite_self]

theorem State.staleNotice_inv (s : State) (p : Nat) (f : ChainFrame) : (s.staleNotice p f).Inv = s.Inv := by
  simp only [State.staleNotice, State.updPort_inv, State.raise_inv, State.goPassive_inv, apply_ite State.Inv, ite_self]

theorem execStaleTerm_inv (p : Port) (f : ChainFrame) (s : State) : invNext s (execStaleTerm p f s) = s.Inv := by
  simp only [execStaleTerm, State.traceRx_inv, State.toneHeader_inv, State.staleNotice_inv, invNext_next, apply_ite (invNext s), ite_self]

theorem execChainSilent_inv (p : Port) (s : State) : invNext s (execChainSilent p s) = s.Inv := by
  simp only [execChainSilent, State.updPort_inv, State.raise_inv, State.toneOff_inv, invNext_next, apply_ite (invNext s), ite_self]

theorem execRecoveryProbe_inv (p : Port) (s : State) : invNext s (execRecoveryProbe p s) = s.Inv := by
  simp only [execRecoveryProbe, State.sendAdhoc_inv, invNext_next, apply_ite (invNext s), ite_self]

theorem execReenumeration_inv (p : Port) (s : State) : invNext s (execReenumeration p s) = s.Inv := by
  simp only [execReenumeration, State.startEnum_inv, invNext_next, apply_ite (invNext s), ite_self]

theorem State.hopcalNow_inv (s : State) (p : Nat) : (s.hopcalNow p).Inv = s.Inv := by
  simp only [State.hopcalNow, State.sendHopcal_inv, apply_ite State.Inv, ite_self]

theorem State.reenumNow_inv (s : State) (p : Nat) : (s.reenumNow p).Inv = s.Inv := by
  simp only [State.reenumNow, State.startEnum_inv]

theorem execHopcal_inv (o : Origin) (p : Port) (s : State) : invNext s (execHopcal o p s) = s.Inv := by
  simp only [execHopcal, State.toShadow_inv, invNext_next]

theorem execReenum_inv (o : Origin) (p : Port) (s : State) : invNext s (execReenum o p s) = s.Inv := by
  simp only [execReenum, State.shadowed_inv, invNext_next]

theorem State.answered_inv (s : State) (p : Nat) (f : ChainFrame) : (s.answered p f).2.Inv = s.Inv := by
  simp only [State.answered, State.updPort_inv]

theorem State.echoResponse_inv (s : State) (p h : Nat) : (s.echoResponse p h).Inv = s.Inv := by
  simp only [State.echoResponse, State.updPort_inv, State.portRecover_inv, apply_ite State.Inv, ite_self]

theorem State.resend_inv (s : State) (p : Nat) (i : InFlight) : (s.resend p i).Inv = s.Inv := by
  simp only [State.resend, State.updPort_inv, State.chainOut_inv, apply_ite State.Inv, ite_self]

/-! ### Sensing -/

theorem State.rawUpd_inv (s : State) (tag : Nat) (f : RawEpoch → RawEpoch) : (s.rawUpd tag f).Inv = s.Inv := by
  simp only [State.rawUpd, State.inv_mk]

theorem State.cellsResponse_inv (s : State) (m : Nat) (f : ChainFrame) : (s.cellsResponse m f).Inv = s.Inv := by
  simp only [State.cellsResponse, State.rawUpd_inv]

theorem State.stackResponse_inv (s : State) (m : Nat) (f : ChainFrame) : (s.stackResponse m f).Inv = s.Inv := by
  simp only [State.stackResponse, State.rawUpd_inv]

theorem State.tempBroken_inv (s : State) (m i : Nat) (raw : Nat) : (s.tempBroken m i raw).Inv = s.Inv := by
  simp only [State.tempBroken, State.updTemp_inv, State.raise_inv, State.logN_inv, apply_ite State.Inv, ite_self]

theorem State.tempRead_inv (s : State) (m i raw : Nat) (e : Word) : (s.tempRead m i raw e).Inv = s.Inv := by
  simp only [State.tempRead, State.updTemp_inv, State.tempBroken_inv, apply_ite State.Inv, ite_self]

theorem State.nearEval_inv (s : State) (m : Nat) : (s.nearEval m).Inv = s.Inv := by
  simp only [State.nearEval, State.updMod_inv]

theorem State.refEval_inv (s : State) (m : Nat) (v : Nat) : (s.refEval m v).Inv = s.Inv := by
  simp only [State.refEval, State.updMod_inv, State.raise_inv, State.logN_inv, apply_ite State.Inv, ite_self]

theorem State.auxTake_inv (s : State) (m : Nat) (f : ChainFrame) : (s.auxTake m f).Inv = s.Inv := by
  simp only [State.auxTake, State.tempRead_inv, State.nearEval_inv, State.refEval_inv, foldS_inv, implies_true]

theorem State.auxResponse_inv (s : State) (m : Nat) (f : ChainFrame) : (s.auxResponse m f).Inv = s.Inv := by
  unfold State.auxResponse
  split <;> simp only [State.auxTake_inv, State.inv_mk, apply_ite State.Inv, ite_self]

theorem State.suspect_inv (s : State) (m w : Nat) : (s.suspect m w).Inv = s.Inv := by
  simp only [State.suspect, State.updMod_inv]

theorem State.confirmBreak_inv (s : State) (m w : Nat) (a0 a1 b0 b1 : Int) : (s.confirmBreak m w a0 a1 b0 b1).Inv = s.Inv := by
  simp only [State.confirmBreak, State.updPort_inv, State.updWire_inv, State.updCell_inv, State.updCtx_inv, State.updShutMod_inv, State.raise_inv,
    State.log_inv, State.softReq_inv, State.settle_inv, foldS_inv, implies_true, apply_ite State.Inv, ite_self]

theorem State.wireResult_inv (s : State) (m w : Nat) (r0 r1 : Nat) : (s.wireResult m w r0 r1).Inv = s.Inv := by
  simp only [State.wireResult, State.updWire_inv, State.raise_inv, State.log_inv, State.suspect_inv, State.confirmBreak_inv, State.when_inv,
    apply_ite State.Inv, ite_self]

theorem State.wireResponse_inv (s : State) (p m : Nat) (f : ChainFrame) : (s.wireResponse p m f).Inv = s.Inv := by
  simp only [State.wireResponse, State.testNext_inv, State.wireResult_inv, apply_ite State.Inv, ite_self]

theorem State.wbClear_inv (s : State) (o : Origin) (p : Nat) : (s.wbClear o p).Inv = s.Inv := by
  simp only [State.wbClear, State.updPort_inv, State.updWire_inv, State.updCell_inv, State.logN_inv, State.settle_inv, foldS_inv, implies_true,
    apply_ite State.Inv, ite_self]

theorem execWbclr_inv (o : Origin) (high : Bool) (mask : Word) (s : State) : invNext s (execWbclr o high mask s) = s.Inv := by
  simp only [execWbclr, State.shadowed_inv, invNext_next]

theorem State.moduleEpoch_inv (s : State) (r : RawEpoch) (m : Nat) : (s.moduleEpoch r m).Inv = s.Inv := by
  unfold State.moduleEpoch
  extract_lets p n vals s1 clean stack dNow h s2 s3 s4
  clear_value stack
  have h1 : s1.Inv = s.Inv := foldl_inv _ _ _ fun t a => State.setCell_inv _ _ _
  have h2 : s2.Inv = s1.Inv := by
    simp only [s2]
    split <;> exact State.updMod_inv _ _ _
  have h4 : s4.Inv = s.Inv := (foldS_inv _ _ _ fun t a => State.updCell_inv _ _ _).trans ((State.updMod_inv _ _ _).trans (h2.trans h1))
  split
  · exact h4
  · extract_lets ch got med d dd
    split
    · exact h4
    · split
      extract_lets s5 s6 at0 s7
      have h5 : s5.Inv = s.Inv := (foldS_inv _ _ _ fun t a => by
        simp only [apply_ite State.Inv, State.updCell_inv, State.raise_inv, State.log_inv, ite_self]).trans h4
      have h6 : s6.Inv = s.Inv := (foldS_inv _ _ _ fun t a => by
        simp only [apply_ite State.Inv, State.suspect_inv, State.raise_inv, State.log_inv, ite_self]).trans h5
      have h7 : s7.Inv = s6.Inv := by
        simp only [s7, apply_ite State.Inv, State.raise_inv, State.log_inv, ite_self]
      exact (State.updMod_inv _ _ _).trans (h7.trans h6)

theorem State.startLearn_inv (s : State) (p : Nat) : (s.startLearn p).Inv = s.Inv := by
  simp only [State.startLearn, State.updPort_inv, apply_ite State.Inv, ite_self]

theorem State.wrlearn_inv (s : State) : s.wrlearn.Inv = s.Inv := by
  simp only [State.wrlearn, State.startLearn_inv, foldS_inv, implies_true]

theorem execWrlearn_inv (o : Origin) (s : State) : invNext s (execWrlearn o s) = s.Inv := by
  simp only [execWrlearn, State.toShadow_inv, invNext_next]

theorem execWrlearnPeriodic_inv (s : State) : invNext s (execWrlearnPeriodic s) = s.Inv := by
  simp only [execWrlearnPeriodic, State.wrlearn_inv, invNext_next]

theorem State.learnResult_inv (s : State) (m j : Nat) : (s.learnResult m j).Inv = s.Inv := by
  simp only [State.learnResult, State.updWire_inv, apply_ite State.Inv, ite_self]

theorem State.learnModule_inv (s : State) (m : Nat) : (s.learnModule m).Inv = s.Inv := by
  unfold State.learnModule
  dsimp only
  split <;> simp only [State.updMod_inv, State.updWire_inv, State.raise_inv, State.logN_inv, foldS_inv, implies_true, apply_ite State.Inv, ite_self]

theorem State.learnEpoch_inv (s : State) (r : RawEpoch) (ph : Nat × Nat × Nat × Nat) : (s.learnEpoch r ph).Inv = s.Inv := by
  simp only [State.learnEpoch, State.updPort_inv, State.updMod_inv, State.learnResult_inv, State.learnModule_inv, apply_ite State.Inv, ite_self]

/-! ### Estimator -/

theorem State.capLearn_inv (s : State) (k : CellIn) (c : Ctx) (a : RestPt) (soc sig : Rat) : (s.capLearn k c a soc sig).1.Inv = s.Inv := by
  simp only [State.capLearn, State.raise_inv, State.log_inv, apply_ite Prod.fst, apply_ite State.Inv, ite_self]

theorem State.restCell_inv (s : State) (k : CellIn) (c : Ctx) : (s.restCell k c).1.Inv = s.Inv := by
  simp only [State.restCell]
  (repeat' split) <;> simp only [State.capLearn_inv]

theorem State.forceZero_inv (s : State) (k : CellIn) (c : Ctx) (v : Rat) : (s.forceZero k c v).1.Inv = s.Inv := by
  simp only [State.forceZero, State.raise_inv, State.log_inv]

theorem State.emptyCell_inv (s : State) (k : CellIn) (c : Ctx) : (s.emptyCell k c).1.Inv = s.Inv := by
  unfold State.emptyCell
  split
  · simp only [apply_ite Prod.fst, apply_ite State.Inv, State.raise_inv, State.log_inv, ite_self]
  · rfl

theorem State.estCell_inv (s : State) (k : CellIn) : (s.estCell k).Inv = s.Inv := by
  unfold State.estCell
  extract_lets ix c
  split
  · rfl
  · split
    extract_lets
    split
    next s1 c2 e1 =>
    have h1 : s1.Inv = s.Inv := State.inv_of_fst e1 (by simp only [apply_ite Prod.fst, apply_ite State.Inv, State.restCell_inv, ite_self])
    extract_lets c3 c4 sc c5 low c6 force
    split
    next s2 c7 fl e2 =>
    have h2 : s2.Inv = s1.Inv := State.inv_of_fst e2 (by
      split
      · exact State.forceZero_inv s1 k _ _
      · simp only [apply_ite Prod.fst, apply_ite State.Inv, State.emptyCell_inv, ite_self])
    exact (State.updCell_inv _ _ _).trans ((State.setCtx_inv _ _ _).trans (h2.trans h1))

theorem State.waitCell_inv (s : State) (m j t : Nat) (v : Nat) : (s.waitCell m j t v).Inv = s.Inv := by
  simp only [State.waitCell, State.updCell_inv, State.updCtx_inv, apply_ite State.Inv, ite_self]

theorem State.wirePause_inv (s : State) (p h m t : Nat) : (s.wirePause p h m t).Inv = s.Inv := by
  simp only [State.wirePause, State.updShutMod_inv]

theorem State.strClock_inv (s : State) (x t : Nat) (k : StrIn) : (s.strClock x t k).Inv = s.Inv := by
  simp only [State.strClock, State.updSctx_inv]

theorem State.estString_inv (s : State) (r : RawEpoch) (x tPrev : Nat) : (s.estString r x tPrev).Inv = s.Inv := by
  simp only [State.estString, State.updSctx_inv, State.estCell_inv, State.waitCell_inv, State.strClock_inv, foldS_inv, implies_true,
    apply_ite State.Inv, ite_self]

theorem execRestReq_inv (x : Str) (s : State) : invNext s (execRestReq x s) = s.Inv := by
  simp only [execRestReq, State.updSctx_inv, State.raise_inv, State.logN_inv, State.inv_mk, invNext_next, apply_ite (invNext s), ite_self]

theorem execCapDrift_inv (s : State) : invNext s (execCapDrift s) = s.Inv := by
  simp only [execCapDrift, State.inv_mk, invNext_next]

/-! ### EstImage -/

theorem State.fallbackCell_inv (s : State) (m j : Nat) : (s.fallbackCell m j).Inv = s.Inv := by
  simp only [State.fallbackCell, State.setCtx_inv]

theorem State.moduleSwap_inv (s : State) (m : Nat) (serial : DWord) : (s.moduleSwap m serial).Inv = s.Inv := by
  simp only [State.moduleSwap, State.updMon_inv, State.updCtx_inv, State.raise_inv, State.log_inv, State.fallbackCell_inv, foldS_inv, implies_true]

theorem State.serialSeen_inv (s : State) (m : Nat) (serial : DWord) : (s.serialSeen m serial).Inv = s.Inv := by
  simp only [State.serialSeen, State.updMon_inv]

theorem State.applySwaps_inv (s : State) (n : Word) : (s.applySwaps n).Inv = s.Inv := by
  unfold State.applySwaps
  refine foldS_inv _ _ s fun t m => ?_
  split
  · split
    · rfl
    · rw [State.updMon_inv, State.moduleSwap_inv]
  · rfl

theorem State.applyModule_inv (s : State) (m : Nat) (b : List Byte) (age : Option Rat) (late mirror : Bool) :
    (s.applyModule m b age late mirror).1.Inv = s.Inv := by
  unfold State.applyModule
  extract_lets serial u tol
  split
  · exact State.updMon_inv _ _ _
  · split
    · exact State.moduleSwap_inv _ _ _
    · dsimp only
      rw [apply_ite State.Inv, State.raise_inv, State.log_inv, ite_self, foldl_keeps (fun a : State × Nat × Nat × Rat => a.1.Inv)]
      · exact State.updMon_inv _ _ _
      · intro a j
        split
        · rfl
        · split
          · exact State.setCtx_inv _ _ _
          · split
            · split
              · split <;> exact State.setCtx_inv _ _ _
              · exact State.setCtx_inv _ _ _
            · exact State.setCtx_inv _ _ _

theorem State.applyImage_inv (s : State) (i : StagedImage) (mirror : Bool) : (s.applyImage i mirror).Inv = s.Inv := by
  simp only [State.applyImage, State.inv_mk, State.updSctx_inv]
  exact foldl_keeps (fun a : State × Nat => a.1.Inv) _ _ _ fun a e => State.applyModule_inv _ _ _ _ _ _

theorem State.applyStaged_inv (s : State) (n : Word) : (s.applyStaged n).Inv = s.Inv := by
  simp only [State.applyStaged, State.applySwaps_inv, State.applyImage_inv, foldS_inv, implies_true, State.inv_mk]

theorem State.restoreWrite_keeps_inv {s : State} (addr : Nat) (v : Word) (h : s.Inv) : invOk s (s.restoreWrite addr v) := by
  unfold State.restoreWrite
  extract_lets k r
  split
  · exact h
  · obtain ⟨⟨hbuf, hcode, ha, hb, hslots, hrslots⟩, hfifo⟩ := h
    refine ⟨⟨hbuf, hcode, ha, hb, hslots, fun j => ?_⟩, hfifo⟩
    rw [State.setRslot, sget_sset]
    split
    · exact Memory.wf_writeWord _ _ _ (hrslots k)
    · exact hrslots j

theorem execRestoreSlotWrite_keeps_inv (addr v : Word) {s : State} (h : s.Inv) : invNext s (execRestoreSlotWrite addr v s) := by
  have hw := State.restoreWrite_keeps_inv addr.toNat v h
  unfold execRestoreSlotWrite
  split
  · next t e =>
    rw [e] at hw
    rwa [invNext_next, State.answer_inv]
  · rwa [invNext_next, State.answer_inv]

theorem State.validateNext_inv (s : State) : s.validateNext.Inv = s.Inv := by
  unfold State.validateNext
  split
  · split
    · exact State.updRslot_inv _ _ _ fun _ => rfl
    · rfl
  · rfl

theorem State.rsubmit_inv (s : State) (v : Word) : invOk s (s.rsubmit v) = s.Inv := by
  unfold State.rsubmit
  extract_lets k r
  split
  · rfl
  · exact (State.validateNext_inv _).trans (State.updRslot_inv s k (fun r => { r with st := .submitted }) fun _ => rfl)

theorem execRsubmit_inv (o : Origin) (v : Word) (s : State) : invNext s (execRsubmit o v s) = s.Inv := by
  simp only [execRsubmit, State.served_inv, State.rsubmit_inv, invNext_next]

theorem State.slotResult_inv (s : State) (k : Nat) (st : SlotState) (step reason : Nat) (apply : Half) :
    (s.slotResult k st step reason apply).Inv = s.Inv := by
  rw [State.slotResult, State.validateNext_inv, State.raise_inv]
  exact State.updRslot_inv s k (fun r => { r with st := st, step := step, reason := reason, apply := apply }) fun _ => rfl

theorem execImageValidated_inv (s : State) : invNext s (execImageValidated s) = s.Inv := by
  unfold execImageValidated
  split
  · rfl
  · split
    · rfl
    · dsimp only
      split <;> simp only [apply_ite (invNext s), invNext_next, State.slotResult_inv, State.raise_inv, State.logN_inv, apply_ite State.Inv,
        State.sendPair_inv, State.inv_mk, ite_self]

theorem execImgNow_inv (o : Origin) (s : State) : invNext s (execImgNow o s) = s.Inv := by
  simp only [execImgNow, State.toShadow_inv, invNext_next]

theorem execRestoreDone_inv (o : Origin) (s : State) : invNext s (execRestoreDone o s) = s.Inv := by
  simp only [execRestoreDone, State.toShadow_inv, invNext_next]

theorem State.restoreEndNow_inv (s : State) (code : Nat) : (s.restoreEndNow code).Inv = s.Inv := by
  simp only [State.restoreEndNow, State.updMon_inv, State.raise_inv, State.logN_inv, State.fallbackCell_inv, foldS_inv, implies_true,
    State.inv_mk, apply_ite State.Inv, ite_self]

theorem State.rescaleAll_inv (s : State) : s.rescaleAll.Inv = s.Inv := by
  simp only [State.rescaleAll, State.setCtx_inv, foldS_inv, implies_true, apply_ite State.Inv, ite_self]

/-! ### Auth -/

theorem State.authChallenge_inv (s : State) (p h : Nat) : (s.authChallenge p h).Inv = s.Inv := by
  simp only [State.authChallenge, State.sendAdhoc_inv, State.inv_mk, apply_ite State.Inv, ite_self]

theorem State.authPort_inv (s : State) (p : Nat) : (s.authPort p).Inv = s.Inv := by
  simp only [State.authPort, State.authChallenge_inv, foldS_inv, implies_true]

theorem State.authPending_inv (s : State) : s.authPending.Inv = s.Inv := by
  simp only [State.authPending, State.authChallenge_inv, foldS_inv, implies_true]

theorem State.roundCheck_inv (s : State) : s.roundCheck.Inv = s.Inv := by
  simp only [State.roundCheck, State.raise_inv, State.inv_mk, apply_ite State.Inv, ite_self]

theorem State.unverify_inv (s : State) (m : Nat) : (s.unverify m).Inv = s.Inv := by
  simp only [State.unverify, State.updMon_inv, State.softReq_inv, State.settle_inv, apply_ite State.Inv, ite_self]

theorem State.authResponse_inv (s : State) (p h : Nat) (f : ChainFrame) : (s.authResponse p h f).Inv = s.Inv := by
  simp only [State.authResponse, State.updMon_inv, State.raise_inv, State.log_inv, State.logN_inv, State.settle_inv, State.serialSeen_inv,
    State.roundCheck_inv, State.unverify_inv, apply_ite State.Inv, ite_self]

theorem State.authNoAnswer_inv (s : State) (p h : Nat) : (s.authNoAnswer p h).Inv = s.Inv := by
  simp only [State.authNoAnswer, State.updMon_inv, State.raise_inv, State.logN_inv, State.roundCheck_inv, State.unverify_inv, State.inv_mk,
    apply_ite State.Inv, ite_self]

theorem State.authRound_inv (s : State) : s.authRound.Inv = s.Inv := by
  simp only [State.authRound, State.authChallenge_inv, State.roundCheck_inv, foldS_inv, implies_true, State.inv_mk]

theorem execRound_inv (o : Origin) (s : State) : invNext s (execRound o s) = s.Inv := by
  refine State.served_inv o _ _ ?_
  split
  · exact State.authRound_inv s
  · rfl

theorem execAuthChallengeDue_inv (s : State) : invNext s (execAuthChallengeDue s) = s.Inv := by
  simp only [execAuthChallengeDue, State.authChallenge_inv, State.inv_mk, invNext_next, apply_ite (invNext s), ite_self]

/-! ### Landing -/

theorem State.setLanding_inv (s : State) (k : Nat) : (s.setLanding k).Inv = s.Inv := by
  simp only [State.setLanding, State.inv_mk]

theorem State.enterDeep_keeps_inv {s : State} (k : Nat) (h : s.Inv) : (s.enterDeep k).Inv := by
  have hdrain : s.galDrain.Inv := foldS_keeps_inv _ _ h fun _ _ => State.galTake_keeps_inv
  simp only [State.enterDeep, State.banEval_inv, State.setLanding_inv, foldS_inv, apply_ite State.Inv, State.updCan_inv, ite_self, implies_true,
    hdrain]

theorem State.landDecide_keeps_inv {s : State} (h : s.Inv) : s.landDecide.Inv := by
  unfold State.landDecide
  extract_lets k t l u
  have hu : u.Inv := h
  split
  · exact State.enterDeep_keeps_inv k hu
  · split
    · exact hu
    · rwa [State.setLanding_inv]

theorem State.leaveDeep_inv (s : State) : s.leaveDeep.Inv = s.Inv := by
  simp only [State.leaveDeep, State.updChan_inv, State.updCan_inv, State.banEval_inv, State.banReturn_inv, State.setLanding_inv, foldS_inv,
    implies_true, apply_ite State.Inv, ite_self]

theorem State.toFull_inv (s : State) : s.toFull.Inv = s.Inv := by
  simp only [State.toFull, State.setLanding_inv, State.leaveDeep_inv, State.inv_mk, apply_ite State.Inv, ite_self]

theorem State.wakeL2_inv (s : State) : s.wakeL2.Inv = s.Inv := by
  simp only [State.wakeL2, State.toFull_inv, apply_ite State.Inv, ite_self]

theorem State.portsStart_inv (s : State) : s.portsStart.Inv = s.Inv := by
  simp only [State.portsStart, State.emit_inv, State.startEnum_inv, foldS_inv, implies_true, apply_ite State.Inv, ite_self]

theorem State.wakeSequence_inv (s : State) : s.wakeSequence.Inv = s.Inv := by
  simp only [State.wakeSequence, State.portsStart_inv]

theorem State.startWake_inv (s : State) : s.startWake.Inv = s.Inv := by
  simp only [State.startWake, State.wakeSequence_inv, State.inv_mk, apply_ite State.Inv, ite_self]

theorem State.wakeRecord_inv (s : State) : s.wakeRecord.Inv = s.Inv := by
  simp only [State.wakeRecord, State.log_inv, State.inv_mk, apply_ite State.Inv, ite_self]

theorem State.wakeDevice_inv (s : State) : s.wakeDevice.Inv = s.Inv := by
  simp only [State.wakeDevice, State.raise_inv, State.toFull_inv, State.startWake_inv, State.when_inv, State.inv_mk, apply_ite State.Inv, ite_self]

theorem State.assertWakeOut_inv (s : State) : s.assertWakeOut.Inv = s.Inv := by
  simp only [State.assertWakeOut, State.inv_mk]

theorem State.lockWake_inv (s : State) : s.lockWake.Inv = s.Inv := by
  simp only [State.lockWake, State.toFull_inv, State.startWake_inv, apply_ite State.Inv, ite_self]

theorem execLandingExit_inv (s : State) : invNext s (execLandingExit s) = s.Inv := by
  unfold execLandingExit
  split <;> simp only [State.reach_inv, State.toFull_inv, invNext_next]

/-! ### Shuttle -/

theorem State.balStops_inv (s : State) (m : Nat) : (s.balStops m).Inv = s.Inv := by
  simp only [State.balStops, State.updShut_inv, foldS_inv, implies_true, apply_ite State.Inv, ite_self]

theorem State.balEnergy_inv (s : State) (m : Nat) (wh : Rat) : (s.balEnergy m wh).Inv = s.Inv := by
  simp only [State.balEnergy, State.updShutMod_inv, State.raise_inv, State.log_inv, apply_ite State.Inv, ite_self]

theorem State.spreadCheck_inv (s : State) (m : Nat) (strMean : Rat) : (s.spreadCheck m strMean).Inv = s.Inv := by
  simp only [State.spreadCheck, State.updShutMod_inv, State.raise_inv, State.log_inv, apply_ite State.Inv, ite_self]

theorem State.setPlan_inv (s : State) (ms : List Nat) (f : Nat → List (Nat × Int)) : (s.setPlan ms f).Inv = s.Inv := by
  simp only [State.setPlan, State.updShut_inv, foldS_inv, implies_true]

theorem State.planEpoch_inv (s : State) (n : Word) (a b : Nat) (late : Bool) : (s.planEpoch n a b late).Inv = s.Inv := by
  simp only [State.planEpoch, State.updShutMod_inv, State.sendPair_inv, State.balStops_inv, State.balEnergy_inv, State.spreadCheck_inv,
    State.setPlan_inv, foldS_inv, implies_true, State.inv_mk, apply_ite State.Inv, ite_self]

theorem State.balSent_inv (s : State) (p h m t : Nat) (cur : List Int) : (s.balSent p h m t cur).Inv = s.Inv := by
  simp only [State.balSent, State.updShut_inv, State.updShutMod_inv, foldS_inv, implies_true]

theorem State.balResponse_inv (s : State) (m : Nat) (f : ChainFrame) : (s.balResponse m f).Inv = s.Inv := by
  simp only [State.balResponse, State.setShut_inv, State.updShutMod_inv, State.raise_inv, State.logN_inv, foldS_inv, implies_true,
    apply_ite State.Inv, ite_self]

theorem State.balLost_inv (s : State) (m : Nat) : (s.balLost m).Inv = s.Inv := by
  simp only [State.balLost, State.updShutMod_inv]

/-! ### ChainRx -/

theorem State.enumConsume_inv (s : State) (p h : Nat) (f : ChainFrame) : (s.enumConsume p h f).Inv = s.Inv := by
  simp only [State.enumConsume, State.enumResponse_inv, State.serialSeen_inv, apply_ite State.Inv, ite_self]

theorem State.consume_inv (s : State) (slot p : Nat) (f : ChainFrame) : (s.consume slot p f).Inv = s.Inv := by
  simp only [State.consume, State.cellsResponse_inv, State.stackResponse_inv, State.auxResponse_inv, State.wireResponse_inv,
    State.authResponse_inv, State.balResponse_inv, State.enumConsume_inv, apply_ite State.Inv, ite_self]

theorem State.rxPut_inv (s : State) (p : Nat) (f : ChainFrame) : (s.rxPut p f).1.Inv = s.Inv := by
  unfold State.rxPut
  dsimp only
  split <;> simp only [State.updPort_inv, State.setRxp_inv]

/-! ### Limit -/

theorem State.emitLimit_inv (s : State) (slot : Nat) (v : Int) : (s.emitLimit slot v).Inv = s.Inv := by
  simp only [State.emitLimit, State.updSlotOf_inv]

theorem State.romString_inv (s : State) (r : RawEpoch) (x : Nat) : (s.romString r x).Inv = s.Inv := by
  simp only [State.romString, State.emitLimit_inv]

theorem State.romLimits_inv (s : State) (r : RawEpoch) : (s.romLimits r).Inv = s.Inv := by
  simp only [State.romLimits, State.emitLimit_inv, State.romString_inv, foldS_inv, implies_true]

theorem State.stageSlot_inv (s : State) (slot : Nat) : (s.stageSlot slot).1.Inv = s.Inv := by
  simp only [State.stageSlot, State.setSlotOf_inv, State.raise_inv, State.log_inv, apply_ite State.Inv, ite_self]

theorem State.shareUpdate_inv (s : State) (r : RawEpoch) : (s.shareUpdate r).Inv = s.Inv := by
  simp only [State.shareUpdate, State.updStr_inv, foldS_inv, implies_true, apply_ite State.Inv, ite_self]

theorem State.publish_inv (s : State) (r : RawEpoch) : (s.publish r).Inv = s.Inv := by
  have hslots : ∀ (l : List Nat) (a : State × Store Int), (l.foldl (fun (acc : State × Store Int) k =>
      ((acc.1.stageSlot k).1, sput acc.2 k (acc.1.stageSlot k).2)) a).1.Inv = a.1.Inv := fun l a =>
    foldl_keeps (fun a : State × Store Int => a.1.Inv) l _ a fun a k => State.stageSlot_inv _ _
  unfold State.publish
  dsimp only
  simp only [State.inv_mk, apply_ite State.Inv, State.log_inv, ite_self]
  exact (hslots _ _).trans (State.shareUpdate_inv s r)

/-! ### Engine -/

theorem State.engFall_inv (s : State) (e cause : Nat) : (s.engFall e cause).Inv = s.Inv := by
  simp only [State.engFall, State.updEng_inv, State.raise_inv, State.log_inv, apply_ite State.Inv, ite_self]

theorem State.stopWake_inv (s : State) (e : Nat) : (s.stopWake e).Inv = s.Inv := by
  simp only [State.stopWake, State.wakeRecord_inv, State.wakeDevice_inv, State.assertWakeOut_inv, apply_ite State.Inv, ite_self]

theorem State.engStop_inv (s : State) (e : Nat) : (s.engStop e).Inv = s.Inv := by
  simp only [State.engStop, State.updEng_inv, State.stopWake_inv]

theorem State.engFault_inv (s : State) (e pc cause : Nat) : (s.engFault e pc cause).Inv = s.Inv := by
  simp only [State.engFault, State.updEng_inv, State.raise_inv, State.logN_inv, State.engFall_inv, State.stopWake_inv, State.engStop_inv,
    apply_ite State.Inv, ite_self]

theorem State.engWindow_inv (s : State) (e : Nat) : (s.engWindow e).Inv = s.Inv := by
  unfold State.engWindow
  dsimp only
  split <;> simp only [State.updEng_inv, State.freeWord_inv]

theorem State.romWake_inv (s : State) : s.romWake.Inv = s.Inv := by
  simp only [State.romWake, State.wakeRecord_inv, State.wakeDevice_inv, State.assertWakeOut_inv]

theorem State.engResume_inv (s : State) (e : Nat) : (s.engResume e).Inv = s.Inv := by
  simp only [State.engResume]
  (repeat' split) <;> simp only [State.updEng_inv]

theorem engServe_inv (e n : Nat) (s : State) : (engServe e n s).Inv = s.Inv := by
  induction n generalizing s with
  | zero => rfl
  | succ n ih =>
    unfold engServe
    dsimp only
    split
    · rfl
    · split
      · rfl
      · simp only [apply_ite State.Inv, ih, State.updEng_inv, State.engWindow_inv, State.romWake_inv, ite_self]

theorem State.engTrigger_inv (s : State) (e b : Nat) : (s.engTrigger e b).Inv = s.Inv := by
  simp only [State.engTrigger, apply_ite State.Inv, State.romWake_inv, engServe_inv, State.engResume_inv, State.updEng_inv, State.engWindow_inv,
    State.engInstall_inv,
    State.wakeL2_inv, ite_self]

theorem State.romRegs_inv (s : State) (e : Nat) : (s.romRegs e).Inv = s.Inv := by
  simp only [State.romRegs, State.updEng_inv, foldS_inv, State.freeWord_inv, implies_true]

theorem engExt_inv (e n : Nat) (s : State) : (engExt e n s).Inv = s.Inv := by
  induction n generalizing s with
  | zero => rfl
  | succ n ih => simp only [engExt, apply_ite State.Inv, ih, State.updEng_inv, State.romRegs_inv, ite_self]

theorem State.extReturn_inv (s : State) (e : Nat) : (s.extReturn e).Inv = s.Inv := by
  simp only [State.extReturn, engExt_inv, State.updEng_inv]

theorem State.engHalt_keeps_inv {s : State} (e : Nat) (h : s.Inv) : (s.engHalt e).Inv := by
  have hserve : ∀ u : State,
    (engServe e 7 (if e = 13 then u.updEng 13 (fun g => { g with lastUnits := g.units }) else u)).Inv = u.Inv := fun u => by
    simp only [engServe_inv, apply_ite State.Inv, State.updEng_inv, ite_self]
  unfold State.engHalt
  dsimp only
  split
  · rw [State.when]
    split
    · refine State.landDecide_keeps_inv ?_
      rwa [State.wakeRecord_inv, engServe_inv, State.updEng_inv, State.engInstall_inv, State.updEng_inv]
    · rwa [State.wakeRecord_inv, engServe_inv, State.updEng_inv, State.engInstall_inv, State.updEng_inv]
  · rwa [engServe_inv, State.engInstall_inv, State.updEng_inv]

/-- An instruction keeps the invariant where its effect does. -/
theorem State.insn_inv (s : State) (e ws u : Nat) (f : Nat → State → State) (h : ∀ pc t, (f pc t).Inv = t.Inv) :
    (s.insn e ws u f).Inv = s.Inv := by
  simp only [State.insn, apply_ite State.Inv, h, State.updEng_inv, ite_self]

theorem State.alu_inv (s : State) (e : Nat) (d : RegIx) (op : Opnd) (u : Nat) (val : Eng → Opnd → Word) (f : Word → Word → Word) :
    (s.alu e d op u val f).Inv = s.Inv := by
  simp only [State.alu, State.updEng_inv, State.insn_inv, implies_true]

theorem execMov_inv (e : Engine) (d : RegIx) (op : Opnd) (s : State) : invNext s (execMov e d op s) = s.Inv := by
  simp only [execMov, State.alu_inv, invNext_next]

theorem execAdd_inv (e : Engine) (d : RegIx) (op : Opnd) (s : State) : invNext s (execAdd e d op s) = s.Inv := by
  simp only [execAdd, State.alu_inv, invNext_next]

theorem execSub_inv (e : Engine) (d : RegIx) (op : Opnd) (s : State) : invNext s (execSub e d op s) = s.Inv := by
  simp only [execSub, State.alu_inv, invNext_next]

theorem execMul_inv (e : Engine) (d : RegIx) (op : Opnd) (s : State) : invNext s (execMul e d op s) = s.Inv := by
  simp only [execMul, State.alu_inv, invNext_next]

theorem execMulq_inv (e : Engine) (d : RegIx) (op : Opnd) (s : State) : invNext s (execMulq e d op s) = s.Inv := by
  simp only [execMulq, State.alu_inv, invNext_next]

theorem execDiv_inv (e : Engine) (d : RegIx) (op : Opnd) (s : State) : invNext s (execDiv e d op s) = s.Inv := by
  simp only [execDiv, State.updEng_inv, State.insn_inv, invNext_next, implies_true]

theorem execAnd_inv (e : Engine) (d : RegIx) (op : Opnd) (s : State) : invNext s (execAnd e d op s) = s.Inv := by
  simp only [execAnd, State.alu_inv, invNext_next]

theorem execOr_inv (e : Engine) (d : RegIx) (op : Opnd) (s : State) : invNext s (execOr e d op s) = s.Inv := by
  simp only [execOr, State.alu_inv, invNext_next]

theorem execXor_inv (e : Engine) (d : RegIx) (op : Opnd) (s : State) : invNext s (execXor e d op s) = s.Inv := by
  simp only [execXor, State.alu_inv, invNext_next]

theorem execShl_inv (e : Engine) (d : RegIx) (op : Opnd) (s : State) : invNext s (execShl e d op s) = s.Inv := by
  simp only [execShl, State.alu_inv, invNext_next]

theorem execShr_inv (e : Engine) (d : RegIx) (op : Opnd) (s : State) : invNext s (execShr e d op s) = s.Inv := by
  simp only [execShr, State.alu_inv, invNext_next]

theorem execSra_inv (e : Engine) (d : RegIx) (op : Opnd) (s : State) : invNext s (execSra e d op s) = s.Inv := by
  simp only [execSra, State.alu_inv, invNext_next]

theorem execMin_inv (e : Engine) (d : RegIx) (op : Opnd) (s : State) : invNext s (execMin e d op s) = s.Inv := by
  simp only [execMin, State.alu_inv, invNext_next]

theorem execMax_inv (e : Engine) (d : RegIx) (op : Opnd) (s : State) : invNext s (execMax e d op s) = s.Inv := by
  simp only [execMax, State.alu_inv, invNext_next]

theorem execClamp_inv (e : Engine) (d a : RegIx) (s : State) : invNext s (execClamp e d a s) = s.Inv := by
  simp only [execClamp, State.updEng_inv, State.engFault_inv, State.insn_inv, invNext_next, apply_ite State.Inv, ite_self, implies_true]

theorem State.sysRead_inv (s : State) (e i : Nat) : (s.sysRead e i).2.Inv = s.Inv := by
  simp only [State.sysRead, State.updEng_inv, State.freeWord_inv, apply_ite Prod.snd, apply_ite State.Inv, ite_self]

theorem State.engRead_inv {s t : State} {e a : Nat} {w : Word} (h : s.engRead e a = some (w, t)) : t.Inv = s.Inv := by
  have hread : ∀ p ∈ s.engRead e a, p.2.Inv = s.Inv := by
    have hite : ∀ (c : Prop) [Decidable c] (x y : Option (Word × State)), (∀ p ∈ x, p.2.Inv = s.Inv) → (∀ p ∈ y, p.2.Inv = s.Inv) →
        ∀ p ∈ (if c then x else y), p.2.Inv = s.Inv := fun c _ x y hx hy => by split <;> assumption
    have hsome : ∀ q : Word × State, q.2.Inv = s.Inv → ∀ p ∈ some q, p.2.Inv = s.Inv := fun q hq p hp => by cases hp; exact hq
    exact hite _ _ _ (hsome _ (State.freeWord_inv s)) <| hite _ _ _ (hsome _ rfl) <| hite _ _ _ (hsome _ rfl) <| hite _ _ _ (hsome _ rfl) <|
      hite _ _ _ (hsome _ (State.sysRead_inv s e _)) <| hite _ _ _ (hsome _ rfl) fun _ hp => by cases hp
  exact hread (w, t) h

theorem State.engWrite_inv (s : State) (e a : Nat) (v : Word) : ∀ t, (s.engWrite e a v) = some t → t.Inv = s.Inv := by
  intro t h
  unfold State.engWrite at h
  repeat' split at h
  all_goals cases h
  all_goals rfl

theorem execLd_inv (e : Engine) (d a : RegIx) (off : Option Half) (s : State) : invNext s (execLd e d a off s) = s.Inv := by
  refine State.insn_inv _ _ _ _ _ fun pc t => ?_
  split
  · next w u h => exact (State.updEng_inv _ _ _).trans (State.engRead_inv h)
  · exact State.engFault_inv _ _ _ _

theorem execSt_inv (e : Engine) (d a : RegIx) (off : Option Half) (s : State) : invNext s (execSt e d a off s) = s.Inv := by
  refine State.insn_inv _ _ _ _ _ fun pc t => ?_
  split
  · next u h => exact State.engWrite_inv _ _ _ _ _ h
  · exact State.engFault_inv _ _ _ _

theorem execLdc_inv (e : Engine) (d a : RegIx) (off : Option Half) (s : State) : invNext s (execLdc e d a off s) = s.Inv := by
  simp only [execLdc, State.updEng_inv, State.engFault_inv, State.insn_inv, State.freeWord_inv, invNext_next, apply_ite State.Inv, ite_self,
    implies_true]

theorem State.branch_inv (s : State) (e : Nat) (taken : Bool) (target : Half) : (s.branch e taken target).Inv = s.Inv :=
  State.insn_inv _ _ _ _ _ fun _ _ => State.when_inv _ _ _ (State.updEng_inv _ _ _)

theorem execBr_inv (e : Engine) (d a : RegIx) (c : Cond) (target : Half) (s : State) : invNext s (execBr e d a c target s) = s.Inv := by
  simp only [execBr, State.branch_inv, invNext_next]

theorem execBru_inv (e : Engine) (d a : RegIx) (c : Cond) (target : Half) (s : State) : invNext s (execBru e d a c target s) = s.Inv := by
  simp only [execBru, State.branch_inv, invNext_next]

theorem execCall_inv (e : Engine) (target : Half) (s : State) : invNext s (execCall e target s) = s.Inv := by
  simp only [execCall, State.updEng_inv, State.engFault_inv, State.insn_inv, invNext_next, apply_ite State.Inv, ite_self, implies_true]

theorem execRet_inv (e : Engine) (s : State) : invNext s (execRet e s) = s.Inv := by
  refine State.insn_inv _ _ _ _ _ fun pc t => ?_
  split
  · exact State.engFault_inv _ _ _ _
  · simp only [apply_ite State.Inv, State.extReturn_inv, State.updEng_inv, ite_self]

theorem execHalt_keeps_inv (e : Engine) {s : State} (h : s.Inv) : invNext s (execHalt e s) := by
  rw [execHalt, invNext_next, State.insn]
  split
  · split
    · rwa [State.extReturn_inv, State.updEng_inv]
    · exact State.engHalt_keeps_inv _ h
  · exact h

theorem execTlerp_inv (e : Engine) (d a : RegIx) (table : Half) (s : State) : invNext s (execTlerp e d a table s) = s.Inv := by
  simp only [execTlerp, State.updEng_inv, State.insn_inv, invNext_next, implies_true]

theorem execWait_inv (e : Engine) (d : RegIx) (mask : Half) (s : State) : invNext s (execWait e d mask s) = s.Inv := by
  simp only [execWait, State.updEng_inv, State.engFault_inv, State.engResume_inv, State.insn_inv, invNext_next, apply_ite State.Inv, ite_self,
    implies_true]

theorem execWaitTimeout_inv (e : Engine) (s : State) : invNext s (execWaitTimeout e s) = s.Inv := by
  unfold execWaitTimeout
  repeat' split
  all_goals simp only [State.updEng_inv, State.reach_inv, invNext_next]

theorem execEngineTimer_inv (e : Engine) (s : State) : invNext s (execEngineTimer e s) = s.Inv := by
  unfold execEngineTimer
  split <;> simp only [State.updEng_inv, State.reach_inv, State.engTrigger_inv, State.inv_mk, invNext_next, apply_ite State.Inv, ite_self]

theorem execBudgetOut_inv (e : Engine) (s : State) : invNext s (execBudgetOut e s) = s.Inv := by
  simp only [execBudgetOut, State.updEng_inv, State.raise_inv, State.log_inv, State.engFall_inv, State.engStop_inv, State.when_inv, invNext_next,
    apply_ite (invNext s), ite_self]

theorem State.sendBuffer_inv (s : State) (p b : Nat) : (s.sendBuffer p b).Inv = s.Inv := by
  simp only [State.sendBuffer, State.updPort_inv, State.updTxb_inv, State.chainOut_inv, State.startEnum_inv, State.when_inv, apply_ite State.Inv,
    ite_self]
  (repeat' split) <;> simp only [State.updPort_inv, State.updTxb_inv, State.takeSeq_inv]

theorem State.ranged_inv (s : State) (v n : Nat) : (s.ranged v n).2.Inv = s.Inv := by
  simp only [State.ranged, State.freeWord_inv, apply_ite Prod.snd, apply_ite State.Inv, ite_self]

theorem execSend_inv (e : Engine) (d a : RegIx) (s : State) : invNext s (execSend e d a s) = s.Inv := by
  refine State.insn_inv _ _ _ _ _ fun pc t => ?_
  split
  · exact State.engFault_inv _ _ _ _
  · split
    next i u h =>
    have hu : u.Inv = t.Inv := State.inv_of_snd h (State.ranged_inv _ _ _)
    extract_lets p st v
    rw [State.updEng_inv, State.when_inv _ _ _ (State.sendBuffer_inv _ _ _), hu]

theorem execTxdone_inv (p : Port) (b : Fin 4) (s : State) : invNext s (execTxdone p b s) = s.Inv := by
  simp only [execTxdone, State.updTxb_inv, State.engTrigger_inv, invNext_next, apply_ite (invNext s), ite_self]

theorem execRecv_inv (e : Engine) (d a : RegIx) (s : State) : invNext s (execRecv e d a s) = s.Inv := by
  refine State.insn_inv _ _ _ _ _ fun pc t => ?_
  split
  · exact State.engFault_inv _ _ _ _
  · split
    next k u h =>
    have hu : u.Inv = t.Inv := State.inv_of_snd h (State.ranged_inv _ _ _)
    extract_lets r
    split <;> rw [State.updEng_inv, State.setRxp_inv, hu]

theorem State.emitChain_inv (s : State) (e slot v : Nat) : (s.emitChain e slot v).Inv = s.Inv := by
  simp only [State.emitChain, State.updPort_inv, State.consume_inv, State.ranged_inv, apply_ite State.Inv, ite_self]

theorem State.emitWake_inv (s : State) (slot : Nat) (v : Word) : (s.emitWake slot v).Inv = s.Inv := by
  simp only [State.emitWake, State.wakeDevice_inv, State.assertWakeOut_inv, State.inv_mk, apply_ite State.Inv, ite_self]

theorem execEmit_inv (e : Engine) (d : RegIx) (slot : Opnd) (s : State) : invNext s (execEmit e d slot s) = s.Inv := by
  refine State.insn_inv _ _ _ _ _ fun pc t => ?_
  extract_lets k v
  split
  · exact State.engFault_inv _ _ _ _
  · exact State.engFault_inv _ _ _ _
  · simp only [apply_ite State.Inv, State.engFault_inv, State.emitChain_inv, State.emitLimit_inv, State.emitWake_inv, ite_self]

theorem State.codeRefuse_inv (s : State) (e r w : Nat) : (s.codeRefuse e r w).Inv = s.Inv := by
  simp only [State.codeRefuse, State.raise_inv, State.logN_inv, State.withCode_inv]

theorem State.codeData_keeps_inv {s : State} (v : Word) (h : s.Inv) : invOk s (s.codeData v) := by
  unfold State.codeData
  split
  · exact h
  · obtain ⟨⟨hbuf, hcode, hmem⟩, hfifo⟩ := h
    exact ⟨⟨hbuf, Memory.wf_writeWord _ _ _ hcode, hmem⟩, hfifo⟩

theorem execCodeData_keeps_inv (o : Origin) (v : Word) {s : State} (h : s.Inv) : invNext s (execCodeData o v s) :=
  State.served_keeps_inv _ _ _ h (State.codeData_keeps_inv v h)

theorem State.codeLoad_inv (s : State) (o : Origin) : invOk s (s.codeLoad o) = s.Inv := by
  simp only [State.codeLoad, invOk_error, apply_ite (invOk s)]
  (repeat' split) <;> simp only [State.sendPair_inv, State.codeRefuse_inv, invOk_ok, State.withCode_inv]

theorem execLoad_inv (o : Origin) (s : State) : invNext s (execLoad o s) = s.Inv := by
  simp only [execLoad, State.served_inv, State.codeLoad_inv, invNext_next]

theorem State.codeAbort_keeps_inv {s : State} (h : s.Inv) : invOk s s.codeAbort := by
  obtain ⟨⟨hbuf, _, hmem⟩, hfifo⟩ := h
  exact ⟨⟨hbuf, Memory.wf_nil, hmem⟩, hfifo⟩

theorem execCodeAbort_keeps_inv (o : Origin) {s : State} (h : s.Inv) : invNext s (execCodeAbort o s) :=
  State.served_keeps_inv _ _ _ h (State.codeAbort_keeps_inv h)

theorem execPartnerVerify_inv (ok : Bool) (s : State) : invNext s (execPartnerVerify ok s) = s.Inv := by
  unfold execPartnerVerify
  split <;> simp only [State.codeRefuse_inv, invNext_next, apply_ite (invNext s), ite_self, State.withCode_inv]

theorem State.codeInstant_inv (s : State) : s.codeInstant.Inv = s.Inv := by
  unfold State.codeInstant
  split <;> simp only [State.updEng_inv, State.engInstall_inv, State.engGeneration_inv, foldS_inv, implies_true, apply_ite State.Inv, ite_self,
    State.withCode_inv]

/-! ### Chain -/

theorem State.romRead_inv (s : State) (p : Nat) (f : ChainFrame) : (s.romRead p f).Inv = s.Inv := by
  unfold State.romRead
  split <;> simp only [State.updRxp_inv, State.consume_inv]

theorem State.chainStore_inv (s : State) (p : Nat) (f : ChainFrame) (again : Bool) : (s.chainStore p f again).Inv = s.Inv := by
  simp only [State.chainStore, State.updRxp_inv, State.rxPut_inv, State.engTrigger_inv, State.romRead_inv, apply_ite State.Inv, ite_self]

theorem State.chainRx_inv (s : State) (p : Nat) (f : ChainFrame) : (s.chainRx p f).Inv = s.Inv := by
  simp only [State.chainRx, engExt_inv, apply_ite State.Inv, State.testNext_inv, State.chainStore_inv, State.echoResponse_inv,
    State.answered_inv, State.toneHeader_inv, State.traceRx_inv, State.wakeL2_inv, ite_self]

theorem execChainFrame_inv (p : Port) (f : ChainFrame) (s : State) : invNext s (execChainFrame p f s) = s.Inv := by
  simp only [execChainFrame, State.chainRx_inv, invNext_next, apply_ite (invNext s), ite_self]

theorem State.retryOut_inv (s : State) (p : Nat) (i : InFlight) : (s.retryOut p i).Inv = s.Inv := by
  simp only [State.retryOut, State.updPort_inv, State.raise_inv, State.testNext_inv, State.authNoAnswer_inv, State.balLost_inv,
    apply_ite State.Inv, ite_self]

theorem State.respTimeout_inv (s : State) (p : Nat) (seq : Half) : (s.respTimeout p seq).Inv = s.Inv := by
  unfold State.respTimeout
  split
  · exact State.enumDone_inv _ _
  · split
    · simp only [engExt_inv, apply_ite State.Inv, State.resend_inv, State.retryOut_inv, ite_self]
    · rfl

theorem execResponseTimeout_inv (p : Port) (seq : Half) (s : State) : invNext s (execResponseTimeout p seq s) = s.Inv := by
  simp only [execResponseTimeout, State.respTimeout_inv, invNext_next]

/-! ### Cores -/

theorem State.permitOff_inv (s : State) : s.permitOff.Inv = s.Inv := by
  simp only [State.permitOff, State.inv_mk, apply_ite State.Inv, ite_self]

theorem State.permitOn_inv (s : State) : s.permitOn.Inv = s.Inv := by
  simp only [State.permitOn, State.revertRestart_inv, State.inv_mk, apply_ite State.Inv, ite_self]

theorem State.askHandover_inv (s : State) (cause tries : Nat) : (s.askHandover cause tries).Inv = s.Inv := by
  simp only [State.askHandover, State.sendPair_inv, State.inv_mk]

theorem State.failOver_inv (s : State) (cause : Nat) : (s.failOver cause).Inv = s.Inv := by
  simp only [State.failOver, State.askHandover_inv, apply_ite State.Inv, ite_self]

theorem State.lockoutAlone_inv (s : State) (cause : Nat) : (s.lockoutAlone cause).Inv = s.Inv := by
  simp only [State.lockoutAlone, State.raise_inv, State.logN_inv, State.enterLockout_inv, State.inv_mk]

theorem State.deviceLockout_inv (s : State) (cause : Nat) : (s.deviceLockout cause).Inv = s.Inv := by
  simp only [State.deviceLockout, State.lockout_inv, State.failOver_inv, State.lockoutAlone_inv, State.inv_mk, apply_ite State.Inv, ite_self]

theorem State.misRecord_inv (s : State) (c : MisCause) (detail w : Nat) (m k : DWord) : (s.misRecord c detail w m k).Inv = s.Inv := by
  simp only [State.misRecord, State.raise_inv, State.log_inv, State.inv_mk]

theorem State.mismatch_inv (s : State) (c : MisCause) (detail w : Nat) (m k : DWord) : (s.mismatch c detail w m k).Inv = s.Inv := by
  simp only [State.mismatch, State.permitOff_inv, State.failOver_inv, State.misRecord_inv, State.inv_mk]

theorem State.rejoinFailed_inv (s : State) (c : MisCause) (detail w : Nat) (m k : DWord) : (s.rejoinFailed c detail w m k).Inv = s.Inv := by
  simp only [State.rejoinFailed, State.logN_inv, State.misRecord_inv, State.inv_mk]

theorem State.disagree_inv (s : State) (l : List (Nat × Word × Word)) : (s.disagree l).1.Inv = s.Inv := by
  simp only [State.disagree, State.raise_inv, State.log_inv, foldS_inv, implies_true, State.inv_mk]

theorem State.openMismatch_inv (s : State) (c : MisCause) (detail : Nat) : (s.openMismatch c detail).Inv = s.Inv := by
  unfold State.openMismatch
  dsimp only
  split <;> simp only [State.lockWake_inv, State.mismatch_inv, State.rejoinFailed_inv, State.freeWord_inv]

theorem State.compared_inv (s : State) (bad : Option MisCause) (w : Nat) (m k : DWord) : (s.compared bad w m k).Inv = s.Inv := by
  unfold State.compared
  split <;> simp only [State.raise_inv, State.logN_inv, State.permitOn_inv, State.mismatch_inv, State.rejoinFailed_inv, State.inv_mk,
    apply_ite State.Inv, ite_self]

theorem execWindowTick_inv (mainClosed checkerClosed : Bool) (sigMain sigChecker : DWord) (differing : List (Nat × Word × Word)) (s : State) :
    invNext s (execWindowTick mainClosed checkerClosed sigMain sigChecker differing s) = s.Inv := by
  unfold execWindowTick
  split
  · extract_lets k s1 l s2 both
    have h2 : s2.Inv = s.Inv := (State.inv_mk s1 ..).trans (State.reach_inv s _)
    split
    next s3 input e =>
    have h3 : s3.Inv = s.Inv := by
      refine (State.inv_of_fst e ?_).trans h2
      simp only [apply_ite Prod.fst, apply_ite State.Inv, State.disagree_inv, ite_self]
    extract_lets l4 s4 l5 s5
    have h4 : s4.Inv = s.Inv := by
      simp only [s4]
      split
      · exact (State.inv_mk s3 ..).trans h3
      · rw [apply_ite State.Inv, State.compared_inv, ite_self, h3]
    have h5 : s5.Inv = s.Inv := by
      simp only [s5]
      split
      · exact (State.lockout_inv _ _).trans ((State.inv_mk s4 ..).trans h4)
      · exact h4
    rw [invNext_next, State.lockWake_inv, State.banEval_inv, h5]
  · rfl

theorem execGateTimeout_inv (s : State) : invNext s (execGateTimeout s) = s.Inv := by
  simp only [execGateTimeout, State.openMismatch_inv, invNext_next, apply_ite (invNext s), ite_self]

theorem execCoreFault_inv (checker : Bool) (s : State) : invNext s (execCoreFault checker s) = s.Inv := by
  unfold execCoreFault
  dsimp only
  split <;> simp only [State.openMismatch_inv, invNext_next, apply_ite (invNext s), ite_self]

theorem State.isolate_inv (s : State) (checker : Bool) : (s.isolate checker).Inv = s.Inv := by
  simp only [State.isolate, State.raise_inv, State.log_inv, State.freeWord_inv, State.inv_mk, apply_ite State.Inv, ite_self]

theorem State.runSingle_inv (s : State) (checkerLives : Bool) : (s.runSingle checkerLives).Inv = s.Inv := by
  simp only [State.runSingle, State.logN_inv, State.permitOn_inv, State.deviceLockout_inv, State.inv_mk, apply_ite State.Inv, ite_self]

theorem execCoreSelftestEnd_inv (mainPass checkerPass : CorePass) (s : State) : invNext s (execCoreSelftestEnd mainPass checkerPass s) = s.Inv := by
  simp only [execCoreSelftestEnd, State.raise_inv, State.logN_inv, State.lockoutAtOnce_inv, State.lockWake_inv, State.failOver_inv,
    State.lockoutAlone_inv, State.deviceLockout_inv, State.isolate_inv, State.runSingle_inv, State.when_inv, State.inv_mk, invNext_next,
    apply_ite (invNext s), ite_self]

theorem execSingleSelftest_inv (pass : CorePass) (s : State) : invNext s (execSingleSelftest pass s) = s.Inv := by
  simp only [execSingleSelftest, State.lockWake_inv, State.deviceLockout_inv, State.inv_mk, invNext_next, apply_ite (invNext s),
    apply_ite State.Inv, ite_self]

theorem execSingleExpired_inv (s : State) : invNext s (execSingleExpired s) = s.Inv := by
  unfold execSingleExpired
  split <;> simp only [State.reach_inv, State.raise_inv, State.logN_inv, State.softReq_inv, State.lockoutAlone_inv, foldS_inv, implies_true,
    State.inv_mk, invNext_next, apply_ite (invNext s), ite_self]

theorem State.coreSplit_inv (s : State) (o : Origin) : invOk s (s.coreSplit o) = s.Inv := by
  simp only [State.coreSplit, State.raise_inv, State.logN_inv, State.permitOff_inv, State.inv_mk, invOk_ok, invOk_error, apply_ite (invOk s),
    ite_self]

theorem execSplit_inv (o : Origin) (s : State) : invNext s (execSplit o s) = s.Inv := by
  simp only [execSplit, State.served_inv, State.coreSplit_inv, invNext_next]

theorem State.coreRejoin_inv (s : State) : invOk s s.coreRejoin = s.Inv := by
  simp only [State.coreRejoin, State.inv_mk, invOk_ok, invOk_error, apply_ite (invOk s), ite_self]

theorem execRejoin_inv (o : Origin) (s : State) : invNext s (execRejoin o s) = s.Inv := by
  simp only [execRejoin, State.served_inv, State.coreRejoin_inv, invNext_next]

theorem State.debugHalt_inv (s : State) : s.debugHalt.Inv = s.Inv := by
  simp only [State.debugHalt, State.permitOff_inv, State.inv_mk]

theorem State.debugResume_inv (s : State) : s.debugResume.Inv = s.Inv := by
  simp only [State.debugResume, State.raise_inv, State.logN_inv, State.inv_mk, apply_ite State.Inv, ite_self]

theorem State.debugAction_inv (s : State) : s.debugAction.Inv = s.Inv := by
  simp only [State.debugAction, State.inv_mk]

/-! ### Flows -/

theorem State.commitBank_inv (s : State) (b : Bank) : (s.commitBank b).Inv = s.Inv := by
  simp only [State.commitBank, State.raise_inv, State.when_inv, State.inv_mk]

theorem State.hallOpenNow_inv (s : State) (o : Origin) : (s.hallOpenNow o).Inv = s.Inv := by
  simp only [State.hallOpenNow, State.inv_mk]

theorem State.hallCloseNow_inv (s : State) (o : Origin) : (s.hallCloseNow o).Inv = s.Inv := by
  simp only [State.hallCloseNow, State.inv_mk]

theorem State.hallOpen_inv (s : State) (o : Origin) : invOk s (s.hallOpen o) = s.Inv := by
  simp only [State.hallOpen, State.toShadow_inv, invOk_ok, invOk_error, apply_ite (invOk s), ite_self]

theorem execHallOpen_inv (o : Origin) (s : State) : invNext s (execHallOpen o s) = s.Inv := by
  have h := State.hallOpen_inv s o
  unfold execHallOpen
  split
  · next t e =>
    rw [e] at h
    exact h
  · exact State.refuse_inv _ _ _ _ _

theorem execHallClose_inv (o : Origin) (s : State) : invNext s (execHallClose o s) = s.Inv := by
  simp only [execHallClose, State.toShadow_inv, invNext_next]

theorem State.flowWithdraw_inv (s : State) (i : Nat) : (s.flowWithdraw i).Inv = s.Inv := by
  simp only [State.flowWithdraw, State.updFlow_inv, State.raise_inv, State.bufDrop_inv, foldS_inv, implies_true, apply_ite State.Inv, ite_self]

theorem State.flowHost_inv (s : State) (i : Nat) (epoch : Word) (data : List Byte) : (s.flowHost i epoch data).Inv = s.Inv := by
  simp only [State.flowHost, State.hostPush_inv, foldS_inv, implies_true]

theorem flowFeed_inv (i n : Nat) (s : State) : (flowFeed i n s).Inv = s.Inv := by
  induction n generalizing s with
  | zero => rfl
  | succ n ih =>
    unfold flowFeed
    split
    · rfl
    · split
      · rfl
      · simp only [ih, State.updFlow_inv, State.updBuf_inv, State.bufQueue_inv]

theorem State.flowSend_inv (s : State) (i : Nat) (epoch : Word) (data : List Byte) (port : Nat) : (s.flowSend i epoch data port).Inv = s.Inv := by
  simp only [State.flowSend, apply_ite State.Inv, State.flowHost_inv, State.sendPair_inv, flowFeed_inv, State.updFlow_inv, State.flowWithdraw_inv,
    ite_self]

theorem State.flowEmit_inv (s : State) (i : Nat) (b : Bank) (imgs : List Nat) : (s.flowEmit i b imgs).Inv = s.Inv := by
  simp only [State.flowEmit, State.updFlow_inv, State.flowSend_inv, foldS_inv, implies_true, apply_ite State.Inv, ite_self]

theorem State.flowEngine_inv (s : State) (old : Bank) (imgs : List Nat) : (s.flowEngine old imgs).Inv = s.Inv := by
  unfold State.flowEngine
  split <;> simp only [State.flowEmit_inv, foldS_inv, implies_true, apply_ite State.Inv, ite_self]

theorem State.flowNext_inv (s : State) (k : Nat) : (s.flowNext k).Inv = s.Inv := by
  unfold State.flowNext
  split
  · exact flowFeed_inv _ _ _
  · rfl

theorem State.flowDesc_inv (s : State) (i w : Nat) (v : Word) : (s.flowDesc i w v).Inv = s.Inv := by
  simp only [State.flowDesc, State.updFlow_inv]

/-! ### GenSwitch -/

theorem State.reloadRegs_inv (s t : State) : (s.reloadRegs t).1.Inv = s.Inv := by
  unfold State.reloadRegs
  refine foldl_keeps (fun a : State × Bool => a.1.Inv) _ _ _ fun a e => ?_
  simp only [apply_ite Prod.fst, apply_ite State.Inv, State.log_inv, State.setReg_inv, ite_self]

theorem State.switchGen_inv (t : State) (k : Nat) (n : Word) : (t.switchGen k n).Inv = t.Inv := by
  unfold State.switchGen
  dsimp only
  rw [State.lockAll_inv, State.raise_inv, State.logN_inv, State.inv_mk, State.banReload_inv,
    State.setSlotState_inv _ _ { State.slotState _ k with switched := true } rfl]
  simp only [foldS_inv, apply_ite State.Inv, State.updPort_inv, State.engInstall_inv, State.engGeneration_inv, State.rescaleAll_inv,
    State.bufDrop_inv,
    State.bumpCfg_inv, State.when_inv, State.raise_inv, State.inv_mk, State.reloadRegs_inv, State.loadGen_inv, ite_self, implies_true]

theorem State.dropProposal_inv (s : State) (n : Word) : (s.dropProposal n).Inv = s.Inv := by
  unfold State.dropProposal
  split <;> simp only [State.inv_mk, apply_ite State.Inv, ite_self]

theorem execGenSwitchPropose_inv (s : State) : invNext s (execGenSwitchPropose s) = s.Inv := by
  unfold execGenSwitchPropose
  split
  · rfl
  · simp only [apply_ite (invNext s), invNext_next, State.inv_mk, State.switchGen_inv, State.sendPair_inv, ite_self]

/-! ### Modes -/

theorem State.modeRefused_inv (s : State) (dest : Mode) (f : BitVec 12) : (s.modeRefused dest f).Inv = s.Inv := by
  simp only [State.modeRefused, State.raise_inv, State.logN_inv, State.inv_mk]

theorem State.modeReq_inv (s : State) (o : Origin) (pg off : Nat) (dest : Mode) (legal : Bool) (ok : State → State) (h : (ok s).Inv = s.Inv) :
    (s.modeReq o pg off dest legal ok).Inv = s.Inv := by
  have hok : invOk s (.ok (ok s)) = s.Inv := h
  simp only [State.modeReq, apply_ite State.Inv, State.served_inv o pg off hok, State.refuse_inv, State.modeRefused_inv, ite_self]

theorem State.setTrans_inv (s : State) (dest : Mode) (origin : Nat) (afterOpenings : Bool) :
    (s.setTrans dest origin afterOpenings).Inv = s.Inv := by
  simp only [State.setTrans, State.inv_mk]

theorem State.captureImages_inv (s : State) (ps : List Nat) (n : Word) : (s.captureImages ps n).Inv = s.Inv :=
  foldS_inv _ _ s fun _ _ => rfl

theorem State.publishImages_inv (s : State) (ps : List Nat) : (s.publishImages ps).Inv = s.Inv := by
  unfold State.publishImages
  split <;> simp only [State.flowEmit_inv, foldS_inv, implies_true, apply_ite State.Inv, ite_self]

theorem State.dormantEntry_inv (s : State) (o : Origin) (without : List Nat) : (s.dormantEntry o without).Inv = s.Inv := by
  simp only [State.dormantEntry, State.log_inv, State.sendAdhoc_inv, State.writeMctrl_inv, State.setTrans_inv, State.captureImages_inv,
    State.publishImages_inv, foldS_inv, implies_true, State.inv_mk, apply_ite State.Inv, ite_self]

theorem State.askDormant_inv (s : State) (o : Origin) (without : List Nat) : (s.askDormant o without).Inv = s.Inv := by
  simp only [State.askDormant, State.modeReq_inv, State.dormantEntry_inv]

theorem execReqDormant_inv (o : Origin) (portsWithoutEcho : List Nat) (s : State) : invNext s (execReqDormant o portsWithoutEcho s) = s.Inv := by
  simp only [execReqDormant, State.askDormant_inv, invNext_next]

theorem State.askCommission_inv (s : State) (o : Origin) : (s.askCommission o).Inv = s.Inv := by
  simp only [State.askCommission, State.writeMctrl_inv, State.modeReq_inv, State.setTrans_inv, foldS_inv, implies_true]

theorem execReqCommission_inv (o : Origin) (s : State) : invNext s (execReqCommission o s) = s.Inv := by
  simp only [execReqCommission, State.askCommission_inv, invNext_next]

theorem State.siteReady_inv (s : State) (o : Origin) : (s.siteReady o).Inv = s.Inv := by
  simp only [State.siteReady, State.softReq_inv, State.joinAbort_inv, State.served_inv, State.modeReq_inv, State.setTrans_inv, foldS_inv,
    implies_true, apply_ite State.Inv, ite_self, invOk_ok]

theorem execReqReady_inv (o : Origin) (s : State) : invNext s (execReqReady o s) = s.Inv := by
  simp only [execReqReady, State.siteReady_inv, invNext_next]

theorem State.joinBegin_inv (s : State) : s.joinBegin.Inv = s.Inv := by
  simp only [State.joinBegin]
  (repeat' split) <;> simp only [State.log_inv, State.closeChan_inv, State.effFollow_inv, State.inv_mk]

theorem State.startEnds_inv (s : State) : s.startEnds.Inv = s.Inv := by
  simp only [State.startEnds, State.logN_inv, State.inv_mk]

theorem State.stepTo_inv (s : State) (n : Nat) : (s.stepTo n).Inv = s.Inv := by
  simp only [State.stepTo, State.inv_mk]

theorem State.stepFail_inv (s : State) (n f : Nat) : (s.stepFail n f).Inv = s.Inv := by
  simp only [State.stepFail, State.logN_inv]

theorem State.stepEight_inv (s : State) : s.stepEight.Inv = s.Inv := by
  simp only [State.stepEight, State.startCompleted_inv, State.startEnds_inv, State.stepTo_inv, State.inv_mk, apply_ite State.Inv, ite_self]

theorem State.modeEffect_inv (s : State) (t : Transition) : (s.modeEffect t).Inv = s.Inv := by
  simp only [State.modeEffect, State.setMode_inv, State.joinBegin_inv, State.startEnds_inv, State.inv_mk, apply_ite State.Inv, ite_self]

theorem State.transDue_inv (s : State) (switched : Bool) : (s.transDue switched).Inv = s.Inv := by
  unfold State.transDue
  split <;> simp only [State.enterLockout_inv, State.modeRefused_inv, State.startEnds_inv, State.modeEffect_inv, State.when_inv, State.inv_mk,
    apply_ite State.Inv, ite_self]

theorem State.remoteReset_keeps_inv {s : State} (causes : BitVec 5) (kind : Nat) (h : s.Inv) : (s.remoteReset causes kind).Inv := by
  unfold State.remoteReset
  dsimp only
  split
  · simp only [State.clearCauses_inv, State.inv_mk, h]
  · refine State.restartDevice_keeps_inv _ ?_
    simp only [State.clearCauses_inv, State.inv_mk, h]

theorem State.rrRefused_inv (s : State) (r : Nat) : (s.rrRefused r).Inv = s.Inv := by
  simp only [State.rrRefused, State.raise_inv, State.log_inv]

theorem State.rrGo_keeps_inv {s : State} (o : Origin) (causes : BitVec 5) (kind : Nat) (h : s.Inv) : (s.rrGo o causes kind).Inv := by
  unfold State.rrGo
  extract_lets m u
  have hu : u.Inv := h
  split
  · rwa [State.refuse_inv, State.rrRefused_inv]
  · exact State.served_keeps_inv _ _ _ hu (State.remoteReset_keeps_inv causes kind hu)

theorem execRrGo_keeps_inv (o : Origin) (causes : BitVec 5) {s : State} (h : s.Inv) : invNext s (execRrGo o causes s) :=
  State.rrGo_keeps_inv o causes 1 h

theorem execCanRemoteReset_keeps_inv (f : CanFrame) {s : State} (h : s.Inv) : invNext s (execCanRemoteReset f s) := by
  unfold execCanRemoteReset
  dsimp only
  split
  · exact State.rrGo_keeps_inv _ _ _ h
  · exact h

theorem State.joinStart_inv (s : State) (o : Origin) : (s.joinStart o).Inv = s.Inv := by
  simp only [State.joinStart, State.modeReq_inv, State.setTrans_inv, State.inv_mk]

theorem execJoinCtrlStart_inv (o : Origin) (s : State) : invNext s (execJoinCtrlStart o s) = s.Inv := by
  simp only [execJoinCtrlStart, State.joinStart_inv, invNext_next]

theorem State.joinAbortReq_inv (s : State) : invOk s s.joinAbortReq = s.Inv := by
  simp only [State.joinAbortReq, State.joinAbort_inv, invOk_ok, invOk_error, apply_ite (invOk s), ite_self]

theorem execJoinCtrlAbort_inv (o : Origin) (s : State) : invNext s (execJoinCtrlAbort o s) = s.Inv := by
  simp only [execJoinCtrlAbort, State.served_inv, State.joinAbortReq_inv, invNext_next]

theorem State.siteOpen_inv (s : State) (x : Nat) : (s.siteOpen x).Inv = s.Inv := by
  simp only [State.siteOpen, State.updStr_inv, State.softReq_inv, State.disarm_inv]

theorem State.joinOpen_inv (s : State) (high : Bool) (mask : Word) : invOk s (s.joinOpen high mask) = s.Inv := by
  simp only [State.joinOpen, State.siteOpen_inv, foldS_inv, implies_true, invOk_ok]

theorem execJoinOpen_inv (o : Origin) (high : Bool) (mask : Word) (s : State) : invNext s (execJoinOpen o high mask s) = s.Inv := by
  simp only [execJoinOpen, State.served_inv, State.joinOpen_inv, invNext_next]

theorem State.weldClear_inv (s : State) (sel : Nat) : invOk s (s.weldClear sel) = s.Inv := by
  simp only [State.weldClear, State.updStr_inv, State.settle_inv, State.inv_mk, invOk_ok, invOk_error, apply_ite (invOk s), ite_self]

theorem execWeldClr_inv (o : Origin) (sel : BitVec 6) (s : State) : invNext s (execWeldClr o sel s) = s.Inv := by
  simp only [execWeldClr, State.served_inv, State.weldClear_inv, invNext_next]

theorem execBfcClear_inv (o : Origin) (v : Word) (s : State) : invNext s (execBfcClear o v s) = s.Inv := by
  simp only [execBfcClear, State.bfcClear_inv, State.served_inv, invNext_next]

theorem execPeakRead_inv (o : Origin) (q : Fin 16) (s : State) : invNext s (execPeakRead o q s) = s.Inv := by
  simp only [execPeakRead, State.peakTake_inv, State.answer_inv, invNext_next]

/-! ### Epoch -/

theorem State.peaksReset_inv (s : State) : s.peaksReset.Inv = s.Inv := by
  simp only [State.peaksReset, State.inv_mk]

theorem State.shadowEffect_inv (s : State) (w : ShadowWrite) : (s.shadowEffect w).Inv = s.Inv := by
  simp only [State.shadowEffect, State.updPage_inv, State.evtClear_inv, State.storeReg_inv, State.offlearn_inv, State.hopcalNow_inv,
    State.reenumNow_inv, State.wbClear_inv, State.wrlearn_inv, State.restoreEndNow_inv, State.hallOpenNow_inv, State.hallCloseNow_inv,
    State.flowDesc_inv, State.stepEight_inv, foldS_inv, State.when_inv, implies_true, State.inv_mk, apply_ite State.Inv, ite_self]

theorem State.applyShadow_inv (s : State) : s.applyShadow.Inv = s.Inv := by
  simp only [State.applyShadow, State.bumpCfg_inv, State.shadowEffect_inv, foldS_inv, implies_true, State.inv_mk, apply_ite State.Inv, ite_self]

theorem State.sendSched_inv (s : State) (p typ hop : Nat) (pl : List Byte) : (s.sendSched p typ hop pl).Inv = s.Inv := by
  simp only [State.sendSched, State.updPort_inv, State.chainOut_inv]

theorem State.sendSchedule_inv (s : State) (p : Nat) (n : Word) : (s.sendSchedule p n).Inv = s.Inv := by
  unfold State.sendSchedule
  split
  · refine foldl_keeps (fun a : State × Nat => a.1.Inv) _ _ _ fun a f => ?_
    simp only [apply_ite State.Inv, State.balSent_inv, State.wirePause_inv, State.sendSched_inv, ite_self]
  · rfl

theorem State.sendSuspicion_inv (s : State) (p : Nat) : (s.sendSuspicion p).Inv = s.Inv := by
  unfold State.sendSuspicion
  split
  · refine foldS_inv _ _ s fun t h => ?_
    dsimp only
    split
    · rw [State.wirePause_inv, State.updMod_inv, State.sendAdhoc_inv]
    · rfl
  · rfl

theorem State.learnInstant_inv (s : State) (p : Nat) (t : Nat) : (s.learnInstant p t).Inv = s.Inv := by
  simp only [State.learnInstant]
  (repeat' split) <;> simp only [State.updPort_inv, State.sendAdhoc_inv, State.balSent_inv]

theorem State.setBlock_inv (s : State) (p : Nat) (q : Half) (m : Nat) : (s.setBlock p q m).Inv = s.Inv := by
  simp only [State.setBlock, State.updPort_inv]

theorem State.reserveBlocks_inv (s : State) (n : Word) : (s.reserveBlocks n).Inv = s.Inv := by
  simp only [State.reserveBlocks, State.updPort_inv, State.sendPair_inv, State.setBlock_inv, foldS_inv, State.when_inv, implies_true,
    apply_ite State.Inv, ite_self]

theorem State.sendEpoch_inv (s : State) (n : Word) : (s.sendEpoch n).Inv = s.Inv := by
  simp only [State.sendEpoch, State.sendSchedule_inv, foldS_inv, implies_true, apply_ite State.Inv, ite_self]

theorem State.sampleLaunch_inv (s : State) (p : Nat) : (s.sampleLaunch p).Inv = s.Inv := by
  simp only [State.sampleLaunch, State.updPort_inv, State.updTxb_inv, State.chainOut_inv, apply_ite State.Inv]
  (repeat' split) <;> simp only [State.reach_inv, State.takeSeq_inv, State.wakeL2_inv]

theorem execSampleLaunch_inv (p : Port) (s : State) : invNext s (execSampleLaunch p s) = s.Inv := by
  simp only [execSampleLaunch, State.sampleLaunch_inv, invNext_next]

theorem State.acquire_inv (s : State) (r : RawEpoch) : (s.acquire r).Inv = s.Inv := by
  unfold State.acquire
  split <;> simp only [State.updPort_inv, foldS_inv, implies_true, State.inv_mk]

theorem State.portInstant_inv (s : State) (t p : Nat) : (s.portInstant t p).Inv = s.Inv := by
  simp only [State.portInstant, State.updPort_inv, State.writeMctrl_inv, apply_ite State.Inv, ite_self]

theorem State.showData_inv (s : State) : s.showData.Inv = s.Inv := by
  simp only [State.showData, State.updEng_inv, foldS_inv, implies_true]

theorem State.enginesInstant_inv (s : State) : s.enginesInstant.Inv = s.Inv := by
  simp only [State.enginesInstant, foldS_inv, engExt_inv, State.engTrigger_inv, State.updEng_inv, State.engWindow_inv, implies_true]

theorem State.authInstant_inv (s : State) : s.authInstant.Inv = s.Inv := by
  simp only [State.authInstant, State.updPort_inv, State.authPort_inv, State.authPending_inv, foldS_inv, implies_true, apply_ite State.Inv,
    ite_self]

theorem execSampleInstant_inv (cur : List CurIn) (s : State) : invNext s (execSampleInstant cur s) = s.Inv := by
  unfold execSampleInstant
  split
  · simp only [apply_ite (invNext s), invNext_next, State.inv_mk, State.authInstant_inv, foldS_inv, State.learnInstant_inv, State.sendSuspicion_inv,
      State.sendEpoch_inv, State.enginesInstant_inv, State.showData_inv, State.reserveBlocks_inv, State.codeInstant_inv, State.acquire_inv,
      State.portInstant_inv, State.peaksReset_inv, State.snapshotCur_inv, apply_ite State.Inv, State.applyStaged_inv, State.applyShadow_inv,
      State.transDue_inv, ite_self, implies_true]
    split <;> simp only [State.switchGen_inv, State.dropProposal_inv, State.wakeL2_inv, State.reach_inv]
  · rfl

theorem State.computeRegions_inv (s : State) (r : RawEpoch) : (s.computeRegions r).Inv = s.Inv := by
  simp only [State.computeRegions, State.setEp_inv, State.auxTake_inv, State.moduleEpoch_inv, State.learnEpoch_inv, State.estString_inv,
    State.planEpoch_inv, foldS_inv, foldl_inv, implies_true, State.inv_mk]

theorem execEpochComputation_inv (s : State) : invNext s (execEpochComputation s) = s.Inv := by
  unfold execEpochComputation
  split <;> simp only [State.applyStaged_inv, State.wakeL2_inv, State.computeRegions_inv, State.inv_mk, invNext_next]

theorem execDataTrigger_inv (s : State) : invNext s (execDataTrigger s) = s.Inv := by
  unfold execDataTrigger
  split <;> simp only [State.engInstall_inv, State.romLimits_inv, State.engWindow_inv, State.engTrigger_inv, State.inv_mk, invNext_next,
    apply_ite (invNext s), ite_self]

theorem State.loadWords_inv (s : State) (r : RawEpoch) (busyUs late : Nat) : (s.loadWords r busyUs late).Inv = s.Inv := by
  simp only [State.loadWords, State.raise_inv, State.log_inv, State.inv_mk, apply_ite State.Inv, ite_self]

theorem State.captureEpoch_inv (s : State) (r : RawEpoch) : (s.captureEpoch r).1.Inv = s.Inv := by
  simp only [State.captureEpoch, State.captureImages_inv, State.inv_mk, apply_ite Prod.fst, apply_ite State.Inv, ite_self]

theorem execEpochCommit_keeps_inv (busyUs lateUs : Nat) {s : State} (h : s.Inv) : invNext s (execEpochCommit busyUs lateUs s) := by
  unfold execEpochCommit
  split
  · split
    · exact h
    · dsimp only
      rw [invNext_next]
      refine State.landDecide_keeps_inv ?_
      simp only [State.flowEngine_inv, State.captureEpoch_inv, State.loadWords_inv, State.inv_mk, State.stallEnd_inv, foldS_inv,
        State.joinEpoch_inv,
        State.updChan_inv, State.effFollow_inv, State.commitBank_inv, State.publish_inv, apply_ite State.Inv, State.reach_inv, ite_self,
          implies_true, h]
  · exact h

/-! ### Supply -/

theorem State.txSent_inv (s : State) (x b : Nat) : (s.txSent x b).Inv = s.Inv := by
  unfold State.txSent
  dsimp only
  split <;> simp only [State.updCan_inv, State.updBuf_inv, State.emit_inv, State.flowNext_inv, State.freeWord_inv, apply_ite State.Inv, ite_self]

theorem execCanTxSent_inv (x : CanIx) (b : BufIx) (s : State) : invNext s (execCanTxSent x b s) = s.Inv := by
  simp only [execCanTxSent, State.txSent_inv, invNext_next, apply_ite (invNext s), ite_self]

theorem execCanError_inv (x : CanIx) (err : CanErr) (transmitting : Bool) (s : State) : invNext s (execCanError x err transmitting s) = s.Inv := by
  simp only [execCanError, State.updCan_inv, State.raise_inv, State.logN_inv, invNext_next, apply_ite (invNext s), apply_ite State.Inv, ite_self]
  (repeat' split) <;> simp only [State.updCan_inv, State.attemptFailed_inv, State.flowNext_inv]

theorem execVinSurge_inv (peak10mV durationMs : Nat) (s : State) : invNext s (execVinSurge peak10mV durationMs s) = s.Inv := by
  simp only [execVinSurge, State.raise_inv, State.inv_mk, invNext_next, apply_ite (invNext s), ite_self, invNext_fault]

theorem execVinSurgeEnd_inv (durationMs : Nat) (s : State) : invNext s (execVinSurgeEnd durationMs s) = s.Inv := by
  simp only [execVinSurgeEnd, State.logN_inv, State.inv_mk, invNext_next, apply_ite (invNext s), ite_self, invNext_fault]

theorem execVauxFault_inv (currentMa : Nat) (s : State) : invNext s (execVauxFault currentMa s) = s.Inv := by
  simp only [execVauxFault, State.raise_inv, State.logN_inv, State.inv_mk, invNext_next, apply_ite (invNext s), ite_self]

theorem execVauxRetry_inv (overload : Bool) (s : State) : invNext s (execVauxRetry overload s) = s.Inv := by
  simp only [execVauxRetry, State.inv_mk, invNext_next]

theorem State.setTj_inv (s : State) (tj : Int) : (s.setTj tj).Inv = s.Inv := by
  simp only [State.setTj, State.inv_mk]

theorem execTjHigh_inv (tj : Int) (s : State) : invNext s (execTjHigh tj s) = s.Inv := by
  simp only [execTjHigh, State.raise_inv, State.log_inv, State.setTj_inv, State.inv_mk, invNext_next, apply_ite (invNext s), ite_self]

theorem execTjHighClear_inv (tj : Int) (s : State) : invNext s (execTjHighClear tj s) = s.Inv := by
  simp only [execTjHighClear, State.setTj_inv, State.inv_mk, invNext_next]

/-! ### Startup -/

theorem execPowerOn_inv (s : State) : invNext s (execPowerOn s) = s.Inv := by
  unfold execPowerOn
  split
  · rfl
  · exact (State.withGal_inv s { s.gal with pcc := s.gal.pcc + 1 } rfl)

theorem execVinUndervoltage_keeps_inv {s : State} (h : s.Inv) : invNext s (execVinUndervoltage s) := by
  unfold execVinUndervoltage
  split
  · exact State.coldStart_keeps_inv _ _ h
  · exact h

theorem execResetN_keeps_inv (lowNs : Nat) {s : State} (h : s.Inv) : invNext s (execResetN lowNs s) := by
  unfold execResetN
  dsimp only
  split
  · exact h
  · split
    · split
      · exact State.coldStart_keeps_inv _ _ (by rwa [State.freeBool_inv])
      · rwa [invNext_next, State.freeBool_inv]
    · exact State.coldStart_keeps_inv _ _ h

theorem execStartupSupplySettled_inv (s : State) : invNext s (execStartupSupplySettled s) = s.Inv := by
  simp only [execStartupSupplySettled, State.stepTo_inv, invNext_next, apply_ite (invNext s), ite_self]

theorem State.bootHoldNow_inv (s : State) : s.bootHoldNow.Inv = s.Inv := by
  simp only [State.bootHoldNow, State.inv_mk]

theorem execStartupStrapsRead_inv (pairRoleHigh bootSelHigh : Bool) (s : State) :
    invNext s (execStartupStrapsRead pairRoleHigh bootSelHigh s) = s.Inv := by
  simp only [execStartupStrapsRead, State.stepTo_inv, State.stepFail_inv, State.bootHoldNow_inv, State.inv_mk, invNext_next,
    apply_ite (invNext s), ite_self]

theorem execFirmwareImageChecked_inv (s : State) : invNext s (execFirmwareImageChecked s) = s.Inv := by
  unfold execFirmwareImageChecked
  split
  · extract_lets v u b r
    have hu : u.Inv = s.Inv := by
      obtain ⟨ha, hb⟩ := FwSt.countStart_image s.fw
      have hfw := State.journalReplay_fw s
      exact (State.withFw_inv s.journalReplay s.fw.countStart (by rw [ha, hfw]) (by rw [hb, hfw])).trans (State.journalReplay_inv s)
    have hrun : ∀ c, ({ u with fw := u.fw.run c } : State).Inv = s.Inv := fun c => (State.withFw_inv u (u.fw.run c) rfl rfl).trans hu
    split
    · exact (State.stepTo_inv _ _).trans (hrun b)
    · split
      · exact (State.stepTo_inv _ _).trans ((State.log_inv _ _ _).trans (hrun !b))
      · rw [invNext_next, State.bootHoldNow_inv, State.stepFail_inv, hu]
  · rfl

theorem execGenerationSelected_inv (s : State) : invNext s (execGenerationSelected s) = s.Inv := by
  simp only [execGenerationSelected, State.updCan_inv, State.engInstall_inv, State.engGeneration_inv, State.selectGen_inv, State.stepTo_inv,
    State.stepFail_inv, foldS_inv, implies_true, State.inv_mk, invNext_next, apply_ite (invNext s), apply_ite State.Inv, ite_self]

theorem State.beginJoin_inv (s : State) : s.beginJoin.Inv = s.Inv := by
  simp only [State.beginJoin, State.sendPair_inv, State.inv_mk]

theorem State.becomeFirst_inv (s : State) : s.becomeFirst.Inv = s.Inv := by
  simp only [State.becomeFirst, State.portsStart_inv, State.inv_mk]

theorem State.takeRole_inv (s : State) : s.takeRole.Inv = s.Inv := by
  simp only [State.takeRole, State.beginJoin_inv, State.becomeFirst_inv, State.inv_mk, apply_ite State.Inv, ite_self]

theorem execStartupSelftestPassed_inv (bistOk : Bool) (failedPattern walkFail : Option Nat) (s : State) :
    invNext s (execStartupSelftestPassed bistOk failedPattern walkFail s) = s.Inv := by
  simp only [execStartupSelftestPassed, State.logN_inv, State.setMode_inv, State.lockout_inv, State.startEpochs_inv, State.startEnds_inv,
    State.stepTo_inv, State.stepFail_inv, State.takeRole_inv, State.inv_mk, invNext_next, apply_ite (invNext s), apply_ite State.Inv, ite_self]
  (repeat' split) <;> simp only [State.log_inv, State.lockout_inv, State.walkResult_inv, State.banStart_inv, State.stepFail_inv,
    State.freeWord_inv, State.inv_mk]

theorem execRoleWaitTimeout_inv (s : State) : invNext s (execRoleWaitTimeout s) = s.Inv := by
  unfold execRoleWaitTimeout
  split <;> simp only [State.reach_inv, State.becomeFirst_inv, invNext_next, apply_ite (invNext s), ite_self]

theorem State.authStart_inv (s : State) : s.authStart.Inv = s.Inv := by
  simp only [State.authStart, State.updPort_inv, State.authPort_inv, foldS_inv, implies_true]

theorem execPortsStarted_inv (s : State) : invNext s (execPortsStarted s) = s.Inv := by
  simp only [execPortsStarted, State.startEpochs_inv, State.stepTo_inv, State.stepFail_inv, State.authStart_inv, invNext_next,
    apply_ite (invNext s), apply_ite State.Inv, ite_self]

theorem execModulesAuthenticated_inv (s : State) : invNext s (execModulesAuthenticated s) = s.Inv := by
  simp only [execModulesAuthenticated, State.stepTo_inv, State.stepFail_inv, State.inv_mk, invNext_next, apply_ite (invNext s),
    apply_ite State.Inv, ite_self]

theorem execRestoreWaitEnd_inv (s : State) : invNext s (execRestoreWaitEnd s) = s.Inv := by
  simp only [execRestoreWaitEnd, State.reach_inv, State.restoreEndNow_inv, State.stepFail_inv, State.stepEight_inv, invNext_next,
    apply_ite (invNext s), apply_ite State.Inv, ite_self]

theorem State.wakeTrigger_inv (s : State) (src port : Nat) : (s.wakeTrigger src port).Inv = s.Inv := by
  simp only [State.wakeTrigger, State.setLanding_inv, State.engTrigger_inv, State.inv_mk, apply_ite State.Inv, ite_self]

theorem execWakeTone_inv (p : Port) (s : State) : invNext s (execWakeTone p s) = s.Inv := by
  simp only [execWakeTone, State.wakeTrigger_inv, State.inv_mk, invNext_next, apply_ite (invNext s), ite_self]

theorem execWakePatternMask_inv (p : Port) (durationMs : Nat) (s : State) : invNext s (execWakePatternMask p durationMs s) = s.Inv := by
  simp only [execWakePatternMask, State.raise_inv, State.logN_inv, State.inv_mk, invNext_next, apply_ite (invNext s), ite_self]

theorem execWakeIn_inv (s : State) : invNext s (execWakeIn s) = s.Inv := by
  simp only [execWakeIn, State.wakeTrigger_inv, State.inv_mk, invNext_next, apply_ite (invNext s), ite_self]

theorem execWakeSequenceDone_inv (s : State) : invNext s (execWakeSequenceDone s) = s.Inv := by
  simp only [execWakeSequenceDone, State.inv_mk, invNext_next, apply_ite (invNext s), ite_self]

theorem State.wmaskRearm_inv (s : State) (high : Bool) (mask quiet : Word) : invOk s (s.wmaskRearm high mask quiet) = s.Inv := by
  simp only [State.wmaskRearm, State.inv_mk, invOk_ok, invOk_error, apply_ite (invOk s), ite_self]

theorem execWmaskRearm_inv (o : Origin) (high : Bool) (mask quiet : Word) (s : State) : invNext s (execWmaskRearm o high mask quiet s) = s.Inv := by
  simp only [execWmaskRearm, State.served_inv, State.wmaskRearm_inv, invNext_next]

theorem execCanWake_inv (x : CanIx) (frame : Option CanFrame) (s : State) : invNext s (execCanWake x frame s) = s.Inv := by
  unfold execCanWake
  split <;> simp only [State.raise_inv, State.logN_inv, State.fifo0Put_inv, State.wakeTrigger_inv, State.inv_mk, invNext_next,
    apply_ite (invNext s), ite_self]

theorem execWakeMasked_inv (x : CanIx) (durationUs : Nat) (s : State) : invNext s (execWakeMasked x durationUs s) = s.Inv := by
  simp only [execWakeMasked, State.updCan_inv, State.raise_inv, State.logN_inv, invNext_next, apply_ite (invNext s), ite_self]

theorem execDormantRoleTimeout_inv (s : State) : invNext s (execDormantRoleTimeout s) = s.Inv := by
  unfold execDormantRoleTimeout
  split <;> simp only [State.reach_inv, State.wakeSequence_inv, State.inv_mk, invNext_next, apply_ite (invNext s), ite_self]

/-! ### Pair -/

theorem State.linkHeard_inv (s : State) : s.linkHeard.Inv = s.Inv := by
  simp only [State.linkHeard, State.inv_mk]

theorem State.termProbe_inv (s : State) : s.termProbe.Inv = s.Inv := by
  simp only [State.termProbe, State.sendAdhoc_inv, foldS_inv, implies_true]

theorem State.becomeActive_inv (s : State) : s.becomeActive.Inv = s.Inv := by
  simp only [State.becomeActive, State.updPort_inv, State.convTakeover_inv, foldl_inv, implies_true, State.inv_mk]

theorem State.takeover_inv (s : State) : s.takeover.Inv = s.Inv := by
  simp only [State.takeover, State.raise_inv, State.logN_inv, State.termProbe_inv, State.becomeActive_inv, State.inv_mk, apply_ite State.Inv,
    ite_self]

theorem State.partnerGone_inv (s : State) : s.partnerGone.Inv = s.Inv := by
  simp only [State.partnerGone]
  (repeat' split) <;> simp only [State.lockout_inv, State.takeover_inv, State.inv_mk]

theorem State.drillRefused_inv (s : State) : s.drillRefused.Inv = s.Inv := by
  simp only [State.drillRefused, State.raise_inv, State.logN_inv, State.inv_mk]

theorem State.linkLost_inv (s : State) : s.linkLost.Inv = s.Inv := by
  simp only [State.linkLost, State.raise_inv, State.logN_inv, State.banLinkLost_inv, State.partnerGone_inv, State.drillRefused_inv, State.inv_mk,
    apply_ite State.Inv, ite_self]

theorem execLaneDown_inv (k : Fin 2) (s : State) : invNext s (execLaneDown k s) = s.Inv := by
  simp only [execLaneDown, State.raise_inv, State.linkLost_inv, State.inv_mk, invNext_next, apply_ite (invNext s), apply_ite State.Inv, ite_self]

theorem execPathSilent_inv (alive : Bool) (s : State) : invNext s (execPathSilent alive s) = s.Inv := by
  simp only [execPathSilent, State.raise_inv, State.logN_inv, State.partnerGone_inv, State.linkLost_inv, State.inv_mk, invNext_next,
    apply_ite (invNext s), apply_ite State.Inv, ite_self]

theorem execPlAliveEdge_inv (halfPeriodUs : Nat) (s : State) : invNext s (execPlAliveEdge halfPeriodUs s) = s.Inv := by
  simp only [execPlAliveEdge, State.beginJoin_inv, State.inv_mk, invNext_next, apply_ite (invNext s), apply_ite State.Inv, ite_self]

theorem State.strapCheck_inv (s : State) (primary : Bool) : (s.strapCheck primary).Inv = s.Inv := by
  simp only [State.strapCheck, State.raise_inv, State.logN_inv, State.inv_mk, apply_ite State.Inv, ite_self]

theorem State.stayReady_inv (s : State) : s.stayReady.Inv = s.Inv := by
  simp only [State.stayReady, State.raise_inv, State.setMode_inv, State.startEnds_inv, State.inv_mk, apply_ite State.Inv, ite_self]

theorem State.wearMerge_inv (s : State) (l : List (Nat × Nat × Nat × Nat)) : (s.wearMerge l).Inv = s.Inv := by
  simp only [State.wearMerge, State.updCoil_inv, State.wearCheck_inv, foldS_inv, implies_true, apply_ite State.Inv, ite_self]

theorem State.mirrorJoin_inv (s : State) (sec : JoinSec) (strings : List (Nat × JoinSt)) (closes : List (Nat × Half)) :
    (s.mirrorJoin sec strings closes).Inv = s.Inv := by
  unfold State.mirrorJoin
  dsimp only
  refine (foldS_inv _ _ _ fun t c => ?_).trans ((foldS_inv _ _ _ fun t e => State.updStr_inv t _ _).trans rfl)
  split <;> simp only [apply_ite State.Inv, State.updCoil_inv, ite_self]

theorem State.mirrorConv_inv (s : State) (st : ConvSt) (w : Word) : (s.mirrorConv st w).Inv = s.Inv := by
  simp only [State.mirrorConv, State.inv_mk]

theorem State.mirrorPlan_inv (s : State) (e : Word) (p : List Shuttle) : (s.mirrorPlan e p).Inv = s.Inv := by
  simp only [State.mirrorPlan, State.setPlan_inv, State.inv_mk]

theorem State.raiseSeq_inv (s : State) (n : Word) : (s.raiseSeq n).Inv = s.Inv := by
  simp only [State.raiseSeq, apply_ite State.Inv, ite_self, State.withGal_inv]

theorem State.mirrorLockout_inv (s : State) (md : Mode) (causes : BitVec 5) : (s.mirrorLockout md causes).Inv = s.Inv := by
  simp only [State.mirrorLockout, State.lockout_inv, State.enterLockout_inv, State.clearCauses_inv, foldS_inv, State.freeWord_inv, implies_true,
    State.inv_mk, apply_ite State.Inv, ite_self]

theorem State.portsMirrored_inv (s : State) : s.portsMirrored.Inv = s.Inv := by
  simp only [State.portsMirrored, State.updPort_inv, foldS_inv, implies_true]

theorem State.joinMode_inv (s : State) : s.joinMode.Inv = s.Inv := by
  simp only [State.joinMode, State.inv_mk, apply_ite State.Inv, ite_self]

theorem State.joinComplete_inv (s : State) : s.joinComplete.Inv = s.Inv := by
  simp only [State.joinComplete, State.raise_inv, State.logN_inv, State.startCompleted_inv, State.restoreEndNow_inv, State.portsMirrored_inv,
    State.joinMode_inv, State.inv_mk]

theorem State.joinItem_inv (s : State) (i : SyncItem) : (s.joinItem i).Inv = s.Inv := by
  unfold State.joinItem
  split <;> simp only [State.updBpair_inv, State.log_inv, State.correct_inv, State.banEval_inv, State.applyImage_inv, State.strapCheck_inv,
    State.stayReady_inv, State.wearMerge_inv, State.mirrorJoin_inv, State.mirrorConv_inv, State.mirrorPlan_inv, State.raiseSeq_inv,
    State.joinComplete_inv, foldS_inv, implies_true, State.inv_mk, apply_ite State.Inv, ite_self]

theorem State.joinAnswer_inv (s : State) : s.joinAnswer.Inv = s.Inv := by
  simp only [State.joinAnswer, State.sendPair_inv, foldS_inv, implies_true]

theorem State.codeMirror_inv (s : State) (l : List Byte) : (s.codeMirror l).Inv = s.Inv := by
  simp only [State.codeMirror, State.sendPair_inv, State.codeRefuse_inv, apply_ite State.Inv, ite_self, State.withCode_inv]

theorem execSync_inv (item : SyncItem) (s : State) : invNext s (execSync item s) = s.Inv := by
  unfold execSync
  repeat' split
  all_goals simp only [State.sendPair_inv, State.linkHeard_inv, State.strapCheck_inv, State.joinItem_inv, State.joinAnswer_inv,
    State.codeMirror_inv, State.inv_mk, invNext_next, apply_ite (invNext s), apply_ite State.Inv, ite_self]

theorem execSegmentTimeout_inv (typ : Byte) (s : State) : invNext s (execSegmentTimeout typ s) = s.Inv := by
  simp only [execSegmentTimeout, State.beginJoin_inv, State.inv_mk, invNext_next, apply_ite State.Inv, ite_self]

theorem execHeartbeat_inv (h : Heartbeat) (s : State) : invNext s (execHeartbeat h s) = s.Inv := by
  simp only [execHeartbeat, State.goPassive_inv, State.beginJoin_inv, State.linkHeard_inv, State.strapCheck_inv, State.inv_mk, invNext_next,
    apply_ite (invNext s), apply_ite State.Inv, ite_self]

theorem execHeartbeatTx_inv (s : State) : invNext s (execHeartbeatTx s) = s.Inv := by
  simp only [execHeartbeatTx, State.sendPair_inv, invNext_next, apply_ite (invNext s), ite_self]

theorem execTime_keeps_inv (sentAt echoOf echoRx received : Nat) {s : State} (h : s.Inv) :
    invNext s (execTime sentAt echoOf echoRx received s) := by
  unfold execTime
  split
  · exact h
  · extract_lets u rt d off p v
    have hv : v.Inv := by
      simp only [v, u, State.inv_mk, State.reach_inv, State.linkHeard_inv, h]
    split
    · split
      · exact State.restartDevice_keeps_inv _ hv
      · rwa [invNext_next, State.correct_inv]
    · exact hv

theorem execTimeTx_inv (s : State) : invNext s (execTimeTx s) = s.Inv := by
  simp only [execTimeTx, State.sendPair_inv, invNext_next, apply_ite (invNext s), ite_self]

theorem State.mirrorSwitch_inv (s : State) (id epoch : Word) : (s.mirrorSwitch id epoch).Inv = s.Inv := by
  simp only [State.mirrorSwitch, State.inv_mk, apply_ite State.Inv]
  (repeat' split) <;> simp only [State.sendPair_inv, State.inv_mk]

theorem execState_inv (m : StateMsg) (s : State) : invNext s (execState m s) = s.Inv := by
  simp only [execState, State.setMode_inv, State.startEnds_inv, State.linkHeard_inv, State.wearMerge_inv, State.mirrorJoin_inv,
    State.mirrorConv_inv, State.mirrorLockout_inv, State.mirrorSwitch_inv, State.when_inv, State.inv_mk, invNext_next, apply_ite (invNext s),
    apply_ite State.Inv, ite_self]

theorem execStateTx_inv (s : State) : invNext s (execStateTx s) = s.Inv := by
  simp only [execStateTx, State.sendPair_inv, State.inv_mk, invNext_next, apply_ite (invNext s), ite_self]

theorem execBlock_inv (epoch : Word) (blocks : List (Nat × Half × Half)) (s : State) : invNext s (execBlock epoch blocks s) = s.Inv := by
  simp only [execBlock, State.setBlock_inv, State.sendEpoch_inv, State.linkHeard_inv, foldS_inv, implies_true, State.inv_mk, invNext_next,
    apply_ite (invNext s), ite_self]

theorem execPlan_inv (epoch : Word) (p : List Shuttle) (s : State) : invNext s (execPlan epoch p s) = s.Inv := by
  simp only [execPlan, State.linkHeard_inv, State.mirrorPlan_inv, State.inv_mk, invNext_next, apply_ite (invNext s), ite_self]

theorem execContext_inv (kind : Byte) (applyEpoch : Word) (image : List Byte) (s : State) :
    invNext s (execContext kind applyEpoch image s) = s.Inv := by
  simp only [execContext, State.linkHeard_inv, State.inv_mk, invNext_next, apply_ite (invNext s), apply_ite State.Inv, ite_self]

theorem execGseq_inv (n : Word) (s : State) : invNext s (execGseq n s) = s.Inv := by
  simp only [execGseq, State.linkHeard_inv, State.raiseSeq_inv, invNext_next, apply_ite (invNext s), ite_self]

theorem State.handoverAgain_inv (s : State) (h : Handover) : (s.handoverAgain h).Inv = s.Inv := by
  simp only [State.handoverAgain, State.askHandover_inv, State.drillRefused_inv, apply_ite State.Inv, ite_self]
  (repeat' split) <;> simp only [State.raise_inv, State.logN_inv, State.lockout_inv, State.inv_mk]

theorem execHandoverRequest_inv (instant cause : Nat) (s : State) : invNext s (execHandoverRequest instant cause s) = s.Inv := by
  simp only [execHandoverRequest, State.sendPair_inv, State.linkHeard_inv, State.inv_mk, invNext_next, apply_ite (invNext s), ite_self]

theorem execHandoverAccept_inv (at_ : Nat) (s : State) : invNext s (execHandoverAccept at_ s) = s.Inv := by
  unfold execHandoverAccept
  split <;> simp only [State.reach_inv, State.linkHeard_inv, State.handoverAgain_inv, State.inv_mk, invNext_next, apply_ite (invNext s), ite_self]

theorem execHandoverRefuse_inv (s : State) : invNext s (execHandoverRefuse s) = s.Inv := by
  unfold execHandoverRefuse
  split <;> simp only [State.linkHeard_inv, State.handoverAgain_inv, invNext_next, apply_ite (invNext s), ite_self]

theorem State.becomeStandby_keeps_inv {s : State} (cause : Nat) (h : s.Inv) : (s.becomeStandby cause).Inv := by
  unfold State.becomeStandby
  dsimp only
  split
  · split
    · exact State.restartDevice_keeps_inv _ h
    · exact h
  · rw [State.lockoutAlone_inv]
    exact h

theorem State.drillBegin_inv (s : State) : s.drillBegin.Inv = s.Inv := by
  simp only [State.drillBegin, State.sendAdhoc_inv, foldS_inv, implies_true, State.inv_mk, apply_ite State.Inv, ite_self]

theorem execHandoverInstant_keeps_inv {s : State} (h : s.Inv) : invNext s (execHandoverInstant s) := by
  unfold execHandoverInstant
  split
  · split
    · exact h
    · dsimp only
      split
      · refine State.becomeStandby_keeps_inv _ ?_
        simp only [State.inv_mk, State.raise_inv, State.logN_inv, State.reach_inv, h]
      · simp only [invNext_next, apply_ite State.Inv, State.drillBegin_inv, State.becomeActive_inv, State.inv_mk, State.raise_inv, State.logN_inv,
          State.reach_inv, ite_self, h]
  · exact h

theorem execTermProbe_inv (s : State) : invNext s (execTermProbe s) = s.Inv := by
  simp only [execTermProbe, State.termProbe_inv, invNext_next, apply_ite (invNext s), ite_self]

theorem execBaseIdResume_inv (s : State) : invNext s (execBaseIdResume s) = s.Inv := by
  unfold execBaseIdResume
  split <;> simp only [State.reach_inv, State.inv_mk, invNext_next]

theorem execRevert_inv (s : State) : invNext s (execRevert s) = s.Inv := by
  unfold execRevert
  split <;> simp only [State.reach_inv, State.sendPair_inv, State.inv_mk, invNext_next, apply_ite (invNext s), ite_self]

theorem execRevertRequest_inv (s : State) : invNext s (execRevertRequest s) = s.Inv := by
  simp only [execRevertRequest, State.askHandover_inv, State.linkHeard_inv, invNext_next, apply_ite (invNext s), ite_self]

theorem State.swapDrill_inv (s : State) : invOk s s.swapDrill = s.Inv := by
  simp only [State.swapDrill, State.askHandover_inv, State.inv_mk, invOk_ok, invOk_error, apply_ite (invOk s), ite_self]

theorem execSwap_inv (o : Origin) (s : State) : invNext s (execSwap o s) = s.Inv := by
  simp only [execSwap, State.served_inv, State.swapDrill_inv, invNext_next]

theorem execDrillCheck_inv (r : DrillResult) (s : State) : invNext s (execDrillCheck r s) = s.Inv := by
  simp only [execDrillCheck, State.raise_inv, State.logN_inv, State.askHandover_inv, State.inv_mk, invNext_next, apply_ite (invNext s),
    apply_ite State.Inv, ite_self]

theorem State.restartReq_keeps_inv {s : State} (h : s.Inv) : invOk s s.restartReq := by
  unfold State.restartReq
  dsimp only
  split
  · rwa [invOk_ok, State.askHandover_inv]
  · split
    · exact h
    · exact State.restartDevice_keeps_inv _ h

theorem execRestart_keeps_inv (o : Origin) {s : State} (h : s.Inv) : invNext s (execRestart o s) :=
  State.served_keeps_inv _ _ _ h (State.restartReq_keeps_inv h)

/-! ### Views -/

theorem State.readLatched_inv (s : State) (o : Origin) (pg off : Nat) : (s.readLatched o pg off).2.Inv = s.Inv := by
  simp only [State.readLatched, State.updLatchOf_inv, State.peakTake_inv, apply_ite Prod.snd, apply_ite State.Inv, ite_self]

theorem State.readWord_inv (s : State) (o : Origin) (addr : Nat) : (s.readWord o addr).2.2.Inv = s.Inv := by
  unfold State.readWord
  split
  · rfl
  · split
    · exact State.readLatched_inv s o _ _
    · split
      · split <;> rfl
      · split <;> rfl

/-! ### Serve -/

theorem State.stwEnd_inv (s : State) (cause : Nat) : (s.stwEnd cause).Inv = s.Inv := by
  simp only [State.stwEnd, State.logN_inv, State.lockOwned_inv, State.setSession_inv, State.debugResume_inv, State.hallCloseNow_inv, State.inv_mk,
    apply_ite State.Inv, ite_self]

theorem State.lockWrite_inv (s : State) (o : Origin) (pg : Nat) (v : Word) : invOk s (s.lockWrite o pg v) = s.Inv := by
  simp only [State.lockWrite, State.updPage_inv, State.raise_inv, State.lockPage_inv, State.inv_mk, invOk_ok, invOk_error, apply_ite (invOk s),
    ite_self]

theorem State.lockServed_inv (s : State) (o : Origin) (pg : Nat) (v : Word) : (s.lockServed o pg v).Inv = s.Inv := by
  have hw := State.lockWrite_inv s o pg v
  unfold State.lockServed
  split
  · exact State.answer_inv _ _ _ _
  · split
    · exact State.refuse_inv _ _ _ _ _
    · split
      · next t e =>
        rw [e] at hw
        simp only [apply_ite State.Inv, State.answer_inv, ite_self]
        exact hw
      · exact State.refuse_inv _ _ _ _ _

theorem execUnlock_inv (o : Origin) (page : BitVec 7) (key : Word) (s : State) : invNext s (execUnlock o page key s) = s.Inv := by
  simp only [execUnlock, State.lockServed_inv, invNext_next]

theorem execLock_inv (o : Origin) (page : BitVec 7) (s : State) : invNext s (execLock o page s) = s.Inv := by
  simp only [execLock, State.lockServed_inv, invNext_next]

theorem State.evtServed_inv (s : State) (o : Origin) (pg : Nat) (m : Word) : (s.evtServed o pg m).Inv = s.Inv := by
  simp only [State.evtServed, State.evtClear_inv, State.answer_inv, State.refuse_inv, State.toShadow_inv, apply_ite State.Inv, ite_self]

theorem execEvtClear_inv (o : Origin) (page : BitVec 7) (mask : Word) (s : State) : invNext s (execEvtClear o page mask s) = s.Inv := by
  simp only [execEvtClear, State.evtServed_inv, invNext_next]

/-! ### HostPort -/

theorem State.crcError_inv (s : State) (n : Nat) : (s.crcError n).Inv = s.Inv := by
  simp only [State.crcError, State.emit_inv, State.raise_inv]

/-! ### Views -/

theorem State.readWords_inv (s : State) (o : Origin) (addr n : Nat) : (s.readWords o addr n).2.Inv = s.Inv := by
  induction n generalizing s addr with
  | zero => rfl
  | succ n ih => exact (ih _ _).trans (State.readWord_inv s o addr)

/-! ### HostPort -/

theorem execRead_inv (lanes : Lanes) (addr : Word) (len hcrc : Half) (s : State) : invNext s (execRead lanes addr len hcrc s) = s.Inv := by
  simp only [execRead, apply_ite (invNext s), invNext_next, State.crcError_inv, State.emit_inv, State.readWords_inv, ite_self]

theorem execFifoRead_keeps_inv (lanes : Lanes) (addr : Word) (len hcrc : Half) {s : State} (h : s.Inv) :
    invNext s (execFifoRead lanes addr len hcrc s) := by
  unfold execFifoRead
  extract_lets n ws
  split
  · rwa [invNext_next, State.crcError_inv]
  · split
    · rwa [invNext_next, State.emit_inv]
    · obtain ⟨hmem, hgal, hhost⟩ := h
      exact ⟨hmem, hgal, Nat.le_trans (by simp) hhost⟩

theorem execHostCmdError_inv (cmd : Byte) (s : State) : invNext s (execHostCmdError cmd s) = s.Inv := by
  simp only [execHostCmdError, State.raise_inv, invNext_next, apply_ite (invNext s), ite_self]

theorem State.fifoFlush_keeps_inv {s : State} (h : s.Inv) : s.fifoFlush.Inv := by
  obtain ⟨hmem, hgal, _⟩ := h
  exact ⟨hmem, hgal, Nat.zero_le _⟩

theorem execFifoFlush_keeps_inv (o : Origin) {s : State} (h : s.Inv) : invNext s (execFifoFlush o s) :=
  State.served_keeps_inv _ _ _ h (State.fifoFlush_keeps_inv h)

theorem State.wakeClr_inv (s : State) : s.wakeClr.Inv = s.Inv := by
  simp only [State.wakeClr, State.inv_mk]

theorem execWakeClr_inv (o : Origin) (s : State) : invNext s (execWakeClr o s) = s.Inv := by
  simp only [execWakeClr, State.served_inv, State.wakeClr_inv, invNext_next, invOk_ok]

theorem State.readOne_inv (s : State) (o : Origin) (addr : Nat) : (s.readOne o addr).Inv = s.Inv := by
  rw [State.readOne, State.answer_inv, State.readWord_inv]

theorem execLowWordRead_inv (o : Origin) (addr : Word) (s : State) : invNext s (execLowWordRead o addr s) = s.Inv := by
  simp only [execLowWordRead, State.readOne_inv, invNext_next]

theorem execCtxWord0Read_inv (o : Origin) (s : State) : invNext s (execCtxWord0Read o s) = s.Inv := by
  simp only [execCtxWord0Read, State.readOne_inv, invNext_next]

/-! ### Stairwell -/

theorem State.say_inv (s : State) (status : Nat) : (s.say status).Inv = s.Inv := by
  simp only [State.say, State.emit_inv]

theorem State.sayWords_inv (s : State) (ws : List Word) : (s.sayWords ws).Inv = s.Inv := by
  simp only [State.sayWords, State.emit_inv]

/-- A command of the Stairwell keeps the invariant where its effect does. -/
theorem State.stwCmd_inv (s : State) (l : Level) (f : State → State) (h : ∀ t, (f t).Inv = t.Inv) : (s.stwCmd l f).Inv = s.Inv := by
  simp only [State.stwCmd, apply_ite State.Inv, h, State.say_inv, State.inv_mk, ite_self]

theorem State.stwCmd_keeps_inv {s : State} (l : Level) {f : State → State} (h : s.Inv) (hf : ∀ t, t.Inv → (f t).Inv) : (s.stwCmd l f).Inv := by
  unfold State.stwCmd
  extract_lets l u
  split
  · exact hf u h
  · rwa [State.say_inv]

theorem execStwHelp_inv (s : State) : invNext s (execStwHelp s) = s.Inv := by
  simp only [execStwHelp, State.say_inv, State.stwCmd_inv, invNext_next, implies_true]

theorem State.login_inv (s : State) (l : Level) (pw : List Byte) : (s.login l pw).Inv = s.Inv := by
  simp only [State.login, State.raise_inv, State.logN_inv, State.lapseSession_inv, State.say_inv, State.inv_mk, apply_ite State.Inv, ite_self]

theorem execStwLogin_inv (level : Level) (password : List Byte) (s : State) : invNext s (execStwLogin level password s) = s.Inv := by
  simp only [execStwLogin, State.stwCmd_inv, State.login_inv, invNext_next, implies_true]

theorem execLoginHoldEnd_inv (s : State) : invNext s (execLoginHoldEnd s) = s.Inv := by
  unfold execLoginHoldEnd
  split <;> simp only [State.reach_inv, State.inv_mk, invNext_next]

theorem execStwLogout_inv (s : State) : invNext s (execStwLogout s) = s.Inv := by
  simp only [execStwLogout, State.stwEnd_inv, State.say_inv, State.stwCmd_inv, invNext_next, implies_true]

theorem execStwIdleTimeout_inv (s : State) : invNext s (execStwIdleTimeout s) = s.Inv := by
  simp only [execStwIdleTimeout, State.reach_inv, State.stwEnd_inv, invNext_next]

theorem execStwBreak_inv (s : State) : invNext s (execStwBreak s) = s.Inv := by
  simp only [execStwBreak, State.stwEnd_inv, invNext_next]

theorem execKick_inv (o : Origin) (s : State) : invNext s (execKick o s) = s.Inv := by
  simp only [execKick, State.served_inv, State.stwEnd_inv, invNext_next, invOk_ok]

theorem execBaud_inv (r : Nat) (s : State) : invNext s (execBaud r s) = s.Inv := by
  simp only [execBaud, State.say_inv, State.stwCmd_inv, State.inv_mk, invNext_next, apply_ite State.Inv, ite_self, implies_true]

theorem execBaudSwitch_inv (s : State) : invNext s (execBaudSwitch s) = s.Inv := by
  unfold execBaudSwitch
  split <;> simp only [State.reach_inv, State.inv_mk, invNext_next]

theorem execPeek_inv (addr : Word) (n : Nat) (s : State) : invNext s (execPeek addr n s) = s.Inv := by
  simp only [execPeek, State.emit_inv, State.say_inv, State.stwCmd_inv, invNext_next, apply_ite State.Inv, ite_self, implies_true,
    State.readWords_inv]

theorem execStwHall_inv (off : Word) (n : Nat) (s : State) : invNext s (execStwHall off n s) = s.Inv := by
  simp only [execStwHall, State.hallOpenNow_inv, State.hallCloseNow_inv, State.say_inv, State.sayWords_inv, State.stwCmd_inv, invNext_next,
    apply_ite State.Inv, ite_self, implies_true]

theorem State.stwWrite_inv (s : State) (addr v : Word) (status : Nat) : (s.stwWrite addr v status).Inv = s.Inv := by
  simp only [State.stwWrite, State.log_inv, State.say_inv]

theorem execTrace_inv (p : Port) (n : Nat) (tones : Bool) (s : State) : invNext s (execTrace p n tones s) = s.Inv := by
  simp only [execTrace, State.say_inv, State.stwCmd_inv, State.inv_mk, invNext_next, apply_ite State.Inv, ite_self, implies_true]

theorem State.debugCmd_inv (s : State) (f : State → State) (h : ∀ t, (f t).Inv = t.Inv) : (s.debugCmd f).Inv = s.Inv := by
  simp only [State.debugCmd, apply_ite State.Inv, h, State.say_inv, State.inv_mk, ite_self]

theorem State.haltedCmd_inv (s : State) (f : State → State) (h : ∀ t, (f t).Inv = t.Inv) : (s.haltedCmd f).Inv = s.Inv :=
  State.debugCmd_inv s _ fun t => by simp only [apply_ite State.Inv, h, State.say_inv, ite_self]

theorem execCoreHalt_inv (s : State) : invNext s (execCoreHalt s) = s.Inv := by
  simp only [execCoreHalt, State.debugHalt_inv, State.say_inv, State.debugCmd_inv, invNext_next, apply_ite State.Inv, ite_self, implies_true]

theorem execCoreStep_inv (n : Nat) (s : State) : invNext s (execCoreStep n s) = s.Inv := by
  simp only [execCoreStep, State.debugAction_inv, State.say_inv, State.haltedCmd_inv, State.inv_mk, invNext_next, implies_true]

theorem State.freeWords_inv (s : State) (n : Nat) : (s.freeWords n).2.Inv = s.Inv := by
  induction n generalizing s with
  | zero => rfl
  | succ n ih => exact (ih _).trans (State.freeWord_inv s)

theorem execCoreRegs_inv (s : State) : invNext s (execCoreRegs s) = s.Inv :=
  State.haltedCmd_inv s _ fun t => by
    rw [State.sayWords_inv, State.freeWords_inv, State.freeWord_inv]

theorem execCoreMem_inv (addr : Word) (n : Nat) (s : State) : invNext s (execCoreMem addr n s) = s.Inv :=
  State.haltedCmd_inv s _ fun t => by
    rw [apply_ite State.Inv, State.say_inv, State.sayWords_inv, State.freeWords_inv, ite_self]

theorem execCoreWrite_inv (addr v : Word) (s : State) : invNext s (execCoreWrite addr v s) = s.Inv := by
  simp only [execCoreWrite, State.debugAction_inv, State.say_inv, State.haltedCmd_inv, State.inv_mk, invNext_next, implies_true]

theorem execCoreResume_inv (s : State) : invNext s (execCoreResume s) = s.Inv := by
  simp only [execCoreResume, State.debugResume_inv, State.say_inv, State.haltedCmd_inv, State.inv_mk, invNext_next, implies_true]

theorem State.otpStage_keeps_inv {s : State} (image : List Byte) (h : s.Inv) : invOk s (s.otpStage image) := by
  have hc := State.stageClr_keeps_inv h
  unfold State.otpStage
  split
  · exact h
  · next t e =>
    rw [e] at hc
    obtain ⟨⟨hbuf, hmem⟩, hfifo⟩ := hc
    split
    · exact h
    · exact ⟨⟨Memory.wf_write _ _ _ hbuf, hmem⟩, hfifo⟩

theorem execOtpStage_keeps_inv (image : List Byte) {s : State} (h : s.Inv) : invNext s (execOtpStage image s) :=
  State.stwCmd_keeps_inv .service h fun _ ht => State.served_keeps_inv _ _ _ ht (State.otpStage_keeps_inv image ht)

theorem execShed_inv (loadPct : Nat) (s : State) : invNext s (execShed loadPct s) = s.Inv := by
  simp only [execShed, State.raise_inv, State.logN_inv, foldS_inv, implies_true, State.inv_mk, invNext_next]

theorem State.stageLost_keeps_inv {s : State} (h : s.Inv) : s.stageLost.Inv := by
  obtain ⟨⟨_, _, ha, hb, hmem⟩, hfifo⟩ := h
  unfold State.stageLost
  dsimp only
  split <;> exact ⟨⟨Memory.wf_nil, Memory.wf_nil, ha, hb, hmem⟩, hfifo⟩

theorem execMgmtWatchdogMiss_keeps_inv {s : State} (h : s.Inv) : invNext s (execMgmtWatchdogMiss s) := by
  unfold execMgmtWatchdogMiss
  split
  · exact h
  · rw [invNext_next, State.inv_mk]
    refine State.stageLost_keeps_inv ?_
    rwa [State.lockOwned_inv, State.lockOwned_inv, State.stwEnd_inv, State.logN_inv]

theorem execMgmtRestartDone_inv (s : State) : invNext s (execMgmtRestartDone s) = s.Inv := by
  simp only [execMgmtRestartDone, State.drainFifo1_inv, foldS_inv, implies_true, State.inv_mk, invNext_next, apply_ite (invNext s), ite_self]

end Sys2Proof.Machine
end

section
/-! The invariant through the writes of a register, and through a step: what an effect leaves, what a write leaves, and the command at the
front of the queue. -/
namespace Sys2Proof.Machine

/-- The invariant of the state that an effect leaves. -/
def Effect.Inv : Effect → Prop
  | .ok t => t.Inv
  | .done t => t.Inv
  | .refused _ t => t.Inv
theorem State.took_keeps_inv {s : State} {r : Except Refuse State} (h : s.Inv) (hr : invOk s r) : (s.took r).Inv := by
  cases r with
  | ok t => exact hr
  | error e => exact h
theorem State.took_inv {s : State} {r : Except Refuse State} (h : s.Inv) (hr : invOk s r = s.Inv) : (s.took r).Inv :=
  State.took_keeps_inv h (hr ▸ h)
/-- Several bits keep the invariant where each bit's effect does. -/
theorem State.bits_keeps_inv {s : State} {l : List (Bool × (State → Except Refuse State))} (h : s.Inv)
    (hl : ∀ b ∈ l, ∀ t : State, t.Inv → invOk t (b.2 t)) : (s.bits l).Inv := by
  have hfold : ∀ (l : List (Bool × (State → Except Refuse State))) (r : Except Refuse State), invOk s r →
      (∀ b ∈ l, ∀ t : State, t.Inv → invOk t (b.2 t)) →
      invOk s (l.foldl (fun r b => match r with | .ok t => (if b.1 then b.2 t else .ok t) | .error e => .error e) r) := by
    intro l
    induction l with
    | nil => exact fun r hr _ => hr
    | cons b l ih =>
      intro r hr hb
      refine ih _ ?_ fun c hc => hb c (List.mem_cons_of_mem _ hc)
      cases r with
      | error e => exact hr
      | ok t =>
        have ht := hb b List.mem_cons_self t hr
        dsimp only
        split
        · generalize b.2 t = r' at ht
          cases r' with
          | ok u => exact ht
          | error e => exact h
        · exact hr
  exact State.took_keeps_inv h (hfold l (.ok s) h hl)
/-- One set bit. -/
theorem State.bits_one_keeps_inv {s : State} {c : Bool} {f : State → Except Refuse State} (h : s.Inv)
    (hf : ∀ t : State, t.Inv → invOk t (f t)) : (s.bits [(c, f)]).Inv :=
  State.bits_keeps_inv h fun b hb t ht => by
    rw [List.mem_singleton.mp hb]
    exact hf t ht
theorem State.bits_two_keeps_inv {s : State} {c d : Bool} {f g : State → Except Refuse State} (h : s.Inv)
    (hf : ∀ t : State, t.Inv → invOk t (f t)) (hg : ∀ t : State, t.Inv → invOk t (g t)) : (s.bits [(c, f), (d, g)]).Inv := by
  refine State.bits_keeps_inv h (List.forall_mem_cons.mpr ⟨hf, List.forall_mem_singleton.mpr hg⟩)
/-- An effect that keeps the invariant of every state, as a bit of a CTRL register. -/
theorem invOk_of_eq {f : State → Except Refuse State} (hf : ∀ t : State, invOk t (f t) = t.Inv) (t : State) (h : t.Inv) : invOk t (f t) := by
  rwa [hf]

theorem Effect.inv_ite {c : Prop} [Decidable c] {x y : Effect} (hx : x.Inv) (hy : y.Inv) : (if c then x else y).Inv := by
  split
  · exact hx
  · exact hy

theorem State.effControl_keeps_inv {s : State} (o : Origin) (pg off : Nat) (v : Word) (h : s.Inv) : (s.effControl o pg off v).Inv := by
  unfold State.effControl
  extract_lets b
  refine Effect.inv_ite (Effect.inv_ite ?_ (Effect.inv_ite ?_ ?_)) ?_
  · exact (State.askDormant_inv _ _ _).mpr h
  · exact (State.askCommission_inv s o).mpr h
  · exact (State.siteReady_inv s o).mpr h
  refine Effect.inv_ite (Effect.inv_ite (State.rrGo_keeps_inv o _ 1 h) h) ?_
  refine Effect.inv_ite h (Effect.inv_ite h (Effect.inv_ite h ?_))
  refine Effect.inv_ite (State.bits_one_keeps_inv h (invOk_of_eq State.protClear_inv)) ?_
  refine Effect.inv_ite (State.bits_two_keeps_inv h (invOk_of_eq fun t => State.storeReg_inv t pg off v)
    (invOk_of_eq fun t => State.weldClear_inv t _)) ?_
  refine Effect.inv_ite (Effect.inv_ite h (Effect.inv_ite ((State.joinStart_inv s o).mpr h)
    (State.bits_one_keeps_inv h (invOk_of_eq State.joinAbortReq_inv)))) ?_
  refine Effect.inv_ite ?_ ?_
  · refine (foldS_inv _ _ _ fun t x => ?_).mpr ((State.storeReg_inv s pg off v).mpr h)
    rw [apply_ite State.Inv, State.settle_inv, ite_self]
  refine Effect.inv_ite (State.took_inv h (State.joinOpen_inv _ _ _)) ?_
  refine Effect.inv_ite (State.took_inv h (State.bfcClear_inv _ _ _)) ?_
  refine Effect.inv_ite (State.bits_one_keeps_inv h (invOk_of_eq State.walkStart_inv)) ?_
  refine Effect.inv_ite (State.took_inv h (State.thSelect_inv _ _)) ?_
  refine Effect.inv_ite (State.bits_two_keeps_inv h (invOk_of_eq fun t => State.coreSplit_inv t o) (invOk_of_eq State.coreRejoin_inv)) ?_
  refine Effect.inv_ite (State.bits_two_keeps_inv h (invOk_of_eq State.swapDrill_inv) fun _ => State.restartReq_keeps_inv) ?_
  exact (State.storeReg_inv s pg off v).mpr h

theorem State.effCan_keeps_inv {s : State} (o : Origin) (pg off : Nat) (v : Word) (h : s.Inv) : (s.effCan o pg off v).Inv := by
  unfold State.effCan
  extract_lets x own old l b
  refine Effect.inv_ite h (Effect.inv_ite (Effect.inv_ite h ?_) ?_)
  · split
    next fr t e =>
    have ht : t.Inv := by
      refine (State.inv_of_snd e ?_).mpr h
      rw [apply_ite Prod.snd, apply_ite State.Inv, State.freeBool_inv, ite_self]
    have hl : ∀ u, u.Inv → invOk s (l u) := fun u hu => by
      have hs : (u.storeReg pg off v).Inv := (State.storeReg_inv u pg off v).mpr hu
      change State.Inv _
      split
      · exact hs
      · exact (State.updCan_inv _ _ _).mpr hs
    have hw := (State.wakeRearm_inv t x (if fr then 100 else 0)).mpr ht
    refine State.took_keeps_inv h ?_
    split
    · cases e2 : t.wakeRearm x (if fr then 100 else 0) with
      | error r => exact h
      | ok u =>
        rw [e2] at hw
        exact hl u hw
    · exact hl t ht
  refine Effect.inv_ite (Effect.inv_ite (State.took_inv h (State.txQueue_inv _ _ _ _)) (State.took_inv h (State.txWithdraw_inv _ _ _ _))) ?_
  exact Effect.inv_ite (Effect.inv_ite h ((State.updBuf_inv s _ _).mpr h)) ((State.storeReg_inv s pg off v).mpr h)

theorem State.effMgmt_keeps_inv {s : State} (o : Origin) (pg off : Nat) (v : Word) (h : s.Inv) : (s.effMgmt o pg off v).Inv := by
  unfold State.effMgmt
  extract_lets b high quiet _ _ _ t op clr
  refine Effect.inv_ite (State.bits_keeps_inv h (List.forall_mem_cons.mpr ⟨invOk_of_eq State.fwOpen_inv, List.forall_mem_cons.mpr
    ⟨invOk_of_eq State.fwVerify_inv, List.forall_mem_singleton.mpr (invOk_of_eq State.fwPrefer_inv)⟩⟩)) ?_
  refine Effect.inv_ite (State.took_keeps_inv h (State.fwData_keeps_inv v h)) ?_
  refine Effect.inv_ite (State.took_inv h (State.wmaskRearm_inv _ _ _ _)) ?_
  refine Effect.inv_ite ?_ ?_
  · obtain ⟨hmem, hgal, hhost⟩ := h
    refine ⟨hmem, hgal, ?_⟩
    change (if b 0 then { s.host with fifo := [] } else s.host).fifo.length ≤ _
    split
    · exact Nat.zero_le _
    · exact hhost
  refine Effect.inv_ite (State.took_inv h (State.rsubmit_inv _ _)) ?_
  refine Effect.inv_ite (State.bits_one_keeps_inv h (invOk_of_eq fun t => State.galClear_inv t o)) ?_
  refine Effect.inv_ite ((State.setSession_inv s _ _).mpr h) ?_
  refine Effect.inv_ite (State.took_inv h ?_) ?_
  · simp only [apply_ite (invOk s), State.galOpen_inv, State.galFirst_inv, State.galNext_inv, State.galSeek_inv, State.galToNewest_inv,
      State.galClose_inv, State.galClearlog_inv, invOk_error, ite_self]
  refine Effect.inv_ite ?_ ?_
  · change State.Inv _
    rwa [apply_ite State.Inv, State.stwEnd_inv, ite_self]
  refine Effect.inv_ite ?_ ?_
  · have hclr : ∀ t, t.Inv → (clr t).Inv := fun t ht => by
      simp only [clr, apply_ite State.Inv, State.pwClear_inv, ite_self, ht]
    have hbits : (s.bits [(b 0, fun t => t.stageClr), (b 1, fun t => t.otpVerify), (b 2, fun t => (t.commit o).1), (b 3, fun t => t.otpSwitch),
        (b 4, fun t => t.abandon), (b 5, fun t => t.keysetWr.1)]).Inv :=
      State.bits_keeps_inv h <| List.forall_mem_cons.mpr ⟨fun _ => State.stageClr_keeps_inv, List.forall_mem_cons.mpr
        ⟨invOk_of_eq State.otpVerify_inv, List.forall_mem_cons.mpr ⟨invOk_of_eq fun t => (State.commit_inv t o).1, List.forall_mem_cons.mpr
        ⟨invOk_of_eq State.otpSwitch_inv, List.forall_mem_cons.mpr ⟨invOk_of_eq State.abandon_inv,
        List.forall_mem_singleton.mpr (invOk_of_eq fun t => (State.keysetWr_inv t).1)⟩⟩⟩⟩⟩
    split <;> next e =>
      rw [e] at hbits
      exact hclr _ hbits
  refine Effect.inv_ite (State.took_keeps_inv h (State.stgData_keeps_inv o v h)) ?_
  refine Effect.inv_ite h (Effect.inv_ite h ?_)
  refine Effect.inv_ite (State.bits_one_keeps_inv h (invOk_of_eq fun t => ?_)) ?_
  · simp only [apply_ite (invOk t), invOk_ok, State.authRound_inv, invOk_error, ite_self]
  refine Effect.inv_ite (State.bits_two_keeps_inv h (fun _ => State.codeAbort_keeps_inv) (invOk_of_eq fun t => State.codeLoad_inv t o)) ?_
  exact Effect.inv_ite (State.took_keeps_inv h (State.codeData_keeps_inv v h)) ((State.storeReg_inv s pg off v).mpr h)

theorem State.effShadow_keeps_inv {s : State} (o : Origin) (pg off : Nat) (v : Word) (h : s.Inv) : (s.effShadow o pg off v).Inv := by
  have hok : (Effect.ok (s.toShadow o pg off v)).Inv := (State.toShadow_inv s o pg off v).mpr h
  unfold State.effShadow
  extract_lets ok mode t
  have hmode : ∀ c, (mode c).Inv := fun c => Effect.inv_ite hok h
  exact Effect.inv_ite (hmode _) (Effect.inv_ite (Effect.inv_ite hok h) (Effect.inv_ite (hmode _) (Effect.inv_ite (hmode _) hok)))

theorem State.effect_keeps_inv {s : State} (o : Origin) (pg off : Nat) (v : Word) (h : s.Inv) : (s.effect o pg off v).Inv :=
  Effect.inv_ite ((State.updPage_inv s _ _).mpr h) <| Effect.inv_ite (State.effShadow_keeps_inv o pg off v h) <|
    Effect.inv_ite (State.effControl_keeps_inv o pg off v h) <| Effect.inv_ite (State.effCan_keeps_inv o pg off v h) <|
      State.effMgmt_keeps_inv o pg off v h

theorem State.serveWrite_keeps_inv {s : State} (o : Origin) (pg off : Nat) (v : Word) (h : s.Inv) : (s.serveWrite o pg off v).Inv := by
  have he := State.effect_keeps_inv o pg off v h
  unfold State.serveWrite
  split
  · rwa [State.lockServed_inv]
  · split
    · rwa [State.refuse_inv]
    · split
      · rwa [State.evtServed_inv]
      · cases e : s.effect o pg off v with
        | ok t =>
          have ht : t.Inv := by rwa [e] at he
          simp only [apply_ite State.Inv, State.bumpCfg_inv, ite_self, ht]
        | done t => rwa [e] at he
        | refused r t =>
          rw [e] at he
          exact (State.refuse_inv t o pg off r).mpr he
theorem execMailboxServe_keeps_inv {s : State} (h : s.Inv) : invNext s (execMailboxServe s) := by
  unfold execMailboxServe
  split
  · exact h
  · split
    · exact h
    · exact State.serveWrite_keeps_inv _ _ _ _ h
theorem State.directWrite_keeps_inv {s : State} (o : Origin) (pg off : Nat) (v : Word) (h : s.Inv) : (s.directWrite o pg off v).2.Inv := by
  have he := State.effect_keeps_inv o pg off v h
  have hl := State.lockWrite_inv s o pg v
  unfold State.directWrite
  extract_lets no
  have hno : ∀ r (t : State), t.Inv → (no r t).2.Inv := fun _ t ht => (State.raise_inv t pg 31).mpr ht
  split
  · exact hno _ _ h
  · split
    · split
      · next t e =>
        rw [e] at hl
        exact hl.mpr h
      · exact hno _ _ h
    · split
      · exact hno _ _ h
      · split
        · exact (State.evtClear_inv s pg v).mpr h
        · cases e : s.effect o pg off v with
          | ok t => exact (State.bumpCfg_inv t pg).mpr (by rwa [e] at he)
          | done t => exact (by rwa [e] at he : (Effect.done t).Inv)
          | refused r t => exact hno _ _ (by rwa [e] at he)
theorem State.writeWord_keeps_inv {s : State} (o : Origin) (addr : Nat) (v : Word) (h : s.Inv) : (s.writeWord o addr v).2.Inv := by
  have hr := State.restoreWrite_keeps_inv addr v h
  unfold State.writeWord
  split
  · exact h
  split
  · extract_lets pg off
    split
    · exact h
    split
    · exact State.directWrite_keeps_inv o pg off v h
    split
    · exact h
    · exact h
  split
  · exact h
  split
  · split
    · next t e =>
      rw [e] at hr
      exact hr
    · exact h
  · exact h
theorem State.writeWords_keeps_inv {s : State} (o : Origin) (addr : Nat) (ws : List Word) (k : Nat) (q : Bool) (h : s.Inv) :
    (s.writeWords o addr ws k q).2.Inv := by
  induction ws generalizing s addr k q with
  | nil => exact h
  | cons v t ih =>
    have hw := State.writeWord_keeps_inv o addr v h
    unfold State.writeWords
    dsimp only
    split
    · exact ih _ _ _ hw
    · exact hw
theorem execWrite_keeps_inv (lanes : Lanes) (addr : Word) (words : List Word) (hcrc dcrc : Half) (csEarly : Bool) {s : State} (h : s.Inv) :
    invNext s (execWrite lanes addr words hcrc dcrc csEarly s) := by
  unfold execWrite
  split
  · exact h
  split
  · exact (State.crcError_inv s 0).mpr h
  split
  · exact (State.emit_inv s _).mpr h
  · exact (State.emit_inv _ _).mpr (State.writeWords_keeps_inv .host addr.toNat words 0 false h)
theorem execRegisterWrite_keeps_inv (o : Origin) (addr v : Word) {s : State} (h : s.Inv) : invNext s (execRegisterWrite o addr v s) := by
  unfold execRegisterWrite
  extract_lets a r
  split
  · exact State.serveWrite_keeps_inv o _ _ v h
  · exact (State.answer_inv _ _ _ _).mpr (State.writeWord_keeps_inv o a v h)
theorem execPoke_keeps_inv (addr v : Word) {s : State} (h : s.Inv) : invNext s (execPoke addr v s) := by
  unfold execPoke
  extract_lets l u r
  have hu : u.Inv := h
  split
  · exact (State.stwWrite_inv _ _ _ _).mpr (State.writeWord_keeps_inv .stairwell addr.toNat v hu)
  · exact (State.stwWrite_inv _ _ _ _).mpr hu
/-- Every command keeps the invariant. -/
theorem exec_keeps_inv (i : Instr) {s : State} (hs : s.Inv) : invNext s (exec i s) :=
  match i with
  | .powerOn => (execPowerOn_inv s).mpr hs
  | .vinUndervoltage => execVinUndervoltage_keeps_inv hs
  | .resetN lowNs => execResetN_keeps_inv lowNs hs
  | .startupSupplySettled => (execStartupSupplySettled_inv s).mpr hs
  | .startupStrapsRead pairRoleHigh bootSelHigh => (execStartupStrapsRead_inv pairRoleHigh bootSelHigh s).mpr hs
  | .firmwareImageChecked => (execFirmwareImageChecked_inv s).mpr hs
  | .generationSelected => (execGenerationSelected_inv s).mpr hs
  | .startupSelftestPassed bistOk failedPattern walkFail => (execStartupSelftestPassed_inv bistOk failedPattern walkFail s).mpr hs
  | .roleWaitTimeout => (execRoleWaitTimeout_inv s).mpr hs
  | .portsStarted => (execPortsStarted_inv s).mpr hs
  | .modulesAuthenticated => (execModulesAuthenticated_inv s).mpr hs
  | .restoreWaitEnd => (execRestoreWaitEnd_inv s).mpr hs
  | .sampleInstant cur => (execSampleInstant_inv cur s).mpr hs
  | .sampleLaunch p => (execSampleLaunch_inv p s).mpr hs
  | .epochComputation => (execEpochComputation_inv s).mpr hs
  | .dataTrigger => (execDataTrigger_inv s).mpr hs
  | .epochCommit busyUs lateUs => execEpochCommit_keeps_inv busyUs lateUs hs
  | .dataStall => (execDataStall_inv s).mpr hs
  | .dataStallOpenAll => (execDataStallOpenAll_inv s).mpr hs
  | .grading => (execGrading_inv s).mpr hs
  | .protFrameRepeat => (execProtFrameRepeat_inv s).mpr hs
  | .disconnectDeadline x v => (execDisconnectDeadline_inv x v s).mpr hs
  | .breakSafeOpen x i1 i2 => (execBreakSafeOpen_inv x i1 i2 s).mpr hs
  | .brkWaitOpen x v => (execBrkWaitOpen_inv x v s).mpr hs
  | .insulationStatus f => (execInsulationStatus_inv f s).mpr hs
  | .insTimeout => (execInsTimeout_inv s).mpr hs
  | .restReq x => (execRestReq_inv x s).mpr hs
  | .capDrift => (execCapDrift_inv s).mpr hs
  | .hopcalPeriodic p => (execHopcalPeriodic_inv p s).mpr hs
  | .hopcalDone p rtts => (execHopcalDone_inv p rtts s).mpr hs
  | .wrlearnPeriodic => (execWrlearnPeriodic_inv s).mpr hs
  | .chainFrame p f => (execChainFrame_inv p f s).mpr hs
  | .tone p f => (execTone_inv p f s).mpr hs
  | .staleTerm p f => (execStaleTerm_inv p f s).mpr hs
  | .responseTimeout p seq => (execResponseTimeout_inv p seq s).mpr hs
  | .chainSilent p => (execChainSilent_inv p s).mpr hs
  | .recoveryProbe p => (execRecoveryProbe_inv p s).mpr hs
  | .reenumeration p => (execReenumeration_inv p s).mpr hs
  | .wakeTone p => (execWakeTone_inv p s).mpr hs
  | .wakePatternMask p durationMs => (execWakePatternMask_inv p durationMs s).mpr hs
  | .modStatusFrame src bytes => (execModStatusFrame_inv src bytes s).mpr hs
  | .tempStale c => (execTempStale_inv c s).mpr hs
  | .streamLost c bit => (execStreamLost_inv c bit s).mpr hs
  | .streamRecovered c => (execStreamRecovered_inv c s).mpr hs
  | .ocTrip c outputs => (execOcTrip_inv c outputs s).mpr hs
  | .ocClear c outputs => (execOcClear_inv c outputs s).mpr hs
  | .brkHoldClear c outputs => (execBrkHoldClear_inv c outputs s).mpr hs
  | .clkTaken n stretchNs ones byPartner => (execClkTaken_inv n stretchNs ones byPartner s).mpr hs
  | .offsetWindowStart x => (execOffsetWindowStart_inv x s).mpr hs
  | .offsetLearned x => (execOffsetLearned_inv x s).mpr hs
  | .engineTimer e => (execEngineTimer_inv e s).mpr hs
  | .txdone p buf => (execTxdone_inv p buf s).mpr hs
  | .waitTimeout e => (execWaitTimeout_inv e s).mpr hs
  | .budgetOut e => (execBudgetOut_inv e s).mpr hs
  | .mov e d op => (execMov_inv e d op s).mpr hs
  | .add e d op => (execAdd_inv e d op s).mpr hs
  | .sub e d op => (execSub_inv e d op s).mpr hs
  | .mul e d op => (execMul_inv e d op s).mpr hs
  | .mulq e d op => (execMulq_inv e d op s).mpr hs
  | .div e d op => (execDiv_inv e d op s).mpr hs
  | .and e d op => (execAnd_inv e d op s).mpr hs
  | .or e d op => (execOr_inv e d op s).mpr hs
  | .xor e d op => (execXor_inv e d op s).mpr hs
  | .shl e d op => (execShl_inv e d op s).mpr hs
  | .shr e d op => (execShr_inv e d op s).mpr hs
  | .sra e d op => (execSra_inv e d op s).mpr hs
  | .min e d op => (execMin_inv e d op s).mpr hs
  | .max e d op => (execMax_inv e d op s).mpr hs
  | .clamp e d a => (execClamp_inv e d a s).mpr hs
  | .ld e d a off => (execLd_inv e d a off s).mpr hs
  | .st e d a off => (execSt_inv e d a off s).mpr hs
  | .ldc e d a off => (execLdc_inv e d a off s).mpr hs
  | .br e d a c target => (execBr_inv e d a c target s).mpr hs
  | .bru e d a c target => (execBru_inv e d a c target s).mpr hs
  | .call e target => (execCall_inv e target s).mpr hs
  | .ret e => (execRet_inv e s).mpr hs
  | .tlerp e d a table => (execTlerp_inv e d a table s).mpr hs
  | .send e d a => (execSend_inv e d a s).mpr hs
  | .recv e d a => (execRecv_inv e d a s).mpr hs
  | .wait e d mask => (execWait_inv e d mask s).mpr hs
  | .emit e d slot => (execEmit_inv e d slot s).mpr hs
  | .halt e => execHalt_keeps_inv e hs
  | .codeData o v => execCodeData_keeps_inv o v hs
  | .load o => (execLoad_inv o s).mpr hs
  | .codeAbort o => execCodeAbort_keeps_inv o hs
  | .protClear o => (execProtClear_inv o s).mpr hs
  | .actuatorRefresh => (execActuatorRefresh_inv s).mpr hs
  | .qdResponse link bytes => (execQdResponse_inv link bytes s).mpr hs
  | .qdLost n => (execQdLost_inv n s).mpr hs
  | .auxDebounced c closed => (execAuxDebounced_inv c closed s).mpr hs
  | .closeFail c => (execCloseFail_inv c s).mpr hs
  | .openFail c => (execOpenFail_inv c s).mpr hs
  | .weldCheck leg => (execWeldCheck_inv leg s).mpr hs
  | .weldClr o sel => (execWeldClr_inv o sel s).mpr hs
  | .joinCtrlStart o => (execJoinCtrlStart_inv o s).mpr hs
  | .joinCtrlAbort o => (execJoinCtrlAbort_inv o s).mpr hs
  | .joinOpen o high mask => (execJoinOpen_inv o high mask s).mpr hs
  | .probeEnd x => (execProbeEnd_inv x s).mpr hs
  | .joinTmo => (execJoinTmo_inv s).mpr hs
  | .runClose x => (execRunClose_inv x s).mpr hs
  | .voltageLoop voaMv vobMv viMv => (execVoltageLoop_inv voaMv vobMv viMv s).mpr hs
  | .currentLoop phaseMa => (execCurrentLoop_inv phaseMa s).mpr hs
  | .phaseOc k i1 i2 => (execPhaseOc_inv k i1 i2 s).mpr hs
  | .failedOpen k => (execFailedOpen_inv k s).mpr hs
  | .senseLost k => (execSenseLost_inv k s).mpr hs
  | .shortDetect clampMs riseMv => (execShortDetect_inv clampMs riseMv s).mpr hs
  | .retryWaitEnd => (execRetryWaitEnd_inv s).mpr hs
  | .sag => (execSag_inv s).mpr hs
  | .lineLost lineB => (execLineLost_inv lineB s).mpr hs
  | .lineRecovered lineB => (execLineRecovered_inv lineB s).mpr hs
  | .viLost => (execViLost_inv s).mpr hs
  | .stopRampEnd => (execStopRampEnd_inv s).mpr hs
  | .converterOff => (execConverterOff_inv s).mpr hs
  | .bfcSyncEdge intervalNs => (execBfcSyncEdge_inv intervalNs s).mpr hs
  | .bfcSyncLost lastIntervalNs => (execBfcSyncLost_inv lastIntervalNs s).mpr hs
  | .netsFree waitUs => (execNetsFree_inv waitUs s).mpr hs
  | .bfcClear o v => (execBfcClear_inv o v s).mpr hs
  | .peakRead o q => (execPeakRead_inv o q s).mpr hs
  | .bvlSet frame edges minPeriodNs => (execBvlSet_inv frame edges minPeriodNs s).mpr hs
  | .bvlPoll frame edges minPeriodNs => (execBvlPoll_inv frame edges minPeriodNs s).mpr hs
  | .bvlSilent sinceMs => (execBvlSilent_inv sinceMs s).mpr hs
  | .channelDemand ch => execChannelDemand_keeps_inv ch hs
  | .channelRelease ch => execChannelRelease_keeps_inv ch hs
  | .discrep p diffUs => (execDiscrep_inv p diffUs s).mpr hs
  | .testPulse k => (execTestPulse_inv k s).mpr hs
  | .testPulseCheck ch lowUs => execTestPulseCheck_keeps_inv ch lowUs hs
  | .tpLost k => execTpLost_keeps_inv k hs
  | .permitTimeout => (execPermitTimeout_inv s).mpr hs
  | .peerDisagree p => (execPeerDisagree_inv p s).mpr hs
  | .safeFrameTx => (execSafeFrameTx_inv s).mpr hs
  | .safeFrame netB f => (execSafeFrame_inv netB f s).mpr hs
  | .safeSingle r => (execSafeSingle_inv r s).mpr hs
  | .safeTimeout r => (execSafeTimeout_inv r s).mpr hs
  | .soTestPulse k => (execSoTestPulse_inv k s).mpr hs
  | .soFault k read => (execSoFault_inv k read s).mpr hs
  | .walk o => (execWalk_inv o s).mpr hs
  | .walkEnd failedNode => (execWalkEnd_inv failedNode s).mpr hs
  | .thSel o v => (execThSel_inv o v s).mpr hs
  | .windowTick mainClosed checkerClosed sigMain sigChecker differing => (execWindowTick_inv mainClosed checkerClosed sigMain sigChecker differing s).mpr hs
  | .gateTimeout => (execGateTimeout_inv s).mpr hs
  | .coreFault checker => (execCoreFault_inv checker s).mpr hs
  | .coreSelftestEnd mainPass checkerPass => (execCoreSelftestEnd_inv mainPass checkerPass s).mpr hs
  | .singleSelftest pass => (execSingleSelftest_inv pass s).mpr hs
  | .singleExpired => (execSingleExpired_inv s).mpr hs
  | .split o => (execSplit_inv o s).mpr hs
  | .rejoin o => (execRejoin_inv o s).mpr hs
  | .heartbeat h => (execHeartbeat_inv h s).mpr hs
  | .heartbeatTx => (execHeartbeatTx_inv s).mpr hs
  | .time sentAt echoOf echoRx received => execTime_keeps_inv sentAt echoOf echoRx received hs
  | .timeTx => (execTimeTx_inv s).mpr hs
  | .handoverRequest instant cause => (execHandoverRequest_inv instant cause s).mpr hs
  | .handoverAccept at_ => (execHandoverAccept_inv at_ s).mpr hs
  | .handoverRefuse => (execHandoverRefuse_inv s).mpr hs
  | .handoverInstant => execHandoverInstant_keeps_inv hs
  | .pairBanister b => (execPairBanister_inv b s).mpr hs
  | .banisterTx => (execBanisterTx_inv s).mpr hs
  | .state m => (execState_inv m s).mpr hs
  | .stateTx => (execStateTx_inv s).mpr hs
  | .block epoch blocks => (execBlock_inv epoch blocks s).mpr hs
  | .plan epoch p => (execPlan_inv epoch p s).mpr hs
  | .context kind applyEpoch image => (execContext_inv kind applyEpoch image s).mpr hs
  | .gseq n => (execGseq_inv n s).mpr hs
  | .sync item => (execSync_inv item s).mpr hs
  | .segmentTimeout typ => (execSegmentTimeout_inv typ s).mpr hs
  | .laneDown k => (execLaneDown_inv k s).mpr hs
  | .pathSilent alive => (execPathSilent_inv alive s).mpr hs
  | .termProbe => (execTermProbe_inv s).mpr hs
  | .baseIdResume => (execBaseIdResume_inv s).mpr hs
  | .revert => (execRevert_inv s).mpr hs
  | .swap o => (execSwap_inv o s).mpr hs
  | .drillCheck r => (execDrillCheck_inv r s).mpr hs
  | .restart o => execRestart_keeps_inv o hs
  | .genSwitchPropose => (execGenSwitchPropose_inv s).mpr hs
  | .dormantRoleTimeout => (execDormantRoleTimeout_inv s).mpr hs
  | .canFrameRx x f stamp => (execCanFrameRx_inv x f stamp s).mpr hs
  | .canTxSent x b => (execCanTxSent_inv x b s).mpr hs
  | .canError x err transmitting => (execCanError_inv x err transmitting s).mpr hs
  | .busOffWaitEnd x => (execBusOffWaitEnd_inv x s).mpr hs
  | .canRecovered x => (execCanRecovered_inv x s).mpr hs
  | .txLaunch x b sofAt => (execTxLaunch_inv x b sofAt s).mpr hs
  | .txExpire x b => (execTxExpire_inv x b s).mpr hs
  | .queue o x b => (execQueue_inv o x b s).mpr hs
  | .withdraw o x b => (execWithdraw_inv o x b s).mpr hs
  | .canWake x frame => (execCanWake_inv x frame s).mpr hs
  | .wakeMasked x durationUs => (execWakeMasked_inv x durationUs s).mpr hs
  | .wakeRearm o x recessiveMs => (execWakeRearm_inv o x recessiveMs s).mpr hs
  | .syncInEdge at_ => (execSyncInEdge_inv at_ s).mpr hs
  | .syncInMiss => (execSyncInMiss_inv s).mpr hs
  | .syncOutPulse => (execSyncOutPulse_inv s).mpr hs
  | .refMessageTx => (execRefMessageTx_inv s).mpr hs
  | .refMessageRx x f stamp => (execRefMessageRx_inv x f stamp s).mpr hs
  | .masterCandidateStart => (execMasterCandidateStart_inv s).mpr hs
  | .read lanes addr len hcrc => (execRead_inv lanes addr len hcrc s).mpr hs
  | .write lanes addr words hcrc dcrc csEarly => execWrite_keeps_inv lanes addr words hcrc dcrc csEarly hs
  | .fifoRead lanes addr len hcrc => execFifoRead_keeps_inv lanes addr len hcrc hs
  | .hostCmdError cmd => (execHostCmdError_inv cmd s).mpr hs
  | .hallOpen o => (execHallOpen_inv o s).mpr hs
  | .hallClose o => (execHallClose_inv o s).mpr hs
  | .fifoFlush o => execFifoFlush_keeps_inv o hs
  | .wakeClr o => (execWakeClr_inv o s).mpr hs
  | .restoreSlotWrite addr v => execRestoreSlotWrite_keeps_inv addr v hs
  | .rsubmit o v => (execRsubmit_inv o v s).mpr hs
  | .imageValidated => (execImageValidated_inv s).mpr hs
  | .lowWordRead o addr => (execLowWordRead_inv o addr s).mpr hs
  | .ctxWord0Read o => (execCtxWord0Read_inv o s).mpr hs
  | .unlock o page key => (execUnlock_inv o page key s).mpr hs
  | .lock o page => (execLock_inv o page s).mpr hs
  | .evtClear o page mask => (execEvtClear_inv o page mask s).mpr hs
  | .registerWrite o addr v => execRegisterWrite_keeps_inv o addr v hs
  | .hopcal o p => (execHopcal_inv o p s).mpr hs
  | .reenum o p => (execReenum_inv o p s).mpr hs
  | .wrlearn o => (execWrlearn_inv o s).mpr hs
  | .wbclr o high mask => (execWbclr_inv o high mask s).mpr hs
  | .offlearn o => (execOfflearn_inv o s).mpr hs
  | .imgNow o => (execImgNow_inv o s).mpr hs
  | .restoreDone o => (execRestoreDone_inv o s).mpr hs
  | .reqDormant o portsWithoutEcho => (execReqDormant_inv o portsWithoutEcho s).mpr hs
  | .reqCommission o => (execReqCommission_inv o s).mpr hs
  | .reqReady o => (execReqReady_inv o s).mpr hs
  | .rrGo o causes => execRrGo_keeps_inv o causes hs
  | .canRemoteReset f => execCanRemoteReset_keeps_inv f hs
  | .wakeIn => (execWakeIn_inv s).mpr hs
  | .wakeSequenceDone => (execWakeSequenceDone_inv s).mpr hs
  | .landingExit => (execLandingExit_inv s).mpr hs
  | .wmaskRearm o high mask quiet => (execWmaskRearm_inv o high mask quiet s).mpr hs
  | .fwOpen o => (execFwOpen_inv o s).mpr hs
  | .fwEraseDone => execFwEraseDone_keeps_inv hs
  | .fwData o v => execFwData_keeps_inv o v hs
  | .fwVerify o => (execFwVerify_inv o s).mpr hs
  | .fwVerifyDone => (execFwVerifyDone_inv s).mpr hs
  | .fwPrefer o => (execFwPrefer_inv o s).mpr hs
  | .galleryStore => execGalleryStore_keeps_inv hs
  | .galOpen o => (execGalOpen_inv o s).mpr hs
  | .galFirst o => (execGalFirst_inv o s).mpr hs
  | .galNext o => (execGalNext_inv o s).mpr hs
  | .galSeek o target => (execGalSeek_inv o target s).mpr hs
  | .galNewest o => (execGalNewest_inv o s).mpr hs
  | .galClose o => (execGalClose_inv o s).mpr hs
  | .galClearlog o entry => (execGalClearlog_inv o entry s).mpr hs
  | .galClear o => (execGalClear_inv o s).mpr hs
  | .galClearDone => (execGalClearDone_inv s).mpr hs
  | .stwHelp => (execStwHelp_inv s).mpr hs
  | .stwLogin level password => (execStwLogin_inv level password s).mpr hs
  | .stwLogout => (execStwLogout_inv s).mpr hs
  | .baud r => (execBaud_inv r s).mpr hs
  | .baudSwitch => (execBaudSwitch_inv s).mpr hs
  | .peek addr n => (execPeek_inv addr n s).mpr hs
  | .stwHall off n => (execStwHall_inv off n s).mpr hs
  | .poke addr v => execPoke_keeps_inv addr v hs
  | .trace p n tones => (execTrace_inv p n tones s).mpr hs
  | .coreHalt => (execCoreHalt_inv s).mpr hs
  | .coreStep n => (execCoreStep_inv n s).mpr hs
  | .coreRegs => (execCoreRegs_inv s).mpr hs
  | .coreMem addr n => (execCoreMem_inv addr n s).mpr hs
  | .coreWrite addr v => (execCoreWrite_inv addr v s).mpr hs
  | .coreResume => (execCoreResume_inv s).mpr hs
  | .otpStage image => execOtpStage_keeps_inv image hs
  | .stwIdleTimeout => (execStwIdleTimeout_inv s).mpr hs
  | .stwBreak => (execStwBreak_inv s).mpr hs
  | .loginHoldEnd => (execLoginHoldEnd_inv s).mpr hs
  | .kick o => (execKick_inv o s).mpr hs
  | .mgmtWatchdogMiss => execMgmtWatchdogMiss_keeps_inv hs
  | .mgmtRestartDone => (execMgmtRestartDone_inv s).mpr hs
  | .shed loadPct => (execShed_inv loadPct s).mpr hs
  | .stageClr o => execStageClr_keeps_inv o hs
  | .stgData o v => execStgData_keeps_inv o v hs
  | .otpVerify o => (execOtpVerify_inv o s).mpr hs
  | .commit o => (execCommit_inv o s).mpr hs
  | .commitDone readBackOk => execCommitDone_keeps_inv readBackOk hs
  | .switch o => (execSwitch_inv o s).mpr hs
  | .abandon o => (execAbandon_inv o s).mpr hs
  | .keysetWr o => (execKeysetWr_inv o s).mpr hs
  | .round o => (execRound_inv o s).mpr hs
  | .authChallengeDue => (execAuthChallengeDue_inv s).mpr hs
  | .vinSurge peak10mV durationMs => (execVinSurge_inv peak10mV durationMs s).mpr hs
  | .vauxFault currentMa => (execVauxFault_inv currentMa s).mpr hs
  | .vauxRetry overload => (execVauxRetry_inv overload s).mpr hs
  | .tjHigh tj => (execTjHigh_inv tj s).mpr hs
  | .tjHighClear tj => (execTjHighClear_inv tj s).mpr hs
  | .mailboxServe => execMailboxServe_keeps_inv hs
  | .plAliveEdge halfPeriodUs => (execPlAliveEdge_inv halfPeriodUs s).mpr hs
  | .tpDrive k => (execTpDrive_inv k s).mpr hs
  | .vinSurgeEnd durationMs => (execVinSurgeEnd_inv durationMs s).mpr hs
  | .revertRequest => (execRevertRequest_inv s).mpr hs
  | .partnerVerify ok => (execPartnerVerify_inv ok s).mpr hs

theorem oscTick_inv (s : State) : (oscTick s).Inv = s.Inv := by
  simp only [oscTick, apply_ite State.Inv, State.inv_mk, ite_self]

/-- Settles O4: every command's meaning keeps the invariant, and so does the oscillator's period of an idle step. -/
theorem stepKeepsMemoriesAndFifos : Obligations.StepKeepsMemoriesAndFifos := by
  unfold Obligations.StepKeepsMemoriesAndFifos
  intro s t h hstep
  have hnext : invNext s (step s) := by
    unfold step
    split
    · exact (oscTick_inv s).mpr h
    · next c rest _ =>
      have hexec := exec_keeps_inv c (s := { s with pending := rest }) h
      cases e : exec c { s with pending := rest } with
      | next u => rwa [e] at hexec
      | fault _ => exact h
      | refused _ => exact h
  rwa [hstep] at hnext

end Sys2Proof.Machine
end


section
/-! The transactions of the host port (R411 to R417, Tables 16.4, 16.5): CRC failures, words read, words written, the host FIFO. -/
namespace Sys2Proof.Machine

theorem exec_write (lanes : Lanes) (addr : Word) (words : List Word) (hcrc dcrc : Half) (early : Bool) (s : State) :
    exec (.write lanes addr words hcrc dcrc early) s = execWrite lanes addr words hcrc dcrc early s := rfl

theorem lenOk_iff (n : Nat) : lenOk n = true ↔ 1 ≤ n ∧ n ≤ 1024 := by
  simp [lenOk]

/-! ### A failed CRC -/

/-- The answer to a transaction whose CRC fails, and its event; nothing else changes (R413). -/
theorem State.crcError_failed (s : State) (n : Nat) : (s.crcError n).out = .host 9 0 (List.replicate n 0#32) :: s.out ∧
    (s.crcError n).evtBit pHOST 4 = true ∧ { s.crcError n with out := s.out, pages := s.pages } = s :=
  ⟨rfl, State.raise_evtBit _ _ (by decide), rfl⟩

theorem execRead_of_crc {s : State} {lanes : Lanes} {addr : Word} {len hcrc : Half} (h : ¬ crc16 (headBytes 1 lanes addr len) = hcrc) :
    execRead lanes addr len hcrc s = .next (s.crcError len.toNat) := if_pos h
theorem execFifoRead_of_crc {s : State} {lanes : Lanes} {addr : Word} {len hcrc : Half} (h : ¬ crc16 (headBytes 3 lanes addr len) = hcrc) :
    execFifoRead lanes addr len hcrc s = .next (s.crcError len.toNat) := if_pos h
theorem execWrite_of_crc {s : State} {lanes : Lanes} {addr : Word} {words : List Word} {hcrc dcrc : Half}
    (h : ¬ (crc16 (headBytes 2 lanes addr (BitVec.ofNat 16 words.length)) = hcrc ∧ crc16 (bytesOf words) = dcrc)) :
    execWrite lanes addr words hcrc dcrc false s = .next (s.crcError 0) := by
  unfold execWrite
  rw [if_neg Bool.false_ne_true, if_pos]
  by_contra hboth
  exact h (by simpa using hboth)

/-! ### READ -/

theorem execRead_of_len {s : State} {lanes : Lanes} {addr : Word} {len hcrc : Half} (h : crc16 (headBytes 1 lanes addr len) = hcrc)
    (hl : len.toNat = 0 ∨ 1024 < len.toNat) : execRead lanes addr len hcrc s = .next (s.emit (.host 1 0 [])) := by
  have hbad : lenOk len.toNat = false := by
    rw [Bool.eq_false_iff, ne_eq, lenOk_iff]
    omega
  unfold execRead
  rw [if_neg (not_not_intro h), hbad]
  rfl
theorem execRead_of_good {s : State} {lanes : Lanes} {addr : Word} {len hcrc : Half} (h : crc16 (headBytes 1 lanes addr len) = hcrc)
    (h1 : 1 ≤ len.toNat) (h2 : len.toNat ≤ 1024) : execRead lanes addr len hcrc s =
      .next ((s.readWords .host addr.toNat len.toNat).2.emit (.host (firstBad (s.readWords .host addr.toNat len.toNat).1 0).1
        (firstBad (s.readWords .host addr.toNat len.toNat).1 0).2 ((s.readWords .host addr.toNat len.toNat).1.map (·.2)))) := by
  unfold execRead
  rw [if_neg (not_not_intro h), (lenOk_iff _).mpr ⟨h1, h2⟩]
  rfl

/-- The word before the one that refuses is the last that counts; the status is OK where none refuses. -/
theorem firstBad_spec (l : List (Nat × Word)) (k : Nat) :
    (firstBad l k).2 ≤ k + l.length ∧ ((firstBad l k).1 = 0 ↔ (firstBad l k).2 = k + l.length) := by
  induction l generalizing k with
  | nil => simp [firstBad]
  | cons e l ih =>
    obtain ⟨st, w⟩ := e
    unfold firstBad
    split
    · obtain ⟨hle, hiff⟩ := ih (k + 1)
      rw [List.length_cons]
      exact ⟨by omega, by rw [hiff]; omega⟩
    · next hst => simp [hst]

/-- A read touches the latches of the origin and the held peaks. -/
theorem State.readLatched_frame (s : State) (o : Origin) (pg off : Nat) :
    { (s.readLatched o pg off).2 with latch := s.latch, bfc := s.bfc } = s := by
  unfold State.readLatched
  dsimp only
  split
  · rfl
  split
  · split <;> rfl
  split
  · rfl
  split
  · rfl
  split <;> rfl
theorem State.readWord_frame (s : State) (o : Origin) (a : Nat) : { (s.readWord o a).2.2 with latch := s.latch, bfc := s.bfc } = s := by
  unfold State.readWord
  split
  · rfl
  split
  · exact s.readLatched_frame o _ _
  split
  · split <;> rfl
  split <;> rfl
theorem State.readWords_frame (s : State) (o : Origin) (a n : Nat) : { (s.readWords o a n).2 with latch := s.latch, bfc := s.bfc } = s := by
  induction n generalizing s a with
  | zero => rfl
  | succ n ih =>
    have hrest := congrArg (fun t : State => { t with latch := s.latch, bfc := s.bfc }) (ih (s.readWord o a).2.2 (a + 4))
    exact hrest.trans (s.readWord_frame o a)
theorem State.readWords_keeps (s : State) (o : Origin) (a n : Nat) : (s.readWords o a n).2.out = s.out ∧ (s.readWords o a n).2.regs = s.regs ∧
    (s.readWords o a n).2.pages = s.pages ∧ (s.readWords o a n).2.mbx = s.mbx ∧ (s.readWords o a n).2.host = s.host :=
  have h := s.readWords_frame o a n
  ⟨(congrArg State.out h :), (congrArg State.regs h :), (congrArg State.pages h :), (congrArg State.mbx h :), (congrArg State.host h :)⟩
theorem State.readWords_length (s : State) (o : Origin) (a n : Nat) : (s.readWords o a n).1.length = n := by
  induction n generalizing s a with
  | zero => rfl
  | succ n ih => exact congrArg (· + 1) (ih _ _)

/-- A register word that has no latch answers its value (R45). -/
theorem State.readLatched_of_plain (s : State) (o : Origin) {pg off : Nat} (hl : lowWord pg off = false)
    (hh : 4 ≤ off → lowWord pg (off - 4) = false) (he : pg ≠ pEST ∨ off < 0x800) (hb : pg ≠ pBFC ∨ off < 0x800) :
    s.readLatched o pg off = (s.readReg o pg off, s) := by
  have harr : ∀ {a k n : Nat}, 0x800 ≤ a → off < 0x800 → inArr off a k n = false := by
    intro a k n ha ho
    unfold inArr
    simp
    omega
  unfold State.readLatched
  dsimp only
  rw [if_neg (by simp [hl]), if_neg (by rintro ⟨h4, h⟩; simp [hh h4] at h), if_neg (by omega), if_neg, if_neg]
  · rintro ⟨hp, hin, _⟩
    rw [harr (Nat.le_refl _) (by omega)] at hin
    cases hin
  · rintro ⟨hp, hin⟩
    rw [harr (by decide) (by omega)] at hin
    cases hin
theorem State.readWord_of_register (s : State) (o : Origin) {a : Nat} (h4 : a % 4 = 0) (ha : a < 0x80000) :
    s.readWord o a = (0, s.readLatched o (a / 0x1000) (a % 0x1000)) := by
  unfold State.readWord
  rw [if_neg (by omega), if_pos ha]
theorem State.readWord_of_unmapped (s : State) (o : Origin) {a : Nat} (h4 : a % 4 = 0) (ha : 0x80000 ≤ a)
    (h : a < 0x10000000 ∨ (0x10040000 ≤ a ∧ a < 0x20000000) ∨ 0x20080000 ≤ a) : s.readWord o a = (6, 0#32, s) := by
  unfold State.readWord
  rw [if_neg (by omega), if_neg (by omega), if_neg (by omega), if_neg (by omega)]
theorem State.readWord_of_staleHall {s : State} {o : Origin} {a : Nat} (h4 : a % 4 = 0) (hlo : 0x10000000 ≤ a) (hhi : a < 0x10040000)
    (h : s.hallRead o ((a - 0x10000000) / 4) = none) : s.readWord o a = (8, 0#32, s) := by
  unfold State.readWord
  rw [if_neg (by omega), if_neg (by omega), if_pos ⟨hlo, hhi⟩, h]
/-- A read of one word answers that word's status and value. -/
theorem execRead_one {s t : State} {lanes : Lanes} {addr : Word} {len hcrc : Half} {st : Nat} {w : Word}
    (h : crc16 (headBytes 1 lanes addr len) = hcrc) (hn : len.toNat = 1) (hw : s.readWord .host addr.toNat = (st, w, t)) :
    execRead lanes addr len hcrc s = .next (t.emit (.host st (if st = 0 then 1 else 0) [w])) := by
  rw [execRead_of_good h (by omega) (by omega), hn]
  simp only [State.readWords, hw, firstBad]
  split
  · next hst => rw [hst]; rfl
  · rfl

/-! ### WRITE -/

theorem execWrite_of_good {s : State} {lanes : Lanes} {addr : Word} {words : List Word} {hcrc dcrc : Half}
    (h : crc16 (headBytes 2 lanes addr (BitVec.ofNat 16 words.length)) = hcrc ∧ crc16 (bytesOf words) = dcrc)
    (h1 : 1 ≤ words.length) (h2 : words.length ≤ 1024) : execWrite lanes addr words hcrc dcrc false s =
      .next ((s.writeWords .host addr.toNat words 0 false).2.emit
        (.host (s.writeWords .host addr.toNat words 0 false).1.1 (s.writeWords .host addr.toNat words 0 false).1.2 [])) := by
  unfold execWrite
  rw [if_neg Bool.false_ne_true, if_neg (by simp [h.1, h.2]), (lenOk_iff _).mpr ⟨h1, h2⟩]
  rfl

/-- A register word of a mailbox page: it waits for its turn, or finds the mailbox full (R24). -/
theorem State.writeWord_of_mailbox (s : State) {a : Nat} (v : Word) (hf : (regFlds (a / 0x1000) (a % 0x1000)).isSome = true)
    (hc : pageClass (a / 0x1000) ≠ .mgmt) (ha : a < 0x80000) (h4 : a % 4 = 0) :
    s.writeWord .host a v = if 32 ≤ s.mbx.length then (7, s) else
      (0x0A, { s with mbx := s.mbx ++ [{ origin := .host, page := a / 0x1000, offset := a % 0x1000, value := v, level := .service }] }) := by
  have hn : (regFlds (a / 0x1000) (a % 0x1000)).isNone = false := by
    rw [← Option.not_isSome, hf]
    rfl
  unfold State.writeWord
  dsimp only
  rw [if_neg (by omega), if_pos ha, hn, if_neg Bool.false_ne_true, if_neg hc]
  simp only [true_and]
  rfl
theorem State.writeWord_of_unmapped (s : State) (o : Origin) {a : Nat} (v : Word) (hf : regFlds (a / 0x1000) (a % 0x1000) = none)
    (ha : a < 0x80000) (h4 : a % 4 = 0) : s.writeWord o a v = (6, s) := by
  unfold State.writeWord
  dsimp only
  rw [if_neg (by omega), if_pos ha, hf]
  rfl
theorem State.writeWord_of_hall (s : State) (o : Origin) {a : Nat} (v : Word) (hlo : 0x10000000 ≤ a) (hhi : a < 0x10040000) :
    s.writeWord o a v = (1, s) := by
  unfold State.writeWord
  dsimp only
  split
  · rfl
  · rw [if_neg (by omega), if_pos ⟨hlo, hhi⟩]
/-- A word that is refused ends the transaction; a word that is taken lets the next one follow. -/
theorem State.writeWords_of_refused {s t : State} {o : Origin} {a st : Nat} {v : Word} (ws : List Word) (k : Nat) (q : Bool)
    (h : s.writeWord o a v = (st, t)) (hst : st ≠ 0) (hq : st ≠ 0x0A) : s.writeWords o a (v :: ws) k q = ((st, k), t) := by
  unfold State.writeWords
  rw [h, if_neg (by rintro (h | h) <;> contradiction)]
theorem State.writeWords_of_queued {s t : State} {o : Origin} {a : Nat} {v : Word} (ws : List Word) (k : Nat) (q : Bool)
    (h : s.writeWord o a v = (0x0A, t)) : s.writeWords o a (v :: ws) k q = t.writeWords o (a + 4) ws (k + 1) true := by
  rw [State.writeWords]
  simp [h]

/-! ### FIFO_READ -/

theorem execFifoRead_of_good {s : State} {lanes : Lanes} {addr : Word} {len hcrc : Half} (h : crc16 (headBytes 3 lanes addr len) = hcrc)
    (h1 : 1 ≤ len.toNat) (h2 : len.toNat ≤ 1024) : execFifoRead lanes addr len hcrc s =
      .next ({ s with host := { s.host with fifo := s.host.fifo.drop len.toNat } }.emit (.host 0 (Nat.min len.toNat s.host.fifo.length)
        (s.host.fifo.take len.toNat ++ List.replicate (len.toNat - s.host.fifo.length) 0#32))) := by
  have hpad : len.toNat - (s.host.fifo.take len.toNat).length = len.toNat - s.host.fifo.length := by
    rw [List.length_take]
    omega
  unfold execFifoRead
  dsimp only
  rw [if_neg (not_not_intro h), (lenOk_iff _).mpr ⟨h1, h2⟩, hpad, List.length_take]
  rfl

/-- Settles O43: each transaction by its CRC, its length and its words. -/
theorem hostTransactions : Obligations.HostTransactions := by
  unfold Obligations.HostTransactions
  intro s lanes addr len hcrc dcrc words a n pg off good rd wr wgood failed one queue entry
  have hone : ∀ v, words = [v] → wgood → ∀ st t, s.writeWord .host a v = (st, t) → st ≠ 0 →
      exec (wr false) s = .next (t.emit (.host st (if st = 0x0A then 1 else 0) [])) := by
    intro v hv hg st t hw hst
    subst hv
    rw [exec_write, execWrite_of_good hg (by simp) (by simp)]
    by_cases hq : st = 0x0A
    · subst hq
      rw [State.writeWords_of_queued _ _ _ hw]
      rfl
    · rw [State.writeWords_of_refused _ _ _ hw hst hq, if_neg hq]
  refine ⟨fun h => ⟨_, execRead_of_crc h, s.crcError_failed n⟩, fun h hl => execRead_of_len h hl, fun h h1 h2 => ?_, ?_, ?_, ?_, rfl,
    fun h => ⟨_, execWrite_of_crc h, s.crcError_failed 0⟩, ?_, ?_, ?_, ?_, ?_, fun h => ⟨_, execFifoRead_of_crc h, s.crcError_failed n⟩,
    fun h h1 h2 => execFifoRead_of_good h h1 h2⟩
  · obtain ⟨hout, hregs, hpages, hmbx, hhost⟩ := s.readWords_keeps .host a n
    have hlen := s.readWords_length .host a n
    obtain ⟨hle, hiff⟩ := firstBad_spec (s.readWords .host a n).1 0
    rw [hlen, Nat.zero_add] at hle hiff
    refine ⟨_, _, _, _, execRead_of_good h h1 h2, congrArg (_ :: ·) hout, ?_, hle, hiff, hregs, hpages, hmbx, hhost⟩
    rw [List.length_map, hlen]
  · intro h ⟨hn, h4⟩ ha hl hh he hb
    exact execRead_one h hn (by rw [State.readWord_of_register s .host h4 ha, State.readLatched_of_plain s .host hl hh he hb])
  · intro h ⟨hn, h4⟩ ha hu
    exact execRead_one h hn (State.readWord_of_unmapped s .host h4 ha hu)
  · intro h ⟨hn, h4⟩ hlo hhi hs
    exact execRead_one h hn (State.readWord_of_staleHall h4 hlo hhi hs)
  · intro hg v hv ⟨hf, hc, ha, h4⟩ hm
    exact hone v hv hg _ _ ((State.writeWord_of_mailbox s v hf hc ha h4).trans (if_neg (by omega))) (by decide)
  · intro hg v hv ⟨hf, hc, ha, h4⟩ hm
    exact hone v hv hg _ _ ((State.writeWord_of_mailbox s v hf hc ha h4).trans (if_pos hm)) (by decide)
  · intro hg v w hv ⟨hf, hc, ha, h4⟩ ⟨hf', hc', ha', h4'⟩ hm
    subst hv
    have hfirst := (State.writeWord_of_mailbox s v hf hc ha h4).trans (if_neg (by omega))
    rw [exec_write, execWrite_of_good hg (by simp) (by simp), State.writeWords_of_queued _ _ _ hfirst,
      State.writeWords_of_refused _ _ _ ((State.writeWord_of_mailbox _ w hf' hc' ha' h4').trans (if_pos ?_)) (by decide) (by decide)]
    simp [hm]
  · intro hg v hv h4 ha hf
    exact hone v hv hg _ _ (State.writeWord_of_unmapped s .host v hf ha h4) (by decide)
  · intro hg v hv hlo hhi
    exact hone v hv hg _ _ (State.writeWord_of_hall s .host v hlo hhi) (by decide)

end Sys2Proof.Machine
end


section
/-! Synchronised time: SYNC_IN and SYNC_OUT (R395, R396) and the network time master (R397 to R399). -/
namespace Sys2Proof.Machine

/-! ### Offsets and their removal -/

/-- off is the distance of t from a nearest multiple of one second. -/
def nearSecond (t : Nat) (off : Int) : Prop := off * 2 < 1000000000 ∧ -1000000000 ≤ off * 2 ∧ ((t : Int) - off) % 1000000000 = 0

theorem nearOff_spec (t : Int) {p : Nat} (hp : p ≠ 0) :
    nearOff t p * 2 < p ∧ -(p : Int) ≤ nearOff t p * 2 ∧ (t - nearOff t p) % (p : Int) = 0 := by
  have hpos : (0 : Int) < p := by omega
  have hlo := Int.emod_nonneg t hpos.ne'
  have hhi := Int.emod_lt_of_pos t hpos
  have hdiv : (t - t % p) % (p : Int) = 0 := Int.emod_eq_zero_of_dvd (Int.dvd_self_sub_emod)
  unfold nearOff
  rw [if_neg hp]
  dsimp only
  split
  · exact ⟨by omega, by omega, hdiv⟩
  · refine ⟨by omega, by omega, ?_⟩
    rw [← sub_add, Int.add_emod_right, hdiv]
theorem nearOff_nearSecond (t : Nat) : nearSecond t (nearOff t 1000000000) := nearOff_spec t (by decide)

theorem State.rebase_syncT (s : State) (t : Nat) : (s.rebase t).syncT = s.syncT := by
  unfold State.rebase
  extract_lets p k at_
  split
  · rfl
  · rfl
theorem State.syncT_of_freeWord {s t : State} {w : Word} (e : s.freeWord = (w, t)) : t.syncT = s.syncT := by
  rw [← State.freeWord_syncT s, e]
theorem State.correct_syncT (s : State) (src : Nat) (off : Int) : (s.correct src off).syncT = s.syncT := by
  unfold State.correct
  extract_lets big stepMode
  split
  · next t l v _ =>
    have hv : v.syncT = s.syncT := by
      obtain ⟨x, hx⟩ : ∃ x, v = State.rebase { s with time := x } t := ⟨_, rfl⟩
      rw [hx, State.rebase_syncT]
    split
    next w x e => exact (State.log_syncT _ _ _).trans ((State.syncT_of_freeWord e).trans hv)
  · rfl
/-- In a running mode an offset is slewed away (R42). -/
theorem State.correct_of_running {s : State} (src : Nat) (off : Int) (h : s.md.running = true) :
    s.correct src off = { s with time := { s.time with slewn := s.slewTotal s.now, slew := off, slewAt := s.now } } := by
  have hstep : (s.md == .start || s.md == .dormant || s.md == .commission) = false := by
    cases hm : s.md <;> simp_all [Mode.running]
  unfold State.correct
  dsimp only
  rw [hstep, Bool.and_false]
  rfl

/-! ### SYNC_IN -/

/-- What a missed or displaced edge leaves of the state y of the synchronisation (R395). -/
def SyncMissed (y z : SyncTime) : Prop :=
  if y.lock = true ∧ 2 ≤ y.misses then z.lock = false ∧ z.src = .none
  else z = { y with misses := y.misses + 1, edges := if y.lock then y.edges else 0 }

theorem State.syncLost_syncT (s : State) : s.syncLost.syncT = { s.syncT with lock := false, edges := 0, src := .none } := by
  simp only [State.syncLost, State.raise_syncT, State.logN_syncT]
theorem State.syncLost_time (s : State) : s.syncLost.time = s.time := by
  simp only [State.syncLost, State.raise_time, State.logN_time]
theorem State.syncMiss_missed (s : State) : SyncMissed s.syncT s.syncMiss.syncT := by
  unfold SyncMissed State.syncMiss
  dsimp only
  by_cases hl : s.syncT.lock = true
  · by_cases hm : 2 ≤ s.syncT.misses
    · rw [if_pos ⟨hl, hm⟩, if_pos ⟨hl, by omega⟩, State.syncLost_syncT]
      exact ⟨rfl, rfl⟩
    · rw [if_neg (by simp [hm]), if_neg (by rintro ⟨_, h⟩; omega), if_pos hl, if_pos hl]
  · rw [if_neg (by simp [hl]), if_neg (by simp [hl]), if_neg hl, if_neg hl]
theorem State.syncMiss_time (s : State) : s.syncMiss.time = s.time := by
  simp only [State.syncMiss, apply_ite State.time, State.syncLost_time, ite_self]

theorem execSyncInEdge_of_format {s : State} (t : Nat) (h1 : s.inFmt ≠ 1) (h2 : s.inFmt ≠ 2) : execSyncInEdge t s = .next (s.reach t) :=
  if_pos ⟨h1, h2⟩
theorem State.syncPeriod_of_pps {s : State} (h : s.inFmt = 1) : s.syncPeriod = 1000000000 := if_pos h

/-- The state of the synchronisation after an edge at t that counts. -/
def SyncTime.edge (y : SyncTime) (t : Nat) : SyncTime := { y with misses := 0, lastEdge := t, offset := nearOff t 1000000000 }

/-- An edge of a locked PPS input within 100 us of its prediction (R395): the offset, which a device of its own time removes. -/
theorem execSyncInEdge_of_near {s : State} {t : Nat} (hf : s.inFmt = 1) (hl : s.syncT.lock = true)
    (hlate : t ≤ s.syncT.lastEdge + (s.syncT.misses + 1) * 1000000000 + 100000)
    (hearly : s.syncT.lastEdge + (s.syncT.misses + 1) * 1000000000 ≤ t + 100000) :
    (s.ownTime = true → execSyncInEdge t s =
      .next (({ s.reach t with syncT := { s.syncT.edge t with src := .syncIn } } : State).correct 1 (nearOff t 1000000000))) ∧
    (s.ownTime = false → execSyncInEdge t s = .next { s.reach t with syncT := s.syncT.edge t }) := by
  have hp : (s.reach t).syncPeriod = 1000000000 := State.syncPeriod_of_pps hf
  have hnear : ¬ (s.syncT.lastEdge + (s.syncT.misses + 1) * 1000000000 + 100000 < t ∨
      t + 100000 < s.syncT.lastEdge + (s.syncT.misses + 1) * 1000000000) := by omega
  unfold execSyncInEdge SyncTime.edge
  dsimp only
  rw [if_neg (fun h => h.1 hf), if_pos (show (s.reach t).syncT.lock = true from hl), hp, if_pos (show (s.reach t).inFmt = 1 from hf)]
  generalize nearOff t 1000000000 = off
  refine ⟨fun ho => ?_, fun ho => ?_⟩
  · exact (if_neg hnear).trans ((if_pos ho).trans (if_pos hf))
  · exact (if_neg hnear).trans (if_neg (Bool.eq_false_iff.mp ho))

/-- An edge of a locked PPS input away from its prediction counts as missed. -/
theorem execSyncInEdge_of_displaced {s : State} {t : Nat} (hf : s.inFmt = 1) (hl : s.syncT.lock = true)
    (h : s.syncT.lastEdge + (s.syncT.misses + 1) * 1000000000 + 100000 < t ∨ t + 100000 < s.syncT.lastEdge + (s.syncT.misses + 1) * 1000000000) :
    execSyncInEdge t s = .next (s.reach t).syncMiss := by
  have hp : (s.reach t).syncPeriod = 1000000000 := State.syncPeriod_of_pps hf
  unfold execSyncInEdge
  dsimp only
  rw [if_neg (fun h => h.1 hf), if_pos (show (s.reach t).syncT.lock = true from hl), hp]
  exact if_pos h

/-- An edge at the right distance from the last one; the third in a row locks. -/
theorem execSyncInEdge_of_unlocked {s : State} {t : Nat} (hf : s.inFmt = 1) (hl : s.syncT.lock = false)
    (hlo : 999900000 ≤ t - s.syncT.lastEdge) (hhi : t - s.syncT.lastEdge ≤ 1000100000) (h0 : s.syncT.lastEdge ≠ 0) :
    ∃ u, execSyncInEdge t s = .next u ∧ u.syncT =
      { s.syncT.edge t with lock := decide (2 ≤ s.syncT.edges), edges := s.syncT.edges + 1 } := by
  have hp : (s.reach t).syncPeriod = 1000000000 := State.syncPeriod_of_pps hf
  have hgood : (decide (1000000000 * 9999 ≤ (t - s.syncT.lastEdge) * 10000) && decide ((t - s.syncT.lastEdge) * 10000 ≤ 1000000000 * 10001) &&
      s.syncT.lastEdge != 0) = true := by
    simp only [Bool.and_eq_true, decide_eq_true_eq, bne_iff_ne]
    omega
  unfold execSyncInEdge
  dsimp only
  rw [if_neg (fun h => h.1 hf), if_neg (show ¬ (s.reach t).syncT.lock = true by rw [State.reach_syncT, hl]; decide), hp,
    if_pos (show (s.reach t).inFmt = 1 from hf)]
  rw [State.reach_syncT, hgood]
  unfold SyncTime.edge
  generalize nearOff t 1000000000 = off
  by_cases hn : 2 ≤ s.syncT.edges
  · refine ⟨_, if_pos (show 3 ≤ s.syncT.edges + 1 by omega), ?_⟩
    rw [State.raise_syncT, State.log_syncT, decide_eq_true hn]
    rfl
  · refine ⟨_, if_neg (show ¬ 3 ≤ s.syncT.edges + 1 by omega), ?_⟩
    rw [decide_eq_false hn, ← hl]
    rfl

/-! ### SYNC_OUT -/

theorem execSyncOutPulse_of_pps {s : State} (h : s.outFmt = 1) :
    execSyncOutPulse s = .next ((s.reach ((s.now + 999999999) / 1000000000 * 1000000000)).emit (.pulse "SYNC_OUT" 0 10)) := if_pos h
theorem execSyncOutPulse_of_format {s : State} (h1 : s.outFmt ≠ 1) (h2 : s.outFmt ≠ 2) : execSyncOutPulse s = .next s := by
  unfold execSyncOutPulse
  rw [if_neg h1, if_neg (fun h => h2 h.1)]
/-- The instant of the pulse: the next whole second. -/
theorem nextSecond_spec (n : Nat) : Nat.max n ((n + 999999999) / 1000000000 * 1000000000) % 1000000000 = 0 ∧
    n ≤ Nat.max n ((n + 999999999) / 1000000000 * 1000000000) ∧ Nat.max n ((n + 999999999) / 1000000000 * 1000000000) < n + 1000000000 := by
  rw [Nat.max_eq_max, Nat.max_eq_right (by omega)]
  omega

/-! ### The network time master -/

theorem execMasterCandidateStart_of_free {s : State} (hr : s.ntmRole = 2) (hc : s.syncT.conflict = false) (hh : s.heardHigher = false)
    (ha : s.active = true) (hs : s.syncT.sending = false) : execMasterCandidateStart s =
      .next ({ s with syncT := { s.syncT with sending := true } }.logN 0x0B0B [s.ntmCan, 4, s.heardWord]) := if_pos ⟨hr, hc, hh, ha, hs⟩
theorem execMasterCandidateStart_of_barred {s : State} (h : s.heardHigher = true ∨ s.syncT.conflict = true) :
    execMasterCandidateStart s = .next s := by
  refine if_neg ?_
  rintro ⟨_, hc, hh, _⟩
  rw [hc, hh] at h
  simp at h

theorem execRefMessageTx_of_higher {s : State} (hs : s.syncT.sending = true) (hr : s.ntmRole = 2) (ha : s.active = true)
    (hh : s.heardHigher = true) : execRefMessageTx s =
      .next ({ s with syncT := { s.syncT with sending := false } }.logN 0x0B0B [s.ntmCan, 2, s.heardWord]) := by
  unfold execRefMessageTx
  rw [if_pos ⟨hs, hr, ha⟩, if_pos hh]
/-- The reference message: lock, priority, the next count and the last send time (Table 15.3). -/
theorem execRefMessageTx_of_sending {s : State} (hs : s.syncT.sending = true) (hr : s.ntmRole = 2) (ha : s.active = true)
    (hh : s.heardHigher = false) (hu : s.canUp s.ntmCan = true) : execRefMessageTx s =
      .next ({ s with syncT := { s.syncT with count := s.syncT.count + 1#8, lastTx := some s.now } }.emit (.can s.ntmCan
        { id := BitVec.ofNat 29 (s.refBase + s.ntmPrio), xtd := s.bit pTIME 0x03C 29, fdf := false, brs := false, dlc := 8,
          data := [BitVec.ofNat 8 (16 + b2n s.syncT.lock * 8 + s.ntmPrio), s.syncT.count + 1#8] ++
            leBytes 6 (match s.syncT.lastTx with | some t => t % 2 ^ 48 | none => 2 ^ 48 - 1) })) := by
  unfold execRefMessageTx
  dsimp only
  rw [if_pos ⟨hs, hr, ha⟩, hh]
  exact congrArg Host.Outcome.next (if_pos hu)

/-- The reference messages of the own network (Table 15.3). -/
theorem State.refMine_iff (s : State) (x : Nat) (f : CanFrame) : s.refMine x f = true ↔
    (x = s.ntmCan ∧ f.id.toNat - f.id.toNat % 8 = s.refBase ∧ f.xtd = s.bit pTIME 0x03C 29 ∧ f.fdf = false ∧ f.data.length = 8 ∧
      (f.data.getD 0 0#8).toNat / 16 = 1) ∧ s.ntmRole ≠ 0 := by
  simp [State.refMine, and_assoc]
/-- A frame taken out of the receive FIFOs changes the controllers alone. -/
theorem State.fifo0Take_keeps {β : Type} (p : State → β) (h : ∀ t k g, p (State.updCan t k g) = p t) (s : State) (f : CanFrame) :
    p (s.fifo0Take f) = p s := foldS_keeps p _ _ s fun t x => h t x _
theorem State.fifo0Take_syncT (s : State) (f : CanFrame) : (s.fifo0Take f).syncT = s.syncT :=
  s.fifo0Take_keeps State.syncT (fun _ _ _ => rfl) f
theorem State.fifo0Take_time (s : State) (f : CanFrame) : (s.fifo0Take f).time = s.time :=
  s.fifo0Take_keeps State.time (fun _ _ _ => rfl) f
theorem State.fifo0Take_standby (s : State) (f : CanFrame) : (s.fifo0Take f).standby = s.standby :=
  s.fifo0Take_keeps State.standby (fun _ _ _ => rfl) f
theorem State.fifo0Take_ntmRole (s : State) (f : CanFrame) : (s.fifo0Take f).ntmRole = s.ntmRole :=
  s.fifo0Take_keeps State.ntmRole (fun _ _ _ => rfl) f
theorem State.fifo0Take_ntmPrio (s : State) (f : CanFrame) : (s.fifo0Take f).ntmPrio = s.ntmPrio :=
  s.fifo0Take_keeps State.ntmPrio (fun _ _ _ => rfl) f

theorem State.fifo0Take_now (s : State) (f : CanFrame) : (s.fifo0Take f).now = s.now :=
  s.fifo0Take_keeps State.now (fun _ _ _ => rfl) f
theorem State.fifo0Take_slewTotal (s : State) (f : CanFrame) (n : Nat) : (s.fifo0Take f).slewTotal n = s.slewTotal n :=
  s.fifo0Take_keeps (fun t => t.slewTotal n) (fun _ _ _ => rfl) f
theorem State.fifo0Take_ownTime (s : State) (f : CanFrame) : (s.fifo0Take f).ownTime = s.ownTime :=
  s.fifo0Take_keeps State.ownTime (fun _ _ _ => rfl) f
theorem State.withSync_ownTime (s : State) (y : SyncTime) : ({ s with syncT := y } : State).ownTime = s.ownTime := rfl
theorem State.withSync_ntmRole (s : State) (y : SyncTime) : ({ s with syncT := y } : State).ntmRole = s.ntmRole := rfl
theorem State.withSync_now (s : State) (y : SyncTime) : ({ s with syncT := y } : State).now = s.now := rfl
theorem State.withSync_slewTotal (s : State) (y : SyncTime) (n : Nat) : ({ s with syncT := y } : State).slewTotal n = s.slewTotal n := rfl

/-- A message of the own identifier is a conflict, which ends sending (R399). -/
theorem execRefMessageRx_of_own {s : State} {x : CanIx} {f : CanFrame} (stamp : Nat) (hm : s.refMine x.val f = true) (hr : s.ntmRole = 2)
    (hp : f.id.toNat % 8 = s.ntmPrio) (hs : s.standby = false) : ∃ t, execRefMessageRx x f stamp s = .next t ∧
      t.syncT = { s.syncT with conflict := true, sending := false } ∧ t.time = s.time := by
  rw [← s.fifo0Take_ntmRole f] at hr
  rw [← s.fifo0Take_ntmPrio f] at hp
  rw [← s.fifo0Take_standby f] at hs
  refine ⟨_, (if_pos hm).trans ((if_neg fun h => ?_).trans (if_pos ⟨hr, hp⟩)), ?_, ?_⟩
  · rw [hs] at h
    exact absurd h.2.2 (by decide)
  · rw [State.raise_syncT, State.logN_syncT, s.fifo0Take_syncT f]
  · rw [State.raise_time, State.logN_time]
    exact s.fifo0Take_time f

/-- The state of the synchronisation after a follow-up message of the master heard: network time is locked to it (R397). -/
theorem execRefMessageRx_of_follow {s : State} {x : CanIx} {f : CanFrame} (stamp : Nat) (hm : s.refMine x.val f = true) (hr : s.ntmRole = 1)
    (hh : (s.syncT.heard.any (fun e => e.1 == f.id.toNat % 8)) = true) (hc : s.syncT.lastCount = some (f.data.getD 1 0#8 - 1#8))
    (hp : leAt f.data 2 6 ≠ 2 ^ 48 - 1) (ho : s.ownTime = true) (hl : s.syncT.lock = false) :
    ∃ t, execRefMessageRx x f stamp s = .next t ∧ t.syncT.ntmLock = true ∧ t.syncT.src = .ntm ∧ t.syncT.lastStamp = stamp ∧
      t.syncT.lastCount = some (f.data.getD 1 0#8) ∧ t.syncT.heard = some (f.id.toNat % 8, s.now) ∧
      t.syncT.offset = (s.syncT.lastStamp : Int) - widen48 s.syncT.lastStamp (leAt f.data 2 6) - (s.slewTotal s.now - s.syncT.slewnThen) := by
  have hsync := s.fifo0Take_syncT f
  obtain ⟨⟨q, t0⟩, hq, hqp⟩ : ∃ e, s.syncT.heard = some e ∧ e.1 = f.id.toNat % 8 := by
    simpa [Option.any_eq_true] using hh
  dsimp only at hqp
  rw [← s.fifo0Take_ntmRole f] at hr
  have h2 : (s.fifo0Take f).ntmRole ≠ 2 := by omega
  unfold execRefMessageRx
  extract_lets p u _ best known v cnt prev follow off mine then_ act fst w y
  rw [if_pos hm, if_neg (fun h => h2 h.1), if_neg (fun h => h2 h.1)]
  have hbest : best = (p, s.now) := by
    simp only [best, u, hsync, hq, hqp, p, Nat.lt_irrefl, false_and, if_false, State.fifo0Take_now]
  have hknown : known = true := by
    simp only [known, u, hsync, hq, hbest, hqp, p, beq_self_eq_true]
  have hv : v.syncT = { s.syncT with heard := some (p, s.now) } := by
    rw [← hbest, ← hsync]
  have hact : act = true := by
    have hown : v.ownTime = true := (State.withSync_ownTime u _).trans ((s.fifo0Take_ownTime f).trans ho)
    simp only [act, follow, hknown, hv, hc, cnt, prev, decide_eq_true hp, hown, hl, Bool.not_false, Bool.true_and, Bool.and_true]
    exact beq_self_eq_true _
  have hmine : mine = true := by
    have hrole : v.ntmRole = 1 := (State.withSync_ntmRole u _).trans hr
    simp only [mine, hbest, hrole, beq_self_eq_true, Bool.true_or, Bool.and_self]
  have hw : w.syncT = v.syncT := by
    simp only [w, hact, if_true]
    rw [State.when_keeps State.syncT, State.correct_syncT]
    rw [State.raise_syncT, State.log_syncT]
  have hoff : off = (s.syncT.lastStamp : Int) - widen48 s.syncT.lastStamp prev - (s.slewTotal s.now - s.syncT.slewnThen) := by
    have hnow : v.now = s.now := (State.withSync_now u _).trans (s.fifo0Take_now f)
    have hslew : v.slewTotal v.now = s.slewTotal s.now := by
      rw [hnow]
      exact (State.withSync_slewTotal u _ _).trans (s.fifo0Take_slewTotal f _)
    simp only [off, hv, hslew]

  refine ⟨_, if_pos hmine, ?_⟩
  rw [hact, ← hoff]
  dsimp only
  refine ⟨Bool.or_true _, if_pos rfl, rfl, rfl, ?_, if_pos rfl⟩
  exact (congrArg SyncTime.heard (hw.trans hv) :)

/-- Settles O42: each edge, pulse and message by its format, its lock and its role. -/
theorem synchronisedTime : Obligations.SynchronisedTime := by
  unfold Obligations.SynchronisedTime
  intro s at_ x f stamp y t0 near pred missed mine
  have hnear : near (nearOff at_ 1000000000) := nearOff_nearSecond at_
  have hmine : mine → s.ntmRole ≠ 0 → s.refMine x.val f = true := fun h hr => (State.refMine_iff s x.val f).mpr ⟨h, hr⟩
  refine ⟨fun hf hl hlate hearly => ?_, fun hf hl hd => ?_, fun hf hl hlo hhi h0 => ?_, fun h1 h2 => execSyncInEdge_of_format at_ h1 h2,
    ⟨_, rfl, s.syncMiss_missed, s.syncMiss_time⟩, fun h => ?_, fun h1 h2 => execSyncOutPulse_of_format h1 h2, fun hr hc hh ha hs => ?_,
    fun h => execMasterCandidateStart_of_barred h, fun hs hr ha hh => ?_, fun hs hr ha hh hu => execRefMessageTx_of_sending hs hr ha hh hu,
    fun hm hr hp hs => ?_, fun hm hr hh hc hp ho hl => ?_, fun h => ?_⟩
  · obtain ⟨hown, hother⟩ := execSyncInEdge_of_near hf hl hlate hearly
    unfold SyncTime.edge at hown hother
    generalize nearOff at_ 1000000000 = off at hnear hown hother
    cases ho : s.ownTime with
    | true =>
      refine ⟨_, _, hown ho, hnear, ?_⟩
      rw [State.correct_syncT]
      refine ⟨rfl, rfl, rfl, hl, fun _ hrun => ?_, fun h => absurd h (by decide)⟩
      rw [State.correct_of_running]
      · exact ⟨rfl, rfl, rfl, rfl⟩
      · exact hrun
    | false => exact ⟨_, _, hother ho, hnear, rfl, rfl, rfl, hl, fun h => absurd h (by decide), fun _ => rfl⟩
  · refine ⟨_, execSyncInEdge_of_displaced hf hl hd, State.syncMiss_missed (s.reach at_), ?_⟩
    rw [State.now, State.syncMiss_time]
    rfl
  · obtain ⟨u, hu, hsync⟩ := execSyncInEdge_of_unlocked hf hl hlo hhi h0
    refine ⟨u, hu, ?_⟩
    unfold SyncTime.edge at hsync
    generalize nearOff at_ 1000000000 = off at hnear hsync
    rw [hsync]
    exact ⟨rfl, rfl, rfl, hnear⟩
  · obtain ⟨h1, h2, h3⟩ := nextSecond_spec s.now
    exact ⟨_, execSyncOutPulse_of_pps h, h1, h2, h3, rfl, rfl⟩
  · exact ⟨_, execMasterCandidateStart_of_free hr hc hh ha hs, State.logN_syncT _ _ _, State.logN_time _ _ _⟩
  · exact ⟨_, execRefMessageTx_of_higher hs hr ha hh, State.logN_syncT _ _ _, State.logN_out _ _ _⟩
  · exact execRefMessageRx_of_own stamp (hmine hm (by omega)) hr hp hs
  · exact execRefMessageRx_of_follow stamp (hmine hm (by omega)) hr hh hc hp ho hl
  · exact if_neg fun hm => h ((State.refMine_iff s x.val f).mp hm).1

end Sys2Proof.Machine
end


section
/-! Memory words: a word written reads back. -/
namespace Sys2Proof.Machine

/-- The four bytes of a word, put together again. -/
theorem word_of_bytes (w : Word) :
    Memory.readWord.word4 [w.setWidth 8, (w >>> 8).setWidth 8, (w >>> 16).setWidth 8, (w >>> 24).setWidth 8] = w := by
  refine BitVec.eq_of_getLsbD_eq fun i hi => ?_
  simp only [Memory.readWord.word4, List.foldr_cons, List.foldr_nil, BitVec.getLsbD_or, BitVec.getLsbD_shiftLeft, BitVec.getLsbD_setWidth,
    BitVec.getLsbD_ushiftRight]
  by_cases h8 : i < 8
  · simp [h8, hi]
  by_cases h16 : i < 16
  · have hb : 8 + (i - 8) = i := by omega
    simp [h8, hi, hb, show i - 8 < 8 by omega, show i - 8 < 32 by omega]
  by_cases h24 : i < 24
  · have hb : 16 + (i - 8 - 8) = i := by omega
    simp [h8, hi, hb, show ¬ i - 8 < 8 by omega, show i - 8 < 32 by omega, show i - 8 - 8 < 8 by omega, show i - 8 - 8 < 32 by omega]
  · have hb : 24 + (i - 8 - 8 - 8) = i := by omega
    simp [h8, hi, hb, show ¬ i - 8 < 8 by omega, show i - 8 < 32 by omega, show ¬ i - 8 - 8 < 8 by omega, show i - 8 - 8 < 32 by omega,
      show i - 8 - 8 - 8 < 8 by omega, show i - 8 - 8 - 8 < 32 by omega]

theorem Memory.readWord_writeWord (m : Memory) (a : Nat) (w : Word) : (m.writeWord a w).readWord a = w := by
  refine Eq.trans ?_ (word_of_bytes w)
  rw [Memory.readWord]
  congr 1
  simp [Memory.read, Memory.writeWord, Memory.write, Memory.get_set, Nat.add_assoc]

end Sys2Proof.Machine
end

section
/-! The commands of the host port (R414 to R418), the restore slots (R419) and the latching reads (R55). -/
namespace Sys2Proof.Machine

theorem exec_fifoFlush (o : Origin) (s : State) : exec (.fifoFlush o) s = .next (s.served o pHOST 0x008 (.ok s.fifoFlush)) := rfl
theorem exec_wakeClr (o : Origin) (s : State) : exec (.wakeClr o) s = .next (s.served o pHOST 0x008 (.ok s.wakeClr)) := rfl
theorem exec_rsubmit (o : Origin) (v : Word) (s : State) : exec (.rsubmit o v) s = .next (s.served o pHOST 0x024 (s.rsubmit v)) := rfl
theorem exec_lowWordRead (o : Origin) (addr : Word) (s : State) : exec (.lowWordRead o addr) s = .next (s.readOne o addr.toNat) := rfl
theorem exec_ctxWord0Read (o : Origin) (s : State) : exec (.ctxWord0Read o) s = .next (s.readOne o (regAddr pEST 0x800)) := rfl

/-- A malformed command byte (R414). -/
theorem cmdBad_iff (c : Byte) : cmdBad c = true ↔ c.toNat < 16 ∨ 64 ≤ c.toNat ∨ c.toNat / 4 % 4 ≠ 0 ∨ c.toNat % 4 = 3 := by
  simp only [cmdBad, Bool.or_eq_true, decide_eq_true_eq]
  omega

/-! ### Restore slots -/

theorem State.setRslot_ne (s : State) {k j : Nat} (x : RestoreSlot) (h : j ≠ k) : (s.setRslot k x).rslot j = s.rslot j :=
  sget_sset_ne _ _ _ h
theorem State.rslot_of_rslots {s t : State} (h : t.rslots = s.rslots) (k : Nat) : t.rslot k = s.rslot k := by
  rw [State.rslot, State.rslot, h]

theorem execRestoreSlotWrite_of_validating {s : State} {addr : Word} (v : Word) (h : (s.rslot (addr.toNat / 0x8000 % 16)).st = .validating) :
    execRestoreSlotWrite addr v s = .next (s.answer .host 4 []) := by
  simp only [execRestoreSlotWrite, State.restoreWrite, h, if_true]
  rfl
/-- A word of the restore window: it reads back, and the slot is no longer decided (R419). -/
theorem execRestoreSlotWrite_of_open {s : State} {addr : Word} (v : Word) (h : (s.rslot (addr.toNat / 0x8000 % 16)).st ≠ .validating) :
    ∃ x : RestoreSlot, execRestoreSlotWrite addr v s = .next ((s.setRslot (addr.toNat / 0x8000 % 16) x).answer .host 0 []) ∧
      x.mem = (s.rslot (addr.toNat / 0x8000 % 16)).mem.writeWord (addr.toNat % 0x8000 / 4 * 4) v ∧ x.written = true ∧
      x.st = if (s.rslot (addr.toNat / 0x8000 % 16)).st = .submitted then .submitted else .empty := by
  simp only [execRestoreSlotWrite, State.restoreWrite, h, if_false]
  exact ⟨_, rfl, rfl, rfl, rfl⟩

/-- The image at the head of the queue starts its validation; the rest of the state stays. -/
theorem State.validateNext_frame (s : State) : { s.validateNext with rslots := s.rslots } = s := by
  unfold State.validateNext
  split
  · split <;> rfl
  · rfl
theorem State.validateNext_rqueue (s : State) : s.validateNext.rqueue = s.rqueue := (congrArg State.rqueue s.validateNext_frame :)
theorem State.validateNext_est (s : State) : s.validateNext.est = s.est := (congrArg State.est s.validateNext_frame :)
theorem State.validateNext_page (s : State) (pg : Nat) : s.validateNext.page pg = s.page pg :=
  State.page_of_pages (congrArg State.pages s.validateNext_frame :) pg
/-- What a slot becomes: its validation starts where it is the submitted head of the queue. -/
theorem State.validateNext_rslot (s : State) (j : Nat) : s.validateNext.rslot j =
    if s.rqueue.head? = some j ∧ (s.rslot j).st = .submitted then { s.rslot j with st := .validating } else s.rslot j := by
  unfold State.validateNext
  split
  · next k l hq =>
    simp only [hq, List.head?_cons, Option.some.injEq]
    by_cases hk : j = k
    · subst hk
      by_cases hs : (s.rslot j).st = .submitted
      · rw [if_pos hs, if_pos ⟨rfl, hs⟩, State.updRslot_same]
      · rw [if_neg hs, if_neg (fun h => hs h.2)]
    · refine Eq.trans ?_ (if_neg fun h => hk h.1.symm).symm
      split
      · exact State.updRslot_ne s _ hk
      · rfl
  · next hq => rw [hq, if_neg (by simp)]

/-! ### RSUBMIT -/

theorem State.rsubmit_of_unfit {s : State} {v : Word} (h : (s.rslot (field v 3 0)).written = false ∨ (s.rslot (field v 3 0)).st ≠ .empty) :
    s.rsubmit v = .error .format := by
  refine if_pos ?_
  rcases h with h | h <;> simp [h]
/-- A written, empty slot joins the queue. -/
theorem State.rsubmit_of_fit {s : State} {v : Word} (hw : (s.rslot (field v 3 0)).written = true) (he : (s.rslot (field v 3 0)).st = .empty) :
    s.rsubmit v = .ok
      ({ s.updRslot (field v 3 0) (fun r => { r with st := .submitted }) with rqueue := s.rqueue ++ [field v 3 0] } : State).validateNext :=
  if_neg (by simp [hw, he])
/-- The slot that joins: its image stays, and it validates at once where nothing waits before it. -/
theorem State.rsubmitted_rslot (s : State) (j : Nat) :
    let u := ({ s.updRslot j (fun r => { r with st := .submitted }) with rqueue := s.rqueue ++ [j] } : State).validateNext
    (s.rqueue = [] → (u.rslot j).st = .validating) ∧ (s.rqueue ≠ [] → j ∉ s.rqueue → (u.rslot j).st = .submitted) ∧
      (u.rslot j).mem = (s.rslot j).mem := by
  have hj : State.rslot { s.updRslot j (fun r => { r with st := .submitted }) with rqueue := s.rqueue ++ [j] } j =
      { s.rslot j with st := .submitted } := State.updRslot_same s j (fun r => { r with st := .submitted })
  intro u
  have hu : u.rslot j = if (s.rqueue ++ [j]).head? = some j then { s.rslot j with st := .validating } else { s.rslot j with st := .submitted } := by
    rw [State.validateNext_rslot, hj]
    simp only [and_true]
  rw [hu]
  refine ⟨fun hq => by simp [hq], fun hq hn => ?_, by split <;> rfl⟩
  obtain ⟨k, l, hkl⟩ := List.exists_cons_of_ne_nil hq
  have hk : k ≠ j := fun e => hn (by simp [hkl, e])
  simp [hkl, hk]

/-! ### The decision on an image -/

/-- The slot's result: the queue goes on, the slot keeps its decision, and the event of page HOST is raised. -/
theorem State.slotResult_decided (s : State) {i : Nat} {rest : List Nat} (st : SlotState) (step reason : Nat) (apply : Half)
    (hq : s.rqueue = i :: rest) (hst : st ≠ .submitted) :
    let t := s.slotResult i st step reason apply
    t.rqueue = rest ∧ t.evtBit pHOST 3 = true ∧ (t.rslot i).st = st ∧ (t.rslot i).step = step ∧ (t.rslot i).reason = reason ∧
      (t.rslot i).apply = apply ∧ t.est = s.est := by
  intro t
  have hslot : t.rslot i = { s.rslot i with st := st, step := step, reason := reason, apply := apply } := by
    have hu : State.rslot (State.raise { s.updRslot i (fun r => { r with st := st, step := step, reason := reason, apply := apply }) with
        rqueue := s.rqueue.drop 1 } pHOST 3) i = { s.rslot i with st := st, step := step, reason := reason, apply := apply } :=
      State.updRslot_same s i (fun r => { r with st := st, step := step, reason := reason, apply := apply })
    exact (State.validateNext_rslot _ i).trans ((if_neg (by rw [hu]; exact fun h => hst h.2)).trans hu)
  have hqueue : t.rqueue = rest := (State.validateNext_rqueue _).trans (by rw [State.raise_rqueue, hq]; rfl)
  have hevt : t.evtBit pHOST 3 = true :=
    (State.evtBit_of_page 3 (State.validateNext_page _ _)).trans (State.raise_evtBit _ _ (by decide))
  rw [hslot]
  exact ⟨hqueue, hevt, rfl, rfl, rfl, rfl, State.validateNext_est _⟩
theorem State.slotResult_evtBit (s : State) (i : Nat) (st : SlotState) (step reason : Nat) (apply : Half) {pg : Nat} (n : Nat) (h : pg ≠ pHOST) :
    (s.slotResult i st step reason apply).evtBit pg n = s.evtBit pg n :=
  State.evtBit_of_page n ((State.validateNext_page _ pg).trans (State.raise_page_ne _ 3 h))

/-- A refused image: its record, its event and its slot's result. -/
def State.imageRefused (s : State) (i p step reason : Nat) : State :=
  ((s.logN 0x0405 [p, 0, step, reason]).raise pEST 3).slotResult i .refused step reason 0
theorem State.imageRefused_spec {s : State} {i : Nat} {rest : List Nat} (p step reason : Nat) (hq : s.rqueue = i :: rest) :
    let t := s.imageRefused i p step reason
    (t.rqueue = rest ∧ t.evtBit pHOST 3 = true) ∧ (t.rslot i).st = .refused ∧ (t.rslot i).step = step ∧ (t.rslot i).reason = reason ∧
      t.est = s.est ∧ t.evtBit pEST 3 = true := by
  intro t
  have hq' : ((s.logN 0x0405 [p, 0, step, reason]).raise pEST 3).rqueue = i :: rest := by
    rw [State.raise_rqueue, State.logN_rqueue, hq]
  obtain ⟨hqueue, hevt, hst, hstep, hreason, _, hest⟩ := State.slotResult_decided _ .refused step reason 0 hq' (by decide)
  refine ⟨⟨hqueue, hevt⟩, hst, hstep, hreason, hest.trans ?_, ?_⟩
  · rw [State.raise_est, State.logN_est]
  · exact (State.slotResult_evtBit _ _ _ _ _ _ _ (by decide)).trans (State.raise_evtBit _ _ (by decide))

/-- The image of slot i as it is staged for the next epoch number. -/
def State.stagedOf (s : State) (i : Nat) : StagedImage where
  port := leAt ((s.rslot i).mem.read 0 21824) 5 1
  bytes := ((s.rslot i).mem.read 0 21824).take (64 + 544 * leAt ((s.rslot i).mem.read 0 21824) 6 1)
  apply := some s.nextN
  fromPartner := false
  slot := some i
  late := decide (2 ≤ s.est.restore)

theorem execImageValidated_of_idle {s : State} (h : s.rqueue = []) : execImageValidated s = .next s := by
  rw [execImageValidated, h]

section
variable {s : State} {i : Nat} {rest : List Nat} (hq : s.rqueue = i :: rest) (hv : (s.rslot i).st = .validating)
include hq hv

/-- An image that the checks refuse with their step and reason. -/
theorem execImageValidated_of_unfit {st rs : Nat} (hc : s.imageCheck ((s.rslot i).mem.read 0 21824) = some (st, rs)) :
    execImageValidated s = .next (s.imageRefused i (leAt ((s.rslot i).mem.read 0 21824) 5 1) st rs) := by
  simp only [execImageValidated, hq, hv, ne_eq, not_true_eq_false, if_false, hc]
  rfl
/-- An image of a port that the partner's image has served. -/
theorem execImageValidated_of_mirrored (hc : s.imageCheck ((s.rslot i).mem.read 0 21824) = none)
    (hm : s.est.portsMirrored.getLsbD (leAt ((s.rslot i).mem.read 0 21824) 5 1) = true) :
    execImageValidated s = .next (s.imageRefused i (leAt ((s.rslot i).mem.read 0 21824) 5 1) 0 5) := by
  simp only [execImageValidated, hq, hv, ne_eq, not_true_eq_false, if_false, hc, hm, if_true]
  rfl
/-- An image that comes too late. -/
theorem execImageValidated_of_late (hc : s.imageCheck ((s.rslot i).mem.read 0 21824) = none)
    (hm : s.est.portsMirrored.getLsbD (leAt ((s.rslot i).mem.read 0 21824) 5 1) = false) (hr : 2 ≤ s.est.restore)
    (hl : s.lateOk (leAt ((s.rslot i).mem.read 0 21824) 5 1) = false) :
    execImageValidated s = .next (s.imageRefused i (leAt ((s.rslot i).mem.read 0 21824) 5 1) 0 6) := by
  simp only [execImageValidated, hq, hv, ne_eq, not_true_eq_false, if_false, hc, hm, Bool.false_eq_true, hr, hl, and_self, if_true]
  rfl
/-- An image that is applied at the next epoch number: staged, and mirrored to a partner. -/
theorem execImageValidated_of_fit (hc : s.imageCheck ((s.rslot i).mem.read 0 21824) = none)
    (hm : s.est.portsMirrored.getLsbD (leAt ((s.rslot i).mem.read 0 21824) 5 1) = false)
    (hr : s.est.restore < 2 ∨ s.lateOk (leAt ((s.rslot i).mem.read 0 21824) 5 1) = true) :
    ∃ u : State, execImageValidated s = .next (u.slotResult i .applied 0 0 (s.nextN.setWidth 16)) ∧ u.rqueue = s.rqueue ∧
      u.est.staged = s.est.staged ++ [s.stagedOf i] := by
  have hlate : ¬ (2 ≤ s.est.restore ∧ s.lateOk (leAt ((s.rslot i).mem.read 0 21824) 5 1) = false) := by
    rintro ⟨h2, hl⟩
    rcases hr with h | h
    · omega
    · rw [hl] at h
      cases h
  simp only [execImageValidated, hq, hv, ne_eq, not_true_eq_false, if_false, hc, hm, Bool.false_eq_true, hlate]
  refine ⟨_, rfl, ?_, ?_⟩
  · rw [apply_ite State.rqueue, State.sendPair_rqueue, ite_self]
  · rw [apply_ite State.est, State.sendPair_est, ite_self]
    rfl

end

/-! ### Latching reads -/

/-- A word after a low word is no low word, and not in the first page word. -/
theorem lowWord_next {pg off : Nat} (h : lowWord pg off = true) : lowWord pg (off + 4) = false := by
  simp only [lowWord, Bool.or_eq_true, Bool.and_eq_true, beq_iff_eq] at h
  simp only [lowWord, Bool.or_eq_false_iff, Bool.and_eq_false_iff, beq_eq_false_iff_ne]
  omega
theorem State.readOne_of_register (s : State) (o : Origin) {a : Nat} (h4 : a % 4 = 0) (ha : a < 0x80000) :
    s.readOne o a = (s.readLatched o (a / 0x1000) (a % 0x1000)).2.answer o 0 [(s.readLatched o (a / 0x1000) (a % 0x1000)).1] := by
  have hw : s.readWord o a = (0, s.readLatched o (a / 0x1000) (a % 0x1000)) := by
    unfold State.readWord
    rw [if_neg (by omega), if_pos ha]
  rw [State.readOne, hw]
theorem State.readLatched_of_low {s : State} {o : Origin} {pg off : Nat} (h : lowWord pg off = true) : s.readLatched o pg off =
    (s.readReg o pg off, s.updLatchOf o.code (fun l => { l with high := s.readReg o pg (off + 4), highOf := regAddr pg (off + 4) })) :=
  if_pos h
/-- The high word reads as it was latched. -/
theorem State.readLatched_of_latched {s : State} {o : Origin} {pg off : Nat} (h : lowWord pg off = true)
    (hl : (s.latchOf o.code).highOf = regAddr pg (off + 4)) : (s.readLatched o pg (off + 4)).1 = (s.latchOf o.code).high := by
  unfold State.readLatched
  dsimp only
  rw [lowWord_next h, if_neg Bool.false_ne_true, if_pos ⟨by omega, by rwa [Nat.add_sub_cancel]⟩, if_pos hl]
theorem State.readLatched_of_context (s : State) (o : Origin) : s.readLatched o pEST 0x800 =
    (s.readReg o pEST 0x800, s.updLatchOf o.code (fun l => { l with ctx := s.ctxWords.drop 1 })) := by
  unfold State.readLatched
  rw [if_neg (by decide), if_neg (by decide), if_pos (by decide)]

/-- Settles O44: each command by what admits it, and each latching read by its register. -/
theorem hostPortCommands : Obligations.HostPortCommands := by
  unfold Obligations.HostPortCommands
  intro s o cmd addr v c may did k ad r j pg off
  have hbad := cmdBad_iff cmd
  have hclass : pageClass pHOST = .mgmt := by decide
  refine ⟨fun h => if_pos (hbad.mpr h), fun h1 h2 h3 h4 => if_neg fun hb => ?_,
    fun ⟨hb, hr⟩ => congrArg Host.Outcome.next (State.served_ok_of_mgmt _ _ hclass hb hr),
    fun ⟨hb, hr⟩ => congrArg Host.Outcome.next (State.served_ok_of_mgmt _ _ hclass hb hr), fun x hx hb hr => ?_, fun x hx hb => ?_,
    fun h => execRestoreSlotWrite_of_validating v h, fun h => ?_,
    fun ⟨hb, hr⟩ h => ?_, fun ⟨hb, hr⟩ hw he => ?_, fun h => execImageValidated_of_idle h, fun i rest hq hv => ?_, fun h4 ha hl => ?_, ?_⟩
  · have := hbad.mp hb
    omega
  · have hserved : ∀ t, s.served o pHOST 0x008 (.ok t) = s.refuse o pHOST 0x008 .mode := fun t =>
      State.served_of_restarting _ _ hclass hb hr
    rcases List.mem_cons.mp hx with rfl | hx
    · rw [exec_fifoFlush, hserved]
    · rw [List.mem_singleton.mp hx, exec_wakeClr, hserved]
  · have hserved : ∀ off t, s.served o pHOST off t = s.answer o 5 [] := fun off t =>
      State.served_of_barred _ _ hclass (by decide) hb
    simp only [List.mem_cons, List.not_mem_nil, or_false] at hx
    rcases hx with rfl | rfl | rfl
    · rw [exec_fifoFlush, hserved]
    · rw [exec_wakeClr, hserved]
    · rw [exec_rsubmit, hserved]
  · obtain ⟨x, hx, hmem, hwritten, hst⟩ := execRestoreSlotWrite_of_open v h
    have hslot : ∀ n, ((s.setRslot k x).answer .host 0 []).rslot n = (s.setRslot k x).rslot n := fun n => rfl
    refine ⟨_, hx, ?_, ?_, ?_, ?_, fun n hn => (hslot n).trans (State.setRslot_ne s x hn), rfl, rfl⟩
    · rw [hslot, State.setRslot_same, hmem]
    · rw [hslot, State.setRslot_same, hmem, Memory.readWord_writeWord]
    · rw [hslot, State.setRslot_same, hwritten]
    · rw [hslot, State.setRslot_same, hst]
  · rw [exec_rsubmit, State.rsubmit_of_unfit h, State.served_error_of_mgmt _ _ hclass hb hr]
  · have hslot := s.rsubmitted_rslot j
    refine ⟨_, by rw [exec_rsubmit, State.rsubmit_of_fit hw he, State.served_ok_of_mgmt _ _ hclass hb hr], ?_⟩
    generalize hu : ({ s.updRslot j (fun r => { r with st := .submitted }) with rqueue := s.rqueue ++ [j] } : State).validateNext = u at hslot
    have hqueue : u.rqueue = s.rqueue ++ [j] := hu ▸ State.validateNext_rqueue _
    have hframe := State.answered_frame u o pHOST 0 []
    have hrs : ((u.bumpCfg pHOST).answer o 0 []).rslot j = u.rslot j := State.rslot_of_rslots (congrArg State.rslots hframe :) j
    rw [hrs]
    exact ⟨(congrArg State.rqueue hframe :).trans hqueue, hslot⟩
  · refine ⟨fun st rs hc => ⟨_, execImageValidated_of_unfit hq hv hc, State.imageRefused_spec _ st rs hq⟩,
      fun hc hm => ⟨_, execImageValidated_of_mirrored hq hv hc hm, State.imageRefused_spec _ 0 5 hq⟩,
      fun hc hm hr hl => ⟨_, execImageValidated_of_late hq hv hc hm hr hl, State.imageRefused_spec _ 0 6 hq⟩, fun hc hm hr => ?_⟩
    obtain ⟨u, hu, huq, hest⟩ := execImageValidated_of_fit hq hv hc hm hr
    obtain ⟨hqueue, hevt, hst, _, _, happly, he⟩ := State.slotResult_decided u .applied 0 0 (s.nextN.setWidth 16) (huq.trans hq) (by decide)
    exact ⟨_, hu, ⟨hqueue, hevt⟩, hst, happly, (congrArg EstSt.staged he).trans hest⟩
  · have haddr : regAddr pg (off + 4) = addr.toNat + 4 := by
      unfold regAddr
      omega
    refine ⟨_, by rw [exec_lowWordRead], ?_⟩
    have ht : s.readOne o addr.toNat = (s.updLatchOf o.code (fun l => { l with high := s.readReg o pg (off + 4), highOf := addr.toNat + 4 })).answer
        o 0 [s.readReg o pg off] := by
      rw [State.readOne_of_register s o h4 ha, State.readLatched_of_low hl, haddr]
    refine ⟨ht, ?_⟩
    have hlatch : (s.readOne o addr.toNat).latchOf o.code = { s.latchOf o.code with high := s.readReg o pg (off + 4), highOf := addr.toNat + 4 } := by
      have hout : ∀ (u : State) ws, (u.answer o 0 ws).latchOf o.code = u.latchOf o.code := fun u ws =>
        (congrArg (fun t : State => t.latchOf o.code) (u.answer_frame o 0 ws) :)
      rw [ht, hout, State.updLatchOf_same]
    rw [State.readLatched_of_latched hl (by rw [hlatch, haddr]), hlatch]
  · rw [exec_ctxWord0Read, State.readOne_of_register s o (by decide) (by decide)]
    exact congrArg (fun p : Word × State => Host.Outcome.next (p.2.answer o 0 [p.1])) (s.readLatched_of_context o)

end Sys2Proof.Machine
end


section
/-! Loops over an array of the state: what the turn of one entry establishes, where the other turns keep it. -/
namespace Sys2Proof.Machine

/-- A loop over a list that holds d establishes P, if the turn of d establishes it from Q, every turn keeps Q until then, and every turn
keeps P. -/
theorem foldS_reaches {α : Type} {Q P : State → Prop} {f : State → α → State} {l : List α} {d : α} {s : State} (hd : d ∈ l) (hs : Q s)
    (hwait : ∀ t, Q t → ∀ a ∈ l, Q (f t a) ∨ P (f t a)) (hat : ∀ t, Q t → P (f t d)) (hkeep : ∀ t, P t → ∀ a ∈ l, P (f t a)) :
    P (foldS l f s) := by
  have hdone : ∀ (k : List α) (t : State), (∀ a ∈ k, a ∈ l) → P t → P (foldS k f t) := by
    intro k
    induction k with
    | nil => exact fun t _ ht => ht
    | cons a k ih =>
      exact fun t hk ht => ih _ (fun b hb => hk b (List.mem_cons_of_mem _ hb)) (hkeep t ht a (hk a List.mem_cons_self))
  have hgo : ∀ (k : List α) (t : State), (∀ a ∈ k, a ∈ l) → d ∈ k → Q t → P (foldS k f t) := by
    intro k
    induction k with
    | nil => exact fun t _ hn _ => absurd hn List.not_mem_nil
    | cons a k ih =>
      intro t hk hn ht
      have hsub : ∀ b ∈ k, b ∈ l := fun b hb => hk b (List.mem_cons_of_mem _ hb)
      rcases List.mem_cons.mp hn with rfl | hn
      · exact hdone k _ hsub (hat t ht)
      · rcases hwait t ht a (hk a List.mem_cons_self) with hq | hp
        · exact ih _ hsub hn hq
        · exact hdone k _ hsub hp
  exact hgo l s (fun _ h => h) hd hs

theorem foldS_keeps_prop {α : Type} {P : State → Prop} {f : State → α → State} {l : List α} {s : State} (hs : P s)
    (hkeep : ∀ t, P t → ∀ a ∈ l, P (f t a)) : P (foldS l f s) := by
  induction l generalizing s with
  | nil => exact hs
  | cons a l ih => exact ih (hkeep s hs a List.mem_cons_self) fun t ht b hb => hkeep t ht b (List.mem_cons_of_mem _ hb)

end Sys2Proof.Machine
end

section
/-! What a message of the partner finds (R363): STATE, BLOCK, PLAN and CONTEXT. -/
namespace Sys2Proof.Machine

theorem exec_state (m : StateMsg) (s : State) : exec (.state m) s = execState m s := rfl

/-- The state in which a segmented message of a type is looked at: the link carries, the message is complete. -/
def State.heardMsg (s : State) (typ : Nat) : State :=
  { s.linkHeard with pair := { s.linkHeard.pair with asm := serase s.linkHeard.pair.asm typ } }
theorem State.heardMsg_frame (s : State) (typ : Nat) : { s.heardMsg typ with pair := s.pair } = s := by
  simp only [State.heardMsg, State.linkHeard]

/-! ### BLOCK and PLAN -/

theorem execBlock_of_other {s : State} (e : Word) (bl : List (Nat × Half × Half)) (h : s.standby = false) : execBlock e bl s = .next s :=
  if_pos (.inr (.inl h))
/-- Announced blocks wait for their epoch (R36). -/
theorem execBlock_of_synced {s : State} {e : Word} (bl : List (Nat × Half × Half)) (hg : s.gen.single = false) (hs : s.standby = true)
    (hy : s.pair.sync ≠ .syncing) (he : e ≠ s.time.epoch) : execBlock e bl s =
      .next { s.linkHeard with pair := { s.linkHeard.pair with blockEpoch := e, blocks := bl } } := by
  unfold execBlock
  rw [if_neg (by simp [hg, hs, hy])]
  exact if_neg he

theorem execPlan_of_other {s : State} (e : Word) (pl : List Shuttle) (h : s.standby = false) : execPlan e pl s = .next s := if_pos (.inr h)
theorem execPlan_of_standby {s : State} (e : Word) (pl : List Shuttle) (hg : s.gen.single = false) (hs : s.standby = true) :
    execPlan e pl s = .next ((s.heardMsg 0x11).mirrorPlan e pl) := if_neg (by simp [hg, hs])

theorem State.setPlan_frame (s : State) (ms : List Nat) (f : Nat → List (Nat × Int)) : { s.setPlan ms f with shuts := s.shuts } = s :=
  foldS_keeps (fun t : State => { t with shuts := s.shuts }) ms _ s fun t m =>
    foldS_keeps (fun t : State => { t with shuts := s.shuts }) (List.range (t.nCells m)) _ t fun u j => by
      rw [State.updShut, State.setShut]

/-- Module md's entry of the array of cells: no other module of at most 16 cells has it. -/
theorem cellIndex_inj {m n i j : Nat} (hi : i < 16) (hj : j < 16) (h : 16 * m + i = 16 * n + j) : m = n ∧ i = j := by omega

/-- The counts of cells that a plan was made for, and the current of one cell. -/
def State.Planned (n : Nat → Nat) (c : Nat) (i : Int) (t : State) : Prop := (∀ z, t.nCells z = n z) ∧ (t.shut c).plan = i

/-- The current that the plan of a module gives its cell j. -/
def planCur (l : List (Nat × Int)) (j : Nat) : Int := ((l.find? (fun e => e.1 == j)).map (·.2)).getD 0

/-- A turn of the plan keeps what the plan has given a cell, which is the same each time. -/
theorem State.Planned.turn {n : Nat → Nat} {md j : Nat} {f : Nat → List (Nat × Int)} {t : State} (hn : ∀ z, n z ≤ 16) (hj : j < n md)
    (h : t.Planned n (16 * md + j) (planCur (f md) j)) {m k : Nat} (hk : k < n m) :
    (t.updShut (16 * m + k) (fun x => { x with plan := planCur (f m) k, missRun := 0 })).Planned n (16 * md + j) (planCur (f md) j) := by
  obtain ⟨hc, hp⟩ := h
  refine ⟨hc, ?_⟩
  by_cases e : 16 * md + j = 16 * m + k
  · obtain ⟨rfl, rfl⟩ := cellIndex_inj (Nat.lt_of_lt_of_le hj (hn md)) (Nat.lt_of_lt_of_le hk (hn m)) e
    rw [State.updShut_same]
  · rwa [State.updShut_ne _ _ e]

/-- The current that a plan gives a cell (R198). -/
theorem State.setPlan_plan {s : State} {ms : List Nat} (f : Nat → List (Nat × Int)) {md j : Nat} (hm : md ∈ ms) (hj : j < s.nCells md)
    (hn : ∀ z, s.nCells z ≤ 16) : ((s.setPlan ms f).shut (16 * md + j)).plan = planCur (f md) j := by
  suffices h : (s.setPlan ms f).Planned s.nCells (16 * md + j) (planCur (f md) j) from h.2
  refine foldS_reaches (P := State.Planned s.nCells (16 * md + j) (planCur (f md) j)) (Q := fun t => ∀ z, t.nCells z = s.nCells z) hm
    (fun _ => rfl) (fun t ht m _ => .inl ?_) (fun t ht => ?_) fun t ht m _ => ?_
  · exact foldS_keeps_prop (P := fun u => ∀ z, u.nCells z = s.nCells z) ht fun u hu k _ => hu
  · refine foldS_reaches (P := State.Planned s.nCells (16 * md + j) (planCur (f md) j)) (Q := fun u => ∀ z, u.nCells z = s.nCells z)
      (List.mem_range.mpr ((ht md).symm ▸ hj)) ht (fun u hu k _ => .inl hu) (fun u hu => ⟨hu, by rw [State.updShut_same]; rfl⟩) fun u hu k hk => ?_
    exact State.Planned.turn hn hj hu (by rw [← ht md]; exact List.mem_range.mp hk)
  · refine foldS_keeps_prop (P := State.Planned s.nCells (16 * md + j) (planCur (f md) j)) ht fun u hu k hk => ?_
    exact State.Planned.turn hn hj hu (by rw [← ht.1 m]; exact List.mem_range.mp hk)

theorem State.mirrorPlan_frame (s : State) (e : Word) (pl : List Shuttle) : { s.mirrorPlan e pl with bal := s.bal, shuts := s.shuts } = s := by
  have h := State.setPlan_frame { s with bal := { s.bal with mirrored := some (e, pl) } } s.modulesInUse
    (fun m => (pl.filter (fun x => x.module == m)).map (fun x => (x.cell, x.cur)))
  exact (congrArg (fun t : State => { t with bal := s.bal }) h :)
theorem State.mirrorPlan_mirrored (s : State) (e : Word) (pl : List Shuttle) : (s.mirrorPlan e pl).bal.mirrored = some (e, pl) := by
  have h := State.setPlan_frame { s with bal := { s.bal with mirrored := some (e, pl) } } s.modulesInUse
    (fun m => (pl.filter (fun x => x.module == m)).map (fun x => (x.cell, x.cur)))
  exact (congrArg (fun t : State => t.bal.mirrored) h :)

theorem State.mirrorPlan_plan {s : State} {e : Word} {pl : List Shuttle} {md j : Nat} (hm : md ∈ s.modulesInUse) (hj : j < s.nCells md)
    (hn : ∀ z, s.nCells z ≤ 16) : ((s.mirrorPlan e pl).shut (16 * md + j)).plan =
      planCur ((pl.filter (fun x => x.module == md)).map (fun x => (x.cell, x.cur))) j := by
  have hmod : ∀ b, ({ s with bal := b } : State).modulesInUse = s.modulesInUse := fun b => rfl
  unfold State.mirrorPlan
  exact State.setPlan_plan _ (by rwa [hmod]) hj hn
/-- The one entry of a plan for a cell gives its current. -/
theorem planCur_of_entry {pl : List Shuttle} {md j : Nat} {i : Int}
    (h : pl.filter (fun x => x.module == md && x.cell == j) = [{ module := md, cell := j, cur := i }]) :
    planCur ((pl.filter (fun x => x.module == md)).map (fun x => (x.cell, x.cur))) j = i := by
  have hfind : (pl.filter (fun x => x.module == md)).find? (fun x => x.cell == j) = some { module := md, cell := j, cur := i } := by
    rw [← List.head?_filter, List.filter_filter]
    simp only [Bool.and_comm, h, List.head?_cons]
  rw [planCur, List.find?_map]
  simp only [Function.comp_def, hfind, Option.map_some, Option.getD_some]

/-! ### CONTEXT -/

section
variable {s : State} (e : Word) (img : List Byte) (hg : s.gen.single = false)
include hg

/-- A captured image of the active device ends the degradation of its standby, which stages it at once. -/
theorem execContext_of_captured (hs : s.standby = true) : ∃ t, execContext 0#8 e img s = .next t ∧
    t.est.staged = s.est.staged ++ [{ port := leAt img 5 1, bytes := img, apply := none, fromPartner := true }] ∧
    t.pair.sync = (if s.pair.sync = .degraded then .synced else s.pair.sync) ∧ { t with est := s.est, pair := s.pair } = s := by
  unfold execContext
  rw [hg, if_neg Bool.false_ne_true]
  refine ⟨_, if_pos ⟨rfl, hs⟩, ?_, ?_, ?_⟩
  · dsimp only
    split <;> rfl
  · dsimp only
    split
    · next h => exact (if_pos h).symm
    · next h => exact (if_neg h).symm
  · dsimp only
    split <;> rfl
/-- A restore image waits for its apply epoch. -/
theorem execContext_of_restore : ∃ t, execContext 1#8 e img s = .next t ∧
    t.est.staged = s.est.staged ++ [{ port := leAt img 5 1, bytes := img, apply := some e, fromPartner := false, late := decide (2 ≤ s.est.restore) }] ∧
    { t with est := s.est, pair := s.pair } = s := by
  unfold execContext
  rw [hg, if_neg Bool.false_ne_true]
  exact ⟨_, (if_neg (by rintro ⟨h, _⟩; exact absurd h (by decide))).trans (if_pos rfl), rfl, rfl⟩
theorem execContext_of_other {kind : Byte} (hk : 1 < kind.toNat) : execContext kind e img s = .next (s.heardMsg 0x12) := by
  have h0 : kind ≠ 0#8 := fun h => by simp [h] at hk
  have h1 : kind ≠ 1#8 := fun h => by simp [h] at hk
  unfold execContext
  rw [hg, if_neg Bool.false_ne_true]
  exact (if_neg fun h => h0 h.1).trans (if_neg h1)

end

/-! ### STATE -/

/-- Without a LOCKOUT on either side nothing is mirrored of its causes (R366). -/
theorem State.mirrorLockout_of_none {s : State} {md : Mode} (causes : BitVec 5) (h : md ≠ .lockout) (hc : s.mode.causes = 0#5) :
    s.mirrorLockout md causes = { s with pair := { s.pair with partnerCauses := 0#5 } } := by
  have hloop : ∀ t : State, foldS (List.range 3) (fun t i => if (0#5).getLsbD i then t.lockout (i + 1) else t) t = t := fun t =>
    foldS_keeps id (List.range 3) _ t fun u i => by rw [BitVec.getLsbD_zero]; rfl
  unfold State.mirrorLockout
  dsimp only
  rw [if_neg h, hloop]
  simp only [BitVec.and_zero, ne_eq, not_true_eq_false, false_and, and_false, if_false, hc, if_true]

/-- What the generation of a STATE message changes: the pair's state, the switch, the messages sent. -/
theorem State.mirrorSwitch_keeps {β : Type} (q : State → β) (hp : ∀ (t : State) p, q { t with pair := p } = q t)
    (hw : ∀ (t : State) w, q { t with sw := w } = q t) (hs : ∀ (t : State) ws, q (t.sendPair 5 ws) = q t) (s : State) (id e : Word) :
    q (s.mirrorSwitch id e) = q s := by
  unfold State.mirrorSwitch
  extract_lets
  split
  · split
    · split
      · exact (hw _ _).trans ((hw _ _).trans (hp _ _))
      · exact (hw _ _).trans (hp _ _)
    · exact (hw _ _).trans (hp _ _)
  · split
    · exact hp _ _
    · split
      · split
        · exact (hs _ _).trans ((hw _ _).trans (hp _ _))
        · exact hp _ _
      · exact hp _ _
theorem State.mirrorSwitch_frame (s : State) (id e : Word) : { s.mirrorSwitch id e with pair := s.pair, sw := s.sw, out := s.out } = s :=
  s.mirrorSwitch_keeps (fun t : State => { t with pair := s.pair, sw := s.sw, out := s.out }) (fun _ _ => rfl) (fun _ _ => rfl) (fun t ws => by
    have h := congrArg (fun u : State => { u with pair := s.pair, sw := s.sw, out := s.out }) (State.sendPair_besidePairLink t 5 ws)
    exact h) id e

theorem State.mirrorSwitch_pair {β : Type} (q : PairSt → β) (hq : ∀ p : PairSt, q { p with lseq := 0, msgNo := [] } = q p) (s : State)
    (id e : Word) : q (s.mirrorSwitch id e).pair = q { s.pair with partnerGen := id } := by
  unfold State.mirrorSwitch
  extract_lets
  split
  · split
    · split <;> rfl
    · rfl
  · split
    · rfl
    · split
      · split
        · exact State.sendPair_pair_keeps q hq _ _ _
        · rfl
      · rfl
theorem State.mirrorSwitch_partnerHas {s : State} (id e : Word) (ha : s.active = true) : (s.mirrorSwitch id e).sw.partnerHas = some id := by
  unfold State.mirrorSwitch
  extract_lets
  refine (congrArg (fun t : State => t.sw.partnerHas) (if_pos ha)).trans ?_
  split
  · split <;> rfl
  · rfl

/-! The mode of a STATE message, where no LOCKOUT is in force (R439). -/

def State.modeMirrored (s : State) (md : Mode) : State :=
  if md ≠ .lockout ∧ s.md ≠ .lockout ∧ md ≠ s.md ∧ s.mode.trans.isNone then (s.when (s.md == Mode.start) State.startEnds).setMode md 0 else s

/-- The join state, the strings, the contactors and the converter, which the rest of a STATE message mirrors. -/
def State.joinView (s : State) : JoinState × Store StrSt × Store CoilSt × BfcSt := (s.join, s.strs, s.coils, s.bfc)

theorem State.logN_joinView (s : State) (typ : Nat) (pl : List Nat) : (s.logN typ pl).joinView = s.joinView := by
  simp only [State.joinView, State.logN_join, State.logN_strs, State.logN_coils, State.logN_bfc]
theorem State.raise_joinView (s : State) (pg n : Nat) : (s.raise pg n).joinView = s.joinView := rfl
theorem State.joinView_of_frame {s t : State} (h : { t with pages := s.pages, gal := s.gal } = s) : t.joinView = s.joinView := by
  rw [← h]
  rfl
theorem State.lockAll_joinView (s : State) : s.lockAll.joinView = s.joinView := State.joinView_of_frame s.lockAll_frame
theorem State.revertRestart_joinView (s : State) : s.revertRestart.joinView = s.joinView := (congrArg State.joinView s.revertRestart_frame :)
theorem State.startEnds_joinView (s : State) : s.startEnds.joinView = s.joinView := State.logN_joinView _ _ _
theorem State.setMode_joinView (s : State) (md : Mode) (o : Nat) : (s.setMode md o).joinView = s.joinView := by
  unfold State.setMode
  rw [State.lockAll_joinView, State.raise_joinView, State.logN_joinView, State.when_keeps State.joinView _ _ _ (State.revertRestart_joinView _)]
  rfl
theorem State.modeMirrored_joinView (s : State) (md : Mode) : (s.modeMirrored md).joinView = s.joinView := by
  unfold State.modeMirrored
  split
  · rw [State.setMode_joinView, State.when_keeps State.joinView _ _ _ s.startEnds_joinView]
  · rfl

theorem State.modeMirrored_pair {s : State} (md : Mode) (h : s.md ≠ .lockout) : (s.modeMirrored md).pair = s.pair := by
  have hmd : (s.when (s.md == Mode.start) State.startEnds).md = s.md := State.when_keeps State.md _ _ _ s.startEnds_md
  unfold State.modeMirrored
  split
  · exact (State.setMode_pair _ _ (by rwa [hmd])).trans (State.when_keeps State.pair _ _ _ s.startEnds_pair)
  · rfl
theorem State.setMode_md (s : State) (md : Mode) (o : Nat) : (s.setMode md o).md = md := by
  have hlock : ∀ t : State, t.lockAll.mode = t.mode := fun t => by simpa only using congrArg State.mode t.lockAll_frame
  have hrev : ∀ t : State, t.revertRestart.mode = t.mode := fun t => (congrArg State.mode t.revertRestart_frame :)
  rw [State.md, State.setMode, hlock, State.raise_mode, State.logN_mode, State.when_keeps State.mode _ _ _ (hrev _)]
/-- Where no transition waits the partner's mode is taken. -/
theorem State.modeMirrored_md {s : State} {md : Mode} (h : md ≠ .lockout) (hs : s.md ≠ .lockout) (ht : s.mode.trans = none) :
    (s.modeMirrored md).md = md := by
  unfold State.modeMirrored
  split
  · exact State.setMode_md _ _ _
  · next hn =>
    by_contra hne
    exact hn ⟨h, hs, fun e => hne e.symm, by rw [ht]; rfl⟩

/-! The join state, the strings and the contactors of a STATE message (R282). -/

/-- A string of a STATE message: one that this device is opening keeps its state. -/
def State.mirrorStr (s : State) (e : Nat × JoinSt) : State := s.updStr e.1 (fun t => if t.st = .opening then t else { t with st := e.2 })
/-- What the close assignments of a STATE message say of a contactor. -/
def State.mirrorCoil (cl : List (Nat × Half)) (s : State) (c : Nat) : State :=
  match cl.find? (fun e => e.1 == c) with
  | some (_, q) =>
    if (s.coil c).closeSeq.isSome ∨ ((s.coil c).openedAt.isSome = true ∧ newer16 q (BitVec.ofNat 16 s.acSeq) = false) then s
    else s.updCoil c (fun k => { k with closeSeq := some q.toNat, openedAt := none, closedAt := none })
  | none => if (s.coil c).closeSeq.isSome then s.updCoil c (fun k => { k with closeSeq := none }) else s

theorem State.mirrorJoin_eq (s : State) (sec : JoinSec) (sts : List (Nat × JoinSt)) (cl : List (Nat × Half)) : s.mirrorJoin sec sts cl =
    foldS (List.range 128) (State.mirrorCoil cl) (foldS sts State.mirrorStr { s with join := { s.join with sec := sec } }) := rfl

/-- A turn over the contactors changes contactor c alone, there neither its operations. -/
theorem State.mirrorCoil_frame (cl : List (Nat × Half)) (s : State) (c : Nat) : { s.mirrorCoil cl c with coils := s.coils } = s := by
  unfold State.mirrorCoil
  split <;> split <;> rfl
theorem State.mirrorCoil_ne (cl : List (Nat × Half)) (s : State) {c d : Nat} (h : d ≠ c) : (s.mirrorCoil cl c).coil d = s.coil d := by
  unfold State.mirrorCoil
  split
  · split
    · rfl
    · exact State.updCoil_ne _ _ h
  · split
    · exact State.updCoil_ne _ _ h
    · rfl
theorem State.mirrorCoil_ops (cl : List (Nat × Half)) (s : State) (c d : Nat) : ((s.mirrorCoil cl c).coil d).ops = (s.coil d).ops := by
  by_cases h : d = c
  · subst h
    unfold State.mirrorCoil
    split <;> split <;> simp only [State.updCoil_same]
  · rw [State.mirrorCoil_ne cl s h]
theorem State.mirrorCoil_of_unnamed {cl : List (Nat × Half)} {c : Nat} (h : cl.find? (fun e => e.1 == c) = none) (s : State) :
    ((s.mirrorCoil cl c).coil c).closeSeq = none := by
  unfold State.mirrorCoil
  rw [h]
  dsimp only
  split
  · rw [State.updCoil_same]
  · next hn => simpa using hn
theorem State.mirrorCoil_of_named {cl : List (Nat × Half)} {c : Nat} {q : Half} (h : cl.find? (fun e => e.1 == c) = some (c, q)) {s : State}
    (hq : (s.coil c).closeSeq = none) (ho : (s.coil c).openedAt = none) : ((s.mirrorCoil cl c).coil c).closeSeq = some q.toNat := by
  unfold State.mirrorCoil
  rw [h]
  dsimp only
  rw [if_neg (by simp [hq, ho]), State.updCoil_same]

theorem State.mirrorCoil_of_assigned {cl : List (Nat × Half)} {c : Nat} {q : Half} (h : cl.find? (fun e => e.1 == c) = some (c, q)) {s : State}
    (hq : (s.coil c).closeSeq.isSome = true) : s.mirrorCoil cl c = s := by
  unfold State.mirrorCoil
  rw [h]
  exact if_pos (.inl hq)

/-- A contactor that a STATE message does not name has no close assignment. -/
theorem foldS_mirrorCoil_of_unnamed {cl : List (Nat × Half)} {c : Nat} (h : cl.find? (fun e => e.1 == c) = none) (hc : c < 128) (s : State) :
    ((foldS (List.range 128) (State.mirrorCoil cl) s).coil c).closeSeq = none := by
  refine foldS_reaches (Q := fun _ => True) (P := fun t : State => (t.coil c).closeSeq = none) (List.mem_range.mpr hc) trivial
    (fun _ _ _ _ => .inl trivial) (fun t _ => State.mirrorCoil_of_unnamed h t) fun t ht a _ => ?_
  by_cases e : c = a
  · exact e ▸ State.mirrorCoil_of_unnamed h t
  · rwa [State.mirrorCoil_ne cl t e]
/-- A contactor that it names takes its close sequence number, where it has none and was not opened here. -/
theorem foldS_mirrorCoil_of_named {cl : List (Nat × Half)} {c : Nat} {q : Half} (h : cl.find? (fun e => e.1 == c) = some (c, q)) (hc : c < 128)
    {s : State} (hq : (s.coil c).closeSeq = none) (ho : (s.coil c).openedAt = none) :
    ((foldS (List.range 128) (State.mirrorCoil cl) s).coil c).closeSeq = some q.toNat := by
  refine foldS_reaches (Q := fun t : State => (t.coil c).closeSeq = none ∧ (t.coil c).openedAt = none)
    (P := fun t : State => (t.coil c).closeSeq = some q.toNat) (List.mem_range.mpr hc) ⟨hq, ho⟩ (fun t ht a _ => ?_)
    (fun t ht => State.mirrorCoil_of_named h ht.1 ht.2) fun t ht a _ => ?_
  · by_cases e : c = a
    · exact .inr (e ▸ State.mirrorCoil_of_named h ht.1 ht.2)
    · rw [State.mirrorCoil_ne cl t e]
      exact .inl ht
  · by_cases e : c = a
    · subst e
      rwa [State.mirrorCoil_of_assigned h (by rw [ht]; rfl)]
    · rwa [State.mirrorCoil_ne cl t e]
theorem foldS_mirrorCoil_ops (cl : List (Nat × Half)) (s : State) (c : Nat) :
    ((foldS (List.range 128) (State.mirrorCoil cl) s).coil c).ops = (s.coil c).ops :=
  foldS_keeps (fun t : State => (t.coil c).ops) (List.range 128) _ s fun t d => State.mirrorCoil_ops cl t d c
theorem foldS_mirrorCoil_keeps {β : Type} (q : State → β) (hq : ∀ (t : State) c, q { t with coils := c } = q t) (cl : List (Nat × Half))
    (s : State) : q (foldS (List.range 128) (State.mirrorCoil cl) s) = q s :=
  foldS_keeps q (List.range 128) _ s fun t c => ((hq _ t.coils).symm.trans (congrArg q (State.mirrorCoil_frame cl t c)) :)
theorem foldS_mirrorStr_keeps {β : Type} (q : State → β) (hq : ∀ (t : State) x, q { t with strs := x } = q t) (sts : List (Nat × JoinSt))
    (s : State) : q (foldS sts State.mirrorStr s) = q s := foldS_keeps q sts _ s fun t _ => hq t _

/-- A string that a STATE message does not name stays. -/
theorem foldS_mirrorStr_of_unnamed {sts : List (Nat × JoinSt)} {x : Nat} (h : ∀ q ∈ sts, q.1 ≠ x) (s : State) :
    (foldS sts State.mirrorStr s).str x = s.str x :=
  foldS_keeps_prop (P := fun t : State => t.str x = s.str x) rfl fun _ ht a ha =>
    (State.updStr_ne _ _ (h a ha).symm).trans ht
/-- A string that it names once takes its state, unless this device is opening it. -/
theorem foldS_mirrorStr_of_named {sts : List (Nat × JoinSt)} {x : Nat} {st : JoinSt} (h : sts.filter (fun q => q.1 == x) = [(x, st)]) (s : State) :
    ((foldS sts State.mirrorStr s).str x).st = if (s.str x).st = .opening then .opening else st := by
  have hmem : (x, st) ∈ sts := (List.mem_filter.mp (h ▸ List.mem_singleton_self _ : (x, st) ∈ sts.filter (fun q => q.1 == x))).1
  have honly : ∀ a ∈ sts, a.1 = x → a = (x, st) := fun a ha e =>
    List.mem_singleton.mp (h ▸ List.mem_filter.mpr ⟨ha, by simpa using e⟩)
  have hturn : ∀ t : State, (t.str x).st = (s.str x).st ∨ (t.str x).st = (if (s.str x).st = .opening then .opening else st) →
      ((t.mirrorStr (x, st)).str x).st = if (s.str x).st = .opening then .opening else st := by
    intro t ht
    rw [State.mirrorStr, State.updStr_same]
    dsimp only
    by_cases ho : (s.str x).st = .opening
    · have hto : (t.str x).st = .opening := ht.elim (fun h => h.trans ho) fun h => h.trans (if_pos ho)
      rw [if_pos ho, if_pos hto, hto]
    · rw [if_neg ho] at ht ⊢
      split
      · next hto => exact ht.elim (fun h => absurd (h.symm.trans hto) ho) id
      · rfl
  refine foldS_reaches (Q := fun t : State => (t.str x).st = (s.str x).st)
    (P := fun t : State => (t.str x).st = if (s.str x).st = .opening then .opening else st) hmem rfl (fun t ht a ha => ?_)
    (fun t ht => hturn t (.inl ht)) fun t ht a ha => ?_
  · by_cases e : a.1 = x
    · exact .inr (honly a ha e ▸ hturn t (.inl ht))
    · exact .inl ((congrArg StrSt.st (State.updStr_ne t _ (Ne.symm e))).trans ht)
  · by_cases e : a.1 = x
    · exact honly a ha e ▸ hturn t (.inr ht)
    · exact (congrArg StrSt.st (State.updStr_ne t _ (Ne.symm e))).trans ht

/-! The wear counts of a STATE message (R290). -/

/-- The counts of one contactor. -/
def State.mergeWear (s : State) (e : Nat × Nat × Nat × Nat) : State :=
  let k := s.coil e.1
  let s := s.updCoil e.1 (fun k => { k with ops := Nat.max k.ops e.2.1, underLoad := Nat.max k.underLoad e.2.2.1, iInt := Nat.max k.iInt e.2.2.2 })
  let s := if k.ops < e.2.1 then s.wearCheck e.1 true else s
  if k.underLoad < e.2.2.1 then s.wearCheck e.1 false else s

theorem State.ite_keeps {β : Type} (q : State → β) {c : Prop} [Decidable c] {s t : State} (h : q t = q s) : q (if c then t else s) = q s := by
  split
  · exact h
  · rfl

/-- A wear check changes pages and the Gallery. -/
theorem State.wearCheck_keeps {β : Type} (q : State → β) (hl : ∀ (t : State) typ pl, q (t.logN typ pl) = q t)
    (hr : ∀ (t : State) pg n, q (t.raise pg n) = q t) (s : State) (c : Nat) (ops : Bool) : q (s.wearCheck c ops) = q s := by
  unfold State.wearCheck
  exact State.ite_keeps q ((hr _ _ _).trans (hl _ _ _))
theorem State.wearCheck_coils (s : State) (c : Nat) (ops : Bool) : (s.wearCheck c ops).coils = s.coils :=
  s.wearCheck_keeps State.coils State.logN_coils State.raise_coils c ops
/-- Merged counts change contactors, pages and the Gallery. -/
theorem State.mergeWear_keeps {β : Type} (q : State → β) (hc : ∀ (t : State) c, q { t with coils := c } = q t)
    (hw : ∀ (t : State) c b, q (t.wearCheck c b) = q t) (s : State) (e : Nat × Nat × Nat × Nat) : q (s.mergeWear e) = q s := by
  unfold State.mergeWear
  exact (State.ite_keeps q (hw _ _ _)).trans ((State.ite_keeps q (hw _ _ _)).trans (hc s _))
theorem State.wearCheck_coil (s : State) (c : Nat) (ops : Bool) (d : Nat) : (s.wearCheck c ops).coil d = s.coil d := by
  rw [State.coil, State.wearCheck_coils, ← State.coil]
theorem State.mergeWear_coil (s : State) (e : Nat × Nat × Nat × Nat) (d : Nat) : (s.mergeWear e).coil d = (s.updCoil e.1 (fun k =>
    { k with ops := Nat.max k.ops e.2.1, underLoad := Nat.max k.underLoad e.2.2.1, iInt := Nat.max k.iInt e.2.2.2 })).coil d := by
  unfold State.mergeWear
  exact (State.ite_keeps (fun t : State => t.coil d) (State.wearCheck_coil _ _ _ d)).trans
    (State.ite_keeps (fun t : State => t.coil d) (State.wearCheck_coil _ _ _ d))
theorem State.mergeWear_closeSeq (s : State) (e : Nat × Nat × Nat × Nat) (d : Nat) : ((s.mergeWear e).coil d).closeSeq = (s.coil d).closeSeq := by
  rw [State.mergeWear_coil]
  by_cases h : d = e.1
  · rw [h, State.updCoil_same]
  · rw [State.updCoil_ne s _ h]
theorem State.mergeWear_ops (s : State) (e : Nat × Nat × Nat × Nat) (d : Nat) : (s.coil d).ops ≤ ((s.mergeWear e).coil d).ops := by
  rw [State.mergeWear_coil]
  by_cases h : d = e.1
  · rw [h, State.updCoil_same]
    exact Nat.le_max_left _ _
  · rw [State.updCoil_ne s _ h]
theorem State.wearMerge_keeps {β : Type} (q : State → β) (hc : ∀ (t : State) c, q { t with coils := c } = q t)
    (hw : ∀ (t : State) c b, q (t.wearCheck c b) = q t) (s : State) (l : List (Nat × Nat × Nat × Nat)) : q (s.wearMerge l) = q s :=
  foldS_keeps q l State.mergeWear s fun t e => t.mergeWear_keeps q hc hw e
theorem State.wearMerge_closeSeq (s : State) (l : List (Nat × Nat × Nat × Nat)) (d : Nat) : ((s.wearMerge l).coil d).closeSeq = (s.coil d).closeSeq :=
  foldS_keeps (fun t : State => (t.coil d).closeSeq) l State.mergeWear s fun t e => t.mergeWear_closeSeq e d
theorem State.wearMerge_ops (s : State) (l : List (Nat × Nat × Nat × Nat)) (d : Nat) : (s.coil d).ops ≤ ((s.wearMerge l).coil d).ops :=
  foldS_keeps_prop (P := fun t : State => (s.coil d).ops ≤ (t.coil d).ops) Nat.le.refl fun t ht e _ => Nat.le_trans ht (t.mergeWear_ops e d)

/-! A whole STATE message. -/

/-- What a STATE message mirrors of the section after the mode. -/
def State.mirrorSection (s : State) (m : StateMsg) : State :=
  let s := { s.mirrorJoin m.join m.strings m.closes with join := { (s.mirrorJoin m.join m.strings m.closes).join with first := m.joinFirst.toNat } }
  let s := s.mirrorConv m.conv m.convFault
  let s := { s with bfc := { s.bfc with failedOpen := m.convOut, senseLost := m.convSenseLost, retriesUsed := m.convRetries } }
  s.wearMerge m.wear

/-- What a STATE message keeps of the partner's announcements. -/
def State.partnerNoted (s : State) (m : StateMsg) : State :=
  { s with pair := { s.pair with partnerMode := m.mode, nextSeq := m.nextSeq.foldl (fun (st : Store Half) (e : Nat × Half) => sput st e.1 e.2) [] } }


/-- The state in which a STATE message without a LOCKOUT has taken the partner's generation. -/
def State.stateHeard (s : State) (m : StateMsg) : State :=
  State.mirrorSwitch { s.heardMsg 0x05 with pair := { (s.heardMsg 0x05).pair with partnerCauses := 0#5 } } m.genId m.switchEpoch

section
variable {s : State} (m : StateMsg)

theorem State.stateHeard_frame : { s.stateHeard m with pair := s.pair, sw := s.sw, out := s.out } = s :=
  (congrArg (fun t : State => { t with pair := s.pair }) (State.mirrorSwitch_frame
    { s.heardMsg 0x05 with pair := { (s.heardMsg 0x05).pair with partnerCauses := 0#5 } } m.genId m.switchEpoch) :)
theorem State.stateHeard_pair {β : Type} (q : PairSt → β) (hq : ∀ p : PairSt, q { p with lseq := 0, msgNo := [] } = q p) :
    q (s.stateHeard m).pair = q { (s.heardMsg 0x05).pair with partnerCauses := 0#5, partnerGen := m.genId } :=
  State.mirrorSwitch_pair q hq _ _ _

variable (hg : s.gen.single = false) (hm : m.mode ≠ .lockout) (hc : s.mode.causes = 0#5)
include hg hm hc

/-- Without a LOCKOUT the active device and a synchronised standby take the partner's generation; the standby mirrors the rest. -/
theorem execState_of_unlocked (h : (s.active || (s.standby && s.pair.sync != .syncing)) = true) : exec (.state m) s =
    if (s.stateHeard m).standby && (s.stateHeard m).pair.sync != .syncing then
      .next ((((s.stateHeard m).partnerNoted m).modeMirrored m.mode).mirrorSection m)
    else .next (s.stateHeard m) := by
  rw [exec_state]
  unfold execState
  rw [hg, if_neg Bool.false_ne_true]
  extract_lets _ _ t u v
  have hu : u = { t with pair := { t.pair with partnerCauses := 0#5 } } := (if_pos h).trans (State.mirrorLockout_of_none m.causes hm hc)
  have hv : v = s.stateHeard m := congrArg (fun w : State => w.mirrorSwitch m.genId m.switchEpoch) hu
  rw [← hv]
  rfl
theorem execState_of_synced (hs : s.standby = true) (hy : s.pair.sync ≠ .syncing) :
    exec (.state m) s = .next ((((s.stateHeard m).partnerNoted m).modeMirrored m.mode).mirrorSection m) := by
  have hsy : (s.stateHeard m).pair.sync = s.pair.sync := State.stateHeard_pair m PairSt.sync (fun _ => rfl)
  have hst : (s.stateHeard m).standby = s.standby := State.stateHeard_pair m (fun p => p.role == .standby) (fun _ => rfl)
  rw [execState_of_unlocked m hg hm hc (by simp [hs, hy]), if_pos (by simp [hst, hsy, hs, hy])]
theorem execState_of_active (ha : s.active = true) : exec (.state m) s = .next (s.stateHeard m) := by
  have hst : (s.stateHeard m).standby = s.standby := State.stateHeard_pair m (fun p => p.role == .standby) (fun _ => rfl)
  have hn : s.standby = false := by
    cases h : s.pair.role <;> simp_all [State.active, State.standby]
  rw [execState_of_unlocked m hg hm hc (by simp [ha]), hst, hn, Bool.false_and, if_neg Bool.false_ne_true]

end

/-! What the section holds after a STATE message. -/

theorem State.wearMerge_join (s : State) (l : List (Nat × Nat × Nat × Nat)) : (s.wearMerge l).join = s.join :=
  s.wearMerge_keeps State.join (fun _ _ => rfl) (fun t => t.wearCheck_keeps State.join State.logN_join State.raise_join) l
theorem State.wearMerge_bfc (s : State) (l : List (Nat × Nat × Nat × Nat)) : (s.wearMerge l).bfc = s.bfc :=
  s.wearMerge_keeps State.bfc (fun _ _ => rfl) (fun t => t.wearCheck_keeps State.bfc State.logN_bfc State.raise_bfc) l
theorem State.wearMerge_strs (s : State) (l : List (Nat × Nat × Nat × Nat)) : (s.wearMerge l).strs = s.strs :=
  s.wearMerge_keeps State.strs (fun _ _ => rfl) (fun t => t.wearCheck_keeps State.strs State.logN_strs State.raise_strs) l
theorem State.wearMerge_pair (s : State) (l : List (Nat × Nat × Nat × Nat)) : (s.wearMerge l).pair = s.pair :=
  s.wearMerge_keeps State.pair (fun _ _ => rfl) (fun t => t.wearCheck_keeps State.pair State.logN_pair State.raise_pair) l
theorem State.wearMerge_mode (s : State) (l : List (Nat × Nat × Nat × Nat)) : (s.wearMerge l).mode = s.mode :=
  s.wearMerge_keeps State.mode (fun _ _ => rfl) (fun t => t.wearCheck_keeps State.mode State.logN_mode State.raise_mode) l

theorem State.mirrorJoin_keeps {β : Type} (q : State → β) (hs : ∀ (t : State) x, q { t with strs := x } = q t)
    (hc : ∀ (t : State) c, q { t with coils := c } = q t) (s : State) (sec : JoinSec) (sts : List (Nat × JoinSt)) (cl : List (Nat × Half)) :
    q (s.mirrorJoin sec sts cl) = q { s with join := { s.join with sec := sec } } :=
  (foldS_mirrorCoil_keeps q hc cl _).trans (foldS_mirrorStr_keeps q hs sts _)
theorem State.mirrorJoin_str (s : State) (sec : JoinSec) (sts : List (Nat × JoinSt)) (cl : List (Nat × Half)) (x : Nat) :
    (s.mirrorJoin sec sts cl).str x = (foldS sts State.mirrorStr { s with join := { s.join with sec := sec } }).str x :=
  foldS_mirrorCoil_keeps (fun t : State => t.str x) (fun _ _ => rfl) cl _

section
variable (s : State) (m : StateMsg)

theorem State.mirrorSection_join : (s.mirrorSection m).join = { s.join with sec := m.join, first := m.joinFirst.toNat } := by
  have h : (s.mirrorJoin m.join m.strings m.closes).join = { s.join with sec := m.join } :=
    s.mirrorJoin_keeps State.join (fun _ _ => rfl) (fun _ _ => rfl) m.join m.strings m.closes
  exact (State.wearMerge_join _ _).trans (congrArg (fun j : JoinState => { j with first := m.joinFirst.toNat }) h)
theorem State.mirrorSection_bfc : (s.mirrorSection m).bfc = { s.bfc with
      st := m.conv, fseq := field m.convFault 31 24, cause := field m.convFault 23 16, also := field m.convFault 15 8,
      detail := field m.convFault 7 0, failedOpen := m.convOut, senseLost := m.convSenseLost, retriesUsed := m.convRetries } := by
  have h : (s.mirrorJoin m.join m.strings m.closes).bfc = s.bfc :=
    s.mirrorJoin_keeps State.bfc (fun _ _ => rfl) (fun _ _ => rfl) m.join m.strings m.closes
  refine (State.wearMerge_bfc _ _).trans ?_
  rw [← h]
  rfl
theorem State.mirrorSection_pair : (s.mirrorSection m).pair = s.pair :=
  (State.wearMerge_pair _ _).trans (s.mirrorJoin_keeps State.pair (fun _ _ => rfl) (fun _ _ => rfl) m.join m.strings m.closes)
theorem State.mirrorSection_mode : (s.mirrorSection m).mode = s.mode :=
  (State.wearMerge_mode _ _).trans (s.mirrorJoin_keeps State.mode (fun _ _ => rfl) (fun _ _ => rfl) m.join m.strings m.closes)
theorem State.mirrorSection_str (x : Nat) :
    (s.mirrorSection m).str x = (foldS m.strings State.mirrorStr { s with join := { s.join with sec := m.join } }).str x :=
  (congrArg (fun st : Store StrSt => sget ({} : StrSt) st x) (State.wearMerge_strs _ _) :).trans (s.mirrorJoin_str m.join m.strings m.closes x)
theorem State.mirrorSection_str_of_unnamed {x : Nat} (h : ∀ q ∈ m.strings, q.1 ≠ x) : (s.mirrorSection m).str x = s.str x :=
  (s.mirrorSection_str m x).trans (foldS_mirrorStr_of_unnamed h _)
theorem State.mirrorSection_str_of_named {x : Nat} {st : JoinSt} (h : m.strings.filter (fun q => q.1 == x) = [(x, st)]) :
    ((s.mirrorSection m).str x).st = if (s.str x).st = .opening then .opening else st :=
  (congrArg StrSt.st (s.mirrorSection_str m x)).trans (foldS_mirrorStr_of_named h _)
/-- The strings of a STATE message leave the contactors. -/
theorem State.mirrorSection_coils_start (c : Nat) :
    (foldS m.strings State.mirrorStr { s with join := { s.join with sec := m.join } }).coil c = s.coil c :=
  foldS_mirrorStr_keeps (fun t : State => t.coil c) (fun _ _ => rfl) m.strings _
/-- After the join state only the wear counts of a contactor change. -/
theorem State.mirrorSection_wear : ∃ t : State, s.mirrorSection m = t.wearMerge m.wear ∧ t.coils = (s.mirrorJoin m.join m.strings m.closes).coils := by
  unfold State.mirrorSection
  generalize s.mirrorJoin m.join m.strings m.closes = u
  exact ⟨_, rfl, rfl⟩
theorem State.mirrorSection_closeSeq (c : Nat) :
    ((s.mirrorSection m).coil c).closeSeq = ((s.mirrorJoin m.join m.strings m.closes).coil c).closeSeq := by
  obtain ⟨t, ht, hc⟩ := s.mirrorSection_wear m
  rw [ht, State.wearMerge_closeSeq, State.coil, hc, ← State.coil]
theorem State.mirrorSection_closeSeq_of_unnamed {c : Nat} (hc : c < 128) (h : ∀ q ∈ m.closes, q.1 ≠ c) :
    ((s.mirrorSection m).coil c).closeSeq = none := by
  rw [State.mirrorSection_closeSeq, State.mirrorJoin_eq]
  exact foldS_mirrorCoil_of_unnamed (List.find?_eq_none.mpr fun q hq => by simpa using h q hq) hc _
theorem State.mirrorSection_closeSeq_of_named {c : Nat} {q : Half} (hc : c < 128) (h : m.closes.find? (fun e => e.1 == c) = some (c, q))
    (hq : (s.coil c).closeSeq = none) (ho : (s.coil c).openedAt = none) : ((s.mirrorSection m).coil c).closeSeq = some q.toNat := by
  rw [State.mirrorSection_closeSeq, State.mirrorJoin_eq]
  exact foldS_mirrorCoil_of_named h hc (by rw [s.mirrorSection_coils_start m c, hq]) (by rw [s.mirrorSection_coils_start m c, ho])
theorem State.mirrorJoin_ops (c : Nat) : ((s.mirrorJoin m.join m.strings m.closes).coil c).ops = (s.coil c).ops := by
  rw [State.mirrorJoin_eq, foldS_mirrorCoil_ops, s.mirrorSection_coils_start m c]
theorem State.mirrorSection_ops (c : Nat) : (s.coil c).ops ≤ ((s.mirrorSection m).coil c).ops := by
  obtain ⟨t, ht, hc⟩ := s.mirrorSection_wear m
  rw [ht, ← s.mirrorJoin_ops m c, State.coil, ← hc, ← State.coil]
  exact t.wearMerge_ops m.wear c

end

/-! The state in which the section is mirrored. -/

section
variable {s : State} (m : StateMsg)

/-- The state of a STATE message up to the section: the generation, the partner's announcements, the mode. -/
def State.modeHeard (s : State) (m : StateMsg) : State := ((s.stateHeard m).partnerNoted m).modeMirrored m.mode

theorem State.modeHeard_joinView : (s.modeHeard m).joinView = s.joinView :=
  (State.modeMirrored_joinView _ _).trans (congrArg State.joinView (s.stateHeard_frame m) :)
theorem State.stateHeard_mode : (s.stateHeard m).mode = s.mode := (congrArg State.mode (s.stateHeard_frame m) :)
theorem State.modeHeard_md (hm : m.mode ≠ .lockout) (hs : s.md ≠ .lockout) (ht : s.mode.trans = none) : (s.modeHeard m).md = m.mode :=
  State.modeMirrored_md hm (by simpa only [State.md, State.partnerNoted, State.stateHeard_mode] using hs)
    (by simpa only [State.partnerNoted, State.stateHeard_mode] using ht)
theorem State.modeHeard_pair (hs : s.md ≠ .lockout) : (s.modeHeard m).pair = ((s.stateHeard m).partnerNoted m).pair :=
  State.modeMirrored_pair m.mode (by simpa only [State.md, State.partnerNoted, State.stateHeard_mode] using hs)

end

end Sys2Proof.Machine
end

section
/-! O38: what the partner mirrors (R36, R181, R198, R303, R363, R365, R366, R376, 14_device_pair.md Tables 14.2, 14.4). -/
namespace Sys2Proof.Machine

/-- Settles O38: a message by its function's cases; the strings, the contactors and the plan by what the turn of one entry of each loop
establishes and the other turns keep. -/
theorem standbyMirrorsTheActive : Obligations.StandbyMirrorsTheActive := by
  intro s m e bl pl kind img hg synced
  refine ⟨fun hsy hm hl hc => ?_, fun ha hm hc => ?_, fun hsy he => ?_, fun hs => ⟨execBlock_of_other e bl hs, execPlan_of_other e pl hs⟩,
    fun hs => ?_, fun hs => execContext_of_captured e img hg hs, execContext_of_restore e img hg, fun hk => ?_⟩
  · have hv := s.modeHeard_joinView m
    simp only [State.joinView, Prod.mk.injEq] at hv
    obtain ⟨hjoin, hstrs, hcoils, hbfc⟩ := hv
    have hcoil : ∀ c, (s.modeHeard m).coil c = s.coil c := fun c => by rw [State.coil, hcoils, ← State.coil]
    have hstr : ∀ x, (s.modeHeard m).str x = s.str x := fun x => by rw [State.str, hstrs, ← State.str]
    refine ⟨(s.modeHeard m).mirrorSection m, execState_of_synced m hg hm hc hsy.1 hsy.2, ?_, ?_, fun ht => ?_, ?_, ?_, ?_, ?_, ?_, ?_, ?_, ?_,
      fun x st h => ?_, fun x h => ?_, fun c hc h => ?_, fun c hc q h hq ho => ?_, fun c => ?_⟩
    · rw [State.mirrorSection_pair, State.modeHeard_pair m hl]
      rfl
    · rw [State.mirrorSection_pair, State.modeHeard_pair m hl]
      exact State.stateHeard_pair m PairSt.partnerGen (fun _ => rfl)
    · rw [State.md, State.mirrorSection_mode]
      exact State.modeHeard_md m hm hl ht
    · rw [State.mirrorSection_join]
    · rw [State.mirrorSection_join]
    · rw [State.mirrorSection_bfc]
    · rw [State.mirrorSection_bfc]
    · rw [State.mirrorSection_bfc]
    · rw [State.mirrorSection_bfc]
    · rw [State.mirrorSection_bfc]
    · rw [State.mirrorSection_bfc]
    · rw [State.mirrorSection_str_of_named _ m h, hstr]
    · rw [State.mirrorSection_str_of_unnamed _ m h, hstr]
    · exact State.mirrorSection_closeSeq_of_unnamed _ m hc h
    · exact State.mirrorSection_closeSeq_of_named _ m hc h (by rw [hcoil, hq]) (by rw [hcoil, ho])
    · exact hcoil c ▸ State.mirrorSection_ops (s.modeHeard m) m c
  · have hf := s.stateHeard_frame m
    exact ⟨s.stateHeard m, execState_of_active m hg hm hc ha, State.mirrorSwitch_partnerHas _ _ ha, (congrArg State.strs hf :),
      (congrArg State.coils hf :), (congrArg State.bfc hf :), (congrArg State.join hf :), (congrArg State.md hf :)⟩
  · exact ⟨_, execBlock_of_synced bl hg hsy.1 hsy.2 he, rfl, rfl, beq_iff_eq.mp hsy.1, rfl⟩
  · have hf := State.mirrorPlan_frame (s.heardMsg 0x11) e pl
    have hp := fun md hmd j hj => State.mirrorPlan_plan (s := s.heardMsg 0x11) (e := e) (pl := pl) (md := md) (j := j) hmd hj
    refine ⟨(s.heardMsg 0x11).mirrorPlan e pl, execPlan_of_standby e pl hg hs, State.mirrorPlan_mirrored _ e pl, ?_,
      fun md hmd j hj i h hn => (hp md hmd j hj hn).trans (planCur_of_entry h)⟩
    generalize (s.heardMsg 0x11).mirrorPlan e pl = t at hf
    exact (congrArg (fun t : State => { t with pair := s.pair }) hf :)
  · exact ⟨s.heardMsg 0x12, execContext_of_other e img hg hk, s.heardMsg_frame 0x12⟩

end Sys2Proof.Machine
end


section
/-! Register writes (Tables 01.2, 02.5): page keys, EVT clears, refusals and the effect of a write that passes its checks. -/
namespace Sys2Proof.Machine

/-! ### LOCK (R56, R57) -/

/-- No page of the mailbox is DEV or GAL. -/
theorem ne_dev_of_mailbox {pg : Nat} (h : pageClass pg ≠ .mgmt) : pg ≠ pDEV := fun e => h (e ▸ rfl)
theorem ne_gal_of_mailbox {pg : Nat} (h : pageClass pg ≠ .mgmt) : pg ≠ pGAL := fun e => h (e ▸ rfl)
theorem pageKey_ne_zero {pg : Nat} (h : pg < 128) : pageKey pg ≠ 0#32 := by
  intro e
  have ht : (0x5AFE0000 + pg) % 2 ^ 32 = 0 := by simpa [pageKey, word] using congrArg BitVec.toNat e
  omega

theorem State.lockPage_of_mailbox (s : State) {pg : Nat} (h : pageClass pg ≠ .mgmt) :
    s.lockPage pg = s.updPage pg (fun p => { p with owner := 0 }) := if_neg (ne_gal_of_mailbox h)

section
variable {s : State} {o : Origin} {pg : Nat} (hp : pagePresent pg = true) (hc : pageClass pg ≠ .mgmt)
include hp hc

theorem State.lockServed_of_mailbox (v : Word) :
    s.lockServed o pg v = match s.lockWrite o pg v with | .ok t => t | .error e => s.refuse o pg 0x018 e := by
  unfold State.lockServed
  rw [hp, if_neg (by decide), if_neg (fun h => hc h.1)]
  cases s.lockWrite o pg v with
  | ok t => exact if_neg hc
  | error e => rfl
/-- Another owner's page stays locked (R57). -/
theorem State.lockServed_of_other (v : Word) (h : ¬ ((s.page pg).owner = 0 ∨ (s.page pg).owner = o.code)) :
    s.lockServed o pg v = s.refuse o pg 0x018 .lock := by
  rw [State.lockServed_of_mailbox hp hc, State.lockWrite, if_pos (not_or.mp h)]

variable (hm : (s.page pg).owner = 0 ∨ (s.page pg).owner = o.code)
include hm

theorem State.lockServed_of_zero : s.lockServed o pg 0#32 = s.updPage pg (fun p => { p with owner := 0 }) := by
  rw [State.lockServed_of_mailbox hp hc, State.lockWrite, if_neg (fun h => hm.elim h.1 h.2), if_pos rfl]
  exact s.lockPage_of_mailbox hc
theorem State.lockServed_of_key (hlt : pg < 128) : s.lockServed o pg (pageKey pg) =
    ({ s with dev := { s.dev with lockFail := false } }.updPage pg (fun p => { p with owner := o.code })) := by
  rw [State.lockServed_of_mailbox hp hc, State.lockWrite, if_neg (fun h => hm.elim h.1 h.2), if_neg (pageKey_ne_zero hlt), if_pos rfl]
theorem State.lockServed_of_wrong {v : Word} (h0 : v ≠ 0#32) (hk : v ≠ pageKey pg) : s.lockServed o pg v =
    ({ s with dev := { s.dev with lockFail := true } }.updPage pg (fun p => { p with owner := 0 })).raise pDEV 1 := by
  rw [State.lockServed_of_mailbox hp hc, State.lockWrite, if_neg (fun h => hm.elim h.1 h.2), if_neg h0, if_neg hk]
  exact congrArg (fun t : State => t.raise pDEV 1) (State.lockPage_of_mailbox _ hc)

end

/-! ### EVT (R60) -/

theorem State.evtServed_of_control {s : State} {o : Origin} {pg : Nat} (m : Word) (hp : pagePresent pg = true) (hc : pageClass pg ≠ .mgmt)
    (hs : shadowPage pg = false) : s.evtServed o pg m = s.evtClear pg m := by
  unfold State.evtServed
  rw [hp, if_neg (by decide), hs, if_neg (by decide), if_neg hc]
theorem State.evtServed_of_shadow {s : State} {o : Origin} {pg : Nat} (m : Word) (hp : pagePresent pg = true) (hs : shadowPage pg = true) :
    s.evtServed o pg m = s.toShadow o pg 0x010 m := by
  unfold State.evtServed
  rw [hp, if_neg (by decide), hs, if_pos rfl]

/-! ### A refused write of a mailbox page (R23) -/

/-- The refusal of a write to a mailbox page whose MBXSTAT is w. -/
def State.refusedAs (s : State) (o : Origin) (pg off : Nat) (r : Refuse) (w : Word) : State :=
  (State.logN { s.raise pg 31 with dev := { s.dev with mbxstat := w } } 0x0E04 [o.code, regAddr pg off, r.code]).raise pDEV 0

section
variable (s : State) (o : Origin) {pg : Nat} (off : Nat) (r : Refuse) (w : Word) (hc : pageClass pg ≠ .mgmt)

theorem State.refusedAs_regs : (s.refusedAs o pg off r w).regs = s.regs := by
  rw [State.refusedAs, State.raise_regs, State.logN_regs, State.raise_regs]
theorem State.refusedAs_mbxstat : (s.refusedAs o pg off r w).dev.mbxstat = w := by
  rw [State.refusedAs, State.raise_dev, State.logN_dev]
theorem State.refusedAs_devBit : (s.refusedAs o pg off r w).evtBit pDEV 0 = true := State.raise_evtBit _ pDEV (by decide)
theorem State.refusedAs_fifo (h : s.gal.fifo.length < 64) : (s.refusedAs o pg off r w).gal.fifo =
    s.gal.fifo ++ [s.galEntry 0x0E04 [word o.code, word (regAddr pg off), word r.code]] := by
  rw [State.refusedAs, State.raise_gal, State.logN, (State.log_fifo { s.raise pg 31 with dev := { s.dev with mbxstat := w } } _ _ h).1]
  rfl

include hc

theorem State.refuse_of_mailbox :
    s.refuse o pg off r = s.refusedAs o pg off r (word (at_ 29 r.code + at_ 27 o.code + at_ 20 pg + off % 4096)) := if_neg hc
theorem State.refusedAs_page : (s.refusedAs o pg off r w).page pg = (s.raise pg 31).page pg := by
  rw [State.refusedAs, State.raise_page_ne _ _ (ne_dev_of_mailbox hc), State.logN_page _ _ _ (ne_gal_of_mailbox hc)]
  rfl
theorem State.refusedAs_evtBit : (s.refusedAs o pg off r w).evtBit pg 31 = true :=
  (State.evtBit_of_page 31 (State.refusedAs_page s o off r w hc)).trans (State.raise_evtBit s pg (by decide))
theorem State.refusedAs_cfgseq : ((s.refusedAs o pg off r w).page pg).cfgseq = (s.page pg).cfgseq := by
  rw [State.refusedAs_page s o off r w hc, State.raise, State.updPage_same]

end

/-! ### The checks (Table 01.2) -/

section
variable {s : State} {o : Origin} {pg off : Nat} {v : Word} {fs : List Fld} (h : regFlds pg off = some fs)
include h

theorem State.writeCheck_of_flds : s.writeCheck o pg off v =
    if !formatOk pg off v fs then some .format
    else if expertReg off fs && !s.unlockedFor o pg then some .lock
    else if wordOutward pg off (s.genWord pg off) v then some .wall
    else none := by
  rw [State.writeCheck, h]
theorem State.writeCheck_of_readOnly (hr : fs.all (fun f => f.acc == .ro) = true) : s.writeCheck o pg off v = some .format := by
  have hw : fs.any Fld.writable = false := by
    rw [List.any_eq_false]
    intro f hf
    simpa [Fld.writable] using List.all_eq_true.mp hr f hf
  rw [State.writeCheck_of_flds h, formatOk, hw]
  rfl
theorem State.writeCheck_of_locked (hf : formatOk pg off v fs = true) (hlo : 0x100 ≤ off) (hhi : off < 0x800) (ho : (s.page pg).owner ≠ o.code) :
    s.writeCheck o pg off v = some .lock := by
  rw [State.writeCheck_of_flds h, hf, if_neg (by decide), if_pos (by simp [expertReg, State.unlockedFor, hlo, hhi, ho])]
theorem State.writeCheck_of_outward (hf : formatOk pg off v fs = true) (he : expertReg off fs = false)
    (hw : wordOutward pg off (s.genWord pg off) v = true) : s.writeCheck o pg off v = some .wall := by
  rw [State.writeCheck_of_flds h, hf, if_neg (by decide), he, Bool.false_and, if_neg (by decide), if_pos hw]

end

/-! ### The effect (Table 02.5) -/

theorem State.serveWrite_of_refused {s : State} {o : Origin} {pg off : Nat} {v : Word} {r : Refuse} (h : off ≠ 0x018)
    (hc : s.writeCheck o pg off v = some r) : s.serveWrite o pg off v = s.refuse o pg off r := by
  rw [State.serveWrite, if_neg h, hc]
theorem State.serveWrite_of_evt {s : State} {o : Origin} {pg : Nat} {v : Word} (hc : s.writeCheck o pg 0x010 v = none) :
    s.serveWrite o pg 0x010 v = s.evtServed o pg v := by
  simp [State.serveWrite, hc]
theorem State.serveWrite_of_accepted {s t : State} {o : Origin} {pg off : Nat} {v : Word} (h : off ≠ 0x018) (he : off ≠ 0x010)
    (hc : s.writeCheck o pg off v = none) (ht : s.effect o pg off v = .ok t) :
    s.serveWrite o pg off v = if shadowPage pg then t else t.bumpCfg pg := by
  simp only [State.serveWrite, if_neg h, if_neg he, hc, ht]
/-- Pages BAL, LIM and THERM have no mode check of their own (R52). -/
theorem State.effShadow_of_plain (s : State) (o : Origin) {pg : Nat} (off : Nat) (v : Word) (h : pg = pBAL ∨ pg = pLIM ∨ pg = pTHERM) :
    s.effShadow o pg off v = .ok (s.toShadow o pg off v) := by
  rcases h with rfl | rfl | rfl <;> simp [State.effShadow, pBAL, pLIM, pTHERM, pPSEQ, pCELL, pHALL, pFLOW]
theorem State.serveWrite_of_waiting {s : State} {o : Origin} {pg off : Nat} {v : Word} (h : off ≠ 0x018) (hc : s.writeCheck o pg off v = none)
    (hp : pg = pBAL ∨ pg = pLIM ∨ pg = pTHERM) : s.serveWrite o pg off v = s.toShadow o pg off v := by
  have hs : shadowPage pg = true := by rcases hp with rfl | rfl | rfl <;> rfl
  have hpr : pagePresent pg = true := by rcases hp with rfl | rfl | rfl <;> rfl
  by_cases he : off = 0x010
  · subst he
    rw [State.serveWrite_of_evt hc, State.evtServed_of_shadow v hpr hs]
  · have heff : s.effect o pg off v = .ok (s.toShadow o pg off v) := by
      rw [State.effect, if_neg (by simp [hs]), if_pos hs, State.effShadow_of_plain s o off v hp]
    rw [State.serveWrite_of_accepted h he hc heff, if_pos hs]
/-- PROT and BVL have no register of their own behaviour from 0x020 on. -/
theorem State.effControl_of_plain (s : State) (o : Origin) {pg off : Nat} (v : Word) (h : pg = pPROT ∨ pg = pBVL) (ho : 0x020 ≤ off) :
    s.effControl o pg off v = .ok (s.storeReg pg off v) := by
  have h8 : off ≠ 0x008 := by omega
  rcases h with rfl | rfl <;> simp [State.effControl, h8]
theorem State.serveWrite_of_stored {s : State} {o : Origin} {pg off : Nat} {v : Word} (hc : s.writeCheck o pg off v = none)
    (hp : pg = pPROT ∨ pg = pBVL) (ho : 0x020 ≤ off) : s.serveWrite o pg off v = (s.storeReg pg off v).bumpCfg pg := by
  have hs : shadowPage pg = false := by rcases hp with rfl | rfl <;> rfl
  have hcl : pageClass pg = .control := by rcases hp with rfl | rfl <;> rfl
  have heff : s.effect o pg off v = .ok (s.storeReg pg off v) := by
    rw [State.effect, if_neg (by omega), hs, if_neg Bool.false_ne_true, if_pos hcl, State.effControl_of_plain s o v hp ho]
  rw [State.serveWrite_of_accepted (by omega) (by omega) hc heff, hs, if_neg Bool.false_ne_true]

/-! ### The commands -/

theorem exec_registerWrite_of_mailbox (o : Origin) {addr : Word} (v : Word) (s : State)
    (h : addr.toNat < 0x80000 ∧ addr.toNat % 4 = 0 ∧ (regFlds (addr.toNat / 0x1000) (addr.toNat % 0x1000)).isSome = true ∧
      pageClass (addr.toNat / 0x1000) ≠ .mgmt) :
    exec (.registerWrite o addr v) s = .next (s.serveWrite o (addr.toNat / 0x1000) (addr.toNat % 0x1000) v) := if_pos h
theorem State.lockServed_of_absent {s : State} {o : Origin} {pg : Nat} (v : Word) (h : pagePresent pg = false) :
    s.lockServed o pg v = s.answer o 6 [] := by
  rw [State.lockServed, h]
  rfl
theorem State.evtServed_of_absent {s : State} {o : Origin} {pg : Nat} (m : Word) (h : pagePresent pg = false) :
    s.evtServed o pg m = s.answer o 6 [] := by
  rw [State.evtServed, h]
  rfl

theorem exec_mailboxServe_of_entry {s : State} {e : MbxEntry} {rest : List MbxEntry} (h : s.mbx = e :: rest) (hs : s.scor.st ≠ .selftest) :
    exec .mailboxServe s = .next ({ s with mbx := rest }.serveWrite e.origin e.page e.offset e.value) := by
  change execMailboxServe s = _
  rw [execMailboxServe, h]
  exact if_neg hs
theorem exec_mailboxServe_of_none {s : State} (h : s.mbx = [] ∨ s.scor.st = .selftest) : exec .mailboxServe s = .next s := by
  change execMailboxServe s = _
  unfold execMailboxServe
  split
  · rfl
  · next hm => exact if_pos (h.resolve_left (by simp [hm]))

end Sys2Proof.Machine
end

section
/-! O7: register writes (R22, R23, R45, R48, R53, R56, R57, R58, R60, R526, 02_register_pages.md Tables 01.2, 02.5). -/
namespace Sys2Proof.Machine

/-- A change of page pg's record alone. -/
def State.onlyPage (s : State) (pg : Nat) (t : State) : Prop :=
  (∀ q, q ≠ pg → q ≠ pDEV → t.page q = s.page q) ∧ (t.page pg).cfgseq = (s.page pg).cfgseq ∧ { t with pages := s.pages, dev := s.dev } = s

theorem State.onlyPage_updPage (s : State) (pg : Nat) (d : DevSt) {f : PageSt → PageSt} (hf : ∀ p, (f p).cfgseq = p.cfgseq) :
    s.onlyPage pg ({ s with dev := d }.updPage pg f) := by
  refine ⟨fun q hq _ => State.updPage_ne _ f hq, ?_, rfl⟩
  rw [State.updPage_same, hf]
  rfl
theorem State.onlyPage_raise {s t : State} {pg : Nat} (h : s.onlyPage pg t) (hd : pg ≠ pDEV) (n : Nat) : s.onlyPage pg (t.raise pDEV n) := by
  obtain ⟨hpage, hcfg, hframe⟩ := h
  exact ⟨fun q hq hqd => (State.raise_page_ne t n hqd).trans (hpage q hq hqd), (congrArg PageSt.cfgseq (State.raise_page_ne t n hd)).trans hcfg,
    hframe⟩

/-- What a wrong key leaves (R57). -/
theorem State.lockServed_of_wrong_key {s : State} {o : Origin} {pg : Nat} {v : Word} (hp : pagePresent pg = true) (hc : pageClass pg ≠ .mgmt)
    (hm : (s.page pg).owner = 0 ∨ (s.page pg).owner = o.code) (h0 : v ≠ 0#32) (hk : v ≠ pageKey pg) : ∃ t, s.lockServed o pg v = t ∧
      s.onlyPage pg t ∧ (t.page pg).owner = 0 ∧ t.dev.lockFail = true ∧ t.evtBit pDEV 1 = true := by
  have honly := s.onlyPage_updPage pg { s.dev with lockFail := true } (f := fun p => { p with owner := 0 }) (fun _ => rfl)
  have hd := ne_dev_of_mailbox hc
  refine ⟨_, State.lockServed_of_wrong hp hc hm h0 hk, State.onlyPage_raise honly hd 1, ?_, ?_, State.raise_evtBit _ pDEV (by decide)⟩
  · rw [State.raise_page_ne _ _ hd, State.updPage_same]
  · rw [State.raise_dev, State.updPage_dev]

/-- Settles O7: a key, an EVT clear, a refusal and an accepted write each by the page's class and the checks. -/
theorem registerWritesAreCheckedAndServed : Obligations.RegisterWritesAreCheckedAndServed := by
  intro s o page key mask addr v pg mailbox mine only ap ao mapped refused rw' passes
  have hlt : pg < 128 := page.isLt
  have hregAddr : ap * 0x1000 + ao = addr.toNat := by
    simp only [ap, ao]
    omega
  have hkey : pageKey pg = word (0x5AFE0000 + pg) := rfl
  have hserve : mapped → exec rw' s = .next (s.serveWrite o ap ao v) := fun h => exec_registerWrite_of_mailbox o v s h
  refine ⟨fun hb hm => ?_, fun hb hm h0 hk => ?_, fun hb hm => ?_, fun hb hm c hc => ?_, fun hp c hc => ?_, fun hb hs => ?_, fun hb hs => ?_,
    fun hmap h18 r hr => ?_, fun fs hfs => ⟨fun hro => State.writeCheck_of_readOnly hfs hro, fun hlo hhi hf ho => State.writeCheck_of_locked hfs hf hlo hhi ho,
      fun hf he hw => State.writeCheck_of_outward hfs hf he hw⟩, fun hpass _ hp => ?_, fun hpass hp ho => ?_,
    fun e rest he hs => exec_mailboxServe_of_entry he hs, fun h => exec_mailboxServe_of_none h, hserve⟩
  · rw [← hkey]
    refine ⟨_, congrArg Host.Outcome.next (State.lockServed_of_key hb.1 hb.2 hm hlt), s.onlyPage_updPage pg _ (fun _ => rfl), ?_, rfl, ?_⟩
    · rw [State.updPage_same]
    · rw [State.unlockedFor, State.updPage_same, beq_self_eq_true]
  · rw [← hkey] at hk
    obtain ⟨t, ht, honly, hrest⟩ := State.lockServed_of_wrong_key hb.1 hb.2 hm h0 hk
    exact ⟨t, congrArg Host.Outcome.next ht, honly, hrest⟩
  · refine ⟨_, congrArg Host.Outcome.next (State.lockServed_of_zero hb.1 hb.2 hm), s.onlyPage_updPage pg s.dev (fun _ => rfl), ?_, rfl⟩
    rw [State.updPage_same]
  · rcases List.mem_pair.mp hc with rfl | rfl
    · exact congrArg Host.Outcome.next (State.lockServed_of_other hb.1 hb.2 key hm)
    · exact congrArg Host.Outcome.next (State.lockServed_of_other hb.1 hb.2 0#32 hm)
  · simp only [List.mem_cons, List.not_mem_nil, or_false] at hc
    rcases hc with rfl | rfl | rfl
    · exact congrArg Host.Outcome.next (State.lockServed_of_absent key hp)
    · exact congrArg Host.Outcome.next (State.lockServed_of_absent 0#32 hp)
    · exact congrArg Host.Outcome.next (State.evtServed_of_absent mask hp)
  · exact ⟨_, congrArg Host.Outcome.next (State.evtServed_of_control mask hb.1 hb.2 hs), s.onlyPage_updPage pg s.dev (fun _ => rfl),
      State.evtClear_evt s pg mask⟩
  · exact congrArg Host.Outcome.next (State.evtServed_of_shadow mask hb.1 hs)
  · have hc : pageClass ap ≠ .mgmt := hmap.2.2.2
    refine ⟨s.refuse o ap ao r, (hserve hmap).trans (congrArg Host.Outcome.next (State.serveWrite_of_refused h18 hr)), rfl, ?_⟩
    rw [State.refuse_of_mailbox s o ao r hc]
    refine ⟨State.refusedAs_regs s o ao r _, State.refusedAs_evtBit s o ao r _ hc, State.refusedAs_devBit s o ao r _, State.refusedAs_cfgseq s o ao r _ hc,
      ?_, fun h => State.refusedAs_fifo s o ao r _ h⟩
    rw [State.refusedAs_mbxstat, at_, at_, at_, Nat.mod_eq_of_lt (show ao < 4096 from Nat.mod_lt _ (by decide))]
  · exact (hserve hpass.1).trans (congrArg Host.Outcome.next (State.serveWrite_of_waiting hpass.2.2 hpass.2.1 hp))
  · refine ⟨_, (hserve hpass.1).trans (congrArg Host.Outcome.next (State.serveWrite_of_stored hpass.2.1 hp ho)), ?_, ?_, fun q hq => ?_, rfl⟩
    · rw [State.bumpCfg_regs, ← hregAddr]
      rfl
    · exact State.bumpCfg_cfgseq _ ap
    · exact State.updPage_ne _ _ hq

end Sys2Proof.Machine
end


section
/-! What most of an epoch's operations leave alone: time, mode, contactors, strings, the acquisition stage, the waiting writes, the Hall,
the limits and the protection. -/
namespace Sys2Proof.Machine

/-- The fields that only the named operations of an epoch change. -/
def State.epochView (s : State) : TimeSt × ModeSt × Store CoilSt × Store StrSt × List RawEpoch × List ShadowWrite × Option RawEpoch × HallSt
  ×
    Store Int × ProtSt :=
  (s.time, s.mode, s.coils, s.strs, s.acq, s.shadow, s.computing, s.hall, s.limits, s.prot)

/-- A record that takes these fields from s has the view of s. -/
theorem State.epochView_mk (s : State)
    (x0 x1 x2 x4 x5 x6 x7 x8 x9 x10 x12 x13 x14 x15 x16 x17 x18 x19 x21 x22 x23 x24 x25 x26 x27 x28 x29 x30 x31 x32 x34 x36 x39 x40 x41
    x42 x43 x44 x45 x46 x47 x48 x49 x50 x51 x52 x53 x54 x57 x59 x60 x61 x62 x63 x64 x65 x66 x67 x68 x69 x70 x71 x72 x73 x74 x75) :
    (State.mk
      x0 x1 x2 s.time x4 x5 x6 x7 x8 x9 x10 s.shadow x12 x13 x14 x15 x16 x17 x18 x19 s.mode x21 x22 x23 x24 x25 x26 x27 x28 x29 x30 x31
      x32 s.limits x34 s.prot x36 s.strs s.coils x39 x40 x41 x42 x43 x44 x45 x46 x47 x48 x49 x50 x51 x52 x53 x54 s.acq s.computing x57
      s.hall x59 x60 x61 x62 x63 x64 x65 x66 x67 x68 x69 x70 x71 x72 x73 x74 x75).epochView = s.epochView := rfl

/-- What a loop does to the view, if each turn keeps it. -/
theorem foldS_epochView {α : Type} (l : List α) (f : State → α → State) (s : State) (h : ∀ t a, (f t a).epochView = t.epochView) :
    (foldS l f s).epochView = s.epochView := foldS_keeps State.epochView l f s h
theorem foldl_epochView {α : Type} (l : List α) (f : State → α → State) (s : State) (h : ∀ t a, (f t a).epochView = t.epochView) :
    (l.foldl f s).epochView = s.epochView := foldS_keeps State.epochView l f s h

theorem State.when_epochView (s : State) (c : Bool) (f : State → State) (h : (f s).epochView = s.epochView) :
    (s.when c f).epochView = s.epochView := State.when_keeps State.epochView s c f h

theorem State.epochView_of_fst {α : Type} {s t : State} {p : State × α} {a : α} (e : p = (t, a))
    (h : p.1.epochView = s.epochView) : t.epochView = s.epochView := by
  rw [← h, e]

/-! ### Access -/

theorem State.updPage_epochView (s : State) (k : Nat) (f : PageSt → PageSt) : (s.updPage k f).epochView = s.epochView := by rfl
theorem State.updPort_epochView (s : State) (k : Nat) (f : PortSt → PortSt) : (s.updPort k f).epochView = s.epochView := by rfl
theorem State.updMon_epochView (s : State) (k : Nat) (f : Monitor → Monitor) : (s.updMon k f).epochView = s.epochView := by rfl
theorem State.updMod_epochView (s : State) (k : Nat) (f : Module → Module) : (s.updMod k f).epochView = s.epochView := by rfl
theorem State.updTemp_epochView (s : State) (k : Nat) (f : Temp → Temp) : (s.updTemp k f).epochView = s.epochView := by rfl
theorem State.updWire_epochView (s : State) (k : Nat) (f : Wire → Wire) : (s.updWire k f).epochView = s.epochView := by rfl
theorem State.setCell_epochView (s : State) (k : Nat) (x : Cell) : (s.setCell k x).epochView = s.epochView := by rfl
theorem State.updCell_epochView (s : State) (k : Nat) (f : Cell → Cell) : (s.updCell k f).epochView = s.epochView := by rfl
theorem State.updChan_epochView (s : State) (k : Nat) (f : ChanSt → ChanSt) : (s.updChan k f).epochView = s.epochView := by rfl
theorem State.setSlotOf_epochView (s : State) (k : Nat) (x : SlotSt) : (s.setSlotOf k x).epochView = s.epochView := by rfl
theorem State.updSlotOf_epochView (s : State) (k : Nat) (f : SlotSt → SlotSt) : (s.updSlotOf k f).epochView = s.epochView := by rfl
theorem State.updBuf_epochView (s : State) (k : Nat) (f : TxBuf → TxBuf) : (s.updBuf k f).epochView = s.epochView := by rfl
theorem State.updFlow_epochView (s : State) (k : Nat) (f : FlowSt → FlowSt) : (s.updFlow k f).epochView = s.epochView := by rfl
theorem State.setCtx_epochView (s : State) (k : Nat) (x : Ctx) : (s.setCtx k x).epochView = s.epochView := by rfl
theorem State.updCtx_epochView (s : State) (k : Nat) (f : Ctx → Ctx) : (s.updCtx k f).epochView = s.epochView := by rfl
theorem State.updSctx_epochView (s : State) (k : Nat) (f : SCtx → SCtx) : (s.updSctx k f).epochView = s.epochView := by rfl
theorem State.updShut_epochView (s : State) (k : Nat) (f : Shut → Shut) : (s.updShut k f).epochView = s.epochView := by rfl
theorem State.updShutMod_epochView (s : State) (k : Nat) (f : ShutMod → ShutMod) : (s.updShutMod k f).epochView = s.epochView := by rfl
theorem State.updEng_epochView (s : State) (k : Nat) (f : Eng → Eng) : (s.updEng k f).epochView = s.epochView := by rfl
theorem State.setEp_epochView (s : State) (k : Nat) (x : StrEp) : (s.setEp k x).epochView = s.epochView := by rfl

/-! ### Records, messages and frames -/

theorem State.freeWord_epochView (s : State) : s.freeWord.2.epochView = s.epochView := rfl

theorem State.emit_epochView (s : State) (o : Out) : (s.emit o).epochView = s.epochView := by
  simp only [State.emit, State.epochView_mk]

theorem State.sendPair_epochView (s : State) (typ : Nat) (ws : List Word) : (s.sendPair typ ws).epochView = s.epochView := by
  simp only [State.sendPair, State.emit_epochView, State.epochView_mk, apply_ite State.epochView, ite_self]

theorem State.raise_epochView (s : State) (pg n : Nat) : (s.raise pg n).epochView = s.epochView := by
  simp only [State.raise, State.updPage_epochView]

theorem State.log_epochView (s : State) (typ : Nat) (pl : List Word) : (s.log typ pl).epochView = s.epochView := by
  unfold State.log
  split <;> rfl

theorem State.logN_epochView (s : State) (typ : Nat) (pl : List Nat) : (s.logN typ pl).epochView = s.epochView := by
  simp only [State.logN, State.log_epochView]

theorem State.effFollow_epochView (s : State) : s.effFollow.epochView = s.epochView := by
  unfold State.effFollow
  repeat' split
  all_goals simp only [State.epochView_mk]

theorem State.bufQueue_epochView (s : State) (k : Nat) (ws : List Word) : (s.bufQueue k ws).epochView = s.epochView := by
  simp only [State.bufQueue, State.updBuf_epochView, apply_ite State.epochView, ite_self]

theorem State.bufDrop_epochView (s : State) (k : Nat) (dest : BufState) : (s.bufDrop k dest).epochView = s.epochView := by
  simp only [State.bufDrop, State.updBuf_epochView, apply_ite State.epochView, ite_self]

theorem State.hostPush_epochView (s : State) (kind : Nat) (ws : List Word) : (s.hostPush kind ws).epochView = s.epochView := by
  unfold State.hostPush
  extract_lets entry loss f g high
  split
  · rw [State.when_epochView _ _ _ (State.raise_epochView _ _ _), State.when_epochView _ _ _ (State.raise_epochView _ _ _)]
    rfl
  · rfl

theorem State.snapshotCur_epochView (s : State) (cur : List CurIn) (t : Nat) : (s.snapshotCur cur t).epochView = s.epochView := by
  simp only [State.snapshotCur, State.updChan_epochView, foldS_epochView, implies_true]

theorem State.engInstall_epochView (s : State) (e : Nat) : (s.engInstall e).epochView = s.epochView := by
  unfold State.engInstall
  repeat' split
  all_goals simp only [State.updEng_epochView, State.raise_epochView, State.log_epochView]

theorem State.engGeneration_epochView (s : State) (e : Nat) : (s.engGeneration e).epochView = s.epochView := by
  simp only [State.engGeneration, State.updEng_epochView]

theorem State.traceFrame_epochView (s : State) (p : Nat) (f : ChainFrame) (ts : Nat) : (s.traceFrame p f ts).epochView = s.epochView := by
  unfold State.traceFrame
  split <;> simp only [State.emit_epochView, State.epochView_mk, apply_ite State.epochView, ite_self]

theorem State.chainOut_epochView (s : State) (p : Nat) (f : ChainFrame) : (s.chainOut p f).epochView = s.epochView := by
  simp only [State.chainOut, State.emit_epochView, State.traceFrame_epochView]

theorem State.takeSeq_epochView (s : State) (p : Nat) : (s.takeSeq p).2.epochView = s.epochView := by
  simp only [State.takeSeq, State.updPort_epochView]

theorem State.sendAdhoc_epochView (s : State) (p typ hop : Nat) (pl : List Byte) : (s.sendAdhoc p typ hop pl).epochView = s.epochView := by
  simp only [State.sendAdhoc, State.updPort_epochView, State.chainOut_epochView, State.takeSeq_epochView, apply_ite State.epochView,
    ite_self]

theorem State.writeMctrl_epochView (s : State) (p : Nat) (sleep : Bool) : (s.writeMctrl p sleep).epochView = s.epochView := by
  simp only [State.writeMctrl, State.updPort_epochView, State.sendAdhoc_epochView]

/-! ### Modules and cells -/

theorem State.tempBroken_epochView (s : State) (m i : Nat) (raw : Nat) : (s.tempBroken m i raw).epochView = s.epochView := by
  simp only [State.tempBroken, State.updTemp_epochView, State.raise_epochView, State.logN_epochView, apply_ite State.epochView, ite_self]

theorem State.tempRead_epochView (s : State) (m i raw : Nat) (e : Word) : (s.tempRead m i raw e).epochView = s.epochView := by
  simp only [State.tempRead, State.updTemp_epochView, State.tempBroken_epochView, apply_ite State.epochView, ite_self]

theorem State.nearEval_epochView (s : State) (m : Nat) : (s.nearEval m).epochView = s.epochView := by
  simp only [State.nearEval, State.updMod_epochView]

theorem State.refEval_epochView (s : State) (m : Nat) (v : Nat) : (s.refEval m v).epochView = s.epochView := by
  simp only [State.refEval, State.updMod_epochView, State.raise_epochView, State.logN_epochView, apply_ite State.epochView, ite_self]

theorem State.auxTake_epochView (s : State) (m : Nat) (f : ChainFrame) : (s.auxTake m f).epochView = s.epochView := by
  simp only [State.auxTake, State.tempRead_epochView, State.nearEval_epochView, State.refEval_epochView, foldS_epochView, implies_true]

theorem State.suspect_epochView (s : State) (m w : Nat) : (s.suspect m w).epochView = s.epochView := by
  simp only [State.suspect, State.updMod_epochView]

theorem State.moduleEpoch_epochView (s : State) (r : RawEpoch) (m : Nat) : (s.moduleEpoch r m).epochView = s.epochView := by
  unfold State.moduleEpoch
  extract_lets p n vals s1 clean stack dNow h s2 s3 s4
  clear_value stack
  have h1 : s1.epochView = s.epochView := foldl_epochView _ _ _ fun t a => State.setCell_epochView _ _ _
  have h2 : s2.epochView = s1.epochView := by
    simp only [s2]
    split <;> exact State.updMod_epochView _ _ _
  have h4 : s4.epochView = s.epochView := (foldS_epochView _ _ _ fun t a => State.updCell_epochView _ _ _).trans ((State.updMod_epochView _
    _ _).trans (h2.trans h1))
  split
  · exact h4
  · extract_lets ch got med d dd
    split
    · exact h4
    · split
      extract_lets s5 s6 at0 s7
      have h5 : s5.epochView = s.epochView := (foldS_epochView _ _ _ fun t a => by
        simp only [apply_ite State.epochView, State.updCell_epochView, State.raise_epochView, State.log_epochView, ite_self]).trans h4
      have h6 : s6.epochView = s.epochView := (foldS_epochView _ _ _ fun t a => by
        simp only [apply_ite State.epochView, State.suspect_epochView, State.raise_epochView, State.log_epochView, ite_self]).trans h5
      have h7 : s7.epochView = s6.epochView := by
        simp only [s7, apply_ite State.epochView, State.raise_epochView, State.log_epochView, ite_self]
      exact (State.updMod_epochView _ _ _).trans (h7.trans h6)

theorem State.learnResult_epochView (s : State) (m j : Nat) : (s.learnResult m j).epochView = s.epochView := by
  simp only [State.learnResult, State.updWire_epochView, apply_ite State.epochView, ite_self]

theorem State.learnModule_epochView (s : State) (m : Nat) : (s.learnModule m).epochView = s.epochView := by
  unfold State.learnModule
  dsimp only
  split <;> simp only [State.updMod_epochView, State.updWire_epochView, State.raise_epochView, State.logN_epochView, foldS_epochView,
    implies_true, apply_ite State.epochView, ite_self]

theorem State.learnEpoch_epochView (s : State) (r : RawEpoch) (ph : Nat × Nat × Nat × Nat) :
    (s.learnEpoch r ph).epochView = s.epochView := by
  simp only [State.learnEpoch, State.updPort_epochView, State.updMod_epochView, State.learnResult_epochView, State.learnModule_epochView,
    apply_ite State.epochView, ite_self]

/-! ### The estimator -/

theorem State.capLearn_epochView (s : State) (k : CellIn) (c : Ctx) (a : RestPt) (soc sig : Rat) :
    (s.capLearn k c a soc sig).1.epochView = s.epochView := by
  simp only [State.capLearn, State.raise_epochView, State.log_epochView, apply_ite Prod.fst, apply_ite State.epochView, ite_self]

theorem State.restCell_epochView (s : State) (k : CellIn) (c : Ctx) : (s.restCell k c).1.epochView = s.epochView := by
  simp only [State.restCell]
  (repeat' split) <;> simp only [State.capLearn_epochView]

theorem State.forceZero_epochView (s : State) (k : CellIn) (c : Ctx) (v : Rat) : (s.forceZero k c v).1.epochView = s.epochView := by
  simp only [State.forceZero, State.raise_epochView, State.log_epochView]

theorem State.emptyCell_epochView (s : State) (k : CellIn) (c : Ctx) : (s.emptyCell k c).1.epochView = s.epochView := by
  unfold State.emptyCell
  split
  · simp only [apply_ite Prod.fst, apply_ite State.epochView, State.raise_epochView, State.log_epochView, ite_self]
  · rfl

theorem State.estCell_epochView (s : State) (k : CellIn) : (s.estCell k).epochView = s.epochView := by
  unfold State.estCell
  extract_lets ix c
  split
  · rfl
  · split
    extract_lets
    split
    next s1 c2 e1 =>
    have h1 : s1.epochView = s.epochView := State.epochView_of_fst e1 (by simp only [apply_ite Prod.fst, apply_ite State.epochView,
      State.restCell_epochView, ite_self])
    extract_lets c3 c4 sc c5 low c6 force
    split
    next s2 c7 fl e2 =>
    have h2 : s2.epochView = s1.epochView := State.epochView_of_fst e2 (by
      split
      · exact State.forceZero_epochView s1 k _ _
      · simp only [apply_ite Prod.fst, apply_ite State.epochView, State.emptyCell_epochView, ite_self])
    exact (State.updCell_epochView _ _ _).trans ((State.setCtx_epochView _ _ _).trans (h2.trans h1))

theorem State.waitCell_epochView (s : State) (m j t : Nat) (v : Nat) : (s.waitCell m j t v).epochView = s.epochView := by
  simp only [State.waitCell, State.updCell_epochView, State.updCtx_epochView, apply_ite State.epochView, ite_self]

theorem State.wirePause_epochView (s : State) (p h m t : Nat) : (s.wirePause p h m t).epochView = s.epochView := by
  simp only [State.wirePause, State.updShutMod_epochView]

theorem State.strClock_epochView (s : State) (x t : Nat) (k : StrIn) : (s.strClock x t k).epochView = s.epochView := by
  simp only [State.strClock, State.updSctx_epochView]

theorem State.estString_epochView (s : State) (r : RawEpoch) (x tPrev : Nat) : (s.estString r x tPrev).epochView = s.epochView := by
  simp only [State.estString, State.updSctx_epochView, State.estCell_epochView, State.waitCell_epochView, State.strClock_epochView,
    foldS_epochView, implies_true, apply_ite State.epochView, ite_self]

/-! ### Images -/

theorem State.fallbackCell_epochView (s : State) (m j : Nat) : (s.fallbackCell m j).epochView = s.epochView := by
  simp only [State.fallbackCell, State.setCtx_epochView]

theorem State.moduleSwap_epochView (s : State) (m : Nat) (serial : DWord) : (s.moduleSwap m serial).epochView = s.epochView := by
  simp only [State.moduleSwap, State.updMon_epochView, State.updCtx_epochView, State.raise_epochView, State.log_epochView,
    State.fallbackCell_epochView, foldS_epochView, implies_true]

theorem State.applySwaps_epochView (s : State) (n : Word) : (s.applySwaps n).epochView = s.epochView := by
  unfold State.applySwaps
  refine foldS_epochView _ _ s fun t m => ?_
  split
  · split
    · rfl
    · rw [State.updMon_epochView, State.moduleSwap_epochView]
  · rfl

theorem State.applyModule_epochView (s : State) (m : Nat) (b : List Byte) (age : Option Rat) (late mirror : Bool) :
    (s.applyModule m b age late mirror).1.epochView = s.epochView := by
  unfold State.applyModule
  extract_lets serial u tol
  split
  · exact State.updMon_epochView _ _ _
  · split
    · exact State.moduleSwap_epochView _ _ _
    · dsimp only
      rw [apply_ite State.epochView, State.raise_epochView, State.log_epochView, ite_self, foldl_keeps (fun a : State × Nat × Nat × Rat =>
        a.1.epochView)]
      · exact State.updMon_epochView _ _ _
      · intro a j
        split
        · rfl
        · split
          · exact State.setCtx_epochView _ _ _
          · split
            · split
              · split <;> exact State.setCtx_epochView _ _ _
              · exact State.setCtx_epochView _ _ _
            · exact State.setCtx_epochView _ _ _

theorem State.applyImage_epochView (s : State) (i : StagedImage) (mirror : Bool) : (s.applyImage i mirror).epochView = s.epochView := by
  simp only [State.applyImage, State.epochView_mk, State.updSctx_epochView]
  exact foldl_keeps (fun a : State × Nat => a.1.epochView) _ _ _ fun a e => State.applyModule_epochView _ _ _ _ _ _

theorem State.applyStaged_epochView (s : State) (n : Word) : (s.applyStaged n).epochView = s.epochView := by
  simp only [State.applyStaged, State.applySwaps_epochView, State.applyImage_epochView, foldS_epochView, implies_true, State.epochView_mk]

/-! ### Challenges -/

theorem State.authChallenge_epochView (s : State) (p h : Nat) : (s.authChallenge p h).epochView = s.epochView := by
  simp only [State.authChallenge, State.sendAdhoc_epochView, State.epochView_mk, apply_ite State.epochView, ite_self]

theorem State.authPort_epochView (s : State) (p : Nat) : (s.authPort p).epochView = s.epochView := by
  simp only [State.authPort, State.authChallenge_epochView, foldS_epochView, implies_true]

theorem State.authPending_epochView (s : State) : s.authPending.epochView = s.epochView := by
  simp only [State.authPending, State.authChallenge_epochView, foldS_epochView, implies_true]

/-! ### The shuttle -/

theorem State.balStops_epochView (s : State) (m : Nat) : (s.balStops m).epochView = s.epochView := by
  simp only [State.balStops, State.updShut_epochView, foldS_epochView, implies_true, apply_ite State.epochView, ite_self]

theorem State.balEnergy_epochView (s : State) (m : Nat) (wh : Rat) : (s.balEnergy m wh).epochView = s.epochView := by
  simp only [State.balEnergy, State.updShutMod_epochView, State.raise_epochView, State.log_epochView, apply_ite State.epochView, ite_self]

theorem State.spreadCheck_epochView (s : State) (m : Nat) (strMean : Rat) : (s.spreadCheck m strMean).epochView = s.epochView := by
  simp only [State.spreadCheck, State.updShutMod_epochView, State.raise_epochView, State.log_epochView, apply_ite State.epochView, ite_self]

theorem State.setPlan_epochView (s : State) (ms : List Nat) (f : Nat → List (Nat × Int)) : (s.setPlan ms f).epochView = s.epochView := by
  simp only [State.setPlan, State.updShut_epochView, foldS_epochView, implies_true]

theorem State.planEpoch_epochView (s : State) (n : Word) (a b : Nat) (late : Bool) : (s.planEpoch n a b late).epochView = s.epochView := by
  simp only [State.planEpoch, State.updShutMod_epochView, State.sendPair_epochView, State.balStops_epochView, State.balEnergy_epochView,
    State.spreadCheck_epochView, State.setPlan_epochView, foldS_epochView, implies_true, State.epochView_mk, apply_ite State.epochView,
    ite_self]

theorem State.balSent_epochView (s : State) (p h m t : Nat) (cur : List Int) : (s.balSent p h m t cur).epochView = s.epochView := by
  simp only [State.balSent, State.updShut_epochView, State.updShutMod_epochView, foldS_epochView, implies_true]

/-! ### Limits and engines -/

theorem State.emitLimit_epochView (s : State) (slot : Nat) (v : Int) : (s.emitLimit slot v).epochView = s.epochView := by
  simp only [State.emitLimit, State.updSlotOf_epochView]

theorem State.romString_epochView (s : State) (r : RawEpoch) (x : Nat) : (s.romString r x).epochView = s.epochView := by
  simp only [State.romString, State.emitLimit_epochView]

theorem State.romLimits_epochView (s : State) (r : RawEpoch) : (s.romLimits r).epochView = s.epochView := by
  simp only [State.romLimits, State.emitLimit_epochView, State.romString_epochView, foldS_epochView, implies_true]

theorem State.stageSlot_epochView (s : State) (slot : Nat) : (s.stageSlot slot).1.epochView = s.epochView := by
  simp only [State.stageSlot, State.setSlotOf_epochView, State.raise_epochView, State.log_epochView, apply_ite State.epochView, ite_self]

theorem State.engWindow_epochView (s : State) (e : Nat) : (s.engWindow e).epochView = s.epochView := by
  unfold State.engWindow
  dsimp only
  split <;> simp only [State.updEng_epochView, State.freeWord_epochView]

theorem State.engResume_epochView (s : State) (e : Nat) : (s.engResume e).epochView = s.epochView := by
  simp only [State.engResume]
  (repeat' split) <;> simp only [State.updEng_epochView]

theorem State.romRegs_epochView (s : State) (e : Nat) : (s.romRegs e).epochView = s.epochView := by
  simp only [State.romRegs, State.updEng_epochView, foldS_epochView, State.freeWord_epochView, implies_true]

theorem engExt_epochView (e n : Nat) (s : State) : (engExt e n s).epochView = s.epochView := by
  induction n generalizing s with
  | zero => rfl
  | succ n ih => simp only [engExt, apply_ite State.epochView, ih, State.updEng_epochView, State.romRegs_epochView, ite_self]

theorem State.withCode_epochView (s : State) (c : CodeSt) : ({ s with code := c } : State).epochView = s.epochView := by rfl
theorem State.codeInstant_epochView (s : State) : s.codeInstant.epochView = s.epochView := by
  unfold State.codeInstant
  split <;> simp only [State.withCode_epochView, State.updEng_epochView, State.engInstall_epochView, State.engGeneration_epochView,
    foldS_epochView, implies_true, apply_ite State.epochView, ite_self]

/-! ### Flows -/

theorem State.flowWithdraw_epochView (s : State) (i : Nat) : (s.flowWithdraw i).epochView = s.epochView := by
  simp only [State.flowWithdraw, State.updFlow_epochView, State.raise_epochView, State.bufDrop_epochView, foldS_epochView, implies_true,
    apply_ite State.epochView, ite_self]

theorem State.flowHost_epochView (s : State) (i : Nat) (epoch : Word) (data : List Byte) :
    (s.flowHost i epoch data).epochView = s.epochView := by
  simp only [State.flowHost, State.hostPush_epochView, foldS_epochView, implies_true]

theorem flowFeed_epochView (i n : Nat) (s : State) : (flowFeed i n s).epochView = s.epochView := by
  induction n generalizing s with
  | zero => rfl
  | succ n ih =>
    unfold flowFeed
    split
    · rfl
    · split
      · rfl
      · simp only [ih, State.updFlow_epochView, State.updBuf_epochView, State.bufQueue_epochView]

theorem State.flowSend_epochView (s : State) (i : Nat) (epoch : Word) (data : List Byte) (port : Nat) :
    (s.flowSend i epoch data port).epochView = s.epochView := by
  simp only [State.flowSend, apply_ite State.epochView, State.flowHost_epochView, State.sendPair_epochView, flowFeed_epochView,
    State.updFlow_epochView, State.flowWithdraw_epochView, ite_self]

theorem State.flowEmit_epochView (s : State) (i : Nat) (b : Bank) (imgs : List Nat) : (s.flowEmit i b imgs).epochView = s.epochView := by
  simp only [State.flowEmit, State.updFlow_epochView, State.flowSend_epochView, foldS_epochView, implies_true, apply_ite State.epochView,
    ite_self]

theorem State.flowEngine_epochView (s : State) (old : Bank) (imgs : List Nat) : (s.flowEngine old imgs).epochView = s.epochView := by
  unfold State.flowEngine
  split <;> simp only [State.flowEmit_epochView, foldS_epochView, implies_true, apply_ite State.epochView, ite_self]

/-! ### The sample instant, the computation and the load -/

theorem State.dropProposal_epochView (s : State) (n : Word) : (s.dropProposal n).epochView = s.epochView := by
  unfold State.dropProposal
  split <;> simp only [State.epochView_mk, apply_ite State.epochView, ite_self]

theorem State.captureImages_epochView (s : State) (ps : List Nat) (n : Word) : (s.captureImages ps n).epochView = s.epochView :=
  foldS_epochView _ _ s fun _ _ => rfl

theorem State.peaksReset_epochView (s : State) : s.peaksReset.epochView = s.epochView := by
  simp only [State.peaksReset, State.epochView_mk]

theorem State.sendSched_epochView (s : State) (p typ hop : Nat) (pl : List Byte) : (s.sendSched p typ hop pl).epochView = s.epochView := by
  simp only [State.sendSched, State.updPort_epochView, State.chainOut_epochView]

theorem State.sendSchedule_epochView (s : State) (p : Nat) (n : Word) : (s.sendSchedule p n).epochView = s.epochView := by
  unfold State.sendSchedule
  split
  · refine foldl_keeps (fun a : State × Nat => a.1.epochView) _ _ _ fun a f => ?_
    simp only [apply_ite State.epochView, State.balSent_epochView, State.wirePause_epochView, State.sendSched_epochView, ite_self]
  · rfl

theorem State.sendSuspicion_epochView (s : State) (p : Nat) : (s.sendSuspicion p).epochView = s.epochView := by
  unfold State.sendSuspicion
  split
  · refine foldS_epochView _ _ s fun t h => ?_
    dsimp only
    split
    · rw [State.wirePause_epochView, State.updMod_epochView, State.sendAdhoc_epochView]
    · rfl
  · rfl

theorem State.learnInstant_epochView (s : State) (p : Nat) (t : Nat) : (s.learnInstant p t).epochView = s.epochView := by
  simp only [State.learnInstant]
  (repeat' split) <;> simp only [State.updPort_epochView, State.sendAdhoc_epochView, State.balSent_epochView]

theorem State.setBlock_epochView (s : State) (p : Nat) (q : Half) (m : Nat) : (s.setBlock p q m).epochView = s.epochView := by
  simp only [State.setBlock, State.updPort_epochView]

theorem State.reserveBlocks_epochView (s : State) (n : Word) : (s.reserveBlocks n).epochView = s.epochView := by
  simp only [State.reserveBlocks, State.updPort_epochView, State.sendPair_epochView, State.setBlock_epochView, foldS_epochView,
    State.when_epochView, implies_true, apply_ite State.epochView, ite_self]

theorem State.sendEpoch_epochView (s : State) (n : Word) : (s.sendEpoch n).epochView = s.epochView := by
  simp only [State.sendEpoch, State.sendSchedule_epochView, foldS_epochView, implies_true, apply_ite State.epochView, ite_self]

theorem State.portInstant_epochView (s : State) (t p : Nat) : (s.portInstant t p).epochView = s.epochView := by
  simp only [State.portInstant, State.updPort_epochView, State.writeMctrl_epochView, apply_ite State.epochView, ite_self]

theorem State.showData_epochView (s : State) : s.showData.epochView = s.epochView := by
  simp only [State.showData, State.updEng_epochView, foldS_epochView, implies_true]

theorem State.authInstant_epochView (s : State) : s.authInstant.epochView = s.epochView := by
  simp only [State.authInstant, State.updPort_epochView, State.authPort_epochView, State.authPending_epochView, foldS_epochView,
    implies_true, apply_ite State.epochView, ite_self]

theorem State.computeRegions_epochView (s : State) (r : RawEpoch) : (s.computeRegions r).epochView = s.epochView := by
  unfold State.computeRegions
  extract_lets last a b c d e f
  calc f.epochView = e.epochView := State.planEpoch_epochView _ _ _ _ _
    _ = d.epochView := foldS_epochView _ _ _ fun _ _ => State.setEp_epochView _ _ _
    _ = c.epochView := foldS_epochView _ _ _ fun _ _ => State.estString_epochView _ _ _ _
    _ = b.epochView := foldl_epochView _ _ _ fun _ _ => State.learnEpoch_epochView _ _ _
    _ = a.epochView := foldS_epochView _ _ _ fun _ _ => State.moduleEpoch_epochView _ _ _
    _ = s.epochView := foldS_epochView _ _ _ fun _ _ => State.auxTake_epochView _ _ _

theorem State.withLoad_epochView (s : State) (l : LoadSt) : ({ s with load := l } : State).epochView = s.epochView := by rfl
theorem State.loadWords_epochView (s : State) (r : RawEpoch) (busyUs late : Nat) : (s.loadWords r busyUs late).epochView = s.epochView := by
  simp only [State.loadWords, apply_ite State.epochView, State.raise_epochView, State.log_epochView, State.withLoad_epochView, ite_self]

theorem State.captureEpoch_epochView (s : State) (r : RawEpoch) : (s.captureEpoch r).1.epochView = s.epochView := by
  simp only [State.captureEpoch, State.captureImages_epochView, State.epochView_mk, apply_ite Prod.fst, apply_ite State.epochView, ite_self]

end Sys2Proof.Machine
end


section
/-! Operations of an epoch whose view needs a premise: the landing's wake, the engines below 13, the acquisition stage. -/
namespace Sys2Proof.Machine

/-- Work at landing 2 wakes to full without leaving a deep landing (R441). -/
theorem Eng.take_source (g : Eng) (b : Nat) : (g.take b).source = g.source := by
  unfold Eng.take
  dsimp only
  split <;> rfl
theorem State.toFull_frame {s : State} (h : s.land.landing = 2) : { s.toFull with land := s.land } = s := by
  have hite : ∀ (c : Prop) [Decidable c] (a b : State), { a with land := s.land } = s → { b with land := s.land } = s →
      { (if c then a else b) with land := s.land } = s := by
    intro c _ a b ha hb
    by_cases hc : c
    · rw [if_pos hc, ha]
    · rw [if_neg hc, hb]
  unfold State.toFull
  refine (congrArg (fun t : State => { t with land := s.land }) (if_neg (c := 3 ≤ s.land.landing) (by rw [h]; decide))).trans ?_
  exact hite _ _ _ rfl rfl
theorem State.wakeL2_frame (s : State) : { s.wakeL2 with land := s.land } = s := by
  by_cases h : s.land.landing = 2
  · rw [State.wakeL2, if_pos h, State.toFull_frame h]
  · rw [State.wakeL2, if_neg h]
theorem State.wakeL2_epochView (s : State) : s.wakeL2.epochView = s.epochView := (congrArg State.epochView s.wakeL2_frame :)
theorem State.wakeL2_of_awake {s : State} (h : s.land.landing ≠ 2) : s.wakeL2 = s := if_neg h

/-- Engine 13 alone wakes the device (R202). -/
theorem engServe_epochView {e : Nat} (he : e ≠ 13) (n : Nat) (s : State) : (engServe e n s).epochView = s.epochView := by
  induction n generalizing s with
  | zero => rfl
  | succ n ih =>
    unfold engServe
    extract_lets g
    split
    · rfl
    · next hg =>
      split
      · rfl
      · extract_lets v u w
        split
        · exact (ih u).trans (State.updEng_epochView _ _ _)
        · have hw : w = u := rfl
          have hsrc : (u.eng e).source = g.source := by rw [State.updEng_same]; exact Eng.take_source _ _
          rw [if_neg (by rw [hw, hsrc]; intro h; simp [h] at hg), hw]
          exact (State.updEng_epochView _ _ _).trans (State.updEng_epochView _ _ _)

theorem State.engTrigger_epochView {e : Nat} (he : e < 13) (s : State) (b : Nat) : (s.engTrigger e b).epochView = s.epochView := by
  have h13 : e ≠ 13 := by omega
  unfold State.engTrigger
  extract_lets u v g waits w
  have hu : u.epochView = s.epochView := by
    simp only [u, if_pos he]
    exact (State.engInstall_epochView _ _).trans (State.wakeL2_epochView s)
  have hv : v = u := if_neg fun h => h13 h.1
  split
  · rw [if_neg fun h => h13 h.1, hv, hu]
  · have hw : w.epochView = s.epochView := (State.updEng_epochView _ _ _).trans (hv ▸ hu)
    split
    · exact (State.engResume_epochView _ _).trans hw
    · exact (engServe_epochView h13 _ _).trans hw

theorem State.enginesInstant_epochView (s : State) : s.enginesInstant.epochView = s.epochView := by
  have hloop : ∀ (l : List Nat) (t : State), (∀ e ∈ l, e < 13) → (foldS l (fun s e =>
      let s := s.engWindow e
      let s := s.updEng e (fun g => { g with extNext := 0 })
      engExt e 5 (s.engTrigger e 0)) t).epochView = t.epochView := by
    intro l
    induction l with
    | nil => exact fun t _ => rfl
    | cons e l ih =>
      exact fun t hl => (ih _ fun d hd => hl d (List.mem_cons_of_mem _ hd)).trans ((engExt_epochView e 5 _).trans
        ((State.engTrigger_epochView (hl e List.mem_cons_self) _ 0).trans ((State.updEng_epochView _ _ _).trans (State.engWindow_epochView _ _))))
  exact hloop (List.range 12) s fun e he => by have := List.mem_range.mp he; omega

/-- A free place of the acquisition stage takes the epoch (R493). -/
theorem State.acquire_of_room {s : State} (r : RawEpoch) (h : s.acq.length < 3) : s.acquire r = { s with acq := s.acq ++ [r] } := by
  unfold State.acquire
  split
  · next hq => simp [hq] at h
  · rfl

end Sys2Proof.Machine
end


section
/-! SAMPLE_INSTANT (R27, R28, R52, R493). -/
namespace Sys2Proof.Machine

theorem exec_sampleInstant (cur : List CurIn) (s : State) : exec (.sampleInstant cur) s = execSampleInstant cur s := rfl

theorem State.switchDue_of_none {s : State} (n : Word) (h : s.sw.confirmed = none) : s.switchDue n = none := by
  simp [State.switchDue, h]
theorem State.transDue_of_none {s : State} (b : Bool) (h : s.mode.trans = none) : s.transDue b = s := by
  simp only [State.transDue, h]
theorem State.applyShadow_of_none {s : State} (h : s.shadow = []) : s.applyShadow = { s with shadow := [] } := by
  rw [State.applyShadow, h]
  rfl

/-- What is due at a sample instant takes effect: a switch or the end of a proposal, a transition, the waiting writes. -/
def State.instantDue (s : State) : State :=
  let s1 := (s.reach s.nextT).wakeL2
  let sw := s1.switchDue s.nextN
  let s2 := match sw with | some k => s1.switchGen k s.nextN | none => s1.dropProposal s.nextN
  (s2.transDue sw.isSome).applyShadow
/-- What a sample instant does up to the epoch's number. -/
def State.instantBegun (s : State) (cur : List CurIn) (n : Word) (t : Nat) : State :=
  (if s.acq = [] ∧ s.computing = none then s.applyStaged n else s).snapshotCur cur t
/-- What a sample instant does once the epoch is numbered, up to the acquisition. -/
def State.instantNumbered (s : State) (n : Word) (t : Nat) : State :=
  let s := { s with time := { s.time with epoch := n }, sv := s.vector }
  foldS s.portsUsed (fun s p => s.portInstant t p) s.peaksReset
/-- What a sample instant does once the epoch is acquired. -/
def State.instantEnds (s : State) (n : Word) (t : Nat) : State :=
  let s := { s with bal := { s.bal with stale := s.planMissing } }
  let s := (s.codeInstant).reserveBlocks n
  let s := s.showData.enginesInstant.sendEpoch n
  let s := foldS s.portsUsed (fun s p => (s.sendSuspicion p).learnInstant p t) s
  s.authInstant

theorem State.instantEnds_epochView (s : State) (n : Word) (t : Nat) : (s.instantEnds n t).epochView = s.epochView := by
  have h0 : ({ s with bal := { s.bal with stale := s.planMissing } } : State).epochView = s.epochView := by rfl
  simp only [State.instantEnds, State.authInstant_epochView, State.learnInstant_epochView, State.sendSuspicion_epochView, foldS_epochView,
    State.sendEpoch_epochView, State.enginesInstant_epochView, State.showData_epochView, State.reserveBlocks_epochView,
    State.codeInstant_epochView, implies_true, h0]
theorem State.instantNumbered_epochView (s : State) (n : Word) (t : Nat) :
    (s.instantNumbered n t).epochView = ({ s with time := { s.time with epoch := n } } : State).epochView :=
  (foldS_epochView _ _ _ fun _ _ => State.portInstant_epochView _ _ _).trans (State.peaksReset_epochView _)
theorem State.instantBegun_epochView (s : State) (cur : List CurIn) (n : Word) (t : Nat) : (s.instantBegun cur n t).epochView = s.epochView :=
  (State.snapshotCur_epochView _ cur _).trans (State.ite_keeps State.epochView (State.applyStaged_epochView s _))

/-- A sample instant is what is due, the epoch's number, its acquisition and what follows; its own entry of DORMANT ends the series. -/
theorem exec_sampleInstant_of_sampling {s : State} (cur : List CurIn) (h : s.time.sampling = true) : exec (.sampleInstant cur) s =
    let u := (s.instantDue.instantBegun cur s.nextN s.nextT).instantNumbered s.nextN s.nextT
    let v := (u.acquire (u.rawNow s.nextN s.nextT)).instantEnds s.nextN s.nextT
    if v.md = .dormant ∧ s.md ≠ .dormant then .next { v with time := { v.time with sampling := false }, clkDrive := 0#6 } else .next v := by
  rw [exec_sampleInstant]
  unfold execSampleInstant
  rw [if_pos h]
  rfl

/-- With nothing due only time moves and the list of waiting writes is empty. -/
theorem State.instantDue_epochView {s : State} (ht : s.mode.trans = none) (hc : s.sw.confirmed = none) (hs : s.shadow = [])
    (hl : s.land.landing ≠ 2) : s.instantDue.epochView = (s.reach s.nextT).epochView := by
  have hw : (s.reach s.nextT).wakeL2 = s.reach s.nextT := State.wakeL2_of_awake hl
  have hd : (s.reach s.nextT).switchDue s.nextN = none := State.switchDue_of_none _ hc
  have hv := State.dropProposal_epochView (s.reach s.nextT) s.nextN
  have hfields := hv
  simp only [State.epochView, Prod.mk.injEq] at hfields
  obtain ⟨htime, hmode, hcoils, hstrs, hacq, hshadow, hcomp, hhall, hlim, hprot⟩ := hfields
  have htr : ((s.reach s.nextT).dropProposal s.nextN).mode.trans = none := hmode ▸ ht
  have hsh : ((s.reach s.nextT).dropProposal s.nextN).shadow = [] := hshadow ▸ hs
  simp only [State.instantDue, hw, hd, State.transDue_of_none _ htr, State.applyShadow_of_none hsh]
  rw [← hv]
  exact congrArg (fun w => (_, _, _, _, _, w, _, _, _, _)) hsh.symm

/-- A sample instant with nothing due (R27, R28, R493). -/
theorem exec_sampleInstant_of_plain {s : State} (cur : List CurIn) (h : s.time.sampling = true) (ht : s.mode.trans = none)
    (hc : s.sw.confirmed = none) (hs : s.shadow = []) (hq : s.acq.length < 3) (hl : s.land.landing ≠ 2) :
    ∃ t r, exec (.sampleInstant cur) s = .next t ∧ r.epoch = s.nextN ∧ r.t = s.nextT ∧ t.epochView =
      ({ s.reach s.nextT with time := { (s.reach s.nextT).time with epoch := s.nextN }, acq := s.acq ++ [r] } : State).epochView := by
  have hu : ((s.instantDue.instantBegun cur s.nextN s.nextT).instantNumbered s.nextN s.nextT).epochView =
      ({ s.reach s.nextT with time := { (s.reach s.nextT).time with epoch := s.nextN } } : State).epochView := by
    have hv := (State.instantBegun_epochView s.instantDue cur s.nextN s.nextT).trans (State.instantDue_epochView ht hc hs hl)
    rw [State.instantNumbered_epochView]
    simp only [State.epochView, Prod.mk.injEq] at hv ⊢
    obtain ⟨htime, hrest⟩ := hv
    exact ⟨by rw [htime], hrest⟩
  rw [exec_sampleInstant_of_sampling cur h]
  generalize (s.instantDue.instantBegun cur s.nextN s.nextT).instantNumbered s.nextN s.nextT = u at hu
  have hv : ((u.acquire (u.rawNow s.nextN s.nextT)).instantEnds s.nextN s.nextT).epochView =
      ({ s.reach s.nextT with time := { (s.reach s.nextT).time with epoch := s.nextN }, acq := s.acq ++ [u.rawNow s.nextN s.nextT] } : State).epochView := by
    simp only [State.epochView, Prod.mk.injEq] at hu
    obtain ⟨htime, hmode, hcoils, hstrs, hacq, hrest⟩ := hu
    rw [State.instantEnds_epochView, State.acquire_of_room _ (by rw [hacq]; exact hq)]
    simp only [State.epochView, Prod.mk.injEq]
    exact ⟨htime, hmode, hcoils, hstrs, by rw [hacq]; rfl, hrest⟩
  have hmode := hv
  simp only [State.epochView, Prod.mk.injEq] at hmode
  have hmd : ((u.acquire (u.rawNow s.nextN s.nextT)).instantEnds s.nextN s.nextT).md = s.md := congrArg ModeSt.mode hmode.2.1
  have hstay : ¬ (((u.acquire (u.rawNow s.nextN s.nextT)).instantEnds s.nextN s.nextT).md = .dormant ∧ s.md ≠ .dormant) := fun hd =>
    hd.2 (hmd ▸ hd.1)
  exact ⟨_, u.rawNow s.nextN s.nextT, if_neg hstay, rfl, rfl, hv⟩

end Sys2Proof.Machine
end


section
/-! SAMPLE_LAUNCH (R98). -/
namespace Sys2Proof.Machine

theorem exec_sampleLaunch (p : Port) (s : State) : exec (.sampleLaunch p) s = .next (s.sampleLaunch p.val) := rfl

/-- The port's state after its launch. -/
def PortSt.launched (x : PortSt) (m : Word) (pl : List Byte) (round : Bool) : PortSt :=
  { x with sampleSent := true, firstSample := x.firstSample && !(leAt pl 1 1 / 2 % 2 == 1), tempEpoch := if round then some m else x.tempEpoch }

/-- A launch in time of a port that has a block: the SAMPLE with the block's first SEQ (R98). -/
theorem State.sampleLaunch_of_due {s : State} {p : Nat} (hs : s.time.sampling = true) (hm : s.chainMay = true) (hp : s.portServed p = true)
    (hn : (s.port p).sampleSent = false) (ha : s.active = true) (hb : (s.port p).blockM ≠ 0) (hl : s.launchLead p ≤ s.tEpoch)
    (hw : s.land.landing ≠ 2) : ∃ m pl round, s.sampleLaunch p =
      let u := s.reach (s.nextT - s.launchLead p)
      (((u.chainOut p (mkFrame 0x02 0 0 u.term flagBCAST (u.port p).blockS pl)).updTxb (4 * p) (fun b =>
        { b with fresh := false, seq := (u.port p).blockS,
                 words := sset 0#32 b.words 61 (lo32 u.now) })).updPort p
        (fun x => x.launched m pl round)) := by
  unfold State.sampleLaunch
  rw [if_pos (by simp [hs, hm, hp, hn, ha])]
  extract_lets +onlyGivenNames m a u
  have ha : a = s.nextT - s.launchLead p := by simp only [a, if_pos hl]
  have hu : u = s.reach (s.nextT - s.launchLead p) := ha ▸ State.wakeL2_of_awake hw
  clear_value u
  subst hu
  rcases (s.reach (s.nextT - s.launchLead p)).samplePayload p m with ⟨pl, round⟩
  dsimp only
  rw [if_neg (show ((s.reach (s.nextT - s.launchLead p)).port p).blockM ≠ 0 from hb)]
  exact ⟨m, pl, round, rfl⟩

/-- A port whose SAMPLE is sent launches no other in the epoch. -/
theorem State.sampleLaunch_of_sent {s : State} {p : Nat} (h : (s.port p).sampleSent = true) : s.sampleLaunch p = s := by
  unfold State.sampleLaunch
  exact if_neg (by simp [h])

/-- The frame is the latest thing sent. -/
theorem State.chainOut_out (s : State) (p : Nat) (f : ChainFrame) : .chain p f ∈ (s.chainOut p f).out := List.mem_cons_self

/-- What a launch leaves (R98): one broadcast SAMPLE with the first SEQ of the block. -/
theorem State.sampleLaunch_sends {s : State} {p : Nat} (hs : s.time.sampling = true) (hm : s.chainMay = true) (hp : s.portServed p = true)
    (hn : (s.port p).sampleSent = false) (ha : s.active = true) (hb : (s.port p).blockM ≠ 0) (hl : s.launchLead p ≤ s.tEpoch)
    (hw : s.land.landing ≠ 2) : ∃ f, (s.sampleLaunch p).epochView = (s.reach (s.nextT - s.launchLead p)).epochView ∧
      ((s.sampleLaunch p).port p).sampleSent = true ∧ .chain p f ∈ (s.sampleLaunch p).out ∧ f.typ = 2#8 ∧ f.term = s.term ∧ f.flags = flagBCAST ∧
      f.seq = (s.port p).blockS ∧ ∀ q, q ≠ p → (s.sampleLaunch p).port q = s.port q := by
  obtain ⟨m, pl, round, h⟩ := State.sampleLaunch_of_due hs hm hp hn ha hb hl hw
  rw [h]
  generalize hu : s.reach (s.nextT - s.launchLead p) = u
  have hport : ∀ k, u.port k = s.port k := fun k => hu ▸ rfl
  have hterm : u.term = s.term := hu ▸ rfl
  refine ⟨mkFrame 0x02 0 0 u.term flagBCAST (u.port p).blockS pl, ?_, ?_, State.chainOut_out _ _ _, rfl, hterm, rfl, congrArg PortSt.blockS (hport p),
    fun q hq => ?_⟩
  · exact (State.updPort_epochView _ _ _).trans (State.chainOut_epochView _ _ _)
  · rw [State.updPort_same]
    rfl
  · rw [State.updPort_ne _ _ hq, ← hport q]
    exact State.chainOut_port u p _ q

end Sys2Proof.Machine
end

section
/-! EPOCH_COMPUTATION (R32, R494). -/
namespace Sys2Proof.Machine

theorem exec_epochComputation_of_acquired {s : State} {r : RawEpoch} {rest : List RawEpoch} (hc : s.computing = none) (ha : s.acq = r :: rest) :
    exec .epochComputation s =
      let r' := { r with catchup := decide (r.t + s.tEpoch ≤ s.now) }
      .next ((State.applyStaged (State.wakeL2 { s with acq := rest, computing := some r' }) r.epoch).computeRegions r') := by
  change execEpochComputation s = _
  simp only [execEpochComputation, hc, ha]

theorem State.computeRegions_lastT (s : State) (r : RawEpoch) : (s.computeRegions r).est.lastT = some r.t := rfl

/-- The oldest acquired epoch goes into computation; its regions leave the rest (R32). -/
theorem State.computation_epochView (s : State) (r r' : RawEpoch) (rest : List RawEpoch) :
    ((State.applyStaged (State.wakeL2 { s with acq := rest, computing := some r' }) r.epoch).computeRegions r').epochView =
      ({ s with acq := rest, computing := some r' } : State).epochView :=
  (State.computeRegions_epochView _ r').trans ((State.applyStaged_epochView _ _).trans (State.wakeL2_epochView _))

end Sys2Proof.Machine
end

section
/-! DATA_TRIGGER in ROM (R216). -/
namespace Sys2Proof.Machine

/-- The ROM's window of engine e: its units are counted anew, its program stays. -/
theorem State.engWindow_of_rom {s : State} {e : Nat} (hs : (s.eng e).source = .rom) (hf : (s.eng e).falling = false) :
    ∃ g, s.engWindow e = s.freeWord.2.setEng e g ∧ g.units = 0 ∧ g.source = .rom ∧ g.next = (s.eng e).next := by
  have he : s.freeWord.2.eng e = s.eng e := rfl
  unfold State.engWindow
  simp only [hs, beq_self_eq_true, Bool.true_or, if_true, State.updEng, he, hf, Bool.false_eq_true, if_false]
  exact ⟨_, rfl, rfl, rfl, rfl⟩
theorem State.engInstall_of_none {s : State} {e : Nat} (h : (s.eng e).next = none) : s.engInstall e = s := by
  simp only [State.engInstall, h, ite_self]

/-- An emission reaches its slot; the other slots keep theirs. -/
theorem State.emitLimit_emitted (s : State) (k : Nat) (v : Int) : ((s.emitLimit k v).slotOf k).emitted = true := by
  rw [State.emitLimit, State.updSlotOf_same]
theorem State.emitLimit_keeps {s : State} {k : Nat} (j : Nat) (v : Int) (h : (s.slotOf k).emitted = true) :
    ((s.emitLimit j v).slotOf k).emitted = true := by
  by_cases e : k = j
  · exact e ▸ State.emitLimit_emitted s j v
  · rw [State.emitLimit, State.updSlotOf_ne _ _ e, h]
theorem State.romString_eq (s : State) (r : RawEpoch) (x : Nat) : ∃ c d e f, s.romString r x =
    (((s.emitLimit (4 * x) c).emitLimit (4 * x + 1) d).emitLimit (4 * x + 2) e).emitLimit (4 * x + 3) f := by
  unfold State.romString
  rcases s.romCurrent r x with ⟨c, d⟩
  exact ⟨_, _, _, _, rfl⟩
theorem State.romString_keeps {s : State} (r : RawEpoch) (x : Nat) {k : Nat} (h : (s.slotOf k).emitted = true) :
    ((s.romString r x).slotOf k).emitted = true := by
  obtain ⟨c, d, e, f, hx⟩ := s.romString_eq r x
  rw [hx]
  exact State.emitLimit_keeps _ _ (State.emitLimit_keeps _ _ (State.emitLimit_keeps _ _ (State.emitLimit_keeps _ _ h)))
/-- The ROM emits the four slots of a string. -/
theorem State.romString_emits (s : State) (r : RawEpoch) (x : Nat) {j : Nat} (hj : j < 4) : ((s.romString r x).slotOf (4 * x + j)).emitted = true := by
  obtain ⟨c, d, e, f, hx⟩ := s.romString_eq r x
  rw [hx]
  match j, hj with
  | 0, _ => exact State.emitLimit_keeps _ _ (State.emitLimit_keeps _ _ (State.emitLimit_keeps _ _ (State.emitLimit_emitted _ _ _)))
  | 1, _ => exact State.emitLimit_keeps _ _ (State.emitLimit_keeps _ _ (State.emitLimit_emitted _ _ _))
  | 2, _ => exact State.emitLimit_keeps _ _ (State.emitLimit_emitted _ _ _)
  | 3, _ => exact State.emitLimit_emitted _ _ _

/-- The section's share of the ROM's default program. -/
def State.romSection (s : State) (r : RawEpoch) : State :=
  foldS [0, 1, 2, 3] (fun s j => s.emitLimit (192 + j)
    (clampI 0 (s.ceiling (192 + j)) ((s.closedIn r).foldl (fun (a : Int) x => a + (s.slotOf (4 * x + j)).value) 0))) s
theorem State.romLimits_eq (s : State) (r : RawEpoch) : s.romLimits r = (foldS s.strings (fun s x => s.romString r x) s).romSection r := rfl
theorem State.romSection_keeps {s : State} (r : RawEpoch) {k : Nat} (h : (s.slotOf k).emitted = true) :
    ((s.romSection r).slotOf k).emitted = true :=
  foldS_keeps_prop (P := fun t : State => (t.slotOf k).emitted = true) h fun _ ht _ _ => State.emitLimit_keeps _ _ ht
/-- The default program emits the slots of every string in use and of the section (R216). -/
theorem State.romLimits_emits (s : State) (r : RawEpoch) {x j : Nat} (hx : x ∈ s.strings ++ [48]) (hj : j < 4) :
    ((s.romLimits r).slotOf (4 * x + j)).emitted = true := by
  rw [State.romLimits_eq]
  rcases List.mem_append.mp hx with hx | hx
  · refine State.romSection_keeps r ?_
    exact foldS_reaches (Q := fun _ => True) (P := fun t : State => (t.slotOf (4 * x + j)).emitted = true) hx trivial (fun _ _ _ _ => .inl trivial)
      (fun t _ => State.romString_emits t r x hj) fun t ht y _ => State.romString_keeps r y ht
  · rw [List.mem_singleton.mp hx]
    exact foldS_reaches (Q := fun _ => True) (P := fun t : State => (t.slotOf (192 + j)).emitted = true)
      (show j ∈ [0, 1, 2, 3] by simp; omega) trivial (fun _ _ _ _ => .inl trivial) (fun t _ => State.emitLimit_emitted _ _ _)
      fun t ht y _ => State.emitLimit_keeps _ _ ht
theorem State.emitLimit_engs (s : State) (k : Nat) (v : Int) : (s.emitLimit k v).engs = s.engs := rfl
theorem State.romString_engs (s : State) (r : RawEpoch) (x : Nat) : (s.romString r x).engs = s.engs := by
  obtain ⟨c, d, e, f, hx⟩ := s.romString_eq r x
  simp only [hx, State.emitLimit_engs]
theorem State.romSection_engs (s : State) (r : RawEpoch) : (s.romSection r).engs = s.engs := by
  exact foldS_keeps State.engs [0, 1, 2, 3] (fun t j => t.emitLimit (192 + j)
    (clampI 0 (t.ceiling (192 + j)) ((t.closedIn r).foldl (fun (a : Int) x => a + (t.slotOf (4 * x + j)).value) 0))) s
    fun t j => State.emitLimit_engs t _ _
theorem State.romLimits_engs (s : State) (r : RawEpoch) : (s.romLimits r).engs = s.engs := by
  rw [State.romLimits_eq, State.romSection_engs]
  exact foldS_keeps State.engs _ _ s fun t x => t.romString_engs r x

/-- In ROM the regions' completion runs the default program within a new window (R216). -/
theorem exec_dataTrigger_of_rom {s : State} {r : RawEpoch} (hc : s.computing = some r) (hr : r.ready = false) (hs : (s.eng 12).source = .rom)
    (hf : (s.eng 12).falling = false) (hn : (s.eng 12).next = none) : ∃ t, exec .dataTrigger s = .next t ∧
      t.epochView = ({ s with computing := some { r with ready := true } } : State).epochView ∧ (t.eng 12).units = 0 ∧
      ∀ x ∈ s.strings ++ [48], ∀ j < 4, (t.slotOf (4 * x + j)).emitted = true := by
  obtain ⟨g, hg, hunits, hsource, hnext⟩ :=
    State.engWindow_of_rom (s := { s with computing := some { r with ready := true } }) (e := 12) hs hf
  generalize hu : ({ s with computing := some { r with ready := true } } : State).engWindow 12 = u at hg
  have hview : u.epochView = ({ s with computing := some { r with ready := true } } : State).epochView := hu ▸ State.engWindow_epochView _ 12
  have heng : u.eng 12 = g := by
    rw [hg]
    exact sget_sset_same _ _ 12 g
  have hstr : u.strings = s.strings := by
    rw [hg]
    rfl
  refine ⟨u.romLimits r, ?_, (State.romLimits_epochView u r).trans hview, ?_, fun x hx j hj => State.romLimits_emits u r (hstr ▸ hx) hj⟩
  · change execDataTrigger s = _
    have hrom : (u.eng 12).inRom = true := by rw [heng, Eng.inRom, hsource]; rfl
    have hinst : u.engInstall 12 = u := State.engInstall_of_none (by rw [heng, hnext]; exact hn)
    simp only [execDataTrigger, hc, hr, Bool.false_eq_true, if_false, hu, hrom, if_true, hinst]
  · rw [State.eng, State.romLimits_engs, ← State.eng, heng, hunits]

end Sys2Proof.Machine
end


section
/-! EPOCH_COMMIT (R30, R491 to R494): what the publication, the bank, the end of a stall and the landing leave. -/
namespace Sys2Proof.Machine

/-- What a commit's operations after the bank leave alone. -/
def State.commitView (s : State) : TimeSt × List RawEpoch × Option RawEpoch × HallSt × ProtSt := (s.time, s.acq, s.computing, s.hall, s.prot)

theorem State.commitView_of_epochView {s t : State} (h : t.epochView = s.epochView) : t.commitView = s.commitView := by
  simp only [State.epochView, Prod.mk.injEq] at h
  obtain ⟨htime, -, -, -, hacq, -, hcomp, hhall, -, hprot⟩ := h
  simp only [State.commitView, htime, hacq, hcomp, hhall, hprot]
theorem State.commitView_of_besideSection {s t : State} (h : t.besideSection = s.besideSection) : t.commitView = s.commitView :=
  (congrArg State.commitView h :)
theorem foldS_commitView {α : Type} (l : List α) (f : State → α → State) (s : State) (h : ∀ t a, (f t a).commitView = t.commitView) :
    (foldS l f s).commitView = s.commitView := foldS_keeps State.commitView l f s h
theorem State.updStr_commitView (s : State) (k : Nat) (f : StrSt → StrSt) : (s.updStr k f).commitView = s.commitView := by rfl
theorem State.updCan_commitView (s : State) (k : Nat) (f : CanSt → CanSt) : (s.updCan k f).commitView = s.commitView := by rfl
theorem State.withGal_commitView (s : State) (g : GalSt) : ({ s with gal := g } : State).commitView = s.commitView := by rfl
theorem State.withLand_commitView (s : State) (l : LandSt) : ({ s with land := l } : State).commitView = s.commitView := by rfl
theorem State.raise_commitView (s : State) (pg n : Nat) : (s.raise pg n).commitView = s.commitView :=
  State.commitView_of_epochView (State.raise_epochView s pg n)
theorem State.logN_commitView (s : State) (typ : Nat) (pl : List Nat) : (s.logN typ pl).commitView = s.commitView :=
  State.commitView_of_epochView (State.logN_epochView s typ pl)
theorem State.log_commitView (s : State) (typ : Nat) (pl : List Word) : (s.log typ pl).commitView = s.commitView :=
  State.commitView_of_epochView (State.log_epochView s typ pl)

/-! ### The landing -/

theorem State.galPut_commitView (s : State) (e : GalEntry) : (s.galPut e).commitView = s.commitView := by
  have happ : (s.galAppend e).commitView = s.commitView := by
    simp only [State.galAppend, State.raise_commitView, State.withGal_commitView]
  unfold State.galPut
  split
  · split
    · rfl
    · exact happ
  · exact happ
theorem State.galTake_commitView (s : State) : s.galTake.commitView = s.commitView := by
  unfold State.galTake
  split
  · rfl
  · simp only [apply_ite State.commitView, State.logN_commitView, State.withGal_commitView, State.galPut_commitView, ite_self]
theorem State.setLanding_commitView (s : State) (k : Nat) : (s.setLanding k).commitView = s.commitView := State.withLand_commitView s _
theorem State.enterDeep_commitView (s : State) (k : Nat) : (s.enterDeep k).commitView = s.commitView := by
  have hdrain : s.galDrain.commitView = s.commitView := foldS_commitView _ _ _ fun t _ => t.galTake_commitView
  have hban : ∀ t : State, (t.banEval false).commitView = t.commitView := fun t =>
    State.commitView_of_besideSection (t.banEval_besideSection false)
  simp only [State.enterDeep, hban, State.setLanding_commitView, foldS_commitView, apply_ite State.commitView, State.updCan_commitView, ite_self,
    implies_true, hdrain]
theorem State.landDecide_commitView (s : State) : s.landDecide.commitView = s.commitView := by
  simp only [State.landDecide, apply_ite State.commitView, State.enterDeep_commitView, State.setLanding_commitView, State.withLand_commitView,
    ite_self]

/-! ### The publication -/

theorem State.shareUpdate_commitView (s : State) (r : RawEpoch) : (s.shareUpdate r).commitView = s.commitView := by
  simp only [State.shareUpdate, foldS_commitView, State.updStr_commitView, apply_ite State.commitView, ite_self, implies_true]
theorem State.withLimits_commitView (s : State) (l : Store Int) : ({ s with limits := l } : State).commitView = s.commitView := by rfl
theorem State.publish_commitView (s : State) (r : RawEpoch) : (s.publish r).commitView = s.commitView := by
  have hslots : ∀ (l : List Nat) (a : State × Store Int), (l.foldl (fun (acc : State × Store Int) k =>
      let (t, v) := acc.1.stageSlot k
      (t, sput acc.2 k v)) a).1.commitView = a.1.commitView := fun l a =>
    foldl_keeps (fun a : State × Store Int => a.1.commitView) l _ a fun a k => State.commitView_of_epochView (State.stageSlot_epochView a.1 k)
  unfold State.publish
  extract_lets u
  have hu : u.commitView = s.commitView := State.shareUpdate_commitView s r
  have hl := hslots u.limitSlots (u, [])
  rcases hf : u.limitSlots.foldl (fun (acc : State × Store Int) k =>
      let (t, v) := acc.1.stageSlot k
      (t, sput acc.2 k v)) (u, []) with ⟨t, vals⟩
  rw [hf] at hl
  simp only [State.withLimits_commitView, apply_ite State.commitView, State.log_commitView, ite_self]
  exact hl.trans hu

/-! ### The bank -/

/-- One of the three banks is neither the newest nor the pinned one. -/
theorem exists_bank_ne (w : Nat) (p : Option Nat) : ∃ k ∈ List.range 3, k ≠ w ∧ p ≠ some k := by
  have h3 : ∀ v : Nat, ∃ k ∈ List.range 3, k ≠ w ∧ k ≠ v := fun v => by
    by_cases h0 : (0 : Nat) ≠ w ∧ (0 : Nat) ≠ v
    · exact ⟨0, by decide, h0⟩
    · by_cases h1 : (1 : Nat) ≠ w ∧ (1 : Nat) ≠ v
      · exact ⟨1, by decide, h1⟩
      · exact ⟨2, by decide, by omega, by omega⟩
  obtain ⟨k, hk, hw, hv⟩ := h3 (p.getD 3)
  exact ⟨k, hk, hw, fun h => hv (by rw [h]; rfl)⟩

/-- The bank of the next epoch: neither the newest nor the pinned one, and the former newest one last. -/
def nextBank (w : Nat) (pinned former : Option Nat) : Nat :=
  ((List.range 3).find? (fun k => (decide (k ≠ w) && pinned != some k) && former != some k)).getD
    (((List.range 3).find? (fun k => decide (k ≠ w) && pinned != some k)).getD 0)
theorem nextBank_ne (w : Nat) (pinned former : Option Nat) : nextBank w pinned former ≠ w := by
  have hok : ∀ {k : Nat} {c : Nat → Bool}, (List.range 3).find? (fun k => (decide (k ≠ w) && pinned != some k) && c k) = some k → k ≠ w := by
    intro k c hf
    have h := List.find?_some hf
    simp only [Bool.and_eq_true, decide_eq_true_eq] at h
    exact h.1.1
  unfold nextBank
  cases h1 : (List.range 3).find? (fun k => (decide (k ≠ w) && pinned != some k) && former != some k) with
  | some k => exact hok h1
  | none =>
    cases h2 : (List.range 3).find? (fun k => decide (k ≠ w) && pinned != some k) with
    | some k =>
      rw [Option.getD_none, Option.getD_some]
      exact hok (c := fun _ => true) (by simpa only [Bool.and_true] using h2)
    | none =>
      obtain ⟨k, hk, hw, hp⟩ := exists_bank_ne w pinned
      exact absurd (List.find?_eq_none.mp h2 k hk) (by simp [hw, hp])

/-- A commit makes the bank being written the newest and opens another (R30). -/
theorem State.commitBank_hall (s : State) (b : Bank) : (s.commitBank b).hall.newest = some s.hall.writing ∧
    sget {} (s.commitBank b).hall.banks s.hall.writing = b ∧ (s.commitBank b).hall.writing ≠ s.hall.writing := by
  have hwhen : ∀ (c : Bool) (t : State), (t.when c (fun t => t.raise pHALL 1)).hall = t.hall := fun c t =>
    State.when_keeps State.hall t c _ (State.raise_hall t pHALL 1)
  unfold State.commitBank
  simp only [hwhen, State.raise_hall]
  exact ⟨trivial, sget_sput_same _ _ _ _, nextBank_ne _ _ _⟩
/-- A commit of a bank changes the Hall and its events. -/
theorem State.commitBank_keeps {β : Type} (q : State → β) (hh : ∀ (t : State) h, q { t with hall := h } = q t)
    (hr : ∀ (t : State) pg n, q (t.raise pg n) = q t) (s : State) (b : Bank) : q (s.commitBank b) = q s := by
  unfold State.commitBank
  exact (State.when_keeps q _ _ _ (hr _ _ _)).trans ((hr _ _ _).trans ((hh _ _).trans (hh _ _)))

/-! ### The end of the stall -/

theorem State.stallEnd_dataStall (s : State) : s.stallEnd.prot.dataStall = false := by
  unfold State.stallEnd
  split
  · rw [State.log_prot]
  · next h => simpa using h
theorem State.stallEnd_keeps {β : Type} (q : State → β) (hp : ∀ (t : State) p, q { t with prot := p } = q t)
    (hl : ∀ (t : State) typ pl, q (t.log typ pl) = q t) (s : State) : q s.stallEnd = q s := by
  unfold State.stallEnd
  exact State.ite_keeps q ((hl _ _ _).trans (hp _ _))

/-! ### The commit as a whole -/

/-- The publication of an epoch and its bank. -/
def State.banked (s : State) (r : RawEpoch) : State := (s.publish r).commitBank ((s.publish r).buildBank r (s.publish r).now)
/-- What follows the bank, up to the epoch's end. -/
def State.epochEnded (s : State) (r : RawEpoch) : State :=
  let s := { s with hEp := s.sEp, hCtx := s.ctxs, computing := none, join := { s.join with vBus := r.sv.vBus } }.effFollow
  let s := foldS range48 (fun s c => s.updChan c (fun x => { x with prev := some (sget {} r.snaps c) })) s
  let s := foldS s.strings (fun s x => s.joinEpoch x) s
  let s := s.stallEnd
  { s with prot := { s.prot with lastCommit := s.now, lastCommitEpoch := r.epoch } }
/-- The load words, the images, the flows and the landing. -/
def State.commitFollowed (s : State) (r : RawEpoch) (old : Bank) (busyUs late : Nat) : State :=
  let u := (s.loadWords r busyUs late).captureEpoch r
  (u.1.flowEngine old u.2).landDecide

theorem State.commitFollowed_commitView (s : State) (r : RawEpoch) (old : Bank) (busyUs late : Nat) :
    (s.commitFollowed r old busyUs late).commitView = s.commitView :=
  (State.landDecide_commitView _).trans (State.commitView_of_epochView ((State.flowEngine_epochView _ _ _).trans
    ((State.captureEpoch_epochView _ r).trans (State.loadWords_epochView s r busyUs late))))

theorem exec_epochCommit_of_waiting {s : State} {r : RawEpoch} (busy late : Nat) (hc : s.computing = some r) (hr : r.ready = false) :
    exec (.epochCommit busy late) s = .next s := by
  change execEpochCommit busy late s = _
  simp only [execEpochCommit, hc]
  exact if_pos (.inl hr)
/-- A complete epoch in time, with the limit engine halted (R216, R494). -/
theorem exec_epochCommit_of_complete {s : State} {r : RawEpoch} (busy : Nat) (hc : s.computing = some r) (hr : r.ready = true)
    (hn : (s.eng 12).running = false) (ht : s.now ≤ r.t + s.tEpoch) : ∃ old r', r'.epoch = r.epoch ∧
      exec (.epochCommit busy 0) s = .next (((s.banked r').epochEnded r').commitFollowed r' old busy 0) := by
  refine ⟨(s.publish { r with overrun := decide (0 < 0) }).newestBank.getD {}, { r with overrun := decide (0 < 0) }, rfl, ?_⟩
  change execEpochCommit busy 0 s = _
  have hlate : ¬ r.t + s.tEpoch < s.now := Nat.not_lt.mpr ht
  have hgo : ¬ (r.ready = false ∨ ((s.eng 12).running = true ∧ (s.eng 12).stopped = false)) := by simp [hr, hn]
  simp only [execEpochCommit, hc]
  rw [if_neg hgo]
  simp only [if_neg (Nat.lt_irrefl 0), if_neg hlate]
  rfl

end Sys2Proof.Machine
end


section
/-! What a commit leaves (R30, R491 to R494). -/
namespace Sys2Proof.Machine

theorem State.epochEnded_facts (s : State) (r : RawEpoch) : (s.epochEnded r).time = s.time ∧ (s.epochEnded r).acq = s.acq ∧
    (s.epochEnded r).hall = s.hall ∧ (s.epochEnded r).computing = none ∧ (s.epochEnded r).prot.lastCommit = s.now ∧
    (s.epochEnded r).prot.lastCommitEpoch = r.epoch ∧ (s.epochEnded r).prot.dataStall = false := by
  unfold State.epochEnded
  extract_lets +onlyGivenNames _ a b c d
  have ha : a.epochView = ({ s with computing := none } : State).epochView := State.effFollow_epochView _
  have hb : b.commitView = a.commitView := foldS_commitView _ _ _ fun t k => State.commitView_of_epochView (State.updChan_epochView _ _ _)
  have hc : c.commitView = b.commitView := foldS_commitView _ _ _ fun t x => State.updStr_commitView t x _
  have h := (hc.trans hb).trans (State.commitView_of_epochView ha)
  simp only [State.commitView, Prod.mk.injEq] at h
  obtain ⟨htime, hacq, hcomp, hhall, -⟩ := h
  have hdt : d.time = s.time := (c.stallEnd_keeps State.time (fun _ _ => rfl) State.log_time).trans htime
  exact ⟨hdt, (c.stallEnd_keeps State.acq (fun _ _ => rfl) State.log_acq).trans hacq,
    (c.stallEnd_keeps State.hall (fun _ _ => rfl) State.log_hall).trans hhall,
    (c.stallEnd_keeps State.computing (fun _ _ => rfl) State.log_computing).trans hcomp, congrArg TimeSt.now hdt, rfl, c.stallEnd_dataStall⟩

theorem State.banked_facts (s : State) (r : RawEpoch) : (s.banked r).time = s.time ∧ (s.banked r).acq = s.acq ∧
    (s.banked r).hall.newest = some s.hall.writing ∧ (sget {} (s.banked r).hall.banks s.hall.writing).epoch = r.epoch ∧
    (s.banked r).hall.writing ≠ s.hall.writing := by
  have h := State.publish_commitView s r
  simp only [State.commitView, Prod.mk.injEq] at h
  obtain ⟨htime, hacq, -, hhall, -⟩ := h
  obtain ⟨hnewest, hbank, hwriting⟩ := (s.publish r).commitBank_hall ((s.publish r).buildBank r (s.publish r).now)
  rw [hhall] at hnewest hbank hwriting
  exact ⟨((s.publish r).commitBank_keeps State.time (fun _ _ => rfl) State.raise_time _).trans htime,
    ((s.publish r).commitBank_keeps State.acq (fun _ _ => rfl) State.raise_acq _).trans hacq, hnewest, congrArg Bank.epoch hbank, hwriting⟩

end Sys2Proof.Machine
end

section
/-! O6: an epoch is opened, sampled, computed and published (R16, R27, R28, R30, R32, R43, R52, R87, R98, R216, R493, R494). -/
namespace Sys2Proof.Machine

/-- Settles O6: each command by its stages; what a stage does not name it keeps, field by field (`State.epochView`, `State.commitView`). -/
theorem epochSampleAndComputation : Obligations.EpochSampleAndComputation := by
  refine ⟨fun s cur p => ⟨fun hs ht hc hsh hq hl => ?_, fun hs hm hp hn ha hb hl hw => ?_⟩, fun s busy r => ⟨fun rest hc ha => ?_,
    fun hc hr hs hf hn => ?_, fun hc hr hn ht _ => ?_, fun hc hr => exec_epochCommit_of_waiting busy 0 hc hr⟩⟩
  · obtain ⟨t, r, he, hre, hrt, hv⟩ := exec_sampleInstant_of_plain cur hs ht hc hsh hq hl
    simp only [State.epochView, Prod.mk.injEq] at hv
    obtain ⟨htime, hmode, hcoils, hstrs, hacq, hshadow, -⟩ := hv
    exact ⟨t, r, he, congrArg TimeSt.epoch htime, congrArg TimeSt.now htime, hmode, hacq, hre, hrt, hshadow.trans hsh, hcoils, hstrs⟩
  · obtain ⟨f, hv, hsent, hout, htyp, hterm, hflags, hseq, hports⟩ := State.sampleLaunch_sends hs hm hp hn ha hb hl hw
    simp only [State.epochView, Prod.mk.injEq] at hv
    obtain ⟨htime, hmode, hcoils, -⟩ := hv
    exact ⟨_, f, exec_sampleLaunch p s, congrArg TimeSt.now htime, hsent, hout, htyp, hterm, hflags, hseq, hports, hmode, hcoils,
      (exec_sampleLaunch p _).trans (congrArg Host.Outcome.next (State.sampleLaunch_of_sent hsent))⟩
  · have hv := State.computation_epochView s r { r with catchup := decide (r.t + s.tEpoch ≤ s.now) } rest
    simp only [State.epochView, Prod.mk.injEq] at hv
    obtain ⟨-, hmode, hcoils, -, hacq, -, hcomp, hhall, -⟩ := hv
    exact ⟨_, exec_epochComputation_of_acquired hc ha, hacq, ⟨_, hcomp, rfl, rfl, rfl⟩, State.computeRegions_lastT _ _, hmode, hcoils, hhall⟩
  · obtain ⟨t, he, hv, hunits, hslots⟩ := exec_dataTrigger_of_rom hc hr hs hf hn
    simp only [State.epochView, Prod.mk.injEq] at hv
    obtain ⟨-, hmode, -, -, -, -, hcomp, hhall, hlim, -⟩ := hv
    exact ⟨t, he, hcomp, hunits, hslots, hhall, hlim, hmode⟩
  · obtain ⟨old, r', hepoch, he⟩ := exec_epochCommit_of_complete busy hc hr hn ht
    obtain ⟨hbtime, hbacq, hnewest, hbank, hwriting⟩ := s.banked_facts r'
    obtain ⟨hetime, heacq, hehall, hecomp, helast, heepoch, hestall⟩ := (s.banked r').epochEnded_facts r'
    have hv := ((s.banked r').epochEnded r').commitFollowed_commitView r' old busy 0
    simp only [State.commitView, Prod.mk.injEq] at hv
    obtain ⟨htime, hacq, hcomp, hhall, hprot⟩ := hv
    have hh := hhall.trans hehall
    refine ⟨_, he, hcomp.trans hecomp, by rw [hh, hnewest], ?_, ?_, ?_, ?_, ?_, hacq.trans (heacq.trans hbacq), by rw [hh]; exact hwriting⟩
    · rw [State.newestBank, hh, hnewest, Option.map_some, Option.map_some, hbank, hepoch]
    · rw [hprot, helast]
      exact congrArg TimeSt.now hbtime
    · rw [hprot, heepoch, hepoch]
    · rw [hprot, hestall]
    · exact congrArg TimeSt.now (htime.trans (hetime.trans hbtime))

end Sys2Proof.Machine
end

section
/-! DEV.IRQSUM0, DEV.IRQSUM1 and HOST_IRQ (R62). -/
namespace Sys2Proof.Machine

/-! ### Words of flags -/

theorem bitsOf_succ (f : Nat → Bool) (n : Nat) : bitsOf f (n + 1) = bitsOf f n + if f n then 2 ^ n else 0 := by
  simp [bitsOf, List.range_succ]

theorem bitsOf_lt (f : Nat → Bool) (n : Nat) : bitsOf f n < 2 ^ n := by
  induction n with
  | zero => exact Nat.one_pos
  | succ n ih =>
    rw [bitsOf_succ, Nat.pow_succ]
    split <;> omega

theorem testBit_bitsOf (f : Nat → Bool) (n i : Nat) : (bitsOf f n).testBit i = (decide (i < n) && f i) := by
  induction n with
  | zero => simp [bitsOf]
  | succ n ih =>
    rw [bitsOf_succ]
    rcases Nat.lt_trichotomy i n with hi | rfl | hi
    · have hlow : (bitsOf f n + if f n then 2 ^ n else 0).testBit i = (bitsOf f n).testBit i := by
        split
        · rw [Nat.add_comm, Nat.testBit_two_pow_add_gt hi]
        · rfl
      rw [hlow, ih, decide_eq_true hi, decide_eq_true (Nat.lt_succ_of_lt hi)]
    · cases hf : f i with
      | true => simp [Nat.add_comm, Nat.testBit_two_pow_add_eq, ih]
      | false => simp [ih]
    · have hlt : (bitsOf f n + if f n then 2 ^ n else 0) < 2 ^ i :=
        (bitsOf_succ f n ▸ bitsOf_lt f (n + 1)).trans_le (Nat.pow_le_pow_right Nat.two_pos hi)
      rw [Nat.testBit_lt_two_pow hlt, decide_eq_false (by omega), Bool.false_and]

theorem getLsbD_word_bitsOf (f : Nat → Bool) {n : Nat} (hn : n ≤ 32) (i : Nat) :
    (word (bitsOf f n)).getLsbD i = (decide (i < n) && f i) := by
  rw [word, BitVec.getLsbD_ofNat, testBit_bitsOf]
  by_cases hi : i < n
  · simp [hi.trans_le hn]
  · simp [hi]

/-- A flag that can only be set below n is bit i of its word of n flags, whatever i. -/
theorem getLsbD_word_bitsOf_of_bound {f : Nat → Bool} {n i : Nat} (hn : n ≤ 32) (h : f i = true → i < n) :
    (word (bitsOf f n)).getLsbD i = f i := by
  rw [getLsbD_word_bitsOf f hn]
  cases hf : f i with
  | true => rw [decide_eq_true (h hf), Bool.and_self]
  | false => exact Bool.and_false _

theorem word_bitsOf_ne_zero_iff (f : Nat → Bool) {n : Nat} (hn : n ≤ 32) : word (bitsOf f n) ≠ 0#32 ↔ ∃ i < n, f i = true := by
  constructor
  · intro h
    by_contra hnone
    refine h (BitVec.eq_of_getLsbD_eq fun i _ => ?_)
    rw [getLsbD_word_bitsOf f hn, BitVec.getLsbD_zero, Bool.and_eq_false_iff, decide_eq_false_iff_not, ← Bool.not_eq_true]
    by_cases hi : i < n
    · exact .inr fun hf => hnone ⟨i, hi, hf⟩
    · exact .inl hi
  · rintro ⟨i, hi, hf⟩ h0
    have hbit : (word (bitsOf f n)).getLsbD i = true := by rw [getLsbD_word_bitsOf f hn, hf, decide_eq_true hi]; rfl
    rw [h0, BitVec.getLsbD_zero] at hbit
    exact Bool.false_ne_true hbit

/-! ### The summaries -/

theorem State.irqBit_eq (s : State) (pg : Nat) :
    s.irqBit pg = (pagePresent pg && decide ((s.page pg).evt &&& (s.page pg).evten ≠ 0#32)) := by
  rw [State.irqBit, bne, beq_eq_decide, ← decide_not]

/-- Only present pages interrupt; 0x1E, 0x1F and those from 0x2C on are reserved (R45). -/
theorem State.present_of_irqBit {s : State} {pg : Nat} (h : s.irqBit pg = true) : pg < 0x2C ∧ pg ≠ 0x1E ∧ pg ≠ 0x1F := by
  have hp : pagePresent pg = true := (Bool.and_eq_true_iff.mp h).1
  simp only [pagePresent, Bool.and_eq_true, decide_eq_true_eq, bne_iff_ne] at hp
  omega

theorem State.readReg_irqsum0 (s : State) (o : Origin) : s.readReg o pDEV 0x020 = word (bitsOf s.irqBit 30) := by
  have hf : regFlds pDEV 0x020 = some [] := by decide
  simp [State.readReg, hf, State.storedWord, State.view, State.viewDev, pJOIN]

theorem State.readReg_irqsum1 (s : State) (o : Origin) : s.readReg o pDEV 0x024 = word (bitsOf (fun m => s.irqBit (0x20 + m)) 12) := by
  have hf : regFlds pDEV 0x024 = some [] := by decide
  simp [State.readReg, hf, State.storedWord, State.view, State.viewDev, pJOIN]

theorem State.hostIrq_iff (s : State) : s.hostIrq = true ↔ ∃ pg < 0x2C, s.irqBit pg = true := by
  simp [State.hostIrq]

/-- Every page that can interrupt has its bit in one of the two summaries. -/
theorem State.irqBit_summarised (s : State) :
    (∃ pg < 0x2C, s.irqBit pg = true) ↔ (∃ n < 30, s.irqBit n = true) ∨ ∃ m < 12, s.irqBit (0x20 + m) = true := by
  constructor
  · rintro ⟨pg, hlt, h⟩
    obtain ⟨-, hA, hB⟩ := State.present_of_irqBit h
    by_cases hlow : pg < 30
    · exact .inl ⟨pg, hlow, h⟩
    · exact .inr ⟨pg - 0x20, by omega, by rwa [show 0x20 + (pg - 0x20) = pg by omega]⟩
  · rintro (⟨n, hn, h⟩ | ⟨m, hm, h⟩)
    · exact ⟨n, by omega, h⟩
    · exact ⟨0x20 + m, by omega, h⟩

/-- Settles O3: the summaries are the words of the pages' interrupt flags, and the reserved pages between them have none. -/
theorem interruptSummaries : Obligations.InterruptSummaries := by
  intro s o
  rw [State.readReg_irqsum0, State.readReg_irqsum1]
  refine ⟨fun n hn => ?_, fun m hm => ?_, ?_⟩
  · rw [← State.irqBit_eq]
    refine getLsbD_word_bitsOf_of_bound (by decide) fun h => ?_
    obtain ⟨-, hA, hB⟩ := State.present_of_irqBit h
    omega
  · rw [← State.irqBit_eq]
    refine getLsbD_word_bitsOf_of_bound (f := fun m => s.irqBit (0x20 + m)) (by decide) fun h => ?_
    obtain ⟨hlt, -⟩ := State.present_of_irqBit h
    omega
  · rw [State.hostIrq_iff, State.irqBit_summarised, word_bitsOf_ne_zero_iff _ (by decide), word_bitsOf_ne_zero_iff _ (by decide)]

end Sys2Proof.Machine
end

section
/-! Commands of the data plane: an accepted one waits for the sample instant, a refused one leaves no write (R23, R52, R410). -/
namespace Sys2Proof.Machine

theorem word_at_one (n : Nat) : word (at_ n 1) = 1#32 <<< n := by
  apply BitVec.eq_of_toNat_eq
  simp [word, at_, Nat.shiftLeft_eq]

theorem State.shadowed_of_ok (s : State) (o : Origin) (pg off : Nat) (v : Word) {ok : Bool} (h : ok = true) :
    s.shadowed o pg off v ok = s.toShadow o pg off v := if_pos h
theorem State.shadowed_of_not (s : State) (o : Origin) (pg off : Nat) (v : Word) {ok : Bool} (h : ok = false) :
    s.shadowed o pg off v ok = s.refuse o pg off .mode := if_neg (Bool.eq_false_iff.mp h)

/-- A refusal shows in the page's EVT and leaves the accepted writes and the Hall (R23, R60). -/
theorem State.refuse_leaves_shadow (s : State) (o : Origin) {pg : Nat} (off : Nat) (r : Refuse) (hc : pageClass pg ≠ .mgmt) :
    (s.refuse o pg off r).shadow = s.shadow ∧ (s.refuse o pg off r).hall = s.hall ∧ (s.refuse o pg off r).evtBit pg 31 = true := by
  rw [State.refuse_of_mailbox s o off r hc]
  refine ⟨?_, ?_, State.refusedAs_evtBit s o off r _ hc⟩
  · rw [State.refusedAs, State.raise_shadow, State.logN_shadow, State.raise_shadow]
  · rw [State.refusedAs, State.raise_hall, State.logN_hall, State.raise_hall]

theorem pageClass_psPage (p : Port) : pageClass (psPage p.val) = .data := by
  have hlo : 0x08 ≤ psPage p.val := Nat.le_add_right _ _
  have hhi : psPage p.val < 0x14 := Nat.add_lt_add_left (Nat.div_lt_of_lt_mul (k := 12) p.isLt) 0x08
  generalize psPage p.val = pg at hlo hhi
  interval_cases pg <;> rfl

theorem exec_hopcal (o : Origin) (p : Port) (s : State) :
    exec (.hopcal o p) s = .next (s.toShadow o (psPage p.val) 0x008 (1#32 <<< (20 + p.val % 4))) :=
  congrArg (fun v => Host.Outcome.next (s.toShadow o (psPage p.val) 0x008 v)) (word_at_one _)

theorem exec_reenum (o : Origin) (p : Port) (s : State) : exec (.reenum o p) s =
    .next (s.shadowed o (psPage p.val) 0x008 (1#32 <<< (16 + p.val % 4)) (s.strOpen (s.strOfPort p.val))) :=
  congrArg (fun v => Host.Outcome.next (s.shadowed o (psPage p.val) 0x008 v (s.strOpen (s.strOfPort p.val)))) (word_at_one _)

theorem exec_wbclr_of_clearable {s : State} {high : Bool} {m : Word} (o : Origin) (h : (maskPorts high m).all s.wbClearable = true) :
    exec (.wbclr o high m) s = .next (s.toShadow o pCELL (if high then 0x024 else 0x020) m) :=
  congrArg Host.Outcome.next (State.shadowed_of_ok s o _ _ m h)

theorem exec_hallOpen_of_free {s : State} {o : Origin} (h : s.pinOther o = false) :
    exec (.hallOpen o) s = .next (s.toShadow o pHALL 0x008 1#32) := by
  change execHallOpen o s = _
  rw [execHallOpen, State.hallOpen, h]
  rfl
theorem exec_hallOpen_of_pinned {s : State} {o : Origin} (h : s.pinOther o = true) :
    exec (.hallOpen o) s = .next (s.refuse o pHALL 0x008 .mode) := by
  change execHallOpen o s = _
  rw [execHallOpen, State.hallOpen, h]
  rfl

/-- Settles O10: each admitted command is one accepted write at the end of those that wait; a refusal adds none. -/
theorem shadowedCommands : Obligations.ShadowedCommands := by
  intro s o p m waits
  refine ⟨exec_hopcal o p s, fun h => ?_, fun h => ?_, rfl, exec_wbclr_of_clearable o, exec_wbclr_of_clearable o, rfl, rfl, rfl,
    exec_hallOpen_of_free, fun h => ?_, rfl⟩
  · exact (exec_reenum o p s).trans (congrArg Host.Outcome.next (State.shadowed_of_ok s o _ _ _ h))
  · obtain ⟨hshadow, -, hevt⟩ := s.refuse_leaves_shadow o 0x008 .mode (pg := psPage p.val) (by rw [pageClass_psPage]; decide)
    exact ⟨_, (exec_reenum o p s).trans (congrArg Host.Outcome.next (State.shadowed_of_not s o _ _ _ h)), hshadow, hevt⟩
  · exact ⟨_, exec_hallOpen_of_pinned h, s.refuse_leaves_shadow o 0x008 .mode (by decide)⟩

end Sys2Proof.Machine
end

section
/-! Frames on a chain port: what a trace, a sent command, a received header and the fault tone leave (R87, R100, R469). -/
namespace Sys2Proof.Machine

/-! ### Sending -/

theorem State.traceRx_frame (s : State) (p : Nat) (f : ChainFrame) : { s.traceRx p f with out := s.out, stw := s.stw } = s :=
  State.traceFrame_frame s p f _
theorem State.traceRx_of_none {s : State} (p : Nat) (f : ChainFrame) (h : s.stw.trace = none) : s.traceRx p f = s :=
  State.traceFrame_of_none p f _ h
theorem State.traceRx_port (s : State) (p : Nat) (f : ChainFrame) (k : Nat) : (s.traceRx p f).port k = s.port k :=
  (congrArg (fun u : State => u.port k) (State.traceRx_frame s p f) :)

/-- Without a running trace a frame on the line is all that sending drives. -/
theorem State.chainOut_of_untraced {s : State} (p : Nat) (f : ChainFrame) (h : s.stw.trace = none) : s.chainOut p f = s.emit (.chain p f) := by
  rw [State.chainOut, State.traceFrame_of_none p f _ h]

/-- Without a running trace a sent command changes the ports and the outputs alone. -/
theorem State.sendAdhoc_frame_of_untraced {s : State} (p typ hop : Nat) (pl : List Byte) (h : s.stw.trace = none) :
    { s.sendAdhoc p typ hop pl with ports := s.ports, out := s.out } = s := by
  have hout : ∀ f, (s.takeSeq p).2.chainOut p f = (s.takeSeq p).2.emit (.chain p f) := fun f => State.chainOut_of_untraced p f h
  unfold State.sendAdhoc
  split
  · dsimp only
    rw [hout]
    split <;> rfl
  · rfl

/-- A sent command takes a SEQ and may await its response; the rest of every port stays. -/
theorem State.sendAdhoc_keeps {β : Type} (q : PortSt → β) (hseq : ∀ t n, q { t with nextSeq := n } = q t)
    (hwait : ∀ t l, q { t with inFlight := l } = q t) (s : State) (p typ hop : Nat) (pl : List Byte) (k : Nat) :
    q ((s.sendAdhoc p typ hop pl).port k) = q (s.port k) := by
  have htake : q ((s.takeSeq p).2.port k) = q (s.port k) := State.updPort_keeps q s _ k _ fun t => hseq t _
  unfold State.sendAdhoc
  split
  · dsimp only
    split
    · rw [State.chainOut_port, htake]
    · rw [State.updPort_keeps q _ p k _ fun t => hwait t _, State.chainOut_port, htake]
  · rfl

/-- A device that may send takes one SEQ of the port's series for a command (R87). -/
theorem State.sendAdhoc_nextSeq {s : State} (p typ hop : Nat) (pl : List Byte) (ha : s.active = true) (hm : s.chainMay = true) :
    ((s.sendAdhoc p typ hop pl).port (s.series p)).nextSeq = (s.port (s.series p)).nextSeq + 1 := by
  have htake : ((s.takeSeq p).2.port (s.series p)).nextSeq = (s.port (s.series p)).nextSeq + 1 := by
    simp only [State.takeSeq, State.updPort_same]
  simp only [State.sendAdhoc, ha, hm, Bool.and_self, if_true]
  split
  · rw [State.chainOut_port, htake]
  · refine (State.updPort_keeps PortSt.nextSeq _ p _ _ fun _ => ?_).trans ?_
    · rfl
    · rw [State.chainOut_port, htake]

/-! ### Received headers and the fault tone (R100) -/

theorem State.raise_port (s : State) (pg n k : Nat) : (s.raise pg n).port k = s.port k := rfl
theorem State.log_port (s : State) (typ : Nat) (pl : List Word) (k : Nat) : (s.log typ pl).port k = s.port k :=
  (congrArg (fun u : State => u.port k) (State.log_frame s typ pl) :)

/-- A header without fault bits is counted and ends CHAIN_SILENT. -/
def PortSt.headerClear (t : PortSt) : PortSt := { t with setRun := 0, clearRun := t.clearRun + 1, chainSilent := false }

/-- While no tone is held, that is all a header without fault bits does. -/
theorem State.toneHeader_of_clear {s : State} {p : Nat} {flags : Byte} (hop : Nat) (hb : flags.toNat / 16 = 0)
    (hh : (s.port p).toneHeld = false) :
    s.toneHeader p flags hop = s.updPort p PortSt.headerClear := by
  unfold State.toneHeader
  simp only [hb, if_true, State.updPort_same, hh]
  rfl

/-- A header without fault bits, heard with any trace. -/
theorem State.traced_toneHeader_of_clear {s : State} {p : Nat} {f : ChainFrame} (hop : Nat) (hb : f.flags.toNat / 16 = 0)
    (hh : (s.port p).toneHeld = false) : (s.traceRx p f).toneHeader p f.flags hop =
      (s.traceRx p f).updPort p PortSt.headerClear :=
  State.toneHeader_of_clear hop hb (by rw [State.traceRx_port, hh])

/-- A tone that is held acts on the Banister and the section, not on the ports. -/
theorem State.toneOn_port (s : State) (p bits hop k : Nat) : (s.toneOn p bits hop).port k = s.port k := by
  have heval : ∀ (t : State) (b : Bool), (t.banEval b).port k = t.port k := fun t b =>
    (congrArg (fun u : State => u.port k) (State.banEval_besideSection t b) :)
  simp only [State.toneOn, apply_ite (fun u : State => u.port k), heval, State.raise_port, State.logN, State.log_port]
  split
  · rfl
  · split <;> rfl

/-- A second header in a row with fault bits holds the tone with these bits. -/
theorem State.toneHeader_of_second {s : State} {p : Nat} {flags : Byte} (hop : Nat) (hb : flags.toNat / 16 ≠ 0)
    (hr : 1 ≤ (s.port p).setRun) :
    ((s.toneHeader p flags hop).port p).toneHeld = true ∧
      ((s.toneHeader p flags hop).port p).toneBits = BitVec.ofNat 4 (flags.toNat / 16) := by
  have hrun : 2 ≤ (s.port p).setRun + 1 := Nat.succ_le_succ hr
  unfold State.toneHeader
  simp only [if_neg hb, State.updPort_same, if_pos hrun, State.toneOn_port]
  rw [State.when_keeps (fun u : State => u.port p) _ _ _ (State.raise_port _ _ _ _), State.updPort_same]
  exact ⟨rfl, rfl⟩

end Sys2Proof.Machine
end

section
/-! CHAIN_FRAME and RESPONSE_TIMEOUT (R75, R88, R218). -/
namespace Sys2Proof.Machine

/-! ### Engines -/

theorem engExt_of_rom {s : State} {e : Nat} (n : Nat) (h : (s.eng e).source = .rom) : engExt e n s = s := by
  cases n with
  | zero => rfl
  | succ n => simp [engExt, h]

/-- The state without the engines and the counter of the free values. -/
def State.besideEngines (s : State) : State := { s with engs := [], fresh := 0 }

theorem State.updEng_besideEngines (s : State) (e : Nat) (f : Eng → Eng) : (s.updEng e f).besideEngines = s.besideEngines := rfl
theorem State.romRegs_besideEngines (s : State) (e : Nat) : (s.romRegs e).besideEngines = s.besideEngines := by
  unfold State.romRegs
  exact foldS_keeps State.besideEngines _ _ s fun _ _ => rfl

/-- Calling an extension changes its engine and takes free values. -/
theorem engExt_besideEngines (e n : Nat) (s : State) : (engExt e n s).besideEngines = s.besideEngines := by
  induction n generalizing s with
  | zero => rfl
  | succ n ih =>
    simp only [engExt, apply_ite State.besideEngines, ih, State.updEng_besideEngines, State.romRegs_besideEngines, ite_self]

theorem engExt_port (e n : Nat) (s : State) (k : Nat) : (engExt e n s).port k = s.port k :=
  (congrArg (fun u : State => u.port k) (engExt_besideEngines e n s) :)
theorem engExt_out (e n : Nat) (s : State) : (engExt e n s).out = s.out := (congrArg State.out (engExt_besideEngines e n s) :)
theorem engExt_evtBit (e n : Nat) (s : State) (pg b : Nat) : (engExt e n s).evtBit pg b = s.evtBit pg b :=
  (congrArg (fun u : State => u.evtBit pg b) (engExt_besideEngines e n s) :)

/-! ### A stored READ_CELLS response -/

theorem State.rxPut_frame (s : State) (p : Nat) (f : ChainFrame) : { (s.rxPut p f).1 with rxs := s.rxs, ports := s.ports } = s := by
  simp only [State.rxPut]
  split <;> rfl
/-- A frame that finds no buffer is counted; the rest of every port stays. -/
theorem State.rxPut_keeps {β : Type} (q : PortSt → β) (hq : ∀ t n, q { t with rxDrop := n } = q t) (s : State) (p : Nat) (f : ChainFrame)
    (k : Nat) : q ((s.rxPut p f).1.port k) = q (s.port k) := by
  simp only [State.rxPut]
  split
  · rfl
  · exact State.updPort_keeps q s p k _ fun t => hq t _

theorem typeSlot_readCells : typeSlot 0x83#8 = some 0 := by decide

/-- The state without the RX buffers and the acquired epochs. -/
def State.besideReception (s : State) : State := { s with rxs := [], acq := [] }

theorem State.updRxp_besideReception (s : State) (p : Nat) (g : RxPort → RxPort) : (s.updRxp p g).besideReception = s.besideReception := rfl

theorem State.consume_readCells_besideReception (s : State) (p : Nat) (f : ChainFrame) :
    (s.consume 0 p f).besideReception = s.besideReception := by
  have hcells : ∀ m, (s.cellsResponse m f).besideReception = s.besideReception := fun _ => rfl
  simp only [State.consume, if_true, apply_ite State.besideReception, hcells, ite_self]

theorem State.romRead_readCells_besideReception (s : State) (p : Nat) {f : ChainFrame} (h : f.typ = 0x83#8) :
    (s.romRead p f).besideReception = s.besideReception := by
  simp only [State.romRead, h, typeSlot_readCells, State.consume_readCells_besideReception, State.updRxp_besideReception]

/-- The ROM program takes a READ_CELLS response from its buffer into the acquired epochs. -/
theorem State.chainStore_readCells_besideReception {s : State} {p : Nat} {f : ChainFrame} (again : Bool) (h : f.typ = 0x83#8)
    (he : (s.eng (p / 4)).source = .rom) : (s.chainStore p f again).besideReception = (s.rxPut p f).1.besideReception := by
  have hsrc : ((s.rxPut p f).1.eng (p / 4)).source = .rom :=
    (congrArg (fun u : State => (u.eng (p / 4)).source) (State.rxPut_frame s p f) :).trans he
  have hrom : (EngSource.rom == EngSource.rom || EngSource.rom == EngSource.romExt && romTakes f) = true := rfl
  simp only [State.chainStore, hsrc, hrom, if_true, apply_ite State.besideReception, State.updRxp_besideReception,
    State.romRead_readCells_besideReception _ p h, ite_self]

/-! ### CHAIN_FRAME -/

theorem exec_chainFrame_of_bad (p : Port) {f : ChainFrame} (s : State) (h : f.ok = false) : exec (.chainFrame p f) s = .next s :=
  if_neg fun hc => Bool.false_ne_true (h ▸ hc.1)
theorem exec_chainFrame_of_ok {p : Port} {f : ChainFrame} {s : State} (h : f.ok = true) (hd : f.dir = 1#2) (he : s.portEn p.val = true) :
    exec (.chainFrame p f) s = .next (s.chainRx p.val f) :=
  if_pos ⟨h, by rw [hd]; decide, by rw [hd]; decide, he⟩

/-- The port and its list of awaited commands when a response without fault bits is stored. -/
def State.heard (s : State) (p : Nat) (f : ChainFrame) : State :=
  (((s.traceRx p f).updPort p PortSt.headerClear).answered p f).2

theorem State.heard_frame (s : State) (p : Nat) (f : ChainFrame) :
    { s.heard p f with ports := s.ports, out := s.out, stw := s.stw } = s :=
  (congrArg (fun u : State => { u with ports := s.ports }) (State.traceRx_frame s p f) :)
theorem State.heard_port (s : State) (p : Nat) (f : ChainFrame) : ((s.heard p f).port p).chainSilent = false ∧
    ((s.heard p f).port p).inFlight = (s.port p).inFlight.eraseP (fun i => i.frame.seq == f.seq && i.frame.typ ||| 0x80#8 == f.typ) := by
  simp only [State.heard, State.answered, State.updPort_same, State.traceRx_port, PortSt.headerClear, and_self]

/-- A READ_CELLS response on a port of the ROM program is stored, and nothing follows. -/
theorem State.chainRx_readCells {s : State} {p : Nat} {f : ChainFrame} (ht : f.typ = 0x83#8) (hb : f.flags.toNat / 16 = 0)
    (hh : (s.port p).toneHeld = false) (hl : s.land.landing ≠ 2) (he : (s.eng (p / 4)).source = .rom) :
    (s.chainRx p f).besideReception = ((s.heard p f).rxPut p f).1.besideReception := by
  have hrom : ((s.heard p f).eng (p / 4)).source = .rom :=
    (congrArg (fun u : State => (u.eng (p / 4)).source) (State.heard_frame s p f) :).trans he
  have hstore := fun again => State.chainStore_readCells_besideReception again ht hrom
  have hsrc : ∀ again, (((s.heard p f).chainStore p f again).eng (p / 4)).source = .rom := fun again =>
    (congrArg (fun u : State => (u.eng (p / 4)).source) (hstore again) :).trans
      ((congrArg (fun u : State => (u.eng (p / 4)).source) (State.rxPut_frame (s.heard p f) p f) :).trans hrom)
  have hclear := State.traced_toneHeader_of_clear 0 hb hh
  have hecho : ¬ (f.dir = 1#2 ∧ f.typ = 0x8E#8) := fun h => absurd (ht.symm.trans h.2) (by decide)
  have hwire : f.typ ≠ 0x86#8 := fun h => absurd (ht.symm.trans h) (by decide)
  simp only [State.chainRx, State.wakeL2_of_awake hl, hclear, if_neg hecho, if_neg hwire]
  exact (congrArg State.besideReception (engExt_of_rom 5 (hsrc _))).trans (hstore _)

/-! ### RESPONSE_TIMEOUT -/

theorem exec_responseTimeout {s : State} {p : Port} {q : Half} {i : InFlight} (hn : (s.port p.val).enumSeq = none)
    (hf : (s.port p.val).inFlight.find? (fun j => j.frame.seq == q) = some i) : exec (.responseTimeout p q) s =
      .next (engExt (p.val / 4) 5 (if i.resends < 2 then s.resend p.val i else s.retryOut p.val i)) := by
  change Host.Outcome.next (s.respTimeout p.val q) = _
  simp only [State.respTimeout, hn, reduceCtorEq, if_false, hf]

/-- A command that is sent again (R88): the same SEQ and TERM, with RETRY. -/
def InFlight.again (i : InFlight) : ChainFrame :=
  mkFrame i.frame.typ.toNat 0 i.hop i.frame.term (i.frame.flags ||| flagRETRY) i.frame.seq i.frame.payload

theorem State.resend_sends {s : State} (p : Nat) (i : InFlight) (hm : s.chainMay = true) :
    Out.chain p i.again ∈ (s.resend p i).out ∧ ((s.resend p i).port p).resends = (s.port p).resends + 1 ∧
      ((s.resend p i).port p).inFlight.length = (s.port p).inFlight.length := by
  have hmay : ∀ g, (s.updPort p g).chainMay = true := fun _ => hm
  simp only [State.resend, hmay, if_true, State.chainOut_port, State.updPort_same, List.length_map, and_self, and_true]
  exact State.chainOut_out _ p i.again

/-- A READ_CELLS that has had its resends is dropped with the event of its port. -/
theorem State.retryOut_readCells {s : State} (p : Nat) {i : InFlight} (h : i.frame.typ = 0x03#8) : s.retryOut p i =
    (s.updPort p (fun t => { t with inFlight := t.inFlight.filter (fun j => j.frame.seq != i.frame.seq) })).raise (psPage p) (24 + p % 4) := by
  simp only [State.retryOut, h]
  rw [if_neg (by decide), if_neg (by decide), if_neg (by decide)]

/-- Settles O8: a READ_CELLS response is one stored frame after its header; a timeout is a resend while two remain, else the end. -/
theorem chainResponsesAndTimeouts : Obligations.ChainResponsesAndTimeouts := by
  refine fun s p f q i => ⟨exec_chainFrame_of_bad p s, fun hok hd ht hb hen hh hl he => ?_, fun hn hf hr hm => ?_, fun hn hf hr ht => ?_⟩
  · have hrx := State.chainRx_readCells ht hb hh hl he
    have hput := State.rxPut_frame (s.heard p.val f) p.val f
    have hheard := State.heard_frame s p.val f
    obtain ⟨hsilent, hwait⟩ := State.heard_port s p.val f
    have hport : (s.chainRx p.val f).port p.val = ((s.heard p.val f).rxPut p.val f).1.port p.val :=
      (congrArg (fun u : State => u.port p.val) hrx :)
    refine ⟨_, exec_chainFrame_of_ok hok hd hen, ?_, ?_, ?_, ?_, ?_⟩
    · rw [hport, State.rxPut_keeps PortSt.chainSilent (fun _ _ => rfl), hsilent]
    · rw [hport, State.rxPut_keeps PortSt.inFlight (fun _ _ => rfl), hwait]
    · exact (congrArg State.coils hrx :).trans ((congrArg State.coils hput :).trans (congrArg State.coils hheard :))
    · exact (congrArg State.mode hrx :).trans ((congrArg State.mode hput :).trans (congrArg State.mode hheard :))
    · exact (congrArg State.pair hrx :).trans ((congrArg State.pair hput :).trans (congrArg State.pair hheard :))
  · obtain ⟨hout, hcount, hlen⟩ := State.resend_sends p.val i hm
    refine ⟨_, i.again, exec_responseTimeout hn hf, ?_⟩
    rw [if_pos hr, engExt_port, engExt_out]
    exact ⟨hcount, hout, rfl, rfl, rfl, rfl, hlen⟩
  · refine ⟨_, exec_responseTimeout hn hf, ?_⟩
    rw [if_neg (Nat.not_lt.mpr hr), engExt_port, engExt_out, engExt_evtBit, State.retryOut_readCells _ ht, State.raise_port, State.updPort_same]
    exact ⟨rfl, State.raise_evtBit _ _ (by omega), rfl⟩

end Sys2Proof.Machine
end

section
/-! Tones, stale notices and silence (R89, R100, R102, R103). -/
namespace Sys2Proof.Machine

theorem exec_tone {p : Port} {f : ChainFrame} {s : State} (h : f.ok = true) (hd : f.dir = 3#2) :
    exec (.tone p f) s = .next (s.toneFrame p.val f) := if_pos ⟨h, hd⟩
theorem exec_staleTerm {p : Port} {f : ChainFrame} {s : State} (h : f.ok = true) :
    exec (.staleTerm p f) s = .next (((s.traceRx p.val f).toneHeader p.val f.flags 0).staleNotice p.val f) := if_pos h

/-- What a command that changes one port and raises one event leaves. -/
theorem State.setPort_raise_facts (s : State) (k : Nat) (x : PortSt) (pg : Nat) {n : Nat} (h : n < 32) :
    ((s.setPort k x).raise pg n).port k = x ∧ ((s.setPort k x).raise pg n).evtBit pg n = true ∧
      (∀ q, q ≠ k → ((s.setPort k x).raise pg n).port q = s.port q) ∧
      { (s.setPort k x).raise pg n with ports := s.ports, pages := s.pages } = s :=
  ⟨State.setPort_same s k x, State.raise_evtBit _ _ h, fun _ hq => State.updPort_ne s (fun _ => x) hq, rfl⟩

/-! ### BREAK (R102) -/

/-- A tone with BREAK on a RUNNING port makes it BROKEN at the named hop from now on. -/
theorem State.toneFrame_of_break {s : State} {p : Nat} {f : ChainFrame} (hb : f.flags.toNat / 16 = 0) (hk : f.flags.getLsbD 3 = true)
    (hh : (s.port p).toneHeld = false) (hr : (s.port p).state = .running) (ht : s.stw.trace = none) :
    ∃ x, s.toneFrame p f = (s.setPort p x).raise (psPage p) (4 + p % 4) ∧ x.state = .broken ∧ x.breakHop = f.pl 0 1 ∧
      x.downSince = s.now := by
  simp only [State.toneFrame, State.traceRx_of_none p f ht, State.toneHeader_of_clear _ hb hh, hk, if_true, State.updPort_twice,
    State.updPort_same, PortSt.headerClear, hr, true_or, State.portBroken]
  exact ⟨_, rfl, rfl, rfl, rfl⟩

theorem exec_tone_of_break {s : State} {p : Port} {f : ChainFrame} (hok : f.ok = true) (hd : f.dir = 3#2) (hb : f.flags.toNat / 16 = 0)
    (hk : f.flags.getLsbD 3 = true) (hh : (s.port p.val).toneHeld = false) (hr : (s.port p.val).state = .running) (ht : s.stw.trace = none) :
    ∃ t, exec (.tone p f) s = .next t ∧ (t.port p.val).state = .broken ∧ (t.port p.val).breakHop = f.pl 0 1 ∧
      (t.port p.val).downSince = s.now ∧ t.evtBit (psPage p.val) (4 + p.val % 4) = true ∧ (∀ q, q ≠ p.val → t.port q = s.port q) ∧
      { t with ports := s.ports, pages := s.pages } = s := by
  obtain ⟨x, htone, hstate, hhop, hsince⟩ := State.toneFrame_of_break hb hk hh hr ht
  obtain ⟨hport, hevt, hne, hframe⟩ := s.setPort_raise_facts p.val x (psPage p.val) (show 4 + p.val % 4 < 32 by omega)
  refine ⟨_, (exec_tone hok hd).trans (congrArg Host.Outcome.next htone), ?_⟩
  rw [hport]
  exact ⟨hstate, hhop, hsince, hevt, hne, hframe⟩

/-! ### Fault bits (R100) -/

/-- The fault tone a port holds. -/
def PortSt.tone (t : PortSt) : Bool × BitVec 4 := (t.toneHeld, t.toneBits)

theorem State.portRecover_tone (s : State) (p : Nat) : ((s.portRecover p).port p).tone = (s.port p).tone := by
  simp only [State.portRecover]
  split
  · split <;> exact State.updPort_keeps PortSt.tone s p p _ fun _ => rfl
  · rfl
theorem State.portBroken_tone (s : State) (p hop : Nat) : ((s.portBroken p hop).port p).tone = (s.port p).tone := by
  rw [State.portBroken, State.raise_port]
  exact State.updPort_keeps PortSt.tone s p p _ fun _ => rfl

/-- BREAK and recovery leave the tone that the header left. -/
theorem State.toneFrame_tone (s : State) (p : Nat) (f : ChainFrame) :
    ((s.toneFrame p f).port p).tone = (((s.traceRx p f).toneHeader p f.flags (f.pl 1 1)).port p).tone := by
  simp only [State.toneFrame, apply_ite (fun u : State => (u.port p).tone), State.portBroken_tone, State.portRecover_tone,
    State.updPort_same]
  simp only [PortSt.tone, ite_self]

theorem State.toneFrame_of_second {s : State} {p : Nat} {f : ChainFrame} (hb : f.flags.toNat / 16 ≠ 0) (hr : 1 ≤ (s.port p).setRun) :
    ((s.toneFrame p f).port p).toneHeld = true ∧ ((s.toneFrame p f).port p).toneBits = BitVec.ofNat 4 (f.flags.toNat / 16) := by
  have htone := State.toneFrame_tone s p f
  obtain ⟨hheld, hbits⟩ := State.toneHeader_of_second (s := s.traceRx p f) (f.pl 1 1) hb (by rw [State.traceRx_port]; exact hr)
  exact ⟨(congrArg Prod.fst htone :).trans hheld, (congrArg Prod.snd htone :).trans hbits⟩

/-! ### STALE_TERM (R89, R373) -/

theorem State.updPort_term (s : State) (k : Nat) (g : PortSt → PortSt) : (s.updPort k g).term = s.term := by
  rw [State.term, State.term, State.updPort_pair]

theorem psPage_lt (p : Port) : psPage p.val < 0x14 := Nat.add_lt_add_left (Nat.div_lt_of_lt_mul (k := 12) p.isLt) 0x08

/-- The active device becomes PASSIVE and raises an event of page PAIR; but for that and the Gallery's, the pages stay. -/
theorem State.goPassive_of_active {s : State} (source : Nat) (newer : Byte) (h : s.pair.role = .active) :
    (s.goPassive source newer).pair.role = .passive ∧
      ∀ pg n, pg ≠ pGAL → pg ≠ pPAIR → (s.goPassive source newer).evtBit pg n = s.evtBit pg n := by
  rw [State.goPassive, if_neg fun hc => hc.1 h]
  refine ⟨rfl, fun pg n hg hp => ?_⟩
  exact State.evtBit_of_page n ((State.raise_page_ne _ 8 hp).trans (State.logN_page s _ _ hg))

/-- A notice that names this term and a newer stored one ends the active role. -/
theorem State.staleNotice_of_newer {s : State} (p : Port) {f : ChainFrame} (ht : f.pl 1 1 = s.term.toNat)
    (hn : newer8 (BitVec.ofNat 8 (f.pl 0 1)) s.term = true) (ha : s.pair.role = .active) :
    (s.staleNotice p.val f).pair.role = .passive ∧ (s.staleNotice p.val f).evtBit (psPage p.val) (12 + p.val % 4) = true := by
  have hlt := psPage_lt p
  obtain ⟨hrole, hpages⟩ := State.goPassive_of_active (s := s.raise (psPage p.val) (12 + p.val % 4)) p.val (BitVec.ofNat 8 (f.pl 0 1)) ha
  rw [State.staleNotice, if_pos ⟨ht, hn⟩]
  refine ⟨hrole, ?_⟩
  rw [hpages _ _ (hlt.trans (by decide)).ne (hlt.trans (by decide)).ne]
  exact State.raise_evtBit _ _ (by omega)

theorem exec_staleTerm_of_newer {s : State} {p : Port} {f : ChainFrame} (hok : f.ok = true) (hb : f.flags.toNat / 16 = 0)
    (hh : (s.port p.val).toneHeld = false) (ht : f.pl 1 1 = s.term.toNat) (hn : newer8 (BitVec.ofNat 8 (f.pl 0 1)) s.term = true)
    (ha : s.pair.role = .active) :
    ∃ t, exec (.staleTerm p f) s = .next t ∧ t.pair.role = .passive ∧ t.evtBit (psPage p.val) (12 + p.val % 4) = true := by
  have hpair : (s.traceRx p.val f).pair = s.pair := (congrArg State.pair (State.traceRx_frame s p.val f) :)
  rw [exec_staleTerm hok, State.traced_toneHeader_of_clear 0 hb hh]
  have hterm : ∀ g, ((s.traceRx p.val f).updPort p.val g).term = s.term := fun g => by
    rw [State.updPort_term, State.term, hpair, ← State.term]
  exact ⟨_, rfl, State.staleNotice_of_newer p (by rw [hterm, ht]) (by rw [hterm, hn]) (by rw [State.updPort_pair, hpair, ha])⟩

/-- Any other notice is only counted. -/
theorem exec_staleTerm_of_other {s : State} {p : Port} {f : ChainFrame} (hok : f.ok = true) (hb : f.flags.toNat / 16 = 0)
    (hh : (s.port p.val).toneHeld = false) (ht : f.pl 1 1 ≠ s.term.toNat) (hu : s.stw.trace = none) :
    ∃ t, exec (.staleTerm p f) s = .next t ∧ (t.port p.val).staleIgnored = (s.port p.val).staleIgnored + 1 ∧
      { t with ports := s.ports } = s := by
  rw [exec_staleTerm hok, State.traced_toneHeader_of_clear 0 hb hh, State.traceRx_of_none _ _ hu]
  refine ⟨_, congrArg Host.Outcome.next (if_neg fun h => ht (h.1.trans (by rw [State.updPort_term]))), ?_⟩
  rw [State.updPort_twice, State.updPort_same]
  exact ⟨rfl, rfl⟩

/-! ### CHAIN_SILENT (R103) -/

/-- A RUNNING port without headers becomes SILENT from now on, drops its tone and raises its event. -/
theorem exec_chainSilent_of_running {s : State} {p : Port} (he : s.portEn p.val = true) (hs : (s.port p.val).chainSilent = false)
    (hr : (s.port p.val).state = .running) (ha : (s.toneOf p.val).acting = false) :
    ∃ t, exec (.chainSilent p) s = .next t ∧ (t.port p.val).state = .silent ∧ (t.port p.val).chainSilent = true ∧
      (t.port p.val).toneHeld = false ∧ (t.port p.val).downSince = s.now ∧ t.evtBit (psPage p.val) (p.val % 4) = true ∧
      { t with ports := s.ports, pages := s.pages } = s := by
  have hoff : ∀ x, (s.setPort p.val x).toneOff p.val = s.setPort p.val x := fun x => if_neg (by rw [Bool.not_eq_true]; exact ha)
  have hfacts := fun x => s.setPort_raise_facts p.val x (psPage p.val) (show p.val % 4 < 32 by omega)
  change ∃ t, execChainSilent p s = _ ∧ _
  simp only [execChainSilent, he, hs, hr]
  rw [if_neg (by decide)]
  refine ⟨_, congrArg (fun u : State => Host.Outcome.next (u.raise (psPage p.val) (p.val % 4))) (hoff _), ?_⟩
  obtain ⟨hport, hevt, -, hframe⟩ := hfacts _
  rw [hport]
  exact ⟨if_pos (by rw [hr]; rfl), rfl, rfl, if_neg (by rw [hr]; decide), hevt, hframe⟩

end Sys2Proof.Machine
end

section
/-! Commands that the active device sends: probes, enumeration and calibration frames (R87, R91, R95, R105). -/
namespace Sys2Proof.Machine

/-! ### RECOVERY_PROBE (R105) -/

/-- A sent command leaves who may send, and whether a trace runs. -/
theorem State.sendAdhoc_may (s : State) (p typ hop : Nat) (pl : List Byte) (ht : s.stw.trace = none) :
    (s.sendAdhoc p typ hop pl).active = s.active ∧ (s.sendAdhoc p typ hop pl).chainMay = s.chainMay ∧
      (s.sendAdhoc p typ hop pl).stw.trace = none := by
  have h := State.sendAdhoc_frame_of_untraced p typ hop pl ht
  exact ⟨(congrArg State.active h :), (congrArg State.chainMay h :), (congrArg (fun u : State => u.stw.trace) h :).trans ht⟩

/-- Two commands in a row are the two latest outputs, and change the ports alone besides. -/
theorem State.sendAdhoc_twice {s : State} (p typ h1 h2 : Nat) (pl : List Byte) (ha : s.active = true) (hm : s.chainMay = true)
    (ht : s.stw.trace = none) : ∃ fl1 q1 tm fl2 q2, ((s.sendAdhoc p typ h1 pl).sendAdhoc p typ h2 pl).out =
        .chain p (mkFrame typ 0 h2 tm fl2 q2 pl) :: .chain p (mkFrame typ 0 h1 s.term fl1 q1 pl) :: s.out ∧
      { (s.sendAdhoc p typ h1 pl).sendAdhoc p typ h2 pl with ports := s.ports, out := s.out } = s := by
  obtain ⟨ha1, hm1, ht1⟩ := State.sendAdhoc_may s p typ h1 pl ht
  obtain ⟨fl1, q1, hout1⟩ := State.sendAdhoc_out p typ h1 pl ha hm ht
  obtain ⟨fl2, q2, hout2⟩ := State.sendAdhoc_out p typ h2 pl (ha1.trans ha) (hm1.trans hm) ht1
  refine ⟨fl1, q1, _, fl2, q2, by rw [hout2, hout1], ?_⟩
  exact (congrArg (fun u : State => { u with ports := s.ports, out := s.out }) (State.sendAdhoc_frame_of_untraced p typ h2 pl ht1) :).trans
    (State.sendAdhoc_frame_of_untraced p typ h1 pl ht)

/-- The probes of a SILENT port: an echo to H_found, then one to hop 1. -/
theorem exec_recoveryProbe_of_silent {s : State} {p : Port} (hs : (s.port p.val).state = .silent) (hf : 0 < (s.port p.val).hFound)
    (ha : s.active = true) (hm : s.chainMay = true) (ht : s.stw.trace = none) :
    ∃ t g h, exec (.recoveryProbe p) s = .next t ∧ t.out = Out.chain p.val h :: Out.chain p.val g :: s.out ∧
      g.typ = 0x0E#8 ∧ h.typ = 0x0E#8 ∧ g.hop = BitVec.ofNat 6 (s.port p.val).hFound ∧ h.hop = 1#6 ∧ g.payload.length = 4 ∧ g.term = s.term ∧
      { t with ports := s.ports, out := s.out } = s := by
  obtain ⟨fl1, q1, tm, fl2, q2, hout, hframe⟩ :=
    State.sendAdhoc_twice p.val 0x0E (s.port p.val).hFound 1 [0#8, 0#8, 0#8, 0#8] ha hm ht
  exact ⟨_, _, _, if_pos ⟨.inl hs, hf⟩, hout, rfl, rfl, rfl, rfl, rfl, rfl, hframe⟩

/-! ### REENUMERATION (R91, R103) -/

theorem State.startEnum_epochView (s : State) (p : Nat) : (s.startEnum p).epochView = s.epochView := by
  simp only [State.startEnum, apply_ite State.epochView, State.updPort_epochView, State.updSctx_epochView, State.updMod_epochView,
    State.updMon_epochView, foldS_epochView, State.chainOut_epochView, State.takeSeq_epochView, implies_true, ite_self]

theorem State.mayStartEnum {s : State} {p : Nat} (he : s.portEn p = true) (ho : s.strOpen (s.strOfPort p) = true) (ha : s.active = true)
    (hm : s.chainMay = true) : (s.portEn p && s.mayEnum p && s.chainMay) = true := by
  rw [he, hm, State.mayEnum, ho, ha]
  rfl

/-- An enumeration forgets the port's modules and the commands awaited. -/
theorem State.startEnum_port {s : State} {p : Nat} (h : (s.portEn p && s.mayEnum p && s.chainMay) = true) :
    ((s.startEnum p).port p).state = .enumerating ∧ ((s.startEnum p).port p).hFound = 0 ∧ ((s.startEnum p).port p).inFlight = [] := by
  simp only [State.startEnum, h, if_true, State.updPort_same, and_self]

theorem State.takeSeq_term (s : State) (p : Nat) : (s.takeSeq p).2.term = s.term := State.updPort_term _ _ _
/-- An enumeration broadcasts ENUM. -/
theorem State.startEnum_out {s : State} {p : Nat} (h : (s.portEn p && s.mayEnum p && s.chainMay) = true) :
    ∃ q, Out.chain p (mkFrame 0x01 0 0 s.term flagBCAST q []) ∈ (s.startEnum p).out := by
  have hterm := State.takeSeq_term s p
  rw [State.startEnum, if_pos h]
  generalize s.takeSeq p = r at hterm
  obtain ⟨q, u⟩ := r
  have hout := State.chainOut_out u p (mkFrame 0x01 0 0 u.term flagBCAST q [])
  refine ⟨q, ?_⟩
  dsimp only at hterm ⊢
  rw [hterm] at hout ⊢
  generalize u.chainOut p _ = v at hout ⊢
  rw [State.updPort_out, State.updSctx_out, foldS_keeps State.out _ _ _ fun _ _ => State.updMod_out _ _ _,
    foldS_keeps State.out _ _ _ fun _ _ => State.updMon_out _ _ _]
  exact hout

theorem exec_reenumeration_of_recovering {s : State} {p : Port} (hs : (s.port p.val).state = .recovering) (he : s.portEn p.val = true)
    (ho : s.strOpen (s.strOfPort p.val) = true) (ha : s.active = true) (hm : s.chainMay = true) :
    ∃ t, exec (.reenumeration p) s = .next t ∧ (t.port p.val).state = .enumerating ∧ (t.port p.val).hFound = 0 ∧
      (t.port p.val).inFlight = [] ∧ (∃ g, Out.chain p.val g ∈ t.out ∧ g.typ = 1#8 ∧ g.flags = flagBCAST ∧ g.hop = 0#6) ∧
      t.coils = s.coils ∧ t.mode = s.mode := by
  have hmay := State.mayStartEnum he ho ha hm
  obtain ⟨hstate, hfound, hwait⟩ := State.startEnum_port hmay
  obtain ⟨q, hout⟩ := State.startEnum_out hmay
  have hview := State.startEnum_epochView s p.val
  simp only [State.epochView, Prod.mk.injEq] at hview
  obtain ⟨-, hmode, hcoils, -⟩ := hview
  exact ⟨_, if_pos ⟨hs, ho⟩, hstate, hfound, hwait, ⟨_, hout, rfl, rfl, rfl⟩, hcoils, hmode⟩

/-! ### HOPCAL_PERIODIC (R87, R95, R114) -/

/-- Frames of a calibration over n hops: 16 to the first, 16 to the last, 4 to each between. -/
def hopcalFrames (n : Nat) : Nat := if n = 0 then 0 else if n = 1 then 16 else 4 * n + 24
/-- The hops of a calibration's frames, in order. -/
def hopcalHops (n : Nat) : List Nat := (List.range n).flatMap (fun i => List.replicate (if i = 0 ∨ i + 1 = n then 16 else 4) (i + 1))

theorem length_hopcalHops (n : Nat) : (hopcalHops n).length = hopcalFrames n := by
  rcases n with _ | _ | n
  · rfl
  · rfl
  · have hmid : ∀ i ∈ Finset.range n, (if i + 1 = 0 ∨ i + 1 + 1 = n + 2 then 16 else 4) = 4 := fun i hi =>
      if_neg (by have := Finset.mem_range.mp hi; omega)
    have hlen : (hopcalHops (n + 2)).length = ∑ i ∈ Finset.range (n + 2), if i = 0 ∨ i + 1 = n + 2 then 16 else 4 := by
      simp only [hopcalHops, List.length_flatMap, List.length_replicate, Finset.sum, Finset.range_val, Multiset.range, Multiset.map_coe,
        Multiset.sum_coe]
    rw [hlen, Finset.sum_range_succ, Finset.sum_range_succ', Finset.sum_congr rfl hmid, Finset.sum_const, Finset.card_range]
    simp [hopcalFrames]
    omega

/-- Commands in a row to a port: one frame and one SEQ each, and nothing but the ports besides. -/
theorem foldS_sendAdhoc (p typ : Nat) (pl : List Byte) (l : List Nat) {s : State} (ha : s.active = true) (hm : s.chainMay = true)
    (ht : s.stw.trace = none) :
    (foldS l (fun s h => s.sendAdhoc p typ h pl) s).out.length = s.out.length + l.length ∧
      ((foldS l (fun s h => s.sendAdhoc p typ h pl) s).port (s.series p)).nextSeq =
        (s.port (s.series p)).nextSeq + BitVec.ofNat 16 l.length ∧
      { foldS l (fun s h => s.sendAdhoc p typ h pl) s with ports := s.ports, out := s.out } = s := by
  induction l generalizing s with
  | nil => exact ⟨rfl, (BitVec.add_zero _).symm, rfl⟩
  | cons h l ih =>
    obtain ⟨ha1, hm1, ht1⟩ := State.sendAdhoc_may s p typ h pl ht
    obtain ⟨fl, q, hout⟩ := State.sendAdhoc_out p typ h pl ha hm ht
    obtain ⟨hlen, hseq, hframe⟩ := ih (ha1.trans ha) (hm1.trans hm) ht1
    have hfirst := State.sendAdhoc_frame_of_untraced p typ h pl ht
    have hseries : (s.sendAdhoc p typ h pl).series p = s.series p := (congrArg (fun u : State => u.series p) hfirst :)
    refine ⟨?_, ?_, ?_⟩
    · rw [foldS_cons, hlen, hout, List.length_cons, List.length_cons]
      omega
    · rw [foldS_cons, ← hseries, hseq, hseries, State.sendAdhoc_nextSeq p typ h pl ha hm, List.length_cons, BitVec.add_assoc,
        Nat.add_comm l.length 1, BitVec.ofNat_add]
      rfl
    · exact (congrArg (fun u : State => { u with ports := s.ports, out := s.out }) hframe :).trans hfirst

/-- Without a partner a calibration is its frames alone. -/
theorem State.sendHopcal_of_alone {s : State} (p : Nat) (ha : s.active = true) (hm : s.chainMay = true) (ht : s.stw.trace = none)
    (hn : s.pair.hasPartner = false) :
    s.sendHopcal p = foldS (hopcalHops (s.port p).hFound) (fun s h => s.sendAdhoc p 0x0F h []) s := by
  obtain ⟨-, -, hframe⟩ := foldS_sendAdhoc p 0x0F [] (hopcalHops (s.port p).hFound) ha hm ht
  have hpair : (foldS (hopcalHops (s.port p).hFound) (fun s h => s.sendAdhoc p 0x0F h []) s).pair.hasPartner = false :=
    (congrArg (fun u : State => u.pair.hasPartner) hframe :).trans hn
  exact if_neg fun h => Bool.false_ne_true (hpair.symm.trans (Bool.and_eq_true_iff.mp h).2)

theorem exec_hopcalPeriodic_of_alone {s : State} {p : Port} (he : s.portEn p.val = true) (hr : (s.port p.val).state = .running)
    (ha : s.active = true) (hm : s.chainMay = true) (hn : s.pair.hasPartner = false) (ht : s.stw.trace = none) :
    ∃ t, exec (.hopcalPeriodic p) s = .next t ∧ t.out.length = s.out.length + hopcalFrames (s.port p.val).hFound ∧
      (t.port (s.series p.val)).nextSeq = (s.port (s.series p.val)).nextSeq + BitVec.ofNat 16 (hopcalFrames (s.port p.val).hFound) ∧
      { t with ports := s.ports, out := s.out } = s := by
  have hsent := foldS_sendAdhoc p.val 0x0F [] (hopcalHops (s.port p.val).hFound) ha hm ht
  rw [length_hopcalHops, ← State.sendHopcal_of_alone p.val ha hm ht hn] at hsent
  exact ⟨_, if_pos ⟨he, by rw [hr]; rfl⟩, hsent⟩

end Sys2Proof.Machine
end

section
/-! HOPCAL_DONE (R95, R96, R437). -/
namespace Sys2Proof.Machine

/-- The state at the end of a calibration, when its times are set and its frames awaited no more. -/
def State.calibrated (s : State) (p : Nat) (rtts : List (List Nat)) : State :=
  (s.calibrate p rtts).updPort p (fun t => { t with inFlight := t.inFlight.filter (fun i => i.frame.typ != 0x0F#8) })

theorem exec_hopcalDone_of_found {s : State} {p : Port} (rtts : List (List Nat)) (h : 0 < (s.port p.val).hFound) :
    exec (.hopcalDone p rtts) s = .next (if ((s.calibrated p.val rtts).startEpochs.port p.val).state = .enumerating then
      (s.calibrated p.val rtts).startEpochs.testWireAll p.val 0 else (s.calibrated p.val rtts).startEpochs) :=
  congrArg Host.Outcome.next (if_neg h.ne')

/-- What a calibration gives a port: whether it is calibrated, t_u and t_hop. -/
def PortSt.cal (t : PortSt) : Bool × Nat × Nat := (t.calibrated, t.tU, t.tHop)

theorem State.testWireAll_cal (s : State) (p w : Nat) : ((s.testWireAll p w).port p).cal = (s.port p).cal := by
  have hsend : ∀ (u : State) (h : Nat) (pl : List Byte), ((u.sendAdhoc p 0x06 h pl).port p).cal = (u.port p).cal := fun u h pl =>
    State.sendAdhoc_keeps PortSt.cal (fun _ _ => rfl) (fun _ _ => rfl) u p 0x06 h pl p
  refine (State.updPort_keeps PortSt.cal _ p p _ fun _ => ?_).trans ?_
  · rfl
  · exact foldS_keeps (fun u : State => (u.port p).cal) _ _ s fun u i => State.ite_keeps (fun u : State => (u.port p).cal) (hsend u _ _)

theorem State.testWireAll_epochView (s : State) (p w : Nat) : (s.testWireAll p w).epochView = s.epochView := by
  simp only [State.testWireAll, State.updPort_epochView, foldS_epochView, apply_ite State.epochView, State.sendAdhoc_epochView, ite_self,
    implies_true]

theorem State.startEpochs_frame (s : State) : { s.startEpochs with time := s.time, prot := s.prot } = s := by
  simp only [State.startEpochs]
  split <;> rfl
/-- Outside DORMANT the epoch series runs from then on. -/
theorem State.startEpochs_sampling {s : State} (h : s.md ≠ .dormant) : s.startEpochs.time.sampling = true := by
  simp only [State.startEpochs]
  split
  · next hc => simpa [h] using hc
  · rfl

theorem State.calibrate_epochView (s : State) (p : Nat) (rtts : List (List Nat)) : (s.calibrate p rtts).epochView = s.epochView := by
  simp only [State.calibrate, apply_ite State.epochView, State.updPort_epochView, State.when_epochView, State.raise_epochView,
    State.log_epochView, State.logN_epochView, ite_self]

/-- t_u by the round trips to hop 1, ns (R95). -/
def unitTime (rtts : List (List Nat)) : Rat := (median (rtts.getD 0 []) - 10000) / 2
/-- t_hop by the round trips to hops 1 and n, ns; 750 by design for one hop (R95). -/
def hopTime (n : Nat) (rtts : List (List Nat)) : Rat :=
  if n ≤ 1 then 750 else (median (rtts.getD (n - 1) []) - median (rtts.getD 0 [])) / (2 * ((n : Rat) - 1))

/-- The first calibration of a port takes effect at once. -/
theorem State.calibrate_of_first {s : State} {p : Nat} (rtts : List (List Nat)) (h : (s.port p).calibrated = false) :
    ((s.calibrate p rtts).port p).cal =
      (true, (toUnits (unitTime rtts * 16)).toNat, (toUnits (hopTime (s.port p).hFound rtts * 16)).toNat) := by
  have hwhen : ∀ (u : State) (c : Bool) (typ pg n : Nat) (pl : List Word),
      (u.when c (fun s => (s.log typ pl).raise pg n)).port p = u.port p := fun u c typ pg n pl =>
    State.when_keeps (fun u : State => u.port p) u c _ (State.log_port u typ pl p)
  simp only [State.calibrate, h, Bool.false_and, Bool.and_false, State.when_false, Bool.false_eq_true, if_false, State.updPort_same, hwhen]
  rfl

theorem State.calibrated_cal (s : State) (p : Nat) (rtts : List (List Nat)) :
    ((s.calibrated p rtts).port p).cal = ((s.calibrate p rtts).port p).cal :=
  State.updPort_keeps PortSt.cal _ p p _ fun _ => rfl
theorem State.calibrated_epochView (s : State) (p : Nat) (rtts : List (List Nat)) : (s.calibrated p rtts).epochView = s.epochView :=
  (State.updPort_epochView _ _ _).trans (State.calibrate_epochView s p rtts)

/-- A first calibration sets the port's times and starts the epoch series; the rest of the section's view stays. -/
theorem exec_hopcalDone_of_first {s : State} {p : Port} (rtts : List (List Nat)) (hn : 0 < (s.port p.val).hFound)
    (hc : (s.port p.val).calibrated = false) : ∃ t, exec (.hopcalDone p rtts) s = .next t ∧
      (t.port p.val).cal = (true, (toUnits (unitTime rtts * 16)).toNat, (toUnits (hopTime (s.port p.val).hFound rtts * 16)).toNat) ∧
      (s.md ≠ .dormant → t.time.sampling = true) ∧ t.mode = s.mode ∧ t.coils = s.coils := by
  have hview := State.calibrated_epochView s p.val rtts
  simp only [State.epochView, Prod.mk.injEq] at hview
  obtain ⟨-, hmode, hcoils, -⟩ := hview
  have hcal := (State.calibrated_cal s p.val rtts).trans (State.calibrate_of_first rtts hc)
  have hframe := (s.calibrated p.val rtts).startEpochs_frame
  have htest := (s.calibrated p.val rtts).startEpochs.testWireAll_epochView p.val 0
  simp only [State.epochView, Prod.mk.injEq] at htest
  obtain ⟨htime', hmode', hcoils', -⟩ := htest
  refine ⟨_, exec_hopcalDone_of_found rtts hn, ?_, fun hd => ?_, ?_, ?_⟩
  · exact (State.ite_keeps (fun u : State => (u.port p.val).cal) (State.testWireAll_cal _ _ _)).trans
      ((congrArg (fun u : State => (u.port p.val).cal) hframe :).trans hcal)
  · have hmd : (s.calibrated p.val rtts).md ≠ .dormant := fun h => hd ((congrArg ModeSt.mode hmode :).symm.trans h)
    exact (State.ite_keeps (fun u : State => u.time.sampling) (congrArg TimeSt.sampling htime')).trans (State.startEpochs_sampling hmd)
  · exact (State.ite_keeps State.mode hmode').trans ((congrArg State.mode hframe :).trans hmode)
  · exact (State.ite_keeps State.coils hcoils').trans ((congrArg State.coils hframe :).trans hcoils)

end Sys2Proof.Machine
end

section
/-! O9: the ports' tones, terms, silence, recovery and calibration (R87, R89, R95, R96, R100, R102, R103, R105, R114, R373). -/
namespace Sys2Proof.Machine

/-- Settles O9: each command by the state it leaves; a frame that is sent is an output, and what a command does not name it keeps. -/
theorem tonesTermSilenceAndHopCalibration : Obligations.TonesTermSilenceAndHopCalibration := by
  refine ⟨fun s p f => ⟨exec_tone_of_break, fun hok hd hb hr => ⟨_, exec_tone hok hd, State.toneFrame_of_second hb hr⟩,
    exec_staleTerm_of_newer, exec_staleTerm_of_other, exec_chainSilent_of_running, exec_recoveryProbe_of_silent,
    exec_reenumeration_of_recovering⟩, fun s p rtts => ⟨exec_hopcalPeriodic_of_alone, fun hn hc => ?_⟩⟩
  obtain ⟨t, hexec, hcal, hsampling, hmode, hcoils⟩ := exec_hopcalDone_of_first rtts hn hc
  simp only [PortSt.cal, Prod.mk.injEq] at hcal
  obtain ⟨hdone, htu, hth⟩ := hcal
  have hone : (s.port p.val).hFound ≤ 1 ↔ (s.port p.val).hFound = 1 := by omega
  exact ⟨t, hexec, hdone, ⟨htu, by simpa only [hopTime, hone] using hth⟩, hsampling, hmode, hcoils⟩

end Sys2Proof.Machine
end

section
/-! REST_REQ and CAP_DRIFT: the request for a rest window and the capacity uncertainty's clock (R166, R170). -/
namespace Sys2Proof.Machine

/-! ### REST_REQ (R170) -/

/-- The longest relaxation wait of the string's cells, rounded up to whole minutes. -/
def State.restMinutes (s : State) (k : Nat) : Nat :=
  (((s.cellsOf k).foldl (fun a e => maxR a (s.relaxAt k (s.estTemp e.1 e.2))) 0) / 60).ceil.toNat

/-- The string's request is marked, with the wanted window w in seconds, its record and its event. -/
def State.restAsked (s : State) (k w : Nat) : State :=
  let t := s.updSctx k (fun c => { c with restReq := true })
  ({ t with est := { t.est with restWindow := w } }.logN 0x0408 [k, w]).raise pEST 6

theorem exec_restReq_of_due {s : State} {x : Str} (hh : s.fld pEST 0x03C 15 0 ≠ 0)
    (hn : sNs (3600 * s.fld pEST 0x03C 15 0) ≤ (s.sctx x.val).noRest) (hr : (s.sctx x.val).restReq = false) :
    exec (.restReq x) s = .next (s.restAsked x.val (s.restMinutes x.val * 60)) :=
  if_pos ⟨hh, hn, hr⟩

theorem exec_restReq_of_requested {s : State} {x : Str} (hr : (s.sctx x.val).restReq = true) : exec (.restReq x) s = .next s :=
  if_neg fun ⟨_, _, hf⟩ => Bool.false_ne_true (hf.symm.trans hr)

section
variable (s : State) (k w : Nat)

theorem State.restAsked_sctx : (s.restAsked k w).sctx k = { s.sctx k with restReq := true } := by
  have hsctxs : (s.restAsked k w).sctxs = (s.updSctx k fun c => { c with restReq := true }).sctxs := by
    simp only [State.restAsked, State.raise_sctxs, State.logN_sctxs]
  rw [State.sctx, hsctxs]
  exact State.updSctx_same s k _

theorem State.restAsked_est : (s.restAsked k w).est = { s.est with restWindow := w } := State.logN_est _ _ _

theorem State.restAsked_frame : { s.restAsked k w with sctxs := s.sctxs, est := s.est, gal := s.gal, pages := s.pages } = s :=
  (congrArg (fun t : State => { t with sctxs := s.sctxs, est := s.est })
    (State.logN_frame { s.updSctx k (fun c => { c with restReq := true }) with est := { s.est with restWindow := w } } 0x0408 [k, w]) :)

end

/-! ### CAP_DRIFT (R166) -/

/-- A map over a sparse array that leaves the default as it is acts on every entry, listed or not. -/
theorem sget_map {α : Type} {d : α} {f : α → α} (hf : f d = d) (l : Store α) (k : Nat) :
    sget d (l.map fun e => (e.1, f e.2)) k = f (sget d l k) := by
  induction l with
  | nil => exact hf.symm
  | cons e l ih =>
    simp only [List.map_cons, sget]
    split
    · rfl
    · exact ih

/-- A context 720 h of operation later: where it is started, the uncertainty of its capacity has grown by 0.10 %, up to 10 %. -/
def Ctx.drifted (c : Ctx) : Ctx :=
  if c.started then { c with epsC := if 10 < c.epsC then c.epsC else minR 10 (c.epsC + 1/10) } else c

def State.capDrifted (s : State) : State :=
  { s with ctxs := s.ctxs.map (fun e => (e.1, e.2.drifted)), est := { s.est with drift := 0 } }

theorem exec_capDrift (s : State) : exec .capDrift s = .next s.capDrifted := rfl

theorem State.capDrifted_ctx (s : State) (k : Nat) : s.capDrifted.ctx k = (s.ctx k).drifted := sget_map rfl s.ctxs k

theorem Ctx.drifted_frame (c : Ctx) : { c.drifted with epsC := c.epsC } = c := by
  unfold Ctx.drifted
  split <;> rfl

theorem Ctx.drifted_epsC_of_started {c : Ctx} (h : c.started = true) (hc : c.epsC ≤ 10) : c.drifted.epsC = minR 10 (c.epsC + 1/10) := by
  simp only [Ctx.drifted, h, if_true, if_neg (not_lt.mpr hc)]

theorem minR_eq_min (a b : Rat) : minR a b = min a b := (min_def a b).symm

end Sys2Proof.Machine
end

section
/-! WRLEARN_PERIODIC: the learning of wire resistances starts on every port that may learn (R134). -/
namespace Sys2Proof.Machine

/-- A port whose learning starts where it measures under shuttle, has modules and learns nothing yet. -/
def PortSt.learning (mus : Bool) (t : PortSt) : PortSt :=
  if mus = true ∧ t.learn = none ∧ 0 < t.hFound then { t with learn := some (0, 0, 0), learnCmd := false } else t

/-- What has started to learn is not started again. -/
theorem PortSt.learning_learning (mus : Bool) (t : PortSt) : (t.learning mus).learning mus = t.learning mus := by
  by_cases h : mus = true ∧ t.learn = none ∧ 0 < t.hFound
  · have hstarted : t.learning mus = { t with learn := some (0, 0, 0), learnCmd := false } := if_pos h
    rw [hstarted]
    exact if_neg fun ⟨_, hnone, _⟩ => Option.some_ne_none _ hnone
  · have hsame : t.learning mus = t := if_neg h
    rw [hsame, hsame]

theorem State.startLearn_frame (s : State) (a : Nat) : { s.startLearn a with ports := s.ports } = s := by
  unfold State.startLearn
  split <;> rfl

theorem State.startLearn_musEn (s : State) (a p : Nat) : (s.startLearn a).musEn p = s.musEn p :=
  (congrArg (fun t : State => t.musEn p) (s.startLearn_frame a) :)

theorem State.startLearn_same (s : State) (p : Nat) : (s.startLearn p).port p = (s.port p).learning (s.musEn p) := by
  unfold State.startLearn PortSt.learning
  split
  · exact State.updPort_same s p _
  · rfl

theorem State.startLearn_ne (s : State) {a p : Nat} (h : p ≠ a) : (s.startLearn a).port p = s.port p := by
  unfold State.startLearn
  split
  · exact State.updPort_ne s _ h
  · rfl

theorem foldS_startLearn_port (l : List Nat) (s : State) (p : Nat) :
    (foldS l (fun s a => s.startLearn a) s).port p = if p ∈ l then (s.port p).learning (s.musEn p) else s.port p := by
  induction l generalizing s with
  | nil => rfl
  | cons a l ih =>
    rw [foldS_cons, ih, State.startLearn_musEn]
    by_cases h : p = a
    · subst h
      rw [State.startLearn_same, PortSt.learning_learning, ite_self, if_pos List.mem_cons_self]
    · simp only [State.startLearn_ne s h, List.mem_cons, h, false_or]

theorem State.wrlearn_frame (s : State) : { s.wrlearn with ports := s.ports } = s :=
  foldS_keeps (fun t : State => { t with ports := s.ports }) s.portsUsed (fun t p => t.startLearn p) s
    fun t p => congrArg (fun u : State => { u with ports := s.ports }) (t.startLearn_frame p)

theorem State.wrlearn_port (s : State) (p : Nat) :
    s.wrlearn.port p = if p ∈ s.portsUsed then (s.port p).learning (s.musEn p) else s.port p :=
  foldS_startLearn_port s.portsUsed s p

end Sys2Proof.Machine
end

section
/-! O11: the estimator's clocks and the periodic learning of wire resistances (R134, R166, R170). -/
namespace Sys2Proof.Machine

/-- Settles O11: each command by the one state it leaves, and that state by what it holds and keeps. -/
theorem estimatorClocksAndWireLearning : Obligations.EstimatorClocksAndWireLearning := by
  intro s x
  refine ⟨fun hh hn hr => ?_, ⟨_, exec_capDrift s, rfl, rfl, fun k => ?_⟩, ⟨_, rfl, s.wrlearn_frame, fun p => ?_⟩⟩
  · have hdue : sNs (3600 * s.fld pEST 0x03C 15 0) ≤ (s.sctx x.val).noRest := by
      rw [sNs, Nat.mul_comm 3600]
      exact hn
    have hasked : ((s.restAsked x.val (s.restMinutes x.val * 60)).sctx x.val).restReq = true := by rw [State.restAsked_sctx]
    refine ⟨_, exec_restReq_of_due hh hdue hr, hasked, ?_, State.raise_evtBit _ _ (by decide), exec_restReq_of_requested hasked, ?_⟩
    · rw [State.restAsked_est]
      exact Nat.mul_mod_left _ 60
    · rw [State.restAsked_est]
      exact s.restAsked_frame x.val _
  · rw [State.capDrifted_ctx]
    refine ⟨fun hs hc => ?_, fun hs hc => ?_, Ctx.drifted_frame _⟩
    · rw [Ctx.drifted_epsC_of_started hs (hc.trans (by norm_num)), minR_eq_min]
      exact min_eq_right (by linarith)
    · rw [Ctx.drifted_epsC_of_started hs hc, minR_eq_min]
      exact min_le_left _ _
  · exact (s.wrlearn_port p).trans (ite_and ..).symm

end Sys2Proof.Machine
end

section
/-! What an engine that has passed an instruction still reads, and an update of one engine after another (R204, R207, R209). -/
namespace Sys2Proof.Machine

/-- An engine past an instruction of ws words and n units. -/
def Eng.past (g : Eng) (ws n : Nat) : Eng := { g with pc := g.pc + ws, units := g.units + n }

@[simp] theorem Eng.past_reg (g : Eng) (ws n : Nat) (r : RegIx) : (g.past ws n).reg r = g.reg r := rfl
@[simp] theorem Eng.past_addr (g : Eng) (ws n : Nat) (a : RegIx) (off : Option Half) : (g.past ws n).addr a off = g.addr a off := rfl
@[simp] theorem Eng.past_stack (g : Eng) (ws n : Nat) : (g.past ws n).stack = g.stack := rfl
@[simp] theorem Eng.past_ext (g : Eng) (ws n : Nat) : (g.past ws n).ext = g.ext := rfl
@[simp] theorem Eng.past_opS (g : Eng) (ws n : Nat) (op : Opnd) : (g.past ws n).opS op = g.opS op := Eng.opS_advance g op _ _
@[simp] theorem Eng.past_opZ (g : Eng) (ws n : Nat) (op : Opnd) : (g.past ws n).opZ op = g.opZ op := Eng.opZ_advance g op _ _
theorem Eng.past_setReg (g : Eng) (ws n : Nat) (d : RegIx) (v : Word) :
    (g.past ws n).setReg d v = { g.setReg d v with pc := g.pc + ws, units := g.units + n } := Eng.setReg_advance g d v _ _

theorem State.setEng_setEng (s : State) (k : Nat) (x y : Eng) : (s.setEng k x).setEng k y = s.setEng k y := by
  simp only [State.setEng, sset_sset]
theorem State.setEng_updEng (s : State) (k : Nat) (x : Eng) (f : Eng → Eng) : (s.setEng k x).updEng k f = s.setEng k (f x) := by
  rw [State.updEng, State.setEng_same, State.setEng_setEng]

/-- An engine that can run executes the instruction from the state in which it has passed it. -/
theorem State.insn_past {s : State} {e : Nat} (ws n : Nat) (f : Nat → State → State) (h : s.engCan e = true) :
    s.insn e ws n f = f (s.eng e).pc (s.setEng e ((s.eng e).past ws n)) := State.insn_runs s e ws n f h

/-- An instruction that changes its own engine alone. -/
theorem State.insn_updEng {s : State} {e : Nat} (ws n : Nat) (f : Eng → Eng) (h : s.engCan e = true) :
    s.insn e ws n (fun _ t => t.updEng e f) = s.setEng e (f ((s.eng e).past ws n)) := by
  rw [State.insn_past ws n _ h, State.setEng_updEng]

end Sys2Proof.Machine
end

section
/-! O14: the ALU instructions and the operand forms (R204, R205, Tables 08.2 to 08.4). -/
namespace Sys2Proof.Machine

theorem Eng.opS_extHi_toNat (g : Eng) (w : Half) : (g.opS (.extHi w)).toNat = w.toNat * 65536 := by
  have hw := w.isLt
  simp only [Eng.opS, BitVec.truncate_eq_setWidth, BitVec.toNat_shiftLeft, BitVec.toNat_setWidth, Nat.shiftLeft_eq]
  omega

/-- DIV writes its quotient and the sticky DIV0. -/
theorem exec_div {e : Engine} {s : State} (d : RegIx) (op : Opnd) (h : s.engCan e.val = true) :
    exec (.div e d op) s = .next (s.setEng e.val
      { (s.eng e.val).setReg d (divW ((s.eng e.val).reg d) ((s.eng e.val).opS op)) with
        pc := (s.eng e.val).pc + (1 + opExt op), units := (s.eng e.val).units + (16 + opExt op),
        div0 := (s.eng e.val).div0Of ((s.eng e.val).opS op) }) := by
  refine congrArg Host.Outcome.next ((State.insn_updEng _ _ _ h).trans ?_)
  rw [Eng.past_reg, Eng.past_opS, Eng.past_setReg]
  rfl

/-- Settles O14: an instruction writes its function of the destination and the operand; the operand forms are the cases of their
definition. -/
theorem aluInstructionResultsAndOperandForms : Obligations.AluInstructionResultsAndOperandForms := by
  refine ⟨fun e d op s h => ?_, fun g a d r w v => ?_⟩
  · have hs : ∀ u f, Host.Outcome.next (s.alu e.val d op u Eng.opS f) = _ := fun u f =>
      congrArg (Host.Outcome.next (φ := Fault) (ρ := Refusal))
        (State.alu_runs s e.val d op u Eng.opS f (fun g p n => Eng.opS_advance g op p n) h)
    have hz : ∀ u f, Host.Outcome.next (s.alu e.val d op u Eng.opZ f) = _ := fun u f =>
      congrArg (Host.Outcome.next (φ := Fault) (ρ := Refusal))
        (State.alu_runs s e.val d op u Eng.opZ f (fun g p n => Eng.opZ_advance g op p n) h)
    exact ⟨hs 1 fun _ b => b, hs 1 fun a b => a + b, hs 1 fun a b => a - b, hs 2 fun a b => a * b, hs 2 mulqW, exec_div d op h,
      hz 1 fun a b => a &&& b, hz 1 fun a b => a ||| b, hz 1 fun a b => a ^^^ b, hz 1 fun a b => a <<< shamt b,
      hz 1 fun a b => a >>> shamt b, hz 1 fun a b => a.sshiftRight (shamt b), hs 1 minW, hs 1 maxW⟩
  · refine ⟨rfl, rfl, rfl, rfl, rfl, rfl, Eng.opS_extHi_toNat g w, rfl, rfl, rfl, fun hd => ?_, fun hr => ?_⟩
    · rw [Eng.reg_setReg, if_pos ⟨rfl, hd⟩]
    · rw [Eng.reg_setReg, if_neg fun h => hr h.1]

end Sys2Proof.Machine
end

section
/-! O16: control flow (R208, R211, R212). -/
namespace Sys2Proof.Machine

theorem condS_ge (x y : Word) : condS .ge x y = !(x.slt y) := by
  simp only [condS, BitVec.slt, ← Int.not_lt, decide_not]
theorem condU_ge (x y : Word) : condU .ge x y = !(x.ult y) := by
  simp only [condU, BitVec.ult, ← Nat.not_lt, decide_not]

/-- A branch jumps where its condition holds and passes its two words elsewhere. -/
theorem State.branch_runs {s : State} {e : Nat} (taken : Bool) (target : Half) (h : s.engCan e = true) : s.branch e taken target =
    s.setEng e { s.eng e with pc := if taken then target.toNat else (s.eng e).pc + 2, units := (s.eng e).units + 3 } := by
  rw [State.branch, State.insn_past 2 3 _ h]
  cases taken with
  | false => rfl
  | true =>
    rw [State.when_true, State.setEng_updEng]
    rfl

theorem exec_call_of_room {e : Engine} {s : State} (target : Half) (h : s.engCan e.val = true) (hr : (s.eng e.val).stack.length < 4) :
    exec (.call e target) s = .next (s.setEng e.val { s.eng e.val with
      pc := target.toNat, units := (s.eng e.val).units + 3, stack := ((s.eng e.val).pc + 2) :: (s.eng e.val).stack }) := by
  refine congrArg Host.Outcome.next ((State.insn_past 2 3 _ h).trans ?_)
  dsimp only
  rw [State.setEng_same, Eng.past_stack, if_neg (Nat.not_le.mpr hr), State.setEng_updEng]
  rfl

theorem exec_ret_of_called {e : Engine} {s : State} {r : Nat} {t : List Nat} (h : s.engCan e.val = true)
    (hs : (s.eng e.val).stack = r :: t) (hx : 4 ≤ (s.eng e.val).ext) : exec (.ret e) s =
      .next (s.setEng e.val { s.eng e.val with pc := r, units := (s.eng e.val).units + 2, stack := t }) := by
  have hext : ¬ ((s.eng e.val).ext < 4 ∧ t = []) := fun hc => Nat.not_lt.mpr hx hc.1
  refine congrArg Host.Outcome.next ((State.insn_past 1 2 _ h).trans ?_)
  simp only [State.setEng_same, Eng.past_stack, Eng.past_ext, hs, if_neg hext, State.setEng_updEng]
  rfl

/-- A WAIT none of whose events is pending goes on. -/
theorem State.engResume_of_none {s : State} {e : Nat} {w : EngWait} (hw : (s.eng e).wait = some w)
    (hn : lowBit (Nat.land (s.eng e).trig.toNat w.mask) = none) : s.engResume e = s := by
  simp only [State.engResume, hw, hn]

theorem exec_wait_of_none {e : Engine} {s : State} (d : RegIx) (mask : Half) (h : s.engCan e.val = true)
    (ht : ((s.eng e.val).reg d).toNat ≠ 0)
    (hn : lowBit (Nat.land (s.eng e.val).trig.toNat (Nat.land mask.toNat (engTriggers e.val))) = none) :
    exec (.wait e d mask) s = .next (s.setEng e.val { s.eng e.val with
      pc := (s.eng e.val).pc + 2, units := (s.eng e.val).units + 3,
      wait := some ⟨Nat.land mask.toNat (engTriggers e.val), some (s.now + ((s.eng e.val).reg d).toNat * 1000), d⟩ }) := by
  refine congrArg Host.Outcome.next ((State.insn_past 2 3 _ h).trans ?_)
  dsimp only
  rw [State.setEng_same, Eng.past_reg, if_neg fun hc => ht hc.2, if_neg ht, State.setEng_updEng]
  refine State.engResume_of_none (congrArg Eng.wait (State.setEng_same _ _ _)) ?_
  rw [State.setEng_same]
  exact hn

/-- Without a pending trigger nothing is served. -/
theorem engServe_of_none {s : State} {e : Nat} (n : Nat) (h : (s.eng e).trig = 0#6) : engServe e n s = s := by
  have hlow : lowBit (Nat.land (s.eng e).trig.toNat (engTriggers e)) = none := by
    rw [h, show Nat.land (0#6).toNat (engTriggers e) = 0 from Nat.zero_and _]
    decide
  cases n with
  | zero => rfl
  | succ n => simp only [engServe, hlow, ite_self]

/-- An activation with nothing waiting behind it ends. -/
theorem State.engHalt_of_idle {s : State} {e : Nat} (hn : (s.eng e).next = none) (ht : (s.eng e).trig = 0#6) (he : e ≠ 13) :
    s.engHalt e = s.updEng e (fun g => { g with running := false, wait := none }) := by
  have hnext : ((s.updEng e (fun g => { g with running := false, wait := none })).eng e).next = none := by
    rw [State.updEng_same]
    exact hn
  have htrig : ((s.updEng e (fun g => { g with running := false, wait := none })).eng e).trig = 0#6 := by
    rw [State.updEng_same]
    exact ht
  simp only [State.engHalt, State.engInstall_of_none hnext, if_neg he, engServe_of_none 7 htrig]

theorem exec_halt_of_idle {e : Engine} {s : State} (h : s.engCan e.val = true) (hx : 4 ≤ (s.eng e.val).ext)
    (hn : (s.eng e.val).next = none) (ht : (s.eng e.val).trig = 0#6) (he : e.val ≠ 13) : exec (.halt e) s =
      .next (s.setEng e.val { s.eng e.val with
        pc := (s.eng e.val).pc + 1, units := (s.eng e.val).units + 1, running := false, wait := none }) := by
  refine congrArg Host.Outcome.next ((State.insn_past 1 1 _ h).trans ?_)
  dsimp only
  rw [State.setEng_same, Eng.past_ext, if_neg (Nat.not_lt.mpr hx), State.engHalt_of_idle, State.setEng_updEng]
  · rfl
  · rw [State.setEng_same]
    exact hn
  · rw [State.setEng_same]
    exact ht
  · exact he

/-- Settles O16: each instruction by the one case of it that the premises leave. -/
theorem engineControlFlowResults : Obligations.EngineControlFlowResults := by
  intro e d a c target mask s h
  have hbranch : ∀ b, Host.Outcome.next (s.branch e.val b target) = _ := fun b =>
    congrArg (Host.Outcome.next (φ := Fault) (ρ := Refusal)) (State.branch_runs b target h)
  refine ⟨?_, ?_, exec_call_of_room target h, fun r t => exec_ret_of_called h, exec_wait_of_none d mask h, exec_halt_of_idle h⟩
  · refine (hbranch (condS c _ _)).trans ?_
    cases c with
    | eq | ne | lt => rfl
    | ge => rw [condS_ge]
  · refine (hbranch (condU c _ _)).trans ?_
    cases c with
    | eq | ne | lt => rfl
    | ge => rw [condU_ge]

end Sys2Proof.Machine
end

section
/-! Loads and stores of an engine by its address map (R209, Table 08.7). -/
namespace Sys2Proof.Machine

theorem dataWords_le (e : Nat) : dataWords e ≤ 0x1000 := by
  unfold dataWords
  repeat' split
  all_goals decide

/-- Units of LD: 6 for a word of the Hall bank, 2 for any other (R206). -/
def ldUnits (e a : Nat) : Nat := if e = 12 ∧ 0x10000 ≤ a ∧ a < 0x20000 then 6 else 2

section
variable {s : State} {e : Engine} (d a : RegIx) (off : Option Half) (h : s.engCan e.val = true)
include h

theorem exec_ld_of_word {w : Word} {t : State} (hr : (s.setEng e.val ((s.eng e.val).past (1 + offExt off)
      (ldUnits e.val ((s.eng e.val).addr a off) + offExt off))).engRead e.val ((s.eng e.val).addr a off) = some (w, t)) :
    exec (.ld e d a off) s = .next (t.updEng e.val (fun g => g.setReg d w)) := by
  rw [ldUnits] at hr
  refine congrArg Host.Outcome.next ((State.insn_past _ _ _ h).trans ?_)
  rw [hr]

theorem exec_st_of_mapped {t : State} (hw : (s.setEng e.val ((s.eng e.val).past (1 + offExt off) (2 + offExt off))).engWrite
      e.val ((s.eng e.val).addr a off) ((s.eng e.val).reg d) = some t) : exec (.st e d a off) s = .next t := by
  refine congrArg Host.Outcome.next ((State.insn_past _ _ _ h).trans ?_)
  rw [State.setEng_same, Eng.past_addr, Eng.past_reg, hw]

theorem exec_ldc_of_constant (hc : (s.eng e.val).addr a off < constWords e.val)
    (hr : (s.eng e.val).romWord ((s.eng e.val).addr a off) = false) : exec (.ldc e d a off) s = .next (s.setEng e.val
      (((s.eng e.val).past (1 + offExt off) (2 + offExt off)).setReg d (sget 0#32 (s.eng e.val).consts ((s.eng e.val).addr a off)))) := by
  have hrom : ¬ ((s.eng e.val).past (1 + offExt off) (2 + offExt off)).romWord ((s.eng e.val).addr a off) = true :=
    fun hx => Bool.false_ne_true (hr.symm.trans hx)
  refine congrArg Host.Outcome.next ((State.insn_past _ _ _ h).trans ?_)
  dsimp only
  rw [State.setEng_same, Eng.past_addr, if_pos hc, if_neg hrom, State.setEng_updEng]
  rfl

theorem exec_clamp_of_pair (ha : a ≠ 15) : exec (.clamp e d a) s = .next (s.setEng e.val (((s.eng e.val).past 1 2).setReg d
      (minW (maxW ((s.eng e.val).reg d) ((s.eng e.val).reg a)) ((s.eng e.val).reg (a + 1))))) := by
  refine congrArg Host.Outcome.next ((State.insn_past _ _ _ h).trans ?_)
  rw [if_neg ha, State.setEng_updEng]
  rfl

end

/-! ### Stores to each bank of the map -/

section
variable (s : State) {e a : Nat} (v : Word)

theorem State.engWrite_txBuffer (he : e < 12) (hlo : 0x1000 ≤ a) (hhi : a < 0x1400) : s.engWrite e a v =
    some (s.updTxb (16 * e + (a - 0x1000) / 64) (fun b => { b with words := sset 0#32 b.words ((a - 0x1000) % 64) v, fresh := true })) := by
  have hdata := dataWords_le e
  rw [State.engWrite, if_neg (by omega), if_pos ⟨he, hlo, hhi⟩]

theorem State.engWrite_timer : s.engWrite e 0x3004 v =
    some (s.updEng e (fun g => { g with timer := if v = 0#32 then none else some (s.now + usNs v.toNat) })) := by
  have hdata := dataWords_le e
  rw [State.engWrite, if_neg (by omega), if_neg (by omega), if_pos rfl]

theorem State.engWrite_reserve (he : e < 12) (hlo : 0x300C ≤ a) (hhi : a < 0x3010) :
    s.engWrite e a v = some (s.updEng e (fun g => { g with reserve := sset 0#32 g.reserve (a - 0x300C) v })) := by
  have hdata := dataWords_le e
  rw [State.engWrite, if_neg (by omega), if_neg (by omega), if_neg (by omega), if_pos ⟨he, hlo, hhi⟩]

end

end Sys2Proof.Machine
end

section
/-! O15: LD, ST, LDC, CLAMP and TLERP (R209, R210). -/
namespace Sys2Proof.Machine

/-- Settles O15: each instruction by the bank of the map its address lies in. -/
theorem engineMemoryInstructionResults : Obligations.EngineMemoryInstructionResults := by
  intro e d a off table s h
  refine ⟨fun w t => exec_ld_of_word d a off h, fun hd => ?_, fun he hlo hhi => ?_, fun ht => ?_, fun he hlo hhi => ?_, fun hc hr => ?_,
    fun ha => ?_, ?_⟩
  · refine (exec_st_of_mapped d a off h (if_pos hd)).trans ?_
    rw [State.setEng_updEng]
    rfl
  · exact exec_st_of_mapped d a off h (State.engWrite_txBuffer _ _ he hlo hhi)
  · refine (exec_st_of_mapped d a off h (by rw [ht]; exact State.engWrite_timer _ _)).trans ?_
    rw [State.setEng_updEng]
    rfl
  · refine (exec_st_of_mapped d a off h (State.engWrite_reserve _ _ he hlo hhi)).trans ?_
    rw [State.setEng_updEng]
    rfl
  · rw [exec_ldc_of_constant d a off h hc hr, Eng.past_setReg]
  · rw [exec_clamp_of_pair d a h ha, Eng.past_setReg]
  · refine congrArg Host.Outcome.next ((State.insn_updEng _ _ _ h).trans ?_)
    rw [Eng.past_setReg]
    rfl

end Sys2Proof.Machine
end

section
/-! A record with its event, and the fault of an engine with an expert program (R225, R228, Table 08.11). -/
namespace Sys2Proof.Machine

/-- A record through the append port, and its event. -/
def State.recorded (s : State) (typ : Nat) (pl : List Word) (pg n : Nat) : State := (s.log typ pl).raise pg n

section
variable (s : State) (typ : Nat) (pl : List Word) (pg n : Nat)

theorem State.recorded_frame : { s.recorded typ pl pg n with gal := s.gal, pages := s.pages } = s := State.log_frame s typ pl
theorem State.recorded_eng (k : Nat) : (s.recorded typ pl pg n).eng k = s.eng k :=
  (congrArg (fun u : State => u.eng k) (s.recorded_frame typ pl pg n) :)
theorem State.recorded_fifo (h : s.gal.fifo.length < 64) : (s.recorded typ pl pg n).gal.fifo = s.gal.fifo ++ [s.galEntry typ pl] :=
  (State.log_fifo s typ pl h).1
/-- Every record of this time carries the same time and power cycle. -/
theorem State.recorded_galEntry (typ2 : Nat) (pl2 : List Word) : (s.recorded typ pl pg n).galEntry typ2 pl2 = s.galEntry typ2 pl2 := by
  unfold State.recorded State.log
  split <;> rfl
theorem State.recorded_evtBit (h : n < 32) : (s.recorded typ pl pg n).evtBit pg n = true := State.raise_evtBit _ pg h
theorem State.recorded_evtBit_of_set {m : Nat} (hg : pg ≠ pGAL) (h : s.evtBit pg m = true) :
    (s.recorded typ pl pg n).evtBit pg m = true := by
  have hm : ((s.log typ pl).page pg).evt.getLsbD m = true :=
    (congrArg (fun p : PageSt => p.evt.getLsbD m) (State.log_page s typ pl hg)).trans h
  rw [State.recorded, State.evtBit, State.raise_evt, BitVec.getLsbD_or, hm, Bool.true_or]

/-- An update of an engine and a record are independent. -/
theorem State.updEng_recorded (e : Nat) (f : Eng → Eng) :
    (s.updEng e f).recorded typ pl pg n = (s.recorded typ pl pg n).updEng e f := by
  have hlog : (s.updEng e f).log typ pl = (s.log typ pl).updEng e f := by
    by_cases h : s.gal.fifo.length < Config.appendMax
    · have hu : (s.updEng e f).gal.fifo.length < Config.appendMax := h
      rw [State.log, if_pos hu, State.log, if_pos h]
      rfl
    · have hu : ¬ (s.updEng e f).gal.fifo.length < Config.appendMax := h
      rw [State.log, if_neg hu, State.log, if_neg h]
      rfl
  exact congrArg (fun t : State => t.raise pg n) hlog

end

theorem State.engStop_of_ne {e : Nat} (s : State) (he : e ≠ 13) :
    s.engStop e = s.updEng e (fun g => { g with running := false, wait := none, stopped := true, ext := 4 }) := if_neg he
theorem State.engFall_of_expert {s : State} {e : Nat} (cause : Nat) (hs : (s.eng e).source = .genImage) (hf : (s.eng e).falling = false) :
    s.engFall e cause = (s.updEng e (fun g => { g with fallback := true, falling := true })).recorded 0x0E44
      [word e, word cause, (s.eng e).imgCrc] pCODE 2 := if_neg (by simp [hs, hf])

/-- An engine stopped by a fault of its expert program. -/
def Eng.faulted (g : Eng) : Eng :=
  { g with
    faults := Nat.min 255 (g.faults + 1), fallback := true, falling := true, running := false, wait := none, stopped := true, ext := 4 }

/-- A fault writes its record and that of the fallback, and stops its engine. -/
theorem State.engFault_of_expert {s : State} {e : Nat} (pc cause : Nat) (hs : (s.eng e).source = .genImage)
    (hf : (s.eng e).falling = false) (he : e ≠ 13) : s.engFault e pc cause =
      ((s.recorded 0x0E42 [word e, word pc, word cause] pCODE 3).recorded 0x0E44 [word e, 1#32, (s.eng e).imgCrc] pCODE 2).updEng e
        Eng.faulted := by
  obtain ⟨t, ht⟩ : ∃ t, t = (s.updEng e (fun g => { g with faults := Nat.min 255 (g.faults + 1) })).recorded 0x0E42
    [word e, word pc, word cause] pCODE 3 := ⟨_, rfl⟩
  have hte : t.eng e = { s.eng e with faults := Nat.min 255 ((s.eng e).faults + 1) } := by
    rw [ht, State.recorded_eng, State.updEng_same]
  have hsrc : (t.eng e).source = .genImage := by rw [hte, hs]
  have hfall : (t.eng e).falling = false := by rw [hte, hf]
  have himg : (t.eng e).imgCrc = (s.eng e).imgCrc := by rw [hte]
  have hrun : s.engFault e pc cause = (t.engFall e 1).engStop e := by
    rw [ht] at hsrc ⊢
    exact if_neg fun hrom => absurd (hsrc.symm.trans hrom) (by decide)
  rw [hrun, State.engStop_of_ne _ he, State.engFall_of_expert 1 hsrc hfall, himg, ht]
  simp only [State.updEng_recorded, State.updEng_twice]
  rfl

end Sys2Proof.Machine
end

section
/-! O18: the forms that fault an engine (R204, R208, R209, R211, R223, R225). -/
namespace Sys2Proof.Machine

/-- The state u after an instruction of engine e faulted in s: the engine stopped, two records with their events, all else as in s. -/
def State.FaultOf (s : State) (e cause : Nat) (u : State) : Prop :=
  (u.eng e).faults = Nat.min 255 ((s.eng e).faults + 1) ∧ (u.eng e).running = false ∧ (u.eng e).stopped = true ∧
  (u.eng e).falling = true ∧ (u.eng e).regs = (s.eng e).regs ∧ (u.eng e).data = (s.eng e).data ∧
  u.gal.fifo = s.gal.fifo ++ [s.galEntry 0x0E42 [word e, word (s.eng e).pc, word cause],
    s.galEntry 0x0E44 [word e, 1#32, (s.eng e).imgCrc]] ∧
  u.evtBit pCODE 3 = true ∧ u.evtBit pCODE 2 = true ∧ (∀ k, k ≠ e → u.eng k = s.eng k) ∧
  { u with engs := s.engs, gal := s.gal, pages := s.pages } = s

/-- An expert program's instruction that faults has passed, and its fault names the word it started at. -/
def State.faultPast (s : State) (e ws n cause : Nat) : State := (s.setEng e ((s.eng e).past ws n)).engFault e (s.eng e).pc cause

section
variable {s : State} {e : Nat} (ws n cause : Nat) (hs : (s.eng e).source = .genImage) (hf : (s.eng e).falling = false) (he : e ≠ 13)
include hs hf he

theorem State.faultPast_of_expert : s.faultPast e ws n cause =
    ((s.recorded 0x0E42 [word e, word (s.eng e).pc, word cause] pCODE 3).recorded 0x0E44 [word e, 1#32, (s.eng e).imgCrc] pCODE 2).setEng e
      ((s.eng e).past ws n).faulted := by
  have heng : (s.updEng e (fun g => g.past ws n)).eng e = (s.eng e).past ws n := State.updEng_same _ _ _
  refine (State.engFault_of_expert (s := s.updEng e (fun g => g.past ws n)) _ cause ?_ ?_ he).trans ?_
  · rw [heng]
    exact hs
  · rw [heng]
    exact hf
  · rw [heng, State.updEng_recorded, State.updEng_recorded, State.updEng_twice, State.updEng, State.recorded_eng, State.recorded_eng]
    rfl

theorem State.faultOf_faultPast (hr : s.gal.fifo.length + 1 < 64) : s.FaultOf e cause (s.faultPast e ws n cause) := by
  rw [State.faultPast_of_expert ws n cause hs hf he]
  obtain ⟨t, ht⟩ : ∃ t, t = s.recorded 0x0E42 [word e, word (s.eng e).pc, word cause] pCODE 3 := ⟨_, rfl⟩
  have hfifo : t.gal.fifo = s.gal.fifo ++ [s.galEntry 0x0E42 [word e, word (s.eng e).pc, word cause]] :=
    ht ▸ State.recorded_fifo _ _ _ _ _ (Nat.lt_of_succ_lt hr)
  have hroom : t.gal.fifo.length < 64 := by
    rw [hfifo, List.length_append]
    exact hr
  have hevt : t.evtBit pCODE 3 = true := ht ▸ State.recorded_evtBit _ _ _ _ _ (by decide)
  rw [← ht]
  have heng := State.setEng_same (t.recorded 0x0E44 [word e, 1#32, (s.eng e).imgCrc] pCODE 2) e ((s.eng e).past ws n).faulted
  refine ⟨congrArg Eng.faults heng, congrArg Eng.running heng, congrArg Eng.stopped heng, congrArg Eng.falling heng,
    (congrArg Eng.regs heng :), (congrArg Eng.data heng :), ?_, State.recorded_evtBit_of_set _ _ _ _ _ (by decide) hevt,
    State.recorded_evtBit _ _ _ _ _ (by decide), fun k hk => ?_, ?_⟩
  · refine (State.recorded_fifo t _ _ pCODE 2 hroom).trans ?_
    rw [hfifo, ht, State.recorded_galEntry, List.append_assoc]
    rfl
  · refine (State.updEng_ne _ (fun _ => _) hk).trans ?_
    rw [State.recorded_eng, ht, State.recorded_eng]
  · have hframe := State.recorded_frame s 0x0E42 [word e, word (s.eng e).pc, word cause] pCODE 3
    rw [← ht] at hframe
    refine (congrArg (fun u : State => { u with engs := s.engs, gal := s.gal, pages := s.pages })
      (State.recorded_frame t 0x0E44 [word e, 1#32, (s.eng e).imgCrc] pCODE 2) :).trans ?_
    exact (congrArg (fun u : State => { u with engs := s.engs }) hframe :)

end

/-! ### Each form -/

theorem State.engRead_of_unmapped {s : State} {e a : Nat} (hm : (s.eng e).romWord a = false) (hd : dataWords e ≤ a)
    (ha : a < 0x1000 ∨ 0x20000 ≤ a) : s.engRead e a = none := by
  have hsys : (if e < 12 then 0x3020 else 0x3010) ≤ 0x3020 := by split <;> decide
  rw [State.engRead, if_neg (by simp [hm]), if_neg (by omega), if_neg (by omega), if_neg (by omega), if_neg (by omega), if_neg (by omega)]
theorem State.engWrite_of_unmapped (s : State) {e a : Nat} (v : Word) (hd : dataWords e ≤ a) (ha : a < 0x1000 ∨ 0x20000 ≤ a) :
    s.engWrite e a v = none := by
  rw [State.engWrite, if_neg (by omega), if_neg (by omega), if_neg (by omega), if_neg (by omega)]

section
variable {s : State} {e : Engine} (d a r : RegIx) (off : Option Half) (target : Half) (h : s.engCan e.val = true)
include h

theorem exec_clamp_of_illegal : exec (.clamp e d 15) s = .next (s.faultPast e.val 1 2 0) :=
  congrArg Host.Outcome.next ((State.insn_past _ _ _ h).trans (if_pos rfl))

theorem exec_ld_of_unmapped (hs : (s.eng e.val).source = .genImage) (hd : dataWords e.val ≤ (s.eng e.val).addr a off)
    (ha : (s.eng e.val).addr a off < 0x1000 ∨ 0x20000 ≤ (s.eng e.val).addr a off) :
    exec (.ld e d a off) s = .next (s.faultPast e.val (1 + offExt off) (ldUnits e.val ((s.eng e.val).addr a off) + offExt off) 1) := by
  refine congrArg Host.Outcome.next ((State.insn_past _ _ _ h).trans ?_)
  rw [State.engRead_of_unmapped _ hd ha]
  · rfl
  · rw [State.setEng_same, Eng.romWord, Eng.past, hs]
    rfl

theorem exec_st_of_unmapped (hd : dataWords e.val ≤ (s.eng e.val).addr a off)
    (ha : (s.eng e.val).addr a off < 0x1000 ∨ 0x20000 ≤ (s.eng e.val).addr a off) :
    exec (.st e d a off) s = .next (s.faultPast e.val (1 + offExt off) (2 + offExt off) 1) := by
  refine congrArg Host.Outcome.next ((State.insn_past _ _ _ h).trans ?_)
  rw [State.setEng_same, Eng.past_addr, State.engWrite_of_unmapped _ _ hd ha]
  rfl

theorem exec_ldc_of_unmapped (ha : constWords e.val ≤ (s.eng e.val).addr a off) :
    exec (.ldc e d a off) s = .next (s.faultPast e.val (1 + offExt off) (2 + offExt off) 1) := by
  refine congrArg Host.Outcome.next ((State.insn_past _ _ _ h).trans ?_)
  dsimp only
  rw [State.setEng_same, Eng.past_addr, if_neg (Nat.not_lt.mpr ha)]
  rfl

theorem exec_call_of_full (hr : (s.eng e.val).stack.length = 4) : exec (.call e target) s = .next (s.faultPast e.val 2 3 2) := by
  refine congrArg Host.Outcome.next ((State.insn_past _ _ _ h).trans ?_)
  rw [State.setEng_same, Eng.past_stack, if_pos (Nat.le_of_eq hr.symm)]
  rfl

theorem exec_ret_of_empty (hr : (s.eng e.val).stack = []) : exec (.ret e) s = .next (s.faultPast e.val 1 2 2) := by
  refine congrArg Host.Outcome.next ((State.insn_past _ _ _ h).trans ?_)
  rw [State.setEng_same, Eng.past_stack, hr]
  rfl

theorem exec_wait_of_nothing (hd : (s.eng e.val).reg d = 0#32) (hm : Nat.land target.toNat (engTriggers e.val) = 0) :
    exec (.wait e d target) s = .next (s.faultPast e.val 2 3 3) := by
  refine congrArg Host.Outcome.next ((State.insn_past _ _ _ h).trans ?_)
  dsimp only
  rw [State.setEng_same, Eng.past_reg, hd, if_pos ⟨hm, rfl⟩]
  rfl

/-- EMIT of the value of s_d to the slot that s_r holds. -/
theorem exec_emit_reg : exec (.emit e d (.reg r)) s = .next (
    if slotMax e.val < ((s.eng e.val).reg r).toNat then s.faultPast e.val 1 2 4
    else if e.val < 12 then
      (s.setEng e.val ((s.eng e.val).past 1 2)).emitChain e.val ((s.eng e.val).reg r).toNat ((s.eng e.val).reg d).toNat
    else if e.val = 12 then (s.setEng e.val ((s.eng e.val).past 1 2)).emitLimit ((s.eng e.val).reg r).toNat ((s.eng e.val).reg d).toNat
    else (s.setEng e.val ((s.eng e.val).past 1 2)).emitWake ((s.eng e.val).reg r).toNat ((s.eng e.val).reg d)) := by
  refine congrArg Host.Outcome.next ((State.insn_past _ _ _ h).trans ?_)
  simp only [State.setEng_same, Eng.past_opZ, Eng.past_reg]
  rfl

end

/-- Settles O18: every form ends in the fault of its cause, and that fault is the same of all. -/
theorem engineFaultsOfR225 : Obligations.EngineFaultsOfR225 := by
  intro e d a r off t s g h hs hf he hr faults
  have hfault : ∀ {c : Instr} {ws n cause : Nat}, exec c s = .next (s.faultPast e.val ws n cause) → faults c cause :=
    fun {_ ws n cause} hc => ⟨_, hc, State.faultOf_faultPast ws n cause hs hf he hr⟩
  refine ⟨hfault (exec_clamp_of_illegal d h),
    fun hd ha => ⟨hfault (exec_ld_of_unmapped d a off h hs hd ha), hfault (exec_st_of_unmapped d a off h hd ha)⟩,
    fun hc => hfault (exec_ldc_of_unmapped d a off h hc), fun hk => hfault (exec_call_of_full t h hk),
    fun hk => hfault (exec_ret_of_empty h hk), fun hd hm => hfault (exec_wait_of_nothing d t h hd hm), fun hk => ?_⟩
  exact hfault ((exec_emit_reg d r h).trans (congrArg Host.Outcome.next (if_pos hk)))

end Sys2Proof.Machine
end

section
/-! The bytes of a staged word, and a served command of the CODE page (R230, R232). -/
namespace Sys2Proof.Machine

/-- A stored word is four bytes, least significant first; every other byte stays. -/
theorem Memory.get_writeWord (m : Memory) (a k : Nat) (w : Word) :
    (m.writeWord a w).get k = if a ≤ k ∧ k < a + 4 then (w >>> (8 * (k - a))).setWidth 8 else m.get k := by
  simp only [Memory.writeWord, Memory.write, Memory.get_set]
  by_cases h : a ≤ k ∧ k < a + 4
  · obtain ⟨i, rfl⟩ := Nat.exists_eq_add_of_le h.1
    have hi : i < 4 := Nat.lt_of_add_lt_add_left h.2
    rw [if_pos h, Nat.add_sub_cancel_left]
    interval_cases i <;> simp [Nat.add_assoc]
  · rw [if_neg h, if_neg (by omega), if_neg (by omega), if_neg (by omega), if_neg (by omega)]

theorem pageClass_code : pageClass pCODE = .mgmt := by decide

section
variable {s : State} {o : Origin} (hr : s.mgmt.restarting = false) (hb : s.stwBarred o = false)
include hr hb

theorem exec_codeData_of_commission (v : Word) (hm : s.md = .commission) : exec (.codeData o v) s =
    .next (((({ s with code := { s.code with buf := s.code.buf.writeWord (s.fld pCODE 0x020 15 0) v } } : State).setReg pCODE 0x020
      (word ((s.fld pCODE 0x020 15 0 + 4) % 65536))).bumpCfg pCODE).answer o 0 []) := by
  have hdata : s.codeData v = .ok _ := if_neg fun hne => hne hm
  exact congrArg Host.Outcome.next ((congrArg (s.served o pCODE 0x024) hdata).trans (State.served_ok_of_mgmt _ _ pageClass_code hb hr))

theorem exec_load_of_refused {r w : Nat} (hm : s.md = .commission) (hu : s.unlockedFor o pCODE = true)
    (hv : verifyImage s.codeImage = some (r, w)) :
    exec (.load o) s = .next (((s.codeRefuse (leAt s.codeImage 4 1) r w).bumpCfg pCODE).answer o 0 []) := by
  have hload : s.codeLoad o = .ok (s.codeRefuse (leAt s.codeImage 4 1) r w) := by
    simp [State.codeLoad, hu, hm, hv]
  exact congrArg Host.Outcome.next ((congrArg (s.served o pCODE 0x008) hload).trans (State.served_ok_of_mgmt _ _ pageClass_code hb hr))

theorem exec_load_of_verified (hm : s.md = .commission) (hu : s.unlockedFor o pCODE = true) (hv : verifyImage s.codeImage = none)
    (hp : s.pair.hasPartner = false) : exec (.load o) s =
      .next ((({ s with code := { s.code with result := 1, reason := 0, errWord := 0, ready := some s.codeImage } } : State).bumpCfg
        pCODE).answer o 0 []) := by
  have hload : s.codeLoad o =
      .ok { s with code := { s.code with result := 1, reason := 0, errWord := 0, ready := some s.codeImage } } := by
    simp [State.codeLoad, hu, hm, hv, hp]
  exact congrArg Host.Outcome.next ((congrArg (s.served o pCODE 0x008) hload).trans (State.served_ok_of_mgmt _ _ pageClass_code hb hr))

end

theorem exec_partnerVerify_of_good {s : State} {l : List Byte} (hm : s.md = .commission) (hw : s.code.waiting = some l) :
    exec (.partnerVerify true) s = .next { s with code := { s.code with waiting := none, ready := some l } } := by
  have hexec : exec (.partnerVerify true) s = execPartnerVerify true s := rfl
  rw [hexec, execPartnerVerify]
  simp only [hw, hm, and_self, if_true]

end Sys2Proof.Machine
end

section
/-! O19: CODE.DATA, LOAD, CODE_ABORT and the partner's verdict (R230, R232). -/
namespace Sys2Proof.Machine

/-- Settles O19: each command by what the service does around it and the state it leaves. -/
theorem codePageCommands : Obligations.CodePageCommands := by
  intro o v s hm hr hb
  refine ⟨⟨_, exec_codeData_of_commission hr hb v hm, fun k => ?_, ?_, ?_, ?_⟩, fun r w => exec_load_of_refused hr hb hm,
    fun hu hv hp => ⟨_, exec_load_of_verified hr hb hm hu hv hp, rfl⟩,
    ⟨_, congrArg Host.Outcome.next (State.served_ok_of_mgmt _ _ pageClass_code hb hr), rfl⟩, fun l => exec_partnerVerify_of_good hm⟩
  · exact (congrArg (fun u : State => u.code.buf.get k) (State.answered_frame _ o pCODE 0 []) :).trans (Memory.get_writeWord _ _ k v)
  · refine (congrArg (fun u : State => (u.reg pCODE 0x020).toNat) (State.answered_frame _ o pCODE 0 []) :).trans ?_
    rw [State.setReg_reg]
    exact Nat.mod_eq_of_lt ((Nat.mod_lt _ (by decide)).trans (by decide))
  · rw [State.answer_page, State.bumpCfg_cfgseq]
    rfl
  · exact (congrArg (fun u : State => { u with code := { u.code with buf := s.code.buf }, regs := s.regs, pages := s.pages, out := s.out })
      (State.answered_frame _ o pCODE 0 []) :)

end Sys2Proof.Machine
end

section
/-! Ports of the sequencers: RECV, SEND and EMIT (R217 to R221, Table 08.8). -/
namespace Sys2Proof.Machine

theorem State.ranged_of_lt (s : State) {v n : Nat} (h : v < n) : s.ranged v n = (v, s) := if_pos h

/-- What RECV of port k of a group hands over, and the port after it: the oldest unread buffer, or none. -/
def RxPort.received (r : RxPort) (k : Nat) : Word × RxPort :=
  match r.unread with
  | i :: rest => (word (8 * k + i), { r with unread := rest, held := some i })
  | [] => (0xFFFFFFFF#32, { r with held := none })

theorem RxPort.received_of_unread {r : RxPort} {i : Nat} {rest : List Nat} (k : Nat) (h : r.unread = i :: rest) :
    r.received k = (word (8 * k + i), { r with unread := rest, held := some i }) := by
  cases r
  cases h
  rfl
theorem RxPort.received_of_read {r : RxPort} (k : Nat) (h : r.unread = []) :
    r.received k = (0xFFFFFFFF#32, { r with held := none }) := by
  cases r
  cases h
  rfl

section
variable {s : State} {e : Engine} (d a : RegIx) (h : s.engCan e.val = true) (he : e.val < 12)
include h he

theorem exec_recv_of_port {k : Nat} (hk : ((s.eng e.val).reg a).toNat = k) (hlt : k < 4) : exec (.recv e d a) s =
    .next ((s.setEng e.val (((s.eng e.val).past 1 2).setReg d ((s.rxp (4 * e.val + k)).received k).1)).setRxp (4 * e.val + k)
      ((s.rxp (4 * e.val + k)).received k).2) := by
  have hrx : ∀ g, (s.setEng e.val g).rxp (4 * e.val + k) = s.rxp (4 * e.val + k) := fun _ => rfl
  have hupd : ∀ x y f, ((s.setEng e.val x).setRxp (4 * e.val + k) y).updEng e.val f = (s.setEng e.val (f x)).setRxp (4 * e.val + k) y :=
    fun x y f => (congrArg (fun t : State => t.setRxp (4 * e.val + k) y) (State.setEng_updEng s e.val x f) :)
  refine congrArg Host.Outcome.next ((State.insn_past 1 2 _ h).trans ?_)
  dsimp only
  rw [if_neg (Nat.not_le.mpr he), State.setEng_same, Eng.past_reg, hk, State.ranged_of_lt _ hlt]
  dsimp only
  rw [hrx, RxPort.received]
  cases (s.rxp (4 * e.val + k)).unread with
  | nil => exact hupd _ _ _
  | cons b t => exact hupd _ _ _

/-- SEND hands the status of its buffer to the destination, and sends on status 0. -/
theorem exec_send_of_status {k n : Nat} (hk : ((s.eng e.val).reg a).toNat = k) (hlt : k < 16)
    (hn : (s.setEng e.val ((s.eng e.val).past 1 4)).sendStatus e.val (4 * e.val + k / 4) (k % 4) = n) : exec (.send e d a) s =
      .next (((s.setEng e.val ((s.eng e.val).past 1 4)).when (n == 0) (fun t => t.sendBuffer (4 * e.val + k / 4) (k % 4))).updEng e.val
        (fun g => g.setReg d (word n))) := by
  refine congrArg Host.Outcome.next ((State.insn_past 1 4 _ h).trans ?_)
  dsimp only
  rw [if_neg (Nat.not_le.mpr he), State.setEng_same, Eng.past_reg, hk, State.ranged_of_lt _ hlt]
  dsimp only
  rw [hn]

end

/-! ### The status of SEND and an ad hoc command (R217, Table 08.8) -/

section
variable {s : State} {p b : Nat}

theorem State.sendStatus_of_queued (e : Nat) (h : (s.txb (4 * p + b)).queued = true) : s.sendStatus e p b = 3 := if_pos h

theorem State.sendStatus_of_adhoc (e : Nat) (hq : (s.txb (4 * p + b)).queued = false)
    (hty : field (sget 0#32 (s.txb (4 * p + b)).words 0) 7 0 ∉ [0x01, 0x08, 0x0E])
    (hsc : field (sget 0#32 (s.txb (4 * p + b)).words 0) 24 24 = 0) (ha : s.active = true) : s.sendStatus e p b = 0 := by
  simp only [List.mem_cons, List.not_mem_nil, or_false, not_or] at hty
  obtain ⟨h1, h8, h14⟩ := hty
  have hstandby : s.standby = false := by
    unfold State.active at ha
    unfold State.standby
    cases hrole : s.pair.role <;> simp_all
  simp [State.sendStatus, hq, h1, h8, h14, hsc, hstandby]

/-- The buffer of an accepted ad hoc command: queued, with the next SEQ of its port's series (R87, R217). -/
def State.bufferTaken (s : State) (p b : Nat) : State :=
  ((s.updTxb (4 * p + b) (fun t => { t with queued := true })).takeSeq p).2.updTxb (4 * p + b)
    (fun t => { t with seq := (s.port (s.series p)).nextSeq })

theorem State.bufferTaken_txb (s : State) (p b : Nat) :
    (s.bufferTaken p b).txb (4 * p + b) = { s.txb (4 * p + b) with queued := true, seq := (s.port (s.series p)).nextSeq } := by
  have htake : ∀ t k, (State.takeSeq t p).2.txb k = t.txb k := fun _ _ => rfl
  rw [State.bufferTaken, State.updTxb_same, htake, State.updTxb_same]
theorem State.bufferTaken_nextSeq (s : State) (p b : Nat) :
    ((s.bufferTaken p b).port (s.series p)).nextSeq = (s.port (s.series p)).nextSeq + 1 :=
  congrArg PortSt.nextSeq (State.updPort_same s (s.series p) (fun t => { t with nextSeq := t.nextSeq + 1 }))

/-- The state without what sending from a TX buffer changes: the buffers, the ports, the Stairwell's trace and the outputs. -/
def State.besideSending (s : State) : State := { s with txs := [], ports := [], stw := {}, out := [] }

theorem State.updTxb_besideSending (s : State) (k : Nat) (f : TxChain → TxChain) : (s.updTxb k f).besideSending = s.besideSending := rfl
theorem State.updPort_besideSending (s : State) (k : Nat) (f : PortSt → PortSt) : (s.updPort k f).besideSending = s.besideSending := rfl
theorem State.takeSeq_besideSending (s : State) (p : Nat) : (s.takeSeq p).2.besideSending = s.besideSending := rfl
theorem State.bufferTaken_besideSending (s : State) (p b : Nat) : (s.bufferTaken p b).besideSending = s.besideSending := by
  rw [State.bufferTaken, State.updTxb_besideSending, State.takeSeq_besideSending, State.updTxb_besideSending]

/-- Sending a frame, where the device may, is an output. -/
theorem State.mayChainOut_frame (s : State) (c : Bool) (p : Nat) (f : ChainFrame) :
    { s.when c (fun t => t.chainOut p f) with out := s.out, stw := s.stw } = s :=
  State.when_keeps (fun u : State => { u with out := s.out, stw := s.stw }) s c _ (State.chainOut_frame s p f)

/-- An accepted ad hoc command is sent; an addressed one then waits for its response. -/
theorem State.sendBuffer_of_adhoc (hty : field (sget 0#32 (s.txb (4 * p + b)).words 0) 7 0 ≠ 1)
    (hsc : field (sget 0#32 (s.txb (4 * p + b)).words 0) 24 24 = 0) :
    (∃ c f, s.sendBuffer p b = (s.bufferTaken p b).when c (fun t => t.chainOut p f)) ∨
    ∃ c f i, s.sendBuffer p b =
      ((s.bufferTaken p b).when c (fun t => t.chainOut p f)).updPort p (fun t => { t with inFlight := t.inFlight ++ [i] }) := by
  have hnot : ¬ field (sget 0#32 (s.txb (4 * p + b)).words 0) 24 24 = 1 := by rw [hsc]; decide
  unfold State.sendBuffer
  simp only [if_neg hty, if_neg hnot]
  split
  · exact .inl ⟨_, _, rfl⟩
  · exact .inr ⟨_, _, _, rfl⟩

/-- What an ad hoc command leaves of the buffer, of the SEQ series and of everything else. -/
theorem State.sendBuffer_facts (hty : field (sget 0#32 (s.txb (4 * p + b)).words 0) 7 0 ≠ 1)
    (hsc : field (sget 0#32 (s.txb (4 * p + b)).words 0) 24 24 = 0) :
    (s.sendBuffer p b).txb (4 * p + b) = { s.txb (4 * p + b) with queued := true, seq := (s.port (s.series p)).nextSeq } ∧
    ((s.sendBuffer p b).port (s.series p)).nextSeq = (s.port (s.series p)).nextSeq + 1 ∧
    (s.sendBuffer p b).besideSending = s.besideSending := by
  have hout : ∀ (t : State) c f, (t.when c (fun t => t.chainOut p f)).besideSending = t.besideSending := fun t c f =>
    (congrArg State.besideSending (State.mayChainOut_frame t c p f) :)
  have htxb : ∀ (t : State) c f k, (t.when c (fun t => t.chainOut p f)).txb k = t.txb k := fun t c f k =>
    (congrArg (fun u : State => u.txb k) (State.mayChainOut_frame t c p f) :)
  have hport : ∀ (t : State) c f k, (t.when c (fun t => t.chainOut p f)).port k = t.port k := fun t c f k =>
    (congrArg (fun u : State => u.port k) (State.mayChainOut_frame t c p f) :)
  rcases State.sendBuffer_of_adhoc hty hsc with ⟨c, f, hs⟩ | ⟨c, f, i, hs⟩
  · rw [hs, htxb, hport, hout]
    exact ⟨s.bufferTaken_txb p b, s.bufferTaken_nextSeq p b, s.bufferTaken_besideSending p b⟩
  · rw [hs, State.updPort_besideSending, hout]
    refine ⟨(htxb _ _ _ _).trans (s.bufferTaken_txb p b), ?_, s.bufferTaken_besideSending p b⟩
    refine (State.updPort_keeps PortSt.nextSeq _ p _ _ fun _ => ?_).trans ?_
    · rfl
    · rw [hport, State.bufferTaken_nextSeq]

end

end Sys2Proof.Machine
end

section
/-! The trigger of an engine: what it leaves beside the engines, and what it does to a running program (R213, R214). -/
namespace Sys2Proof.Machine

/-- The state without what a trigger of an engine below 13 can change: the engines, the records, the events and the landing. -/
def State.besideTrigger (s : State) : State := { s with engs := [], gal := {}, pages := [], land := {} }

theorem State.updEng_besideTrigger (s : State) (e : Nat) (f : Eng → Eng) : (s.updEng e f).besideTrigger = s.besideTrigger := rfl
theorem State.log_besideTrigger (s : State) (typ : Nat) (pl : List Word) : (s.log typ pl).besideTrigger = s.besideTrigger :=
  (congrArg State.besideTrigger (State.log_frame s typ pl) :)
theorem State.raise_besideTrigger (s : State) (pg n : Nat) : (s.raise pg n).besideTrigger = s.besideTrigger := rfl
theorem State.wakeL2_besideTrigger (s : State) : s.wakeL2.besideTrigger = s.besideTrigger :=
  (congrArg State.besideTrigger s.wakeL2_frame :)

theorem State.engInstall_besideTrigger (s : State) (e : Nat) : (s.engInstall e).besideTrigger = s.besideTrigger := by
  unfold State.engInstall
  repeat' split
  all_goals simp only [State.updEng_besideTrigger, State.raise_besideTrigger, State.log_besideTrigger]
theorem State.engResume_besideTrigger (s : State) (e : Nat) : (s.engResume e).besideTrigger = s.besideTrigger := by
  unfold State.engResume
  dsimp only
  repeat' split
  all_goals rfl

/-- Serving the triggers of an engine below 13 changes that engine alone: an engine with a full program runs no ROM. -/
theorem engServe_besideTrigger {e : Nat} (he : e ≠ 13) (n : Nat) (s : State) : (engServe e n s).besideTrigger = s.besideTrigger := by
  induction n generalizing s with
  | zero => rfl
  | succ n ih =>
    rw [engServe]
    split
    · rfl
    · next hrun =>
      split
      · rfl
      · next b hb =>
        have hsrc : ((s.updEng e (fun g => g.take b)).eng e).source = (s.eng e).source := by
          rw [State.updEng_same]
          exact Eng.take_source _ _
        have hrom : ¬ ((s.updEng e (fun g => g.take b)).eng e).source = .rom := fun h => by
          rw [hsrc] at h
          simp [h] at hrun
        simp only [if_neg hrom, apply_ite State.besideTrigger, ih, State.updEng_besideTrigger, ite_self]

theorem State.engTrigger_besideTrigger {e : Nat} (he : e < 13) (s : State) (b : Nat) :
    (s.engTrigger e b).besideTrigger = s.besideTrigger := by
  have hne : e ≠ 13 := Nat.ne_of_lt he
  have hinstall := (State.engInstall_besideTrigger s.wakeL2 e).trans s.wakeL2_besideTrigger
  simp only [State.engTrigger, if_pos he, hne, false_and, if_false, apply_ite State.besideTrigger, State.engResume_besideTrigger,
    engServe_besideTrigger hne, State.updEng_besideTrigger, hinstall, ite_self]

theorem State.engTrigger_txb {e : Nat} (he : e < 13) (s : State) (b k : Nat) : (s.engTrigger e b).txb k = s.txb k :=
  (congrArg (fun u : State => u.txb k) (State.engTrigger_besideTrigger he s b) :)

theorem State.engResume_of_awake {s : State} {e : Nat} (hw : (s.eng e).wait = none) : s.engResume e = s := by
  simp only [State.engResume, hw]

/-- A trigger of a running expert program waits until it is served; EPOCH and DATA triggers apart, it is no lateness. -/
theorem State.engTrigger_of_running {s : State} {e b : Nat} (he : e < 13) (hl : s.land.landing ≠ 2) (hr : (s.eng e).running = true)
    (hw : (s.eng e).wait = none) (hs : (s.eng e).source = .genImage) (h0 : b ≠ 0) (h4 : b ≠ 4) : s.engTrigger e b =
      s.updEng e (fun g => { g with
        trig := g.trig ||| trigMask b, merged := if g.trig.getLsbD b then Nat.min 255 (g.merged + 1) else g.merged }) := by
  have hne : e ≠ 13 := Nat.ne_of_lt he
  have hinstall : s.engInstall e = s := if_pos hr
  have hrom : (s.eng e).inRom = false := by
    rw [Eng.inRom, hs]
    rfl
  have hb : (b == 0 || b == 4) = false := by simp [h0, h4]
  simp only [State.engTrigger, if_pos he, State.wakeL2_of_awake hl, hinstall, hne, false_and, if_false, hrom, Bool.false_eq_true, hr,
    if_true, hw]
  simp only [hb, Bool.false_and, Bool.or_false]
  exact State.engResume_of_awake ((congrArg Eng.wait (State.updEng_same _ _ _)).trans hw)

end Sys2Proof.Machine
end

section
/-! O17: the port and event instructions, and the events of the engines (R207, R212, R213, R215, R217 to R222). -/
namespace Sys2Proof.Machine

/-! ### SEND and EMIT -/

section
variable {s : State} {e : Engine} (d a r : RegIx) (h : s.engCan e.val = true)
include h

theorem exec_send_of_queued {k : Nat} (he : e.val < 12) (hk : ((s.eng e.val).reg a).toNat = k) (hlt : k < 16)
    (hq : (s.txb (16 * e.val + k)).queued = true) :
    exec (.send e d a) s = .next (s.setEng e.val (((s.eng e.val).past 1 4).setReg d 3#32)) := by
  have hix : 4 * (4 * e.val + k / 4) + k % 4 = 16 * e.val + k := by omega
  refine (exec_send_of_status d a h he hk hlt (State.sendStatus_of_queued _ ?_)).trans ?_
  · rw [hix]
    exact hq
  · exact congrArg Host.Outcome.next (State.setEng_updEng _ _ _ _)

/-- An accepted ad hoc command: the state of its sending, with 0 in the destination. -/
theorem exec_send_of_adhoc {k : Nat} (he : e.val < 12) (hk : ((s.eng e.val).reg a).toNat = k) (hlt : k < 16)
    (hq : (s.txb (16 * e.val + k)).queued = false)
    (hty : field (sget 0#32 (s.txb (16 * e.val + k)).words 0) 7 0 ∉ [0x01, 0x08, 0x0E])
    (hsc : field (sget 0#32 (s.txb (16 * e.val + k)).words 0) 24 24 = 0) (ha : s.active = true) :
    ∃ t, exec (.send e d a) s = .next t ∧ (t.txb (16 * e.val + k)).queued = true ∧
      (t.txb (16 * e.val + k)).seq = (s.port (s.series (4 * e.val + k / 4))).nextSeq ∧
      (t.port (s.series (4 * e.val + k / 4))).nextSeq = (s.port (s.series (4 * e.val + k / 4))).nextSeq + 1 ∧
      t.eng e.val = ((s.eng e.val).past 1 4).setReg d 0#32 ∧
      { t with engs := s.engs, txs := s.txs, ports := s.ports, stw := s.stw, out := s.out } = s := by
  have hix : 4 * (4 * e.val + k / 4) + k % 4 = 16 * e.val + k := by omega
  have hne : field (sget 0#32 (s.txb (16 * e.val + k)).words 0) 7 0 ≠ 1 := fun h1 => hty (h1 ▸ List.mem_cons_self)
  rw [← hix] at hq hty hsc hne
  have hstatus := State.sendStatus_of_adhoc (s := s.setEng e.val ((s.eng e.val).past 1 4)) e.val hq hty hsc ha
  obtain ⟨htxb, hseq, hbeside⟩ := State.sendBuffer_facts (s := s.setEng e.val ((s.eng e.val).past 1 4)) hne hsc
  refine ⟨_, exec_send_of_status d a h he hk hlt hstatus, ?_, ?_, hseq, ?_, ?_⟩
  · rw [← hix]
    exact congrArg TxChain.queued htxb
  · rw [← hix]
    exact congrArg TxChain.seq htxb
  · refine (State.updEng_same _ _ _).trans (congrArg (fun g : Eng => g.setReg d 0#32) ?_)
    exact (congrArg (fun u : State => u.eng e.val) hbeside :).trans (State.setEng_same _ _ _)
  · exact (congrArg (fun u : State => { u with engs := s.engs, txs := s.txs, ports := s.ports, stw := s.stw, out := s.out }) hbeside :)

theorem exec_emit_of_limit (he : e.val = 12) (hk : ((s.eng e.val).reg r).toNat ≤ 195) : exec (.emit e d (.reg r)) s =
    .next ((s.setEng e.val ((s.eng e.val).past 1 2)).emitLimit ((s.eng e.val).reg r).toNat ((s.eng e.val).reg d).toNat) := by
  have hmax : slotMax e.val = 195 := by rw [he]; rfl
  rw [exec_emit_reg d r h, hmax, if_neg (Nat.not_lt.mpr hk), if_neg (by omega), if_pos he]

theorem exec_emit_of_wakePayload (he : e.val = 13) (hk : ((s.eng e.val).reg r).toNat = 2) : exec (.emit e d (.reg r)) s =
    .next { s.setEng e.val ((s.eng e.val).past 1 2) with land := { s.land with wakePayload := (s.eng e.val).reg d } } := by
  have hmax : slotMax e.val = 2 := by rw [he]; rfl
  rw [exec_emit_reg d r h, hmax, hk, if_neg (by decide), if_neg (by omega), if_neg (by omega)]
  rfl

/-- A frame of another TYPE than its slot's is counted at its port. -/
theorem exec_emit_of_mismatch (he : e.val < 12) (hk : ((s.eng e.val).reg r).toNat ≤ 7) (hv : ((s.eng e.val).reg d).toNat < 32)
    (hty : (rxFrame (sget [] (s.rxp (4 * e.val + ((s.eng e.val).reg d).toNat / 8)).bufs (((s.eng e.val).reg d).toNat % 8))).typ ≠
      slotType ((s.eng e.val).reg r).toNat) : exec (.emit e d (.reg r)) s =
    .next ((s.setEng e.val ((s.eng e.val).past 1 2)).updPort (4 * e.val + ((s.eng e.val).reg d).toNat / 8)
      (fun t => { t with emitMismatch := t.emitMismatch + 1 })) := by
  have hmax : slotMax e.val = 7 := if_pos he
  rw [exec_emit_reg d r h, hmax, if_neg (Nat.not_lt.mpr hk), if_pos he, State.emitChain, State.ranged_of_lt _ hv]
  exact congrArg Host.Outcome.next (if_neg hty)

end

/-! ### The events of the engines -/

/-- A TX buffer that is free again, with the end of its HCRC in word 61 (R217). -/
def TxChain.sentAt (x : TxChain) (t : Nat) : TxChain := { x with queued := false, words := sset 0#32 x.words 61 (lo32 t) }

/-- The last bit of a queued buffer frees it and triggers its engine. -/
theorem exec_txdone_of_queued {s : State} {p : Port} {b : Fin 4} (h : (s.txb (4 * p.val + b.val)).queued = true) : exec (.txdone p b) s =
    .next ((s.updTxb (4 * p.val + b.val) (fun x =>
      x.sentAt (s.now - afterHcrc (field (sget 0#32 (s.txb (4 * p.val + b.val)).words 0) 31 25)))).engTrigger (p.val / 4) 3) := if_pos h

theorem exec_waitTimeout_of_deadline {s : State} {e : Engine} {m t : Nat} {d : RegIx} (h : (s.eng e.val).wait = some ⟨m, some t, d⟩) :
    exec (.waitTimeout e) s = .next ((s.reach t).setEng e.val { (s.eng e.val).setReg d 0xFF#32 with wait := none }) := by
  have hexec : exec (.waitTimeout e) s = execWaitTimeout e s := rfl
  rw [hexec, execWaitTimeout, h]
  rfl

theorem exec_engineTimer_of_running {s : State} {e : Engine} {t : Nat} (ht : (s.eng e.val).timer = some t) (he : e.val ≠ 13)
    (hl : s.land.landing ≠ 2) (hr : (s.eng e.val).running = true) (hw : (s.eng e.val).wait = none)
    (hs : (s.eng e.val).source = .genImage) : exec (.engineTimer e) s = .next ((s.reach t).setEng e.val { s.eng e.val with
      timer := none, trig := (s.eng e.val).trig ||| 4#6
      merged := if (s.eng e.val).trig.getLsbD 2 then Nat.min 255 ((s.eng e.val).merged + 1) else (s.eng e.val).merged }) := by
  have hlt : e.val < 13 := by omega
  have hexec : exec (.engineTimer e) s = execEngineTimer e s := rfl
  have heng := State.updEng_same (s.reach t) e.val (fun g => { g with timer := none })
  rw [hexec, execEngineTimer, ht]
  dsimp only
  rw [if_neg fun hx => he (congrArg Fin.val hx.1), State.engTrigger_of_running hlt (by exact hl) ((congrArg Eng.running heng).trans hr)
    ((congrArg Eng.wait heng).trans hw) ((congrArg Eng.source heng).trans hs) (by decide) (by decide), State.updEng_twice]
  rfl

/-- A running program without units left, before its third such window in a row, stops for the rest of the window. -/
theorem exec_budgetOut_of_running {s : State} {e : Engine} (hr : (s.eng e.val).running = true) (hst : (s.eng e.val).stopped = false)
    (ho : (s.eng e.val).outRun < 2) (hb : s.budget e.val ≤ (s.eng e.val).units) (he : e.val ≠ 13) : exec (.budgetOut e) s =
      .next ((s.recorded 0x0E43 [word e.val, s.time.epoch, word (s.eng e.val).pc] pCODE 1).setEng e.val { s.eng e.val with
        out := true, outRun := (s.eng e.val).outRun + 1, running := false, wait := none, stopped := true, ext := 4 }) := by
  have hnot : ¬ ((s.eng e.val).stopped = true ∨ (!((s.eng e.val).source == .rom || (s.eng e.val).source == .romExt) &&
      !((s.eng e.val).running && decide (s.budget e.val ≤ (s.eng e.val).units))) = true) := by
    simp [hst, hr, hb]
  obtain ⟨t, ht⟩ : ∃ t, t = (s.updEng e.val (fun g => { g with out := true, outRun := g.outRun + 1 })).recorded 0x0E43
    [word e.val, s.time.epoch, word (s.eng e.val).pc] pCODE 1 := ⟨_, rfl⟩
  have hthird : decide (3 ≤ (t.eng e.val).outRun) = false := by
    rw [ht, State.recorded_eng, State.updEng_same]
    exact decide_eq_false (Nat.not_le.mpr (Nat.succ_lt_succ ho))
  have hgo : exec (.budgetOut e) s =
      .next ((t.when (decide (3 ≤ (t.eng e.val).outRun)) (fun s => s.engFall e.val 0)).engStop e.val) := by
    rw [ht]
    exact if_neg hnot
  rw [hgo, hthird, State.when_false, State.engStop_of_ne _ he, ht, State.updEng_recorded, State.updEng_twice, State.updEng,
    State.recorded_eng]

/-- Settles O17: the instructions by their engine and their operands, the events by the state of their buffer or engine. -/
theorem enginePortAndEventInstructions : Obligations.EnginePortAndEventInstructions := by
  refine ⟨fun e d a r p b s => ⟨?_, ?_, ?_, ?_, ?_, ?_, ?_, fun hq => ?_⟩, fun e s => ⟨?_, ?_, ?_⟩⟩
  · intro h he hk i rest hu
    rw [exec_recv_of_port d a h he rfl hk, RxPort.received_of_unread _ hu, Eng.past_setReg]
    rfl
  · intro h he hk hu
    rw [exec_recv_of_port d a h he rfl hk, RxPort.received_of_read _ hu, Eng.past_setReg]
  · intro h he hk hq
    rw [exec_send_of_queued d a h he rfl hk hq, Eng.past_setReg]
  · intro h he hk hq hty hsc ha
    have hsent := exec_send_of_adhoc d a h he rfl hk hq hty hsc ha
    rw [Eng.past_setReg] at hsent
    exact hsent
  · intro h he hk
    rw [exec_emit_of_limit d r h he hk]
    rfl
  · exact exec_emit_of_wakePayload d r
  · exact exec_emit_of_mismatch d r
  · have he : p.val / 4 < 13 := by omega
    have hbeside := State.engTrigger_besideTrigger he (s.updTxb (4 * p.val + b.val) (fun x =>
      x.sentAt (s.now - afterHcrc (field (sget 0#32 (s.txb (4 * p.val + b.val)).words 0) 31 25)))) 3
    refine ⟨_, exec_txdone_of_queued hq, ?_, ?_, fun y hy => ?_, (congrArg State.rxs hbeside :), (congrArg State.slots hbeside :)⟩
    · rw [State.engTrigger_txb he, State.updTxb_same]
      rfl
    · rw [State.engTrigger_txb he, State.updTxb_same]
      exact sget_sset_same _ _ _ _
    · rw [State.engTrigger_txb he, State.updTxb_ne _ _ hy]
  · exact fun m t d => exec_waitTimeout_of_deadline
  · exact fun t => exec_engineTimer_of_running
  · intro hr hst _ _ ho hb he hroom
    refine ⟨_, exec_budgetOut_of_running hr hst ho hb he, State.setEng_same _ _ _, State.recorded_fifo _ _ _ pCODE 1 hroom,
      State.recorded_evtBit _ _ _ _ _ (by decide), ?_⟩
    exact (congrArg (fun u : State => { u with engs := s.engs }) (State.recorded_frame s _ _ _ _) :)

end Sys2Proof.Machine
end

section
/-! Readings of two states that agree in a view: the views below blank the fields an operation may change. -/
namespace Sys2Proof.Machine

/-- What can be read off a view is equal in states with equal views. -/
theorem State.reads_eq {β : Type} {v : State → State} {s t : State} (h : v t = v s) (p : State → β)
    (hp : ∀ u, p (v u) = p u := by intro u; rfl) : p t = p s := by
  rw [← hp t, h, hp]

end Sys2Proof.Machine
end

section
/-! An opening of contactors (R254, R257, R265): what its records and its OPEN change, and what they leave. -/
namespace Sys2Proof.Machine

/-- The state without what the record of an opening and its wear change. -/
def State.besideWear (s : State) : State := { s with pages := [], gal := {}, coils := [] }

/-- The state without what an opening of a string changes. -/
def State.besideOpening (s : State) : State := { s with out := [], pages := [], gal := {}, waits := [], strs := [], coils := [] }

theorem State.besideOpening_of_besideWear {s t : State} (h : t.besideWear = s.besideWear) : t.besideOpening = s.besideOpening :=
  State.reads_eq h State.besideOpening

theorem State.log_besideWear (s : State) (typ : Nat) (pl : List Word) : (s.log typ pl).besideWear = s.besideWear :=
  (congrArg State.besideWear (State.log_frame s typ pl) :)
theorem State.raise_besideWear (s : State) (pg n : Nat) : (s.raise pg n).besideWear = s.besideWear := rfl

theorem State.wearUnderLoad_besideWear (s : State) (a c : Nat) : (s.wearUnderLoad a c).besideWear = s.besideWear := by
  have hcoil : ∀ f, (s.updCoil c f).besideWear = s.besideWear := fun _ => rfl
  simp only [State.wearUnderLoad, State.wearCheck, State.logN, apply_ite State.besideWear, State.raise_besideWear, State.log_besideWear,
    hcoil, ite_self]

theorem State.recordOpening_besideWear (s : State) (x : Nat) (o : DiscOrigin) (i : Option Int) (w : Nat) (cs : List Nat) :
    (s.recordOpening x o i w cs).besideWear = s.besideWear := by
  simp only [State.recordOpening, apply_ite State.besideWear, State.raise_besideWear, State.log_besideWear,
    foldS_keeps State.besideWear, State.wearUnderLoad_besideWear, implies_true, ite_self]

/-- Only the channels that open wear. -/
theorem State.wearUnderLoad_coil_ne (s : State) (a : Nat) {c k : Nat} (h : k ≠ c) : (s.wearUnderLoad a c).coil k = s.coil k := by
  unfold State.wearUnderLoad
  rw [State.coil, State.wearCheck_coils]
  exact State.updCoil_ne s _ h

theorem State.recordOpening_coil_of_not_mem (s : State) (x : Nat) (o : DiscOrigin) (i : Option Int) (w : Nat) {cs : List Nat} {k : Nat}
    (h : k ∉ cs) : (s.recordOpening x o i w cs).coil k = s.coil k := by
  have hwear : ∀ a, (foldS cs (fun t c => t.wearUnderLoad a c) s).coil k = s.coil k := fun a =>
    foldS_keeps_prop (P := fun t => t.coil k = s.coil k) rfl fun t ht c hc =>
      (State.wearUnderLoad_coil_ne t a (ne_of_mem_of_not_mem hc h).symm).trans ht
  have hrec : ∀ (t : State) (typ : Nat) (pl : List Word), (t.log typ pl).coil k = t.coil k := fun t typ pl => by
    rw [State.coil, State.log_coils]
    rfl
  unfold State.recordOpening
  extract_lets under
  split
  · exact (hrec _ _ _).trans (hwear _)
  · exact hrec _ _ _

/-- A channel whose OPEN was commanded at t. -/
def CoilSt.openedOn (k : CoilSt) (t : Nat) : CoilSt :=
  { k with closeSeq := none, openedAt := some t, closedAt := none, openFail := false, auxSuspended := false }

/-- The state without what OPEN to contactors changes. -/
def State.besideContactors (s : State) : State := { s with out := [], coils := [] }

theorem State.besideOpening_of_besideContactors {s t : State} (h : t.besideContactors = s.besideContactors) :
    t.besideOpening = s.besideOpening := State.reads_eq h State.besideOpening

theorem State.urgent_besideContactors (s : State) (cs : List Nat) : (s.urgent cs).besideContactors = s.besideContactors := by
  unfold State.urgent
  split
  · rfl
  · exact foldS_keeps State.besideContactors _ _ s (by intros; rfl)

theorem State.urgent_coils (s : State) (cs : List Nat) : (s.urgent cs).coils = s.coils := by
  unfold State.urgent
  split
  · rfl
  · exact foldS_keeps State.coils _ _ s (by intros; rfl)

theorem State.openChans_besideContactors (s : State) (cs : List Nat) : (s.openChans cs).besideContactors = s.besideContactors :=
  (foldS_keeps State.besideContactors cs _ (s.urgent cs) (by intros; rfl)).trans (State.urgent_besideContactors s cs)

theorem foldS_openedOn_coil (l : List Nat) (s : State) (c : Nat) :
    (foldS l (fun t k => t.updCoil k (fun x => x.openedOn t.now)) s).coil c = if c ∈ l then (s.coil c).openedOn s.now else s.coil c := by
  induction l generalizing s with
  | nil => rfl
  | cons k l ih =>
    have hnow : (s.updCoil k (fun x => x.openedOn s.now)).now = s.now := rfl
    rw [foldS_cons, ih, hnow]
    by_cases hk : c = k
    · subst hk
      rw [State.updCoil_same, if_pos List.mem_cons_self]
      exact ite_self _
    · rw [State.updCoil_ne _ _ hk]
      simp only [List.mem_cons, hk, false_or]

/-- Every channel named is OPEN from now on, every other is as it was. -/
theorem State.openChans_coil (s : State) (cs : List Nat) (c : Nat) :
    (s.openChans cs).coil c = if c ∈ cs then (s.coil c).openedOn s.now else s.coil c := by
  have hcoil : (s.urgent cs).coil c = s.coil c := congrArg (fun l => sget ({} : CoilSt) l c) (State.urgent_coils s cs)
  have hnow : (s.urgent cs).now = s.now := State.reads_eq (State.urgent_besideContactors s cs) State.now
  rw [← hcoil, ← hnow]
  exact foldS_openedOn_coil cs (s.urgent cs) c

theorem State.openNow_besideOpening (s : State) (x : Nat) (o : DiscOrigin) (i : Option Int) :
    (s.openNow x o i).besideOpening = s.besideOpening := by
  have hopen : ∀ (t : State) (cs : List Nat), (t.openChans cs).besideOpening = t.besideOpening := fun t cs =>
    State.besideOpening_of_besideContactors (State.openChans_besideContactors t cs)
  have hstring : ∀ (t : State) (w : WaitSt) (f : StrSt → StrSt), ((t.setWaitOf x w).updStr x f).besideOpening = t.besideOpening :=
    fun _ _ _ => rfl
  unfold State.openNow
  dsimp only
  rw [hstring, hopen, State.besideOpening_of_besideWear (State.recordOpening_besideWear _ _ _ _ _ _)]

theorem State.setWaitOf_ne (s : State) {k j : Nat} (w : WaitSt) (h : j ≠ k) : (s.setWaitOf k w).waitOf j = s.waitOf j :=
  sget_sset_ne _ _ _ h
theorem State.updStr_waitOf (s : State) (x : Nat) (f : StrSt → StrSt) (y : Nat) : (s.updStr x f).waitOf y = s.waitOf y := rfl

theorem State.openNow_waitOf_same (s : State) (x : Nat) (o : DiscOrigin) (i : Option Int) : (s.openNow x o i).waitOf x = {} := by
  unfold State.openNow
  dsimp only
  rw [State.updStr_waitOf, State.setWaitOf_same]

theorem State.openNow_st (s : State) (x : Nat) (o : DiscOrigin) (i : Option Int) : ((s.openNow x o i).str x).st = .opening := by
  unfold State.openNow
  dsimp only
  rw [State.updStr_same]

/-- The waits and the strings before the opened string's own are written. -/
theorem State.recordedOpening_strs_waits (s : State) (x : Nat) (o : DiscOrigin) (i : Option Int) (w : Nat) (cs ds : List Nat) :
    ((s.recordOpening x o i w cs).openChans ds).strs = s.strs ∧ ((s.recordOpening x o i w cs).openChans ds).waits = s.waits :=
  have hopen := State.openChans_besideContactors (s.recordOpening x o i w cs) ds
  have hrec := State.recordOpening_besideWear s x o i w cs
  ⟨(State.reads_eq hopen State.strs).trans (State.reads_eq hrec State.strs),
    (State.reads_eq hopen State.waits).trans (State.reads_eq hrec State.waits)⟩

theorem State.openNow_str_ne (s : State) {x y : Nat} (o : DiscOrigin) (i : Option Int) (h : y ≠ x) : (s.openNow x o i).str y = s.str y := by
  unfold State.openNow
  dsimp only
  rw [State.updStr_ne _ _ h]
  exact congrArg (fun l => sget ({} : StrSt) l y) (State.recordedOpening_strs_waits s x o i _ _ _).1

theorem State.openNow_waitOf_ne (s : State) {x y : Nat} (o : DiscOrigin) (i : Option Int) (h : y ≠ x) :
    (s.openNow x o i).waitOf y = s.waitOf y := by
  unfold State.openNow
  dsimp only
  rw [State.updStr_waitOf, State.setWaitOf_ne _ _ h]
  exact congrArg (fun l => sget ({} : WaitSt) l y) (State.recordedOpening_strs_waits s x o i _ _ _).2

theorem State.openNow_coil_of_mem (s : State) {x c : Nat} (o : DiscOrigin) (i : Option Int) (h : c ∈ s.chansOf x) :
    ((s.openNow x o i).coil c).closeSeq = none ∧ ((s.openNow x o i).coil c).openedAt = some s.now := by
  have hcoil : (s.openNow x o i).coil c = _ := State.openChans_coil _ (s.chansOf x) c
  rw [hcoil, if_pos h]
  exact ⟨rfl, congrArg some (State.reads_eq (State.recordOpening_besideWear s x o i _ _) State.now)⟩

theorem State.openNow_coil_of_not_mem (s : State) {x c : Nat} (o : DiscOrigin) (i : Option Int) (h : c ∉ s.chansOf x) :
    (s.openNow x o i).coil c = s.coil c := by
  have hcoil : (s.openNow x o i).coil c = _ := State.openChans_coil _ (s.chansOf x) c
  rw [hcoil, if_neg h]
  exact State.recordOpening_coil_of_not_mem s x o i _ fun hc => h (List.mem_filter.mp hc).1

end Sys2Proof.Machine
end

section
/-! DisconnectOpensTheString (R253 to R257, R265). -/
namespace Sys2Proof.Machine

theorem exec_breakSafeOpen (x : Str) (i j : Int) (s : State) : exec (.breakSafeOpen x i j) s = execBreakSafeOpen x i j s := rfl
theorem exec_disconnectDeadline (x : Str) (i : Int) (s : State) : exec (.disconnectDeadline x i) s = execDisconnectDeadline x i s := rfl
theorem exec_brkWaitOpen (x : Str) (i : Int) (s : State) : exec (.brkWaitOpen x i) s = execBrkWaitOpen x i s := rfl

/-- t is s with string x opened at `now`: no CLOSE is assigned to its contactors, its wait is over, and nothing else of the section
has changed. -/
def State.Opens (s t : State) (x now : Nat) : Prop :=
  t.now = now ∧ (t.str x).st = .opening ∧ t.waitOf x = {} ∧
    (∀ k ∈ s.chansOf x, (t.coil k).closeSeq = none ∧ (t.coil k).openedAt = some now) ∧
    (∀ k, k ∉ s.chansOf x → t.coil k = s.coil k) ∧
    (∀ y, y ≠ x → t.str y = s.str y ∧ t.waitOf y = s.waitOf y) ∧ t.mode = s.mode ∧ t.prot = s.prot ∧ t.regs = s.regs

theorem State.openNow_opens (s : State) (x : Nat) (o : DiscOrigin) (i : Option Int) : s.Opens (s.openNow x o i) x s.now :=
  have hbeside := State.openNow_besideOpening s x o i
  ⟨State.reads_eq hbeside State.now, State.openNow_st s x o i, State.openNow_waitOf_same s x o i,
    fun _ hk => State.openNow_coil_of_mem s o i hk, fun _ hk => State.openNow_coil_of_not_mem s o i hk,
    fun _ hy => ⟨State.openNow_str_ne s o i hy, State.openNow_waitOf_ne s o i hy⟩,
    State.reads_eq hbeside State.mode, State.reads_eq hbeside State.prot, State.reads_eq hbeside State.regs⟩

/-- The state in which the latest output of string x has been taken in. -/
def State.withCurrent (s : State) (x : Nat) (i : Int) : State := s.updChan x (fun c => { c with iNow := i })

/-- Taking in an output is no change of what an opening is about. -/
theorem State.openNow_withCurrent_opens (s : State) (x : Nat) (j : Int) (o : DiscOrigin) (i : Option Int) :
    s.Opens ((s.withCurrent x j).openNow x o i) x s.now := State.openNow_opens (s.withCurrent x j) x o i

theorem State.opens_of_reach {s t : State} {x u now : Nat} (h : (s.reach u).Opens t x now) : s.Opens t x now := h

section
variable {s : State} {x : Str} {i : Int} (hw : (s.waitOf x.val).waiting = true) (hl : (s.chan x.val).lost = false)
include hw hl

theorem exec_breakSafeOpen_of_below {j : Int} (hi : absI i < s.iBS x.val) (hj : absI j < s.iBS x.val) :
    exec (.breakSafeOpen x i j) s = .next ((s.withCurrent x.val j).openNow x.val (s.waitOf x.val).origin (some j)) := by
  rw [exec_breakSafeOpen, execBreakSafeOpen]
  exact if_pos ⟨hw, hl, hi, hj⟩

theorem exec_disconnectDeadline_of_below (hi : absI i < s.brkOf x.val i) : exec (.disconnectDeadline x i) s =
    .next (((s.reach (s.waitOf x.val).deadline).withCurrent x.val i).openNow x.val (s.waitOf x.val).origin (some i)) := by
  rw [exec_disconnectDeadline, execDisconnectDeadline]
  dsimp only
  rw [if_pos hw, if_neg (show ¬ ((s.reach (s.waitOf x.val).deadline).chan x.val).lost = true from Bool.not_eq_true _ ▸ hl)]
  exact if_neg (Int.not_le.mpr hi)

/-- At or above the break rating the deadline holds the string, once (R256). -/
theorem exec_disconnectDeadline_of_beyond (hi : s.brkOf x.val i ≤ absI i) (hb : (s.waitOf x.val).brkWait = false) :
    exec (.disconnectDeadline x i) s =
      .next (((((s.reach (s.waitOf x.val).deadline).withCurrent x.val i).updWaitOf x.val (fun w => { w with brkWait := true })).log 0x0506
        [word x.val, wordI i, wordI (s.brkOf x.val i)]).raise pPROT 6) := by
  rw [exec_disconnectDeadline, execDisconnectDeadline]
  dsimp only
  rw [if_pos hw, if_neg (show ¬ ((s.reach (s.waitOf x.val).deadline).chan x.val).lost = true from Bool.not_eq_true _ ▸ hl)]
  refine (if_pos hi).trans ((if_neg ?_).trans rfl)
  rw [hb]
  decide

theorem exec_brkWaitOpen_of_below (hb : (s.waitOf x.val).brkWait = true) (hi : absI i < s.brkOf x.val i) :
    exec (.brkWaitOpen x i) s = .next ((s.withCurrent x.val i).openNow x.val (s.waitOf x.val).origin (some i)) := by
  rw [exec_brkWaitOpen, execBrkWaitOpen]
  dsimp only
  rw [if_pos ⟨hw, hb⟩, if_neg (by rw [hl]; decide)]
  exact if_pos hi

end

/-- A string held by its break rating raises level 3 of the section (R256). -/
theorem State.three_le_secLevel_of_brkWait {s : State} {x : Nat} (hx : x < 48) (h : (s.waitOf x).brkWait = true) : 3 ≤ s.secLevel := by
  have hany : range48.any (fun y => (s.waitOf y).brkWait || (s.chan y).brkHold) = true :=
    List.any_eq_true.mpr ⟨x, List.mem_range.mpr hx, by rw [h, Bool.true_or]⟩
  unfold State.secLevel
  rw [hany]
  exact Nat.le_max_right _ _

/-- Settles O22: each of the three commands is one opening, and the deadline at or above the break rating is none. -/
theorem disconnectOpensTheString : Obligations.DisconnectOpensTheString := by
  intro s x i j hw hl
  refine ⟨fun hi hj => ?_, fun hi => ?_, fun hb hi => ?_, fun hi hb => ?_⟩
  · exact ⟨_, exec_breakSafeOpen_of_below hw hl hi hj, State.openNow_withCurrent_opens s x.val j _ _⟩
  · exact ⟨_, exec_disconnectDeadline_of_below hw hl hi, State.opens_of_reach (State.openNow_withCurrent_opens _ x.val i _ _)⟩
  · exact ⟨_, exec_brkWaitOpen_of_below hw hl hb hi, State.openNow_withCurrent_opens s x.val i _ _⟩
  · have hbeside := State.log_frame (((s.reach (s.waitOf x.val).deadline).withCurrent x.val i).updWaitOf x.val
      (fun w => { w with brkWait := true })) 0x0506 [word x.val, wordI i, wordI (s.brkOf x.val i)]
    have hwait := (congrArg (fun t : State => t.waitOf x.val) hbeside :).trans (State.updWaitOf_same _ _ _)
    exact ⟨_, exec_disconnectDeadline_of_beyond hw hl hi hb, hwait, (congrArg State.coils hbeside :), (congrArg State.strs hbeside :),
      State.raise_evtBit _ _ (by decide), State.three_le_secLevel_of_brkWait x.isLt (congrArg WaitSt.brkWait hwait)⟩

end Sys2Proof.Machine
end

section
/-! Soft requests, abandoned closings and the protection request frame (R250, R251, R254, R277): what each leaves. -/
namespace Sys2Proof.Machine

/-- The state without what a soft request changes. -/
def State.besideWaits (s : State) : State := { s with pages := [], gal := {}, waits := [] }

theorem State.log_besideWaits (s : State) (typ : Nat) (pl : List Word) : (s.log typ pl).besideWaits = s.besideWaits :=
  (congrArg State.besideWaits (State.log_frame s typ pl) :)

theorem State.discRecord_besideWaits (s : State) (x : Nat) (o : DiscOrigin) (hard : Bool) (d : Nat) :
    (s.discRecord x o hard d).besideWaits = s.besideWaits := State.log_besideWaits s _ _

theorem State.discRecord_waitOf (s : State) (x : Nat) (o : DiscOrigin) (hard : Bool) (d y : Nat) :
    (s.discRecord x o hard d).waitOf y = s.waitOf y :=
  congrArg (fun l => sget ({} : WaitSt) l y) (State.log_waits s _ _)

theorem State.updWaitOf_besideWaits (s : State) (x : Nat) (f : WaitSt → WaitSt) : (s.updWaitOf x f).besideWaits = s.besideWaits := rfl
theorem State.setWaitOf_besideWaits (s : State) (x : Nat) (w : WaitSt) : (s.setWaitOf x w).besideWaits = s.besideWaits := rfl

/-- The wait of a soft request. -/
def State.waitTime (s : State) (o : DiscOrigin) : Nat := if o = .wireBreak then sNs 60 else s.tWait

/-! The three answers to a soft request: the string is open already, it waits already, or its wait begins. -/

theorem State.softReq_of_open {s : State} {x : Nat} (o : DiscOrigin) (h : s.isOpen x = true) :
    s.softReq x o = s.discRecord x o false s.now := if_pos h

theorem State.softReq_of_waiting {s : State} {x : Nat} (o : DiscOrigin) (h : s.isOpen x = false) (hw : (s.waitOf x).waiting = true) :
    s.softReq x o = (s.discRecord x o false (Nat.min (s.waitOf x).deadline (s.now + s.waitTime o))).updWaitOf x
      (fun t => { t with deadline := Nat.min (s.waitOf x).deadline (s.now + s.waitTime o) }) := by
  unfold State.softReq
  dsimp only
  rw [if_neg (by simp [h]), State.discRecord_waitOf, if_pos hw, if_pos hw]
  rfl

theorem State.softReq_of_idle {s : State} {x : Nat} (o : DiscOrigin) (h : s.isOpen x = false) (hw : ¬ (s.waitOf x).waiting = true) :
    ∃ since, s.softReq x o = (s.discRecord x o false (s.now + s.waitTime o)).setWaitOf x
      { waiting := true, deadline := s.now + s.waitTime o, since := since, origin := o } := by
  unfold State.softReq
  dsimp only
  rw [if_neg (by simp [h]), State.discRecord_waitOf, if_neg hw, if_neg hw]
  exact ⟨_, rfl⟩

theorem State.softReq_besideWaits (s : State) (x : Nat) (o : DiscOrigin) : (s.softReq x o).besideWaits = s.besideWaits := by
  by_cases h : s.isOpen x = true
  · rw [State.softReq_of_open o h, State.discRecord_besideWaits]
  · rw [Bool.not_eq_true] at h
    by_cases hw : (s.waitOf x).waiting = true
    · rw [State.softReq_of_waiting o h hw, State.updWaitOf_besideWaits, State.discRecord_besideWaits]
    · obtain ⟨since, e⟩ := State.softReq_of_idle o h hw
      rw [e, State.setWaitOf_besideWaits, State.discRecord_besideWaits]

/-- A string not open waits after a soft request, and no longer than the wait of the request (R254, R255). -/
theorem State.softReq_waits {s : State} {x : Nat} (o : DiscOrigin) (h : s.isOpen x = false) :
    ((s.softReq x o).waitOf x).waiting = true ∧ ((s.softReq x o).waitOf x).deadline ≤ s.now + s.waitTime o := by
  by_cases hw : (s.waitOf x).waiting = true
  · rw [State.softReq_of_waiting o h hw, State.updWaitOf_same, State.discRecord_waitOf]
    exact ⟨hw, Nat.min_le_right _ _⟩
  · obtain ⟨since, e⟩ := State.softReq_of_idle o h hw
    rw [e, State.setWaitOf_same]
    exact ⟨rfl, Nat.le_refl _⟩

theorem State.softReq_waitOf_ne (s : State) {x y : Nat} (o : DiscOrigin) (hy : y ≠ x) : (s.softReq x o).waitOf y = s.waitOf y := by
  by_cases h : s.isOpen x = true
  · rw [State.softReq_of_open o h, State.discRecord_waitOf]
  · rw [Bool.not_eq_true] at h
    by_cases hw : (s.waitOf x).waiting = true
    · rw [State.softReq_of_waiting o h hw, State.updWaitOf_ne _ _ hy, State.discRecord_waitOf]
    · obtain ⟨since, e⟩ := State.softReq_of_idle o h hw
      rw [e, State.setWaitOf_ne _ _ hy, State.discRecord_waitOf]

/-- A soft request to every string of a list leaves each that is not open waiting. -/
theorem foldS_softReq_waits {l : List Nat} (o : DiscOrigin) (s : State) {x : Nat} (hx : x ∈ l) (h : s.isOpen x = false) :
    ((foldS l (fun t y => t.softReq y o) s).waitOf x).waiting = true ∧
      ((foldS l (fun t y => t.softReq y o) s).waitOf x).deadline ≤ s.now + s.waitTime o := by
  have hat : ∀ t : State, t.besideWaits = s.besideWaits → ((t.softReq x o).waitOf x).waiting = true ∧
      ((t.softReq x o).waitOf x).deadline ≤ s.now + s.waitTime o := by
    intro t ht
    have hbound : t.now + t.waitTime o = s.now + s.waitTime o := State.reads_eq ht (fun u => u.now + u.waitTime o)
    have hopen : t.isOpen x = s.isOpen x := State.reads_eq ht (fun u => u.isOpen x)
    exact hbound ▸ State.softReq_waits o (hopen.trans h)
  refine (foldS_reaches (Q := fun t => t.besideWaits = s.besideWaits)
    (P := fun t => t.besideWaits = s.besideWaits ∧ (t.waitOf x).waiting = true ∧ (t.waitOf x).deadline ≤ s.now + s.waitTime o)
    hx rfl (fun t ht y _ => .inl ((State.softReq_besideWaits t y o).trans ht))
    (fun t ht => ⟨(State.softReq_besideWaits t x o).trans ht, hat t ht⟩) ?_).2
  intro t ⟨ht, hw⟩ y _
  refine ⟨(State.softReq_besideWaits t y o).trans ht, ?_⟩
  by_cases hy : x = y
  · exact hy ▸ hat t ht
  · rw [State.softReq_waitOf_ne t o hy]
    exact hw

/-- The state without what abandoned closings change. -/
def State.besideClosings (s : State) : State := { s with out := [], strs := [], coils := [] }

theorem State.abandonClose_besideClosings (s : State) (x : Nat) (st : JoinSt) : (s.abandonClose x st).besideClosings = s.besideClosings :=
  (congrArg State.besideClosings (State.openChans_besideContactors s (s.chansOf x)) :)

theorem State.enforce259_besideClosings (s : State) : s.enforce259.besideClosings = s.besideClosings := by
  simp only [State.enforce259, apply_ite State.besideClosings, foldS_keeps State.besideClosings, State.abandonClose_besideClosings,
    implies_true, ite_self]

/-- The state without what the protection request frame changes: its fields as last sent, and the transmit buffers. -/
def State.besideRequest (s : State) : State := { s with bufs := [], prot := { s.prot with frameFlags := 0, frameStrings := 0 } }

theorem State.bufQueue_besideBufs (s : State) (k : Nat) (ws : List Word) : { s.bufQueue k ws with bufs := s.bufs } = s := by
  unfold State.bufQueue
  dsimp only
  split <;> rfl

theorem State.sendProtFrame_besideBufs (s : State) : { s.sendProtFrame with bufs := s.bufs } = s := by
  unfold State.sendProtFrame
  split
  · exact State.bufQueue_besideBufs s _ _
  · rfl

theorem State.sendProtFrame_besideRequest (s : State) : s.sendProtFrame.besideRequest = s.besideRequest :=
  (congrArg State.besideRequest (State.sendProtFrame_besideBufs s) :)

/-- The state with the fields of the request frame as they are now. -/
def State.requestTaken (s : State) : State :=
  { s with prot := { s.prot with frameFlags := s.frameFlagsNow, frameStrings := s.frameStringsNow } }

theorem State.withRequest_besideRequest (s : State) (n : Nat) (m : BitVec 48) :
    ({ s with prot := { s.prot with frameFlags := n, frameStrings := m } } : State).besideRequest = s.besideRequest := rfl

theorem State.requestTaken_besideRequest (s : State) : s.requestTaken.besideRequest = s.besideRequest :=
  State.withRequest_besideRequest s _ _

theorem State.protFrame_eq (s : State) : s.protFrame =
    if s.frameFlagsNow = s.prot.frameFlags ∧ s.frameStringsNow = s.prot.frameStrings then s else s.requestTaken.sendProtFrame := rfl

theorem State.protFrame_besideRequest (s : State) : s.protFrame.besideRequest = s.besideRequest := by
  rw [State.protFrame_eq]
  split
  · rfl
  · rw [State.sendProtFrame_besideRequest, State.requestTaken_besideRequest]

end Sys2Proof.Machine
end

section
/-! Data stall (R16, R249, R250). -/
namespace Sys2Proof.Machine

/-- A level 3 of the section requests zero current in both directions (R250). -/
theorem State.zeroBoth_of_secLevel {s : State} (h : 3 ≤ s.secLevel) : s.zeroChg = true ∧ s.zeroDis = true := by
  have hthree : s.secThree = true := by simp [State.secThree, h]
  simp [State.zeroChg, State.zeroDis, hthree]

theorem State.stallLevel_le_secLevel (s : State) : s.prot.stallLevel ≤ s.secLevel := Nat.le_max_left _ _

/-- The state in which a stall has begun: time has come to its instant, and level 3 is raised. -/
def State.stallBegun (s : State) : State :=
  let t := s.reach (s.prot.lastCommit + 4 * s.tEpoch)
  { t with prot := { t.prot with dataStall := true, stallLevel := 3, stallSince := t.now } }

/-- The same with the record and the event of the stall. -/
def State.stallNoted (s : State) : State :=
  (s.log 0x0507 [48#32, s.prot.lastCommitEpoch, word ((s.now - s.prot.lastCommit) / 1000000)]).raise pPROT 7

theorem State.stallNoted_besideWaits (s : State) : s.stallNoted.besideWaits = s.besideWaits := State.log_besideWaits s _ _

theorem exec_dataStall_of_running {s : State} (hm : s.md.running = true) (hd : s.prot.dataStall = false) :
    exec .dataStall s = .next s.stallBegun.stallNoted.enforce259.protFrame := if_pos ⟨hm, hd⟩

/-- The state without what the end of a grading or of a stall's beginning changes. -/
def State.besideEnforcing (s : State) : State := s.besideClosings.besideRequest

theorem State.enforced_besideEnforcing (s : State) : s.enforce259.protFrame.besideEnforcing = s.besideEnforcing :=
  (State.reads_eq (State.protFrame_besideRequest s.enforce259) State.besideEnforcing).trans
    (congrArg State.besideRequest (State.enforce259_besideClosings s))

theorem dataStall_requestsZero {s : State} (hm : s.md.running = true) (hd : s.prot.dataStall = false) :
    ∃ t, exec .dataStall s = .next t ∧ t.prot.dataStall = true ∧ t.prot.stallLevel = 3 ∧
      t.now = Nat.max s.now (s.prot.lastCommit + 4 * s.tEpoch) ∧ t.prot.stallSince = t.now ∧ t.zeroChg = true ∧ t.zeroDis = true ∧
      t.evtBit pPROT 7 = true ∧ t.mode = s.mode ∧ t.scor = s.scor ∧ t.ban = s.ban := by
  have htail := State.enforced_besideEnforcing s.stallBegun.stallNoted
  have hnoted := State.stallNoted_besideWaits s.stallBegun
  have hstall := (State.reads_eq htail fun t => (t.prot.dataStall, t.prot.stallLevel, t.prot.stallSince, t.now)).trans
    (State.reads_eq hnoted fun t => (t.prot.dataStall, t.prot.stallLevel, t.prot.stallSince, t.now))
  have hrest := (State.reads_eq htail fun t => (t.mode, t.scor, t.ban)).trans (State.reads_eq hnoted fun t => (t.mode, t.scor, t.ban))
  have hevent := (State.reads_eq htail fun t => t.evtBit pPROT 7).trans (State.raise_evtBit _ _ (by decide))
  simp only [Prod.mk.injEq] at hstall hrest
  obtain ⟨hdata, hlevel, hsince, hnow⟩ := hstall
  obtain ⟨hmode, hscor, hban⟩ := hrest
  have hzero := State.zeroBoth_of_secLevel (hlevel ▸ State.stallLevel_le_secLevel s.stallBegun.stallNoted.enforce259.protFrame)
  exact ⟨_, exec_dataStall_of_running hm hd, hdata, hlevel, hnow, hsince.trans hnow.symm, hzero.1, hzero.2, hevent, hmode, hscor, hban⟩

/-- The state in which a stall has lasted 1 s and raised level 5. -/
def State.stallRaised (s : State) : State :=
  let t := s.reach (s.prot.stallSince + 1000000000)
  { t with prot := { t.prot with stallLevel := 5 } }

/-- The state in which level 5 of a stall has sent every string its request. -/
def State.stallOpens (s : State) : State := foldS s.strings (fun t y => t.softReq y .dataStall) s

/-- The state in which JOINING and ONLINE have been asked to leave for READY (R244). -/
def State.readyAsked (s : State) : State := if s.md.joinOrOnline then s.askReady else s

theorem State.joinAbort_of_not_joining {s : State} (cause : Nat) (h : s.joining = false) : s.joinAbort cause = s :=
  if_neg (by simp [h])

theorem exec_dataStallOpenAll_of_stalled {s : State} (hd : s.prot.dataStall = true) (h3 : s.prot.stallLevel = 3)
    (hj : s.joining = false) : exec .dataStallOpenAll s = .next s.stallRaised.stallOpens.readyAsked.protFrame := by
  have hexec : exec .dataStallOpenAll s = .next (s.stallRaised.joinAbort 4).stallOpens.readyAsked.protFrame := if_pos ⟨hd, h3⟩
  rw [hexec, State.joinAbort_of_not_joining (s := s.stallRaised) 4 hj]

theorem Mode.joinOrOnline_iff (m : Mode) : m.joinOrOnline = true ↔ m = .joining ∨ m = .online := by
  cases m <;> decide

theorem State.askReady_of_none {s : State} (h : s.mode.trans = none) :
    s.askReady = { s with mode := { s.mode with trans := some { target := .ready, origin := 0, afterOpenings := true } } } := by
  unfold State.askReady
  rw [h]

/-- The state without its mode and the mode's requests. -/
def State.besideMode (s : State) : State := { s with mode := {} }

/-- READY is asked for in JOINING and ONLINE alone, and nothing else is. -/
theorem State.readyAsked_facts {s : State} (hm : s.mode.trans = none) : s.readyAsked.besideMode = s.besideMode ∧
    s.readyAsked.mode.trans =
      if s.md = .joining ∨ s.md = .online then some { target := .ready, origin := 0, afterOpenings := true } else none := by
  unfold State.readyAsked
  by_cases h : s.md = .joining ∨ s.md = .online
  · rw [if_pos h, if_pos ((Mode.joinOrOnline_iff _).mpr h), State.askReady_of_none hm]
    exact ⟨rfl, rfl⟩
  · rw [if_neg h, if_neg (mt (Mode.joinOrOnline_iff _).mp h)]
    exact ⟨rfl, hm⟩

theorem dataStallOpenAll_opensEveryString {s : State} (hd : s.prot.dataStall = true) (h3 : s.prot.stallLevel = 3)
    (hj : s.join.sec = .run ∨ s.join.sec = .idle) (hm : s.mode.trans = none) :
    ∃ t, exec .dataStallOpenAll s = .next t ∧ t.prot.stallLevel = 5 ∧ t.now = Nat.max s.now (s.prot.stallSince + 1000000000) ∧
      t.coils = s.coils ∧
      t.mode.trans = (if s.md = .joining ∨ s.md = .online then some { target := .ready, origin := 0, afterOpenings := true } else none) ∧
      (∀ x ∈ s.strings, s.isOpen x = false → (t.waitOf x).waiting = true ∧ (t.waitOf x).deadline ≤ t.now + s.tWait) := by
  have hidle : s.joining = false := by
    rcases hj with h | h <;> rw [State.joining, h] <;> rfl
  have hopens : s.stallRaised.stallOpens.besideWaits = s.stallRaised.besideWaits :=
    foldS_keeps State.besideWaits _ _ _ fun t y => State.softReq_besideWaits t y .dataStall
  have hmode : s.stallRaised.stallOpens.mode = s.mode := (State.reads_eq hopens State.mode)
  have hmd : s.stallRaised.stallOpens.md = s.md := congrArg ModeSt.mode hmode
  obtain ⟨hrest, htrans⟩ := State.readyAsked_facts (hmode ▸ hm : s.stallRaised.stallOpens.mode.trans = none)
  have htail := State.protFrame_besideRequest s.stallRaised.stallOpens.readyAsked
  have hnow : s.stallRaised.stallOpens.readyAsked.protFrame.now = s.stallRaised.now :=
    ((State.reads_eq htail State.now).trans (State.reads_eq hrest State.now)).trans (State.reads_eq hopens State.now)
  refine ⟨_, exec_dataStallOpenAll_of_stalled hd h3 hidle, ?_, hnow, ?_,
    ((State.reads_eq htail (fun t => t.mode.trans)).trans htrans).trans (by rw [hmd]), fun x hx ho => ?_⟩
  · exact ((State.reads_eq htail (fun t => t.prot.stallLevel)).trans (State.reads_eq hrest (fun t => t.prot.stallLevel))).trans
      (State.reads_eq hopens (fun t => t.prot.stallLevel))
  · exact ((State.reads_eq htail State.coils).trans (State.reads_eq hrest State.coils)).trans (State.reads_eq hopens State.coils)
  · have hwait : s.stallRaised.stallOpens.readyAsked.protFrame.waitOf x = s.stallRaised.stallOpens.waitOf x :=
      (State.reads_eq htail (fun t => t.waitOf x)).trans (State.reads_eq hrest (fun t => t.waitOf x))
    have htime : s.stallRaised.waitTime .dataStall = s.tWait := if_neg DiscOrigin.noConfusion
    have hwaits := foldS_softReq_waits .dataStall s.stallRaised hx (show s.stallRaised.isOpen x = false from ho)
    rw [htime] at hwaits
    rw [hwait, hnow]
    exact hwaits

end Sys2Proof.Machine
end

section
/-! Grading of one quantity (R241 to R243): the levels it leaves, and what entering and clearing a level keep. -/
namespace Sys2Proof.Machine

/-! ### Entering and clearing a level -/

/-- The state without the fields of the section and the registers, of which entering a level writes the arms. -/
def State.besideArms (s : State) : State := { s.besideSection with regs := [] }

theorem State.besideArms_of_besideSection {s t : State} (h : t.besideSection = s.besideSection) : t.besideArms = s.besideArms :=
  State.reads_eq h State.besideArms

theorem State.log_besideArms (s : State) (typ : Nat) (pl : List Word) : (s.log typ pl).besideArms = s.besideArms :=
  State.besideArms_of_besideSection (State.log_besideSection s typ pl)
theorem State.raise_besideArms (s : State) (pg n : Nat) : (s.raise pg n).besideArms = s.besideArms := rfl

/-- The arm bits are all a disarming writes beside the section. -/
theorem State.disarm_eq (s : State) (x cause : Nat) : ∃ w f, s.disarm x cause =
    ((((s.setReg pJOIN (armOff x) w).updStr x f).logN 0x0614 [x, cause]).raise pJOIN 3) := ⟨_, _, rfl⟩

theorem State.disarm_besideArms (s : State) (x cause : Nat) : (s.disarm x cause).besideArms = s.besideArms := by
  obtain ⟨w, f, h⟩ := State.disarm_eq s x cause
  rw [h, State.raise_besideArms, State.logN, State.log_besideArms]
  rfl

/-- A register that is no arm register. -/
def unarmedReg (pg off : Nat) : Prop := ∀ x, regAddr pg off ≠ regAddr pJOIN (armOff x)

theorem State.log_reg (s : State) (typ : Nat) (pl : List Word) (pg off : Nat) : (s.log typ pl).reg pg off = s.reg pg off :=
  State.reads_eq (State.log_besideSection s typ pl) fun t => t.reg pg off

theorem State.disarm_reg (s : State) (x cause : Nat) {pg off : Nat} (h : unarmedReg pg off) : (s.disarm x cause).reg pg off = s.reg pg off := by
  obtain ⟨w, f, e⟩ := State.disarm_eq s x cause
  rw [e]
  exact (State.log_reg _ _ _ _ _).trans (State.setReg_reg_ne s w (h x))

/-- Entering a level keeps what its record and event, a disarming, a join's abort, soft requests, a LOCKOUT request and a request of
READY keep. -/
theorem State.levelEntered_keeps {β : Type} (p : State → β) (s : State) (x q k : Nat) (v : Rat)
    (hlog : ∀ t typ pl, p (State.log t typ pl) = p t) (hraise : ∀ t, p (State.raise t pPROT (k - 1)) = p t)
    (hdisarm : ∀ t, p (State.disarm t x 4) = p t) (habort : ∀ t, p (State.joinAbort t 4) = p t)
    (hreq : ∀ t y o, p (State.softReq t y o) = p t) (hlock : ∀ t, p (State.lockout t 2) = p t) (hask : ∀ t, p (State.askReady t) = p t) :
    p (s.levelEntered x q k v) = p s := by
  have hfold : ∀ (l : List Nat) (o : DiscOrigin) t, p (foldS l (fun t y => t.softReq y o) t) = p t := fun l o t =>
    foldS_keeps p l _ t fun t y => hreq t y o
  unfold State.levelEntered
  simp only [apply_ite p, hlog, hraise, hdisarm, habort, hfold, hlock, hask, ite_self]

theorem State.levelEntered_besideArms (s : State) (x q k : Nat) (v : Rat) : (s.levelEntered x q k v).besideArms = s.besideArms :=
  State.levelEntered_keeps State.besideArms s x q k v State.log_besideArms (fun _ => rfl) (fun t => State.disarm_besideArms t x 4)
    (fun t => State.besideArms_of_besideSection (State.joinAbort_besideSection t 4))
    (fun t y o => State.besideArms_of_besideSection (State.softReq_besideSection t y o))
    (fun t => State.besideArms_of_besideSection (State.lockout_besideSection t 2))
    (fun t => State.besideArms_of_besideSection (State.askReady_besideSection t))

theorem State.levelEntered_reg (s : State) (x q k : Nat) (v : Rat) {pg off : Nat} (h : unarmedReg pg off) :
    (s.levelEntered x q k v).reg pg off = s.reg pg off :=
  have hsection : ∀ {s t : State}, t.besideSection = s.besideSection → t.reg pg off = s.reg pg off := fun e =>
    State.reads_eq e fun t => t.reg pg off
  State.levelEntered_keeps (fun t => t.reg pg off) s x q k v (fun t typ pl => State.log_reg t typ pl pg off) (fun _ => rfl)
    (fun t => State.disarm_reg t x 4 h) (fun t => hsection (State.joinAbort_besideSection t 4))
    (fun t y o => hsection (State.softReq_besideSection t y o)) (fun t => hsection (State.lockout_besideSection t 2))
    (fun t => hsection (State.askReady_besideSection t))

/-- The state without what clearing a latched level changes. -/
def State.besideLevels (s : State) : State := { s with pages := [], gal := {}, levels := [] }

theorem State.log_besideLevels (s : State) (typ : Nat) (pl : List Word) : (s.log typ pl).besideLevels = s.besideLevels :=
  (congrArg State.besideLevels (State.log_frame s typ pl) :)
theorem State.log_level (s : State) (typ : Nat) (pl : List Word) (j : Nat) : (s.log typ pl).level j = s.level j :=
  congrArg (fun l => sget ({} : LevelSt) l j) (State.log_levels s typ pl)

/-- The entry of a quantity whose latch is cleared. -/
def LevelSt.unlatched (l : LevelSt) : LevelSt := { l with entered := l.entered &&& 7#5 }

/-- Clearing a latch keeps what its records, its event and the write of the entry keep. -/
theorem State.latchClear_keeps {β : Type} (p : State → β) (s : State) (x q cause : Nat) (hlog : ∀ t typ pl, p (State.log t typ pl) = p t)
    (hraise : ∀ t, p (State.raise t pPROT 9) = p t) (hlevel : ∀ t, p (State.updLevel t (16 * x + q) LevelSt.unlatched) = p t) :
    p (s.latchClear x q cause) = p s := by
  unfold State.latchClear
  exact (hraise _).trans ((hlevel _).trans (foldS_keeps p _ _ s fun t _ => hlog t _ _))

theorem State.latchClear_besideLevels (s : State) (x q cause : Nat) : (s.latchClear x q cause).besideLevels = s.besideLevels :=
  State.latchClear_keeps State.besideLevels s x q cause State.log_besideLevels (fun _ => rfl) (fun _ => rfl)

theorem State.latchClear_level_ne (s : State) {x q j : Nat} (cause : Nat) (h : j ≠ 16 * x + q) :
    (s.latchClear x q cause).level j = s.level j :=
  State.latchClear_keeps (fun t => t.level j) s x q cause (fun t typ pl => State.log_level t typ pl j) (fun _ => rfl)
    (fun t => State.updLevel_ne t _ h)

theorem State.latchClear_level_same (s : State) (x q cause : Nat) :
    (s.latchClear x q cause).level (16 * x + q) = (s.level (16 * x + q)).unlatched := by
  have hrecords : ∀ l : List Nat, (foldS l (fun t k => t.logN 0x0502 [x, q, k, cause]) s).level (16 * x + q) = s.level (16 * x + q) :=
    fun l => foldS_keeps (fun t => t.level (16 * x + q)) l _ s fun t _ => State.log_level t _ _ _
  unfold State.latchClear
  exact (State.updLevel_same _ _ LevelSt.unlatched).trans (congrArg LevelSt.unlatched (hrecords _))

/-! ### One turn of the grading -/

/-- The state in which the levels left are recorded and the levels entered take effect. -/
def State.levelsTaken (s : State) (x q : Nat) (v : Rat) (left new : List Nat) : State :=
  foldS new (fun t k => t.levelEntered x q k v) (foldS left (fun t k => t.logN 0x0502 [x, q, k, 0]) s)

theorem State.levelsTaken_keeps {β : Type} (p : State → β) (s : State) (x q : Nat) (v : Rat) (left new : List Nat)
    (hlog : ∀ t typ pl, p (State.log t typ pl) = p t) (henter : ∀ t k, p (State.levelEntered t x q k v) = p t) :
    p (s.levelsTaken x q v left new) = p s :=
  (foldS_keeps p new _ _ henter).trans (foldS_keeps p left _ s fun t _ => hlog t _ _)

/-- Grading one quantity keeps what records, events, the writes of its own entry and the entering of its levels keep. -/
theorem State.gradeOne_keeps {β : Type} (p : State → β) (s : State) (x q : Nat) (hlog : ∀ t typ pl, p (State.log t typ pl) = p t)
    (hraise : ∀ t, p (State.raise t pPROT 9) = p t) (hlevel : ∀ t f, p (State.updLevel t (16 * x + q) f) = p t)
    (henter : ∀ t k v, p (State.levelEntered t x q k v) = p t) : p (s.gradeOne x q) = p s := by
  have hclear : ∀ t, p (State.latchClear t x q 1) = p t := fun t =>
    State.latchClear_keeps p t x q 1 hlog hraise fun t => hlevel t _
  have htaken : ∀ t v left new, p (State.levelsTaken t x q v left new) = p t := fun t v left new =>
    State.levelsTaken_keeps p t x q v left new hlog fun t k => henter t k v
  unfold State.levelsTaken at htaken
  unfold State.gradeOne
  dsimp only
  split
  · simp only [apply_ite p, hlevel, ite_self]
  · simp only [apply_ite p, hclear, htaken, hlevel, ite_self]

/-- The state without what grading one quantity changes. -/
def State.besideGrading (s : State) : State := { s.besideArms with levels := [] }

theorem State.gradeOne_besideGrading (s : State) (x q : Nat) : (s.gradeOne x q).besideGrading = s.besideGrading :=
  State.gradeOne_keeps State.besideGrading s x q (fun t typ pl => State.reads_eq (State.log_besideArms t typ pl) State.besideGrading)
    (fun _ => rfl) (fun _ _ => rfl) (fun t k v => State.reads_eq (State.levelEntered_besideArms t x q k v) State.besideGrading)

theorem State.gradeOne_reg (s : State) (x q : Nat) {pg off : Nat} (h : unarmedReg pg off) : (s.gradeOne x q).reg pg off = s.reg pg off :=
  State.gradeOne_keeps (fun t => t.reg pg off) s x q (fun t typ pl => State.log_reg t typ pl pg off) (fun _ => rfl) (fun _ _ => rfl)
    (fun t k v => State.levelEntered_reg t x q k v h)

theorem State.levelEntered_level (s : State) (x q k : Nat) (v : Rat) (j : Nat) : (s.levelEntered x q k v).level j = s.level j :=
  State.reads_eq (State.levelEntered_besideArms s x q k v) fun t => t.level j

/-- Grading one quantity leaves every other quantity's entry. -/
theorem State.gradeOne_level_ne (s : State) {x q j : Nat} (h : j ≠ 16 * x + q) : (s.gradeOne x q).level j = s.level j :=
  State.gradeOne_keeps (fun t => t.level j) s x q (fun t typ pl => State.log_level t typ pl j) (fun _ => rfl)
    (fun t f => State.updLevel_ne t f h) (fun t k v => State.levelEntered_level t x q k v j)

/-- A quantity without a value that is no loss time is not graded. -/
theorem State.gradeOne_of_none {s : State} {x q : Nat} (hv : s.graded x q = none) (hl : lossQ q = false) : s.gradeOne x q = s := by
  unfold State.gradeOne
  simp only [hl, Bool.false_eq_true, if_false, hv]

/-! ### A quantity with a value -/

section
variable (s : State) (q : Nat) (v : Rat) (l : LevelSt)

/-- Epochs in a row beyond each threshold, the epoch of v counted. -/
def LevelSt.outwAfter : List Nat :=
  (List.range 5).map (fun j => if beyond q v (s.th q (j + 1)) then l.outw.getD j 0 + 1 else 0)
/-- Epochs in a row inward of thresholds 1 to 3 by the hysteresis, the epoch of v counted. -/
def LevelSt.inwAfter : List Nat :=
  (List.range 3).map (fun j => if inwardOf q v (s.th q (j + 1)) then l.inward.getD j 0 + 1 else 0)
/-- Threshold k is enabled and v has been beyond it for the debounce. -/
def LevelSt.reaches (k : Nat) : Bool :=
  (s.th q k).isSome && decide (0 < (l.outwAfter s q v).getD (k - 1) 0) && decide (s.deb q k ≤ (l.outwAfter s q v).getD (k - 1) 0)
/-- v has been inward of threshold k for CLR epochs. -/
def LevelSt.leaves (k : Nat) : Bool :=
  decide (0 < (l.inwAfter s q v).getD (k - 1) 0) && decide (s.clr q ≤ (l.inwAfter s q v).getD (k - 1) 0)
/-- The levels entered and left with v. -/
def LevelSt.entering : List Nat := [1, 2, 3, 4, 5].filter (fun k => !l.entered.getLsbD (k - 1) && l.reaches s q v k)
def LevelSt.leaving : List Nat := [1, 2, 3].filter (fun k => l.entered.getLsbD (k - 1) && l.leaves s q v k)
end

/-- The sum of the bits of a list of levels. -/
def levelBits (l : List Nat) : Nat := l.foldl (fun a k => a + 2 ^ (k - 1)) 0

/-- The entry of a quantity after the epoch of v. -/
def LevelSt.gradedAs (l : LevelSt) (s : State) (q : Nat) (v : Rat) : LevelSt :=
  { l with outw := l.outwAfter s q v, inward := l.inwAfter s q v,
           entered := BitVec.ofNat 5 (l.entered.toNat + levelBits (l.entering s q v) - levelBits (l.leaving s q v)),
           rearmSince := if inwardOf q v (s.rearmTh q) then some (l.rearmSince.getD s.now) else none, value := toUnits v }

/-- A valid value of a quantity that is no loss time writes the entry; then the levels left and entered take effect, and a latch with
AUTO clears. -/
theorem State.gradeOne_of_value {s : State} {x q : Nat} {v : Rat} (hv : s.graded x q = some v) (hl : lossQ q = false)
    (hr : signedQ q = true → (s.hep x).tRead = true) : ∃ t : State,
      t = (s.setLevel (16 * x + q) ((s.level (16 * x + q)).gradedAs s q v)).levelsTaken x q v
        ((s.level (16 * x + q)).leaving s q v) ((s.level (16 * x + q)).entering s q v) ∧
      s.gradeOne x q = if (t.level (16 * x + q)).latched && t.auto q && t.rearmed x q then t.latchClear x q 1 else t := by
  have hhold : (signedQ q && !(s.hep x).tRead) = false := by
    cases hs : signedQ q
    · rfl
    · rw [hr hs]
      rfl
  refine ⟨_, rfl, ?_⟩
  unfold State.gradeOne
  simp only [hl, Bool.false_eq_true, if_false, hv, hhold, LevelSt.entering, LevelSt.leaving, LevelSt.reaches, LevelSt.leaves,
    LevelSt.gradedAs, LevelSt.outwAfter, LevelSt.inwAfter, levelBits, Bool.and_assoc]
  rfl

/-- No register of page PROT's thresholds is an arm register. -/
theorem unarmedReg_threshold (q : Nat) : unarmedReg pPROT (0x814 + 0x20 * q) := by
  intro x
  unfold regAddr armOff
  split <;> omega

/-- A valid value of a quantity that is no loss time and whose AUTO is clear leaves the entry of its grading: the latch holds. -/
theorem State.gradeOne_level_of_value {s : State} {x q : Nat} {v : Rat} (hv : s.graded x q = some v) (hl : lossQ q = false)
    (hr : signedQ q = true → (s.hep x).tRead = true) (ha : s.auto q = false) :
    (s.gradeOne x q).level (16 * x + q) = (s.level (16 * x + q)).gradedAs s q v := by
  obtain ⟨t, ht, hgrade⟩ := State.gradeOne_of_value hv hl hr
  have hlevel : t.level (16 * x + q) = (s.level (16 * x + q)).gradedAs s q v := by
    rw [ht, State.levelsTaken_keeps (fun t => t.level (16 * x + q)) _ x q v _ _ (fun t typ pl => State.log_level t typ pl _)
      fun t k => State.levelEntered_level t x q k v _, State.setLevel_same]
  have hreg : t.reg pPROT (0x814 + 0x20 * q) = s.reg pPROT (0x814 + 0x20 * q) :=
    ht ▸ State.levelsTaken_keeps (fun t => t.reg pPROT (0x814 + 0x20 * q)) _ x q v _ _ (fun t typ pl => State.log_reg t typ pl _ _)
      fun t k => State.levelEntered_reg t x q k v (unarmedReg_threshold q)
  have hauto : t.auto q = false := by
    rw [← ha, State.auto, State.auto, State.bit, State.bit, State.fld, State.fld, hreg]
  rw [hgrade, hauto, Bool.and_false, Bool.false_and, if_neg Bool.false_ne_true, hlevel]

/-! ### The bits of the levels entered -/

theorem levelBits_filter (p : Nat → Bool) (n : Nat) :
    levelBits (((List.range n).map (· + 1)).filter p) = bitsOf (fun j => p (j + 1)) n := by
  have hstep : ∀ a j : Nat, (if p (j + 1) then a + 2 ^ (j + 1 - 1) else a) = a + if p (j + 1) then 2 ^ j else 0 := by
    intro a j
    split <;> rfl
  rw [levelBits, List.foldl_filter, List.foldl_map]
  simp only [hstep]
  rfl

theorem toNat_eq_bitsOf {n : Nat} (e : BitVec n) : e.toNat = bitsOf e.getLsbD n := by
  refine Nat.eq_of_testBit_eq fun i => ?_
  rw [testBit_bitsOf, BitVec.testBit_toNat]
  by_cases h : i < n
  · simp [h]
  · simp [h, BitVec.getLsbD_of_ge e i (Nat.not_lt.mp h)]

/-- Bit sums that balance at every bit balance. -/
theorem bitsOf_add_eq {e new left f : Nat → Bool} (n : Nat)
    (h : ∀ j, (e j).toNat + (new j).toNat = (left j).toNat + (f j).toNat) :
    bitsOf e n + bitsOf new n = bitsOf left n + bitsOf f n := by
  have hbit : ∀ (b : Bool) (j : Nat), (if b then 2 ^ j else 0) = b.toNat * 2 ^ j := by
    intro b j
    cases b <;> simp
  induction n with
  | zero => rfl
  | succ n ih =>
    have hn : (e n).toNat * 2 ^ n + (new n).toNat * 2 ^ n = (left n).toNat * 2 ^ n + (f n).toNat * 2 ^ n := by
      rw [← Nat.add_mul, ← Nat.add_mul, h]
    simp only [bitsOf_succ, hbit]
    omega

/-- A level not entered is entered by reaching it; levels 1 to 3 leave, levels 4 and 5 latch (R242, R243). -/
theorem LevelSt.gradedAs_entered (l : LevelSt) (s : State) (q : Nat) (v : Rat) {j : Nat} (hj : j < 5) :
    (l.gradedAs s q v).entered.getLsbD j =
      if l.entered.getLsbD j then !(decide (j < 3) && l.leaves s q v (j + 1)) else l.reaches s q v (j + 1) := by
  have hnew : levelBits (l.entering s q v) = bitsOf (fun i => !l.entered.getLsbD i && l.reaches s q v (i + 1)) 5 :=
    levelBits_filter (fun k => !l.entered.getLsbD (k - 1) && l.reaches s q v k) 5
  have hleft : levelBits (l.leaving s q v) = bitsOf (fun i => decide (i < 3) && (l.entered.getLsbD i && l.leaves s q v (i + 1))) 5 :=
    (levelBits_filter (fun k => l.entered.getLsbD (k - 1) && l.leaves s q v k) 3).trans rfl
  have hbalance := bitsOf_add_eq (e := l.entered.getLsbD) (new := fun i => !l.entered.getLsbD i && l.reaches s q v (i + 1))
    (left := fun i => decide (i < 3) && (l.entered.getLsbD i && l.leaves s q v (i + 1)))
    (f := fun i => if l.entered.getLsbD i then !(decide (i < 3) && l.leaves s q v (i + 1)) else l.reaches s q v (i + 1)) 5 fun i => by
      cases l.entered.getLsbD i <;> cases decide (i < 3) <;> cases l.leaves s q v (i + 1) <;> simp
  have hentered : (l.gradedAs s q v).entered =
      BitVec.ofNat 5 (l.entered.toNat + levelBits (l.entering s q v) - levelBits (l.leaving s q v)) := rfl
  rw [hentered, hnew, hleft, toNat_eq_bitsOf l.entered, hbalance, Nat.add_sub_cancel_left, BitVec.getLsbD_ofNat, testBit_bitsOf]
  simp [hj]

/-! ### The counts of the epochs in a row -/

theorem getD_map_range (f : Nat → Nat) {n j : Nat} (h : j < n) : ((List.range n).map f).getD j 0 = f j := by
  simp [h]

theorem LevelSt.outwAfter_getD (l : LevelSt) (s : State) (q : Nat) (v : Rat) {j : Nat} (hj : j < 5) :
    (l.outwAfter s q v).getD j 0 = if beyond q v (s.th q (j + 1)) then l.outw.getD j 0 + 1 else 0 := getD_map_range _ hj

theorem LevelSt.inwAfter_getD (l : LevelSt) (s : State) (q : Nat) (v : Rat) {j : Nat} (hj : j < 3) :
    (l.inwAfter s q v).getD j 0 = if inwardOf q v (s.th q (j + 1)) then l.inward.getD j 0 + 1 else 0 := getD_map_range _ hj

theorem LevelSt.reaches_eq (l : LevelSt) (s : State) (q : Nat) (v : Rat) {j : Nat} (hj : j < 5) : l.reaches s q v (j + 1) =
    ((s.th q (j + 1)).isSome && decide (0 < if beyond q v (s.th q (j + 1)) then l.outw.getD j 0 + 1 else 0) &&
      decide (s.deb q (j + 1) ≤ if beyond q v (s.th q (j + 1)) then l.outw.getD j 0 + 1 else 0)) := by
  rw [← l.outwAfter_getD s q v hj]
  rfl

theorem LevelSt.leaves_eq (l : LevelSt) (s : State) (q : Nat) (v : Rat) {j : Nat} (hj : j < 3) : l.leaves s q v (j + 1) =
    (decide (0 < if inwardOf q v (s.th q (j + 1)) then l.inward.getD j 0 + 1 else 0) &&
      decide (s.clr q ≤ if inwardOf q v (s.th q (j + 1)) then l.inward.getD j 0 + 1 else 0)) := by
  rw [← l.inwAfter_getD s q v hj]
  rfl

end Sys2Proof.Machine
end

section
/-! GradingLevelsAndDataStall (R16, R241 to R243, R249, R250). -/
namespace Sys2Proof.Machine

/-- Settles O20: the entry that a grading with a value leaves, read level by level; then the two commands of a stall. -/
theorem gradingLevelsAndDataStall : Obligations.GradingLevelsAndDataStall := by
  refine ⟨fun s x q v hv hl hr ha => ?_, fun s => ⟨dataStall_requestsZero, dataStallOpenAll_opensEveryString⟩⟩
  dsimp only
  rw [State.gradeOne_level_of_value hv hl hr ha]
  obtain ⟨l, hlevel⟩ : ∃ l, l = s.level (16 * x + q) := ⟨_, rfl⟩
  rw [← hlevel]
  refine ⟨fun k h1 h5 => ?_, fun k h1 h3 => ?_, fun k h1 h3 => ?_, fun k h4 h5 => ?_⟩
  all_goals obtain ⟨j, rfl⟩ : ∃ j, k = j + 1 := ⟨k - 1, by omega⟩
  · exact l.outwAfter_getD s q v (by omega)
  · exact l.inwAfter_getD s q v (by omega)
  · have hj : j < 3 := by omega
    have hentered := l.gradedAs_entered s q v (j := j) (by omega)
    rw [decide_eq_true hj, Bool.true_and, l.leaves_eq s q v hj, l.reaches_eq s q v (by omega)] at hentered
    exact hentered
  · have hj : ¬ j < 3 := by omega
    have hentered := l.gradedAs_entered s q v (j := j) (by omega)
    rw [decide_eq_false hj, Bool.false_and, Bool.not_false, l.reaches_eq s q v (by omega), Bool.if_true_left, Bool.decide_eq_true] at hentered
    exact hentered

end Sys2Proof.Machine
end

section
/-! GRADING and PROT_CLEAR (R241 to R243, R259, R277). -/
namespace Sys2Proof.Machine

/-! ### What follows a grading in the join -/

/-- The state without what the steps of a join change that a grading takes. -/
def State.besideJoinSteps (s : State) : State := { s with out := [], strs := [], coils := [], pair := {}, join := {}, mode := {} }

theorem State.settle_besideJoinSteps (s : State) (x : Nat) : (s.settle x).besideJoinSteps = s.besideJoinSteps := rfl

theorem State.sendPair_besideJoinSteps (s : State) (typ : Nat) (ws : List Word) :
    (s.sendPair typ ws).besideJoinSteps = s.besideJoinSteps := by
  unfold State.sendPair
  split <;> rfl

theorem State.closeChan_besideJoinSteps (s : State) (c : Nat) : (s.closeChan c).besideJoinSteps = s.besideJoinSteps := by
  have hassign : ∀ f, (s.updCoil c f).besideJoinSteps = s.besideJoinSteps := fun _ => rfl
  simp only [State.closeChan, apply_ite State.besideJoinSteps, State.sendPair_besideJoinSteps, hassign, ite_self]

theorem State.startClose_besideJoinSteps (s : State) (x : Nat) : (s.startClose x).besideJoinSteps = s.besideJoinSteps := by
  unfold State.startClose
  split
  · exact State.closeChan_besideJoinSteps s _
  · rfl

theorem State.startCandidates_besideJoinSteps (s : State) (ok : Nat → Bool) :
    (s.startCandidates ok).besideJoinSteps = s.besideJoinSteps :=
  foldS_keeps State.besideJoinSteps _ _ s State.startClose_besideJoinSteps

theorem State.firstTry_besideJoinSteps (s : State) : s.firstTry.besideJoinSteps = s.besideJoinSteps := by
  simp only [State.firstTry, apply_ite State.besideJoinSteps, State.startClose_besideJoinSteps, ite_self]

theorem State.sweepDone_besideJoinSteps (s : State) : s.sweepDone.besideJoinSteps = s.besideJoinSteps := by
  unfold State.sweepDone
  split <;> rfl

/-- Every string at rest takes the state that its levels allow. -/
def State.settled (s : State) : State := foldS s.strings (fun t x => t.settle x) s

theorem State.settled_besideJoinSteps (s : State) : s.settled.besideJoinSteps = s.besideJoinSteps :=
  foldS_keeps State.besideJoinSteps _ _ s State.settle_besideJoinSteps

/-- The closings that a grading forbids, and those it lets start. -/
def State.sweepTry (s : State) : State :=
  if s.join.sec = .sweep ∧ s.closeForbidden = false then (s.startCandidates (fun _ => true)).sweepDone else s
def State.joinChecked (s : State) : State := s.enforce259.settled.firstTry.sweepTry

theorem State.joinChecked_besideJoinSteps (s : State) : s.joinChecked.besideJoinSteps = s.besideJoinSteps := by
  have hsweep : ∀ t : State, t.sweepTry.besideJoinSteps = t.besideJoinSteps := fun t => by
    simp only [State.sweepTry, apply_ite State.besideJoinSteps, State.sweepDone_besideJoinSteps, State.startCandidates_besideJoinSteps,
      ite_self]
  rw [State.joinChecked, hsweep, State.firstTry_besideJoinSteps, State.settled_besideJoinSteps]
  exact State.reads_eq (State.enforce259_besideClosings s) State.besideJoinSteps

/-! ### The grading of every quantity -/

/-- The state in which every quantity has been graded. -/
def State.allGraded (s : State) : State :=
  (foldS s.strings (fun t x => foldS (List.range 9) (fun t q => t.gradeOne x q) t) s).gradeOne 48 9

/-- The request frame takes the number of the epoch graded. -/
def State.epochTaken (s : State) : State := { s with prot := { s.prot with frameEpoch := s.prot.lastCommitEpoch } }

theorem exec_grading (s : State) : exec .grading s = .next s.allGraded.epochTaken.joinChecked.protFrame := rfl

theorem State.allGraded_besideGrading (s : State) : s.allGraded.besideGrading = s.besideGrading := by
  rw [State.allGraded, State.gradeOne_besideGrading]
  exact foldS_keeps State.besideGrading _ _ s fun t x =>
    foldS_keeps State.besideGrading _ _ t fun t q => State.gradeOne_besideGrading t x q

/-- What a voltage, temperature or current of a string is graded on: the epoch's values and the string's rating. -/
theorem State.graded_congr {s t : State} {x q : Nat} (hq : q < 6) (he : t.hep x = s.hep x)
    (hr : t.reg pLIM (0x800 + 8 * x) = s.reg pLIM (0x800 + 8 * x)) : t.graded x q = s.graded x q := by
  have hchg : t.rateChg x = s.rateChg x := by rw [State.rateChg, State.fld, hr]; rfl
  have hdis : t.rateDis x = s.rateDis x := by rw [State.rateDis, State.fld, hr]; rfl
  unfold State.graded
  rw [he, hchg, hdis]
  match q with
  | 0 | 1 | 2 | 3 | 4 | 5 => rfl
  | q + 6 => omega

theorem unarmedReg_rating {x : Nat} (hx : x < 48) : unarmedReg pLIM (0x800 + 8 * x) := by
  intro y
  unfold regAddr armOff
  split <;> omega

/-- t grades string x as s does, and has the entry of s for its quantity q. -/
def State.GradesAs (s t : State) (x q : Nat) : Prop :=
  t.besideGrading = s.besideGrading ∧ t.reg pLIM (0x800 + 8 * x) = s.reg pLIM (0x800 + 8 * x) ∧
    t.level (16 * x + q) = s.level (16 * x + q)

/-- A quantity without a value keeps its entry in the turn of every quantity. -/
theorem State.gradeOne_gradesAs {s t : State} {x q : Nat} (hx : x < 48) (hq : q < 9) (hv : s.graded x q = none) (hl : lossQ q = false)
    (h : s.GradesAs t x q) {y r : Nat} (hr : r < 16) : s.GradesAs (t.gradeOne y r) x q := by
  obtain ⟨hbeside, hreg, hlevel⟩ := h
  refine ⟨(State.gradeOne_besideGrading t y r).trans hbeside, (State.gradeOne_reg t y r (unarmedReg_rating hx)).trans hreg, ?_⟩
  by_cases hi : 16 * x + q = 16 * y + r
  · obtain ⟨rfl, rfl⟩ : y = x ∧ r = q := by omega
    have hq6 : r < 6 := by
      by_contra hge
      have hloss : r = 6 ∨ r = 7 ∨ r = 8 := by omega
      rcases hloss with rfl | rfl | rfl <;> exact absurd hl (by decide)
    have hnone : t.graded y r = none := (State.graded_congr hq6 (State.reads_eq hbeside fun u => u.hep y) hreg).trans hv
    rw [State.gradeOne_of_none hnone hl, hlevel]
  · rw [State.gradeOne_level_ne t hi, hlevel]

theorem State.allGraded_level {s : State} {x q : Nat} (hx : x < 48) (hq : q < 9) (hv : s.graded x q = none) (hl : lossQ q = false) :
    s.allGraded.level (16 * x + q) = s.level (16 * x + q) := by
  have hstrings : s.GradesAs (foldS s.strings (fun t x => foldS (List.range 9) (fun t q => t.gradeOne x q) t) s) x q := by
    refine foldS_keeps_prop (P := fun t => s.GradesAs t x q) ⟨rfl, rfl, rfl⟩ fun t ht y _ => ?_
    refine foldS_keeps_prop (P := fun t => s.GradesAs t x q) ht fun t ht r hr => ?_
    exact State.gradeOne_gradesAs hx hq hv hl ht ((List.mem_range.mp hr).trans (by decide))
  exact (State.gradeOne_gradesAs hx hq hv hl hstrings (by decide)).2.2

theorem grading_takesEpoch (s : State) : ∃ t, exec .grading s = .next t ∧ t.prot.frameEpoch = s.prot.lastCommitEpoch ∧ t.now = s.now ∧
    (∀ x ∈ s.strings, ∀ q < 9, s.graded x q = none → lossQ q = false →
      (t.level (16 * x + q)).entered = (s.level (16 * x + q)).entered) := by
  have hframe := State.protFrame_besideRequest s.allGraded.epochTaken.joinChecked
  have hjoin := State.joinChecked_besideJoinSteps s.allGraded.epochTaken
  have hgraded := State.allGraded_besideGrading s
  refine ⟨_, exec_grading s, ?_, ?_, fun x hx q hq hv hl => ?_⟩
  · exact ((State.reads_eq hframe fun t => t.prot.frameEpoch).trans (State.reads_eq hjoin fun t => t.prot.frameEpoch)).trans
      (State.reads_eq hgraded fun t => t.prot.lastCommitEpoch)
  · exact ((State.reads_eq hframe State.now).trans (State.reads_eq hjoin State.now)).trans (State.reads_eq hgraded State.now)
  · have hx48 : x < 48 := List.mem_range.mp (List.mem_filter.mp hx).1
    have hlevel := (State.reads_eq hframe fun t => t.level (16 * x + q)).trans (State.reads_eq hjoin fun t => t.level (16 * x + q))
    exact congrArg LevelSt.entered (hlevel.trans (State.allGraded_level hx48 hq hv hl))

end Sys2Proof.Machine
end

section
/-! PROT_CLEAR and PROT_FRAME_REPEAT (R243, R251). -/
namespace Sys2Proof.Machine

/-- The entry of a quantity after PROT.CTRL.CLEAR, where the REARM_T condition is `rearmed`. -/
def LevelSt.cleared (l : LevelSt) (rearmed : Bool) : LevelSt := if l.latched && rearmed then l.unlatched else l

/-- Levels 4 and 5 are gone with the latch. -/
theorem LevelSt.unlatched_latched (l : LevelSt) : l.unlatched.latched = false := by
  simp [LevelSt.latched, LevelSt.unlatched]

theorem LevelSt.cleared_entered (l : LevelSt) (b : Bool) :
    (l.cleared b).entered = if l.latched && b then l.entered &&& 7#5 else l.entered := apply_ite LevelSt.entered _ _ _

/-- A second CLEAR finds nothing latched that it might clear. -/
theorem LevelSt.cleared_twice (l : LevelSt) (b : Bool) : (l.cleared b).cleared b = l.cleared b := by
  unfold LevelSt.cleared
  by_cases h : (l.latched && b) = true
  · rw [if_pos h, l.unlatched_latched, Bool.false_and, if_neg Bool.false_ne_true]
  · rw [if_neg h, if_neg h]

theorem LevelSt.cleared_rearmSince (l : LevelSt) (b : Bool) : (l.cleared b).rearmSince = l.rearmSince := by
  unfold LevelSt.cleared
  split <;> rfl

/-- The turn of one quantity in PROT.CTRL.CLEAR. -/
def State.clearTurn (s : State) (x q : Nat) : State :=
  if (s.level (16 * x + q)).latched && s.rearmed x q then s.latchClear x q 2 else s

theorem State.clearTurn_keeps {β : Type} (p : State → β) (s : State) (x q : Nat) (h : p (s.latchClear x q 2) = p s) :
    p (s.clearTurn x q) = p s := by
  rw [State.clearTurn, apply_ite p, h, ite_self]

theorem State.clearTurn_level_same (s : State) (x q : Nat) :
    (s.clearTurn x q).level (16 * x + q) = (s.level (16 * x + q)).cleared (s.rearmed x q) := by
  rw [State.clearTurn, LevelSt.cleared, apply_ite (fun t : State => t.level (16 * x + q)), State.latchClear_level_same]

theorem State.clearTurn_besideLevels (s : State) (x q : Nat) : (s.clearTurn x q).besideLevels = s.besideLevels :=
  State.clearTurn_keeps State.besideLevels s x q (State.latchClear_besideLevels s x q 2)

/-- Every latch that may clear has been cleared: of one string, of every string, and of the section too. -/
def State.stringCleared (s : State) (x : Nat) : State := foldS (List.range 9) (fun t q => t.clearTurn x q) s
def State.stringsCleared (s : State) : State := foldS range48 (fun t x => t.stringCleared x) s
def State.allCleared (s : State) : State := s.stringsCleared.clearTurn 48 9

/-- What every turn keeps, the whole keeps. -/
theorem State.stringsCleared_keeps {β : Type} (p : State → β) (s : State) (h : ∀ t x q, p (State.latchClear t x q 2) = p t) :
    p s.stringsCleared = p s :=
  foldS_keeps p _ _ s fun t x => foldS_keeps p _ _ t fun t q => State.clearTurn_keeps p t x q (h t x q)
theorem State.allCleared_keeps {β : Type} (p : State → β) (s : State) (h : ∀ t x q, p (State.latchClear t x q 2) = p t) :
    p s.allCleared = p s :=
  (State.clearTurn_keeps p _ 48 9 (h _ 48 9)).trans (State.stringsCleared_keeps p s h)

theorem exec_protClear (o : Origin) (s : State) : exec (.protClear o) s = .next (s.allCleared.settled.bumpCfg pPROT) := by
  have hexec : exec (.protClear o) s =
      .next (s.served o pPROT 0x008 (.ok (foldS s.stringsCleared.strings (fun t x => t.settle x) s.allCleared))) := rfl
  have hstrings : s.stringsCleared.strings = s.allCleared.strings :=
    (State.reads_eq (State.clearTurn_besideLevels s.stringsCleared 48 9) State.strings).symm
  rw [hexec, hstrings, State.served_ok_of_mailbox _ _ _ _ (by decide)]
  rfl

/-- The REARM_T condition is read off the entry, the clock and REARM_T. -/
theorem State.rearmed_congr {s t : State} {x q : Nat} (hl : (t.level (16 * x + q)).rearmSince = (s.level (16 * x + q)).rearmSince)
    (hb : t.besideLevels = s.besideLevels) : t.rearmed x q = s.rearmed x q := by
  have htime := State.reads_eq hb fun u => (u.now, sNs (u.fld pPROT 0x020 31 16))
  simp only [Prod.mk.injEq] at htime
  rw [State.rearmed, State.rearmed, hl, htime.1, htime.2]

/-- t is s but for levels, records and events, and has the entry l for quantity q of string x. -/
def State.HasEntry (s t : State) (x q : Nat) (l : LevelSt) : Prop := t.besideLevels = s.besideLevels ∧ t.level (16 * x + q) = l

/-- The entry of a quantity after CLEAR. -/
def State.clearedLevel (s : State) (x q : Nat) : LevelSt := (s.level (16 * x + q)).cleared (s.rearmed x q)

section
variable {s t : State} {x q : Nat} {l : LevelSt} (h : s.HasEntry t x q l)
include h

theorem State.clearTurn_hasEntry_of_ne {y r : Nat} (hne : 16 * x + q ≠ 16 * y + r) : s.HasEntry (t.clearTurn y r) x q l :=
  ⟨(State.clearTurn_besideLevels t y r).trans h.1,
    (State.clearTurn_keeps (fun u => u.level (16 * x + q)) t y r (State.latchClear_level_ne t 2 hne)).trans h.2⟩

/-- The own turn of a quantity clears its entry. -/
theorem State.clearTurn_hasEntry (hl : l.rearmSince = (s.level (16 * x + q)).rearmSince) :
    s.HasEntry (t.clearTurn x q) x q (l.cleared (s.rearmed x q)) := by
  obtain ⟨hbeside, hlevel⟩ := h
  refine ⟨(State.clearTurn_besideLevels t x q).trans hbeside, ?_⟩
  rw [State.clearTurn_level_same, hlevel, State.rearmed_congr ((congrArg LevelSt.rearmSince hlevel).trans hl) hbeside]

end

/-- Before its own turn a quantity has the entry of s, and after it the cleared one. -/
theorem State.clearTurn_of_before {s t : State} {x q y r : Nat} (h : s.HasEntry t x q (s.level (16 * x + q))) (hq : q < 16) (hr : r < 16) :
    s.HasEntry (t.clearTurn y r) x q (s.level (16 * x + q)) ∨ s.HasEntry (t.clearTurn y r) x q (s.clearedLevel x q) := by
  by_cases hi : 16 * x + q = 16 * y + r
  · obtain ⟨rfl, rfl⟩ : y = x ∧ r = q := by omega
    exact .inr (State.clearTurn_hasEntry h rfl)
  · exact .inl (State.clearTurn_hasEntry_of_ne h hi)

theorem State.clearTurn_of_after {s t : State} {x q y r : Nat} (h : s.HasEntry t x q (s.clearedLevel x q)) (hq : q < 16) (hr : r < 16) :
    s.HasEntry (t.clearTurn y r) x q (s.clearedLevel x q) := by
  by_cases hi : 16 * x + q = 16 * y + r
  · obtain ⟨rfl, rfl⟩ : y = x ∧ r = q := by omega
    have htwice := State.clearTurn_hasEntry h (LevelSt.cleared_rearmSince _ _)
    rwa [State.clearedLevel, LevelSt.cleared_twice] at htwice
  · exact State.clearTurn_hasEntry_of_ne h hi

section
variable {s t : State} {x q : Nat} (hq : q < 9)
include hq

theorem State.stringCleared_of_after (y : Nat) (h : s.HasEntry t x q (s.clearedLevel x q)) :
    s.HasEntry (t.stringCleared y) x q (s.clearedLevel x q) :=
  foldS_keeps_prop (P := fun t => s.HasEntry t x q (s.clearedLevel x q)) h fun _ ht r hr =>
    State.clearTurn_of_after ht (by omega) ((List.mem_range.mp hr).trans (by decide))

theorem State.stringCleared_of_ne {y : Nat} (hy : y ≠ x) (h : s.HasEntry t x q (s.level (16 * x + q))) :
    s.HasEntry (t.stringCleared y) x q (s.level (16 * x + q)) := by
  refine foldS_keeps_prop (P := fun t => s.HasEntry t x q (s.level (16 * x + q))) h fun t ht r hr => ?_
  have hr9 : r < 9 := List.mem_range.mp hr
  exact State.clearTurn_hasEntry_of_ne ht (by omega)

theorem State.stringCleared_self (h : s.HasEntry t x q (s.level (16 * x + q))) :
    s.HasEntry (t.stringCleared x) x q (s.clearedLevel x q) := by
  have hlt : ∀ r ∈ List.range 9, r < 16 := fun r hr => (List.mem_range.mp hr).trans (by decide)
  exact foldS_reaches (Q := fun t => s.HasEntry t x q (s.level (16 * x + q))) (P := fun t => s.HasEntry t x q (s.clearedLevel x q))
    (List.mem_range.mpr hq) h (fun t ht r hr => State.clearTurn_of_before ht (by omega) (hlt r hr))
    (fun t ht => State.clearTurn_hasEntry ht rfl) fun t ht r hr => State.clearTurn_of_after ht (by omega) (hlt r hr)

/-- The entry of a quantity of a string is cleared, once and for all. -/
theorem State.allCleared_level (s : State) (hx : x < 48) : s.allCleared.level (16 * x + q) = s.clearedLevel x q := by
  have hmem : x ∈ range48 := List.mem_range.mpr hx
  have hstrings : s.HasEntry s.stringsCleared x q (s.clearedLevel x q) := by
    unfold State.stringsCleared
    refine foldS_reaches (Q := fun t => s.HasEntry t x q (s.level (16 * x + q))) (P := fun t => s.HasEntry t x q (s.clearedLevel x q))
      hmem ⟨rfl, rfl⟩ (fun t ht y _ => ?_) (fun t ht => State.stringCleared_self hq ht) fun t ht y _ => State.stringCleared_of_after hq y ht
    by_cases hy : y = x
    · exact .inr (by rw [hy]; exact State.stringCleared_self hq ht)
    · exact .inl (State.stringCleared_of_ne hq hy ht)
  exact (State.clearTurn_of_after hstrings (by omega) (by decide)).2

end

theorem State.raise_cfgseq (s : State) (pg n k : Nat) : ((s.raise pg n).page k).cfgseq = (s.page k).cfgseq := by
  by_cases h : k = pg
  · rw [h, State.raise, State.updPage_same]
  · rw [State.raise_page_ne s n h]

theorem State.bumpCfg_level (s : State) (pg j : Nat) : (s.bumpCfg pg).level j = s.level j := rfl

/-- The state without the strings' own. -/
def State.besideStrs (s : State) : State := { s with strs := [] }

theorem State.settled_besideStrs (s : State) : s.settled.besideStrs = s.besideStrs :=
  foldS_keeps State.besideStrs _ _ s fun _ _ => rfl

theorem State.latchClear_cfgseq (s : State) (x q cause : Nat) :
    ((s.latchClear x q cause).page pPROT).cfgseq = (s.page pPROT).cfgseq :=
  State.latchClear_keeps (fun t => (t.page pPROT).cfgseq) s x q cause
    (fun t typ pl => congrArg PageSt.cfgseq (State.log_page t typ pl (by decide))) (fun t => State.raise_cfgseq t pPROT 9 pPROT)
    fun _ => rfl

theorem State.allCleared_cfgseq (s : State) : (s.allCleared.page pPROT).cfgseq = (s.page pPROT).cfgseq :=
  State.allCleared_keeps (fun t => (t.page pPROT).cfgseq) s fun t x q => State.latchClear_cfgseq t x q 2

theorem protClear_clearsLatches (s : State) (o : Origin) : ∃ t, exec (.protClear o) s = .next t ∧
    (t.page pPROT).cfgseq = (s.page pPROT).cfgseq + 1#32 ∧
    (∀ x < 48, ∀ q < 9, (t.level (16 * x + q)).entered = (if (s.level (16 * x + q)).latched && s.rearmed x q then
      (s.level (16 * x + q)).entered &&& 7#5 else (s.level (16 * x + q)).entered)) ∧
    t.coils = s.coils ∧ t.waits = s.waits ∧ t.mode = s.mode := by
  have hbeside : s.allCleared.besideLevels = s.besideLevels :=
    State.allCleared_keeps State.besideLevels s fun t x q => State.latchClear_besideLevels t x q 2
  have hseq := State.allCleared_cfgseq s
  have hsettled := State.settled_besideStrs s.allCleared
  refine ⟨_, exec_protClear o s, ?_, fun x hx q hq => ?_, ?_, ?_, ?_⟩
  · rw [State.bumpCfg_cfgseq, State.reads_eq hsettled fun t => (t.page pPROT).cfgseq, hseq]
  · rw [State.bumpCfg_level, State.reads_eq hsettled fun t => t.level (16 * x + q), State.allCleared_level hq s hx, State.clearedLevel,
      LevelSt.cleared_entered]
  · rw [State.bumpCfg_coils, State.reads_eq hsettled State.coils, State.reads_eq hbeside State.coils]
  · rw [State.bumpCfg_waits, State.reads_eq hsettled State.waits, State.reads_eq hbeside State.waits]
  · rw [State.bumpCfg_mode, State.reads_eq hsettled State.mode, State.reads_eq hbeside State.mode]

/-! ### The request frame -/

theorem State.bufQueue_of_idle {s : State} {k : Nat} (ws : List Word) (h : (s.buf k).st ≠ .sending) :
    s.bufQueue k ws = s.updBuf k (fun b => b.fresh s.now ws) := if_neg h

/-- The words of the protection request frame (Table 09.5). -/
def State.requestWords (s : State) : List Word :=
  packWords false true ((s.item 21 8).toNat / 2 ^ 29 % 2 == 1) true false (s.item 21 8).toNat 10
    (leBytes 4 s.prot.frameEpoch.toNat ++ [s.term, BitVec.ofNat 8 s.prot.frameFlags] ++ leBytes 6 s.prot.frameStrings.toNat ++
      [0#8, 0#8, 0#8, 0#8])

theorem State.sendProtFrame_of_buf {s : State} {k : Nat} (h : s.ctlBuf 0 = some k) : s.sendProtFrame = s.bufQueue k s.requestWords := by
  unfold State.sendProtFrame
  rw [h]
  rfl

theorem exec_protFrameRepeat_of_wait {s : State} (h : s.anyWait = true) : exec .protFrameRepeat s = .next s.sendProtFrame :=
  if_pos (by rw [h, Bool.or_true])

theorem protFrameRepeat_queues {s : State} {k : Nat} (hw : s.anyWait = true) (hk : s.ctlBuf 0 = some k) (hb : (s.buf k).st ≠ .sending) :
    ∃ t, exec .protFrameRepeat s = .next t ∧ (t.buf k).st = .queued ∧ (t.buf k).words = s.requestWords ∧
      (∀ j, j ≠ k → t.buf j = s.buf j) ∧ { t with bufs := s.bufs } = s := by
  have hsent : s.sendProtFrame = s.updBuf k (fun b => b.fresh s.now s.requestWords) :=
    (State.sendProtFrame_of_buf hk).trans (State.bufQueue_of_idle _ hb)
  have hbuf : s.sendProtFrame.buf k = (s.buf k).fresh s.now s.requestWords := hsent ▸ State.updBuf_same s k _
  refine ⟨_, exec_protFrameRepeat_of_wait hw, ?_, ?_, fun j hj => ?_, State.sendProtFrame_besideBufs s⟩
  · rw [hbuf]
    rfl
  · rw [hbuf]
    rfl
  · rw [hsent]
    exact State.updBuf_ne s _ hj

end Sys2Proof.Machine
end

section
/-! Events of page PROT through the section's operations: an opening under load raises its event 5 (R257), nothing else touches the page. -/
namespace Sys2Proof.Machine

/-- Event n of page PROT. -/
def State.protEvt (n : Nat) (s : State) : Bool := s.evtBit pPROT n

theorem State.raise_evtBit_ne (s : State) {pg k n m : Nat} (h : k ≠ pg ∨ m ≠ n) : (s.raise pg n).evtBit k m = s.evtBit k m := by
  by_cases hk : k = pg
  · subst hk
    have hm : m ≠ n := h.resolve_left fun hne => hne rfl
    have hbit : (1#32 <<< n).getLsbD m = false := by
      rw [BitVec.getLsbD_shiftLeft]
      by_cases hlt : m < n
      · simp [hlt]
      · have hsub : m - n ≠ 0 := by omega
        simp [hsub]
    simp [State.evtBit, hbit]
  · exact State.evtBit_of_page m (State.raise_page_ne s n hk)

theorem State.protEvt_of_pages {s t : State} (n : Nat) (h : t.pages = s.pages) : t.protEvt n = s.protEvt n :=
  State.evtBit_of_page n (State.page_of_pages h pPROT)

theorem State.log_protEvt (s : State) (typ : Nat) (pl : List Word) (n : Nat) : (s.log typ pl).protEvt n = s.protEvt n :=
  State.evtBit_of_page n (State.log_page s typ pl (by decide))

/-- A record with an event of another page leaves the events of PROT. -/
theorem State.note_protEvt (s : State) (typ : Nat) (pl : List Nat) {pg : Nat} (m n : Nat) (h : pPROT ≠ pg) :
    ((s.logN typ pl).raise pg m).protEvt n = s.protEvt n :=
  (State.raise_evtBit_ne _ (.inl h)).trans (State.log_protEvt s typ _ n)

theorem State.openChans_protEvt (s : State) (cs : List Nat) (n : Nat) : (s.openChans cs).protEvt n = s.protEvt n :=
  State.protEvt_of_pages n (State.reads_eq (State.openChans_besideContactors s cs) State.pages)

theorem State.wearUnderLoad_protEvt (s : State) (a c n : Nat) : (s.wearUnderLoad a c).protEvt n = s.protEvt n := by
  have hcoil : ∀ f, (s.updCoil c f).protEvt n = s.protEvt n := fun _ => State.protEvt_of_pages n rfl
  have hnote : ∀ (t : State) pl, ((t.logN 0x0609 pl).raise pACT 9).protEvt n = t.protEvt n := fun t pl =>
    State.note_protEvt t _ pl 9 n (by decide)
  simp only [State.wearUnderLoad, State.wearCheck, apply_ite (State.protEvt n), hnote, hcoil, ite_self]

section
variable {n : Nat} (hn : n ≠ 5)
include hn

theorem State.recordOpening_protEvt (s : State) (x : Nat) (o : DiscOrigin) (i : Option Int) (w : Nat) (cs : List Nat) :
    (s.recordOpening x o i w cs).protEvt n = s.protEvt n := by
  have hraise : ∀ t : State, (t.raise pPROT 5).protEvt n = t.protEvt n := fun t => State.raise_evtBit_ne t (.inr hn)
  have hwear : ∀ a, (foldS cs (fun t c => t.wearUnderLoad a c) s).protEvt n = s.protEvt n := fun a =>
    foldS_keeps (State.protEvt n) cs _ s fun t c => State.wearUnderLoad_protEvt t a c n
  simp only [State.recordOpening, apply_ite (State.protEvt n), hraise, State.log_protEvt, hwear, ite_self]

theorem State.openNow_protEvt (s : State) (x : Nat) (o : DiscOrigin) (i : Option Int) : (s.openNow x o i).protEvt n = s.protEvt n := by
  have hstring : ∀ (t : State) (w : WaitSt) (f : StrSt → StrSt), ((t.setWaitOf x w).updStr x f).protEvt n = t.protEvt n :=
    fun _ _ _ => State.protEvt_of_pages n rfl
  unfold State.openNow
  dsimp only
  rw [hstring, State.openChans_protEvt, State.recordOpening_protEvt hn]

theorem State.hardReq_protEvt (s : State) (x : Nat) (o : DiscOrigin) : (s.hardReq x o).protEvt n = s.protEvt n := by
  simp only [State.hardReq, State.discRecord, apply_ite (State.protEvt n), State.openNow_protEvt hn, State.log_protEvt, ite_self]

end

theorem State.softReq_protEvt (s : State) (x : Nat) (o : DiscOrigin) (n : Nat) : (s.softReq x o).protEvt n = s.protEvt n := by
  have hset : ∀ (t : State) w, (State.setWaitOf t x w).protEvt n = t.protEvt n := fun _ _ => State.protEvt_of_pages n rfl
  have hupd : ∀ (t : State) f, (State.updWaitOf t x f).protEvt n = t.protEvt n := fun _ _ => State.protEvt_of_pages n rfl
  by_cases h : s.isOpen x = true
  · rw [State.softReq_of_open o h, State.discRecord, State.log_protEvt]
  · rw [Bool.not_eq_true] at h
    by_cases hw : (s.waitOf x).waiting = true
    · rw [State.softReq_of_waiting o h hw, hupd, State.discRecord, State.log_protEvt]
    · obtain ⟨since, e⟩ := State.softReq_of_idle o h hw
      rw [e, hset, State.discRecord, State.log_protEvt]

theorem State.openFeed_protEvt (s : State) (n : Nat) : s.openFeed.protEvt n = s.protEvt n := by
  have hjoin : ∀ (t : State) j, ({ t with join := j } : State).protEvt n = t.protEvt n := fun _ _ => State.protEvt_of_pages n rfl
  unfold State.openFeed
  split
  · simp only [apply_ite (State.protEvt n), hjoin, State.openChans_protEvt, ite_self]
  · rfl

theorem State.convStop_protEvt (s : State) (n : Nat) : s.convStop.protEvt n = s.protEvt n := by
  have hbfc : ∀ (t : State) b, ({ t with bfc := b } : State).protEvt n = t.protEvt n := fun _ _ => State.protEvt_of_pages n rfl
  unfold State.convStop
  split <;> simp only [State.openFeed_protEvt, State.convRelease, hbfc]

theorem State.withMode_protEvt (s : State) (m : ModeSt) (n : Nat) : ({ s with mode := m } : State).protEvt n = s.protEvt n :=
  State.protEvt_of_pages n rfl

theorem State.askReady_protEvt (s : State) (n : Nat) : s.askReady.protEvt n = s.protEvt n := by
  unfold State.askReady
  split
  · exact State.withMode_protEvt s _ n
  · simp only [apply_ite (State.protEvt n), State.withMode_protEvt, ite_self]

section
variable {n : Nat} (hn : n ≠ 5)
include hn

theorem State.joinAbort_protEvt (s : State) (cause : Nat) : (s.joinAbort cause).protEvt n = s.protEvt n := by
  have hnote : ∀ (t : State) pl, ((t.logN 0x0612 pl).raise pJOIN 1).protEvt n = t.protEvt n := fun t pl =>
    State.note_protEvt t _ pl 1 n (by decide)
  have hhard : ∀ (l : List Nat) t, (foldS l (fun t x => State.hardReq t x .joinAbort) t).protEvt n = t.protEvt n := fun l t =>
    foldS_keeps (State.protEvt n) l _ t fun t x => State.hardReq_protEvt hn t x _
  have hsoft : ∀ (l : List Nat) t, (foldS l (fun t x => State.softReq t x .joinAbort) t).protEvt n = t.protEvt n := fun l t =>
    foldS_keeps (State.protEvt n) l _ t fun t x => State.softReq_protEvt t x _ n
  have hjoin : ∀ (t : State) j, ({ t with join := j } : State).protEvt n = t.protEvt n := fun _ _ => State.protEvt_of_pages n rfl
  simp only [State.joinAbort, apply_ite (State.protEvt n), State.askReady_protEvt, State.convStop_protEvt, hjoin, hsoft, hhard, hnote,
    ite_self]

theorem State.lockout_protEvt (s : State) (cause : Nat) : (s.lockout cause).protEvt n = s.protEvt n := by
  have hnote : ∀ (t : State) pl, ((t.logN 0x0C03 pl).raise pMODE 2).protEvt n = t.protEvt n := fun t pl =>
    State.note_protEvt t _ pl 2 n (by decide)
  have hsoft : ∀ (l : List Nat) t, (foldS l (fun t x => State.softReq t x .lockout) t).protEvt n = t.protEvt n := fun l t =>
    foldS_keeps (State.protEvt n) l _ t fun t x => State.softReq_protEvt t x _ n
  simp only [State.lockout, apply_ite (State.protEvt n), hsoft, State.convStop_protEvt, State.joinAbort_protEvt hn,
    State.withMode_protEvt, hnote, ite_self]

theorem State.levelEntered_protEvt (s : State) {x q k : Nat} (v : Rat) (hk : n ≠ k - 1) :
    (s.levelEntered x q k v).protEvt n = s.protEvt n :=
  State.levelEntered_keeps (State.protEvt n) s x q k v (fun t typ pl => State.log_protEvt t typ pl n)
    (fun t => State.raise_evtBit_ne t (.inr hk))
    (fun t => by
      obtain ⟨w, f, e⟩ := State.disarm_eq t x 4
      rw [e, State.note_protEvt _ _ _ _ _ (by decide)]
      exact State.protEvt_of_pages n rfl)
    (fun t => State.joinAbort_protEvt hn t 4) (fun t y o => State.softReq_protEvt t y o n) (fun t => State.lockout_protEvt hn t 2)
    (fun t => State.askReady_protEvt t n)

end

end Sys2Proof.Machine
end

section
/-! INSULATION_STATUS and INS_TIMEOUT (R247 to R249). -/
namespace Sys2Proof.Machine

/-- The state without the CAN controllers. -/
def State.besideCans (s : State) : State := { s with cans := [] }

theorem State.fifo0Take_besideCans (s : State) (f : CanFrame) : (s.fifo0Take f).besideCans = s.besideCans :=
  foldS_keeps State.besideCans (List.range 4) _ s (by intros; rfl)

/-- The resistance of a frame of four bytes or more (R247). -/
theorem leAt_zero_two {l : List Byte} (h : 4 ≤ l.length) : leAt l 0 2 = (l.getD 0 0#8).toNat + 256 * (l.getD 1 0#8).toNat := by
  match l with
  | a :: b :: _ => simp [leAt, ofLe]
  | [] | [_] => simp at h

/-- The state after a good frame of the insulation monitor. -/
def State.insulationTaken (s : State) (f : CanFrame) : State := { s with prot := { s.prot with
  insCounter := some (f.data.getD 3 0#8), insKohm := leAt f.data 0 2, insSeen := true, insAt := s.now, insStale := false } }

theorem exec_insulationStatus_of_good {s : State} {f : CanFrame} (hlen : 4 ≤ f.data.length)
    (hc : s.prot.insCounter ≠ some (f.data.getD 3 0#8)) (hv : (f.data.getD 2 0#8).getLsbD 0 = true) (hf : (f.data.getD 2 0#8).getLsbD 1 = false) :
    exec (.insulationStatus f) s = .next ((s.fifo0Take f).insulationTaken f) := by
  have hprot : (s.fifo0Take f).prot = s.prot := State.reads_eq (State.fifo0Take_besideCans s f) State.prot
  have hexec : exec (.insulationStatus f) s = execInsulationStatus f s := rfl
  rw [hexec, execInsulationStatus]
  dsimp only
  rw [if_neg (Nat.not_lt.mpr hlen), hprot, if_neg hc, hf, if_neg Bool.false_ne_true, if_pos hv, State.insulationTaken, hprot]
  rfl

/-- The state in which INS_STALE has been set, with its record and event. -/
def State.insStaleBegun (s : State) : State :=
  let t : State := { s with prot := { s.prot with insStale := true } }
  (t.logN 0x0508 [48, s.prot.insKohm, (s.now - s.prot.insAt) / 1000000]).raise pPROT 8

/-- The state in which INSUL holds a latching INS_LOSS_LVL. -/
def State.insLatched (s : State) (k : Nat) : State :=
  if 4 ≤ k then s.updLevel (16 * 48 + 9) (fun l => { l with entered := l.entered ||| (1#5 <<< (k - 1)) }) else s

theorem State.insStaleNow_eq {s : State} (h : s.prot.insStale = false) : s.insStaleNow =
    if s.lvl 48 9 < s.fld pPROT 0x028 2 0 ∧ s.fld pPROT 0x028 2 0 ≤ 5 then
      (((s.insStaleBegun.insLatched (s.fld pPROT 0x028 2 0)).levelEntered 48 9 (s.fld pPROT 0x028 2 0)
        ((s.insStaleBegun.insLatched (s.fld pPROT 0x028 2 0)).prot.insKohm : Rat)).enforce259).protFrame
    else s.insStaleBegun := by
  unfold State.insStaleNow
  rw [if_neg (by simp [h])]
  rfl

/-- What the write of INSUL's entry, the entering of one of its levels and the end of a grading keep is as the beginning of INS_STALE
leaves it. -/
theorem State.insStaleNow_keeps {β : Type} (p : State → β) {s : State} (h : s.prot.insStale = false)
    (hlevel : ∀ t f, p (State.updLevel t (16 * 48 + 9) f) = p t)
    (henter : ∀ t k v, k ≤ 5 → p (State.levelEntered t 48 9 k v) = p t)
    (hend : ∀ t, p (State.protFrame (State.enforce259 t)) = p t) : p s.insStaleNow = p s.insStaleBegun := by
  rw [State.insStaleNow_eq h]
  split
  · next hk =>
    rw [hend, henter _ _ _ hk.2, State.insLatched, apply_ite p, hlevel, ite_self]
  · rfl

theorem exec_insTimeout (s : State) :
    exec .insTimeout s = .next (s.reach (s.prot.insAt + s.fld pPROT 0x028 31 16 * 1000000)).insStaleNow := rfl

theorem unarmedReg_insulation : unarmedReg pPROT 0x028 := by
  intro x
  unfold regAddr armOff
  split <;> decide

/-- INSUL is held at INS_LOSS_LVL at least while INS_STALE is set (R248). -/
theorem State.insLossLevel_le_lvl {s : State} (h : s.prot.insStale = true) : s.fld pPROT 0x028 2 0 ≤ s.lvl 48 9 := by
  unfold State.lvl
  rw [if_pos ⟨rfl, rfl, h⟩]
  exact Nat.le_max_right _ _

/-- The beginning of INS_STALE: the mark and the event are set; the clock, the last resistance and INS_LOSS_LVL are as before. -/
theorem State.insStaleBegun_facts (s : State) : s.insStaleBegun.prot = { s.prot with insStale := true } ∧
    s.insStaleBegun.protEvt 8 = true ∧ s.insStaleBegun.now = s.now ∧ s.insStaleBegun.reg pPROT 0x028 = s.reg pPROT 0x028 := by
  have hbeside := State.log_besideWaits { s with prot := { s.prot with insStale := true } } 0x0508
    ([48, s.prot.insKohm, (s.now - s.prot.insAt) / 1000000].map word)
  exact ⟨State.reads_eq hbeside State.prot, State.raise_evtBit _ _ (by decide), State.reads_eq hbeside State.now,
    State.reads_eq hbeside fun t => t.reg pPROT 0x028⟩

theorem State.insStaleNow_facts {s : State} (h : s.prot.insStale = false) :
    s.insStaleNow.prot.insStale = true ∧ s.insStaleNow.evtBit pPROT 8 = true ∧ s.insStaleNow.now = s.now ∧
      s.insStaleNow.reg pPROT 0x028 = s.reg pPROT 0x028 ∧ s.insStaleNow.prot.insKohm = s.prot.insKohm := by
  obtain ⟨hprot, hevt, hnow, hreg⟩ := s.insStaleBegun_facts
  have hview := State.insStaleNow_keeps (fun t => (t.prot.insStale, t.prot.insKohm, t.now)) h (fun _ _ => rfl)
    (fun t k v _ => State.reads_eq (State.levelEntered_besideArms t 48 9 k v) fun t => (t.prot.insStale, t.prot.insKohm, t.now))
    fun t => State.reads_eq (State.enforced_besideEnforcing t) fun t => (t.prot.insStale, t.prot.insKohm, t.now)
  have hevent := State.insStaleNow_keeps (State.protEvt 8) h (fun _ _ => State.protEvt_of_pages 8 rfl)
    (fun t k v hk => State.levelEntered_protEvt (by decide) t v (by omega))
    fun t => State.reads_eq (State.enforced_besideEnforcing t) (State.protEvt 8)
  have hregister := State.insStaleNow_keeps (fun t => t.reg pPROT 0x028) h (fun _ _ => rfl)
    (fun t k v _ => State.levelEntered_reg t 48 9 k v unarmedReg_insulation)
    fun t => State.reads_eq (State.enforced_besideEnforcing t) fun t => t.reg pPROT 0x028
  rw [hprot, hnow] at hview
  simp only [Prod.mk.injEq] at hview
  exact ⟨hview.1, hevent.trans hevt, hview.2.2, hregister.trans hreg, hview.2.1⟩

theorem State.insStaleNow_of_reach {s : State} (u : Nat) (h : s.prot.insStale = false) :
    (s.reach u).insStaleNow.prot.insStale = true ∧ (s.reach u).insStaleNow.evtBit pPROT 8 = true ∧
      (s.reach u).insStaleNow.now = Nat.max s.now u ∧ s.fld pPROT 0x028 2 0 ≤ (s.reach u).insStaleNow.lvl 48 9 ∧
      (s.reach u).insStaleNow.prot.insKohm = s.prot.insKohm := by
  obtain ⟨hstale, hevt, hnow, hreg, hkohm⟩ := State.insStaleNow_facts (s := s.reach u) h
  have hfld : (s.reach u).insStaleNow.fld pPROT 0x028 2 0 = s.fld pPROT 0x028 2 0 := congrArg (fun w => field w 2 0) hreg
  exact ⟨hstale, hevt, hnow.trans (State.reach_now s u), hfld ▸ State.insLossLevel_le_lvl hstale, hkohm⟩

theorem insTimeout_setsStale {s : State} (h : s.prot.insStale = false) : ∃ t, exec .insTimeout s = .next t ∧ t.prot.insStale = true ∧
    t.evtBit pPROT 8 = true ∧ t.now = Nat.max s.now (s.prot.insAt + s.fld pPROT 0x028 31 16 * 1000000) ∧
    s.fld pPROT 0x028 2 0 ≤ t.lvl 48 9 ∧ t.prot.insKohm = s.prot.insKohm :=
  ⟨_, exec_insTimeout s, State.insStaleNow_of_reach _ h⟩

end Sys2Proof.Machine
end

section
/-! GradingClearRequestsAndInsulation (R241 to R243, R246 to R249, R251). -/
namespace Sys2Proof.Machine

theorem insulationStatus_takesGoodFrame {s : State} {f : CanFrame} (hlen : 4 ≤ f.data.length)
    (hc : s.prot.insCounter ≠ some (f.data.getD 3 0#8)) (hv : (f.data.getD 2 0#8).getLsbD 0 = true)
    (hf : (f.data.getD 2 0#8).getLsbD 1 = false) : exec (.insulationStatus f) s = .next { s.fifo0Take f with prot := { s.prot with
      insCounter := some (f.data.getD 3 0#8), insKohm := (f.data.getD 0 0#8).toNat + 256 * (f.data.getD 1 0#8).toNat, insSeen := true,
      insAt := s.now, insStale := false } } := by
  have hprot : (s.fifo0Take f).prot = s.prot := State.reads_eq (State.fifo0Take_besideCans s f) State.prot
  have hnow : (s.fifo0Take f).now = s.now := State.reads_eq (State.fifo0Take_besideCans s f) State.now
  rw [exec_insulationStatus_of_good hlen hc hv hf, State.insulationTaken, leAt_zero_two hlen, hprot, hnow]

/-- Settles O21: the five commands one after the other. -/
theorem gradingClearRequestsAndInsulation : Obligations.GradingClearRequestsAndInsulation :=
  ⟨fun s o => ⟨grading_takesEpoch s, protClear_clearsLatches s o, fun _ => protFrameRepeat_queues⟩,
    fun _ _ => ⟨insulationStatus_takesGoodFrame, insTimeout_setsStale⟩⟩

end Sys2Proof.Machine
end

section
/-! Pages on which events alone have been raised: records, openings and requests of the section do no more to them (R58, R60). -/
namespace Sys2Proof.Machine
-- One theorem after the other, here and in the sections below: the whole text in threads of its own is near the memory limit of its check.
set_option Elab.async false

/-- t has the pages of s, but for events raised. -/
def State.Raises (s t : State) : Prop := ∀ pg, ∃ m, t.page pg = { s.page pg with evt := (s.page pg).evt ||| m }

theorem State.Raises.of_pages {s t : State} (h : t.pages = s.pages) : s.Raises t := fun pg =>
  ⟨0#32, by rw [State.page_of_pages h pg, BitVec.or_zero]⟩

theorem State.Raises.trans {s t u : State} (h : s.Raises t) (h' : t.Raises u) : s.Raises u := fun pg => by
  obtain ⟨m, e⟩ := h pg
  obtain ⟨m', e'⟩ := h' pg
  exact ⟨m ||| m', by rw [e', e, BitVec.or_assoc]⟩

theorem State.Raises.cfgseq {s t : State} (h : s.Raises t) (pg : Nat) : (t.page pg).cfgseq = (s.page pg).cfgseq := by
  obtain ⟨m, e⟩ := h pg
  rw [e]

/-- An event that was set stays set. -/
theorem State.Raises.evtBit {s t : State} (h : s.Raises t) {pg n : Nat} (hb : s.evtBit pg n = true) : t.evtBit pg n = true := by
  obtain ⟨m, e⟩ := h pg
  rw [State.evtBit] at hb ⊢
  rw [e, BitVec.getLsbD_or, hb, Bool.true_or]

theorem State.Raises.ite {s t u : State} {c : Prop} [Decidable c] (ht : s.Raises t) (hu : s.Raises u) : s.Raises (if c then t else u) := by
  split
  · exact ht
  · exact hu

theorem State.raise_raises (s : State) (pg n : Nat) : s.Raises (s.raise pg n) := fun k => by
  by_cases h : k = pg
  · exact ⟨1#32 <<< n, by rw [h, State.raise, State.updPage_same]⟩
  · exact ⟨0#32, by rw [State.raise_page_ne s n h, BitVec.or_zero]⟩

theorem State.log_raises (s : State) (typ : Nat) (pl : List Word) : s.Raises (s.log typ pl) := by
  unfold State.log
  split
  · exact .of_pages rfl
  · exact (State.Raises.of_pages rfl).trans (State.raise_raises _ _ _)

/-- A record with an event. -/
theorem State.note_raises (s : State) (typ : Nat) (pl : List Word) (pg n : Nat) : s.Raises ((s.log typ pl).raise pg n) :=
  (State.log_raises s typ pl).trans (State.raise_raises _ pg n)

theorem foldS_raises {α : Type} (l : List α) (f : State → α → State) (s : State) (h : ∀ t a, State.Raises t (f t a)) :
    s.Raises (foldS l f s) :=
  foldS_keeps_prop (.of_pages rfl) fun t ht a _ => ht.trans (h t a)

theorem State.openChans_raises (s : State) (cs : List Nat) : s.Raises (s.openChans cs) :=
  .of_pages (State.reads_eq (State.openChans_besideContactors s cs) State.pages fun _ => rfl)

theorem State.wearCheck_raises (s : State) (c : Nat) (ops : Bool) : s.Raises (s.wearCheck c ops) :=
  .ite (State.note_raises s _ _ _ _) (.of_pages rfl)

theorem State.recordOpening_raises (s : State) (x : Nat) (o : DiscOrigin) (i : Option Int) (w : Nat) (cs : List Nat) :
    s.Raises (s.recordOpening x o i w cs) := by
  have hwear : ∀ a, s.Raises (foldS cs (fun t c => t.wearUnderLoad a c) s) := fun a =>
    foldS_raises _ _ _ fun t c => (State.Raises.of_pages rfl).trans (State.wearCheck_raises (t.updCoil c _) c false)
  unfold State.recordOpening
  extract_lets under
  split
  · exact (hwear _).trans (State.note_raises _ _ _ _ _)
  · exact State.log_raises _ _ _

theorem State.openNow_raises (s : State) (x : Nat) (o : DiscOrigin) (i : Option Int) : s.Raises (s.openNow x o i) := by
  unfold State.openNow
  exact (State.recordOpening_raises s x o i _ _).trans ((State.openChans_raises _ _).trans (.of_pages rfl))

theorem State.hardReq_raises (s : State) (x : Nat) (o : DiscOrigin) : s.Raises (s.hardReq x o) := by
  unfold State.hardReq
  split
  · exact State.log_raises s _ _
  · exact (State.log_raises s _ _).trans (State.openNow_raises _ x o _)

theorem State.softReq_raises (s : State) (x : Nat) (o : DiscOrigin) : s.Raises (s.softReq x o) := by
  by_cases h : s.isOpen x = true
  · exact State.softReq_of_open o h ▸ State.log_raises s _ _
  · rw [Bool.not_eq_true] at h
    by_cases hw : (s.waitOf x).waiting = true
    · exact State.softReq_of_waiting o h hw ▸ (State.log_raises s _ _).trans (.of_pages rfl)
    · obtain ⟨since, e⟩ := State.softReq_of_idle o h hw
      exact e ▸ (State.log_raises s _ _).trans (.of_pages rfl)

end Sys2Proof.Machine
end

section
/-! The contactors of a string (R271), and a hard request for it (R254): the string opens, and no other changes. -/
namespace Sys2Proof.Machine
set_option Elab.async false

theorem State.mem_chansOf {s : State} {x c : Nat} : c ∈ s.chansOf x ↔ s.negOf x = some c ∨ s.posOf x = some c := by
  have hopt : ∀ o : Option Nat, c ∈ optL o ↔ o = some c := by
    intro o
    cases o <;> simp [optL, eq_comm]
  rw [State.chansOf, List.mem_append, hopt, hopt]

theorem State.role_of_negOf {s : State} {x c : Nat} (h : s.negOf x = some c) : s.chRole c = 1 ∧ s.chStr c = x := by
  simpa using List.find?_some h
theorem State.role_of_posOf {s : State} {x c : Nat} (h : s.posOf x = some c) : s.chRole c = 2 ∧ s.chStr c = x := by
  simpa using List.find?_some h
theorem State.role_of_feedCh {s : State} {c : Nat} (h : s.feedCh = some c) : s.chRole c = 3 := by
  simpa using List.find?_some h

/-- A contactor belongs to one string. -/
theorem State.chStr_of_mem_chansOf {s : State} {x c : Nat} (h : c ∈ s.chansOf x) : s.chStr c = x :=
  (State.mem_chansOf.mp h).elim (fun h => (State.role_of_negOf h).2) fun h => (State.role_of_posOf h).2

/-- The string of a contactor with CLOSE assigned is not open. -/
theorem State.isOpen_of_assigned {s : State} {x c : Nat} (h : c ∈ s.chansOf x) (hc : (s.coil c).closeSeq.isSome = true) :
    s.isOpen x = false := by
  refine List.all_eq_false.mpr ⟨c, h, ?_⟩
  rw [State.closeCmd, hc]
  decide

/-- The state without its records. -/
def State.besideRecords (s : State) : State := { s with pages := [], gal := {} }

theorem State.log_besideRecords (s : State) (typ : Nat) (pl : List Word) : (s.log typ pl).besideRecords = s.besideRecords :=
  (congrArg State.besideRecords (State.log_frame s typ pl) :)

theorem State.discRecord_besideRecords (s : State) (x : Nat) (o : DiscOrigin) (hard : Bool) (d : Nat) :
    (s.discRecord x o hard d).besideRecords = s.besideRecords := State.log_besideRecords s _ _

theorem State.hardReq_of_open {s : State} {x : Nat} (o : DiscOrigin) (h : s.isOpen x = true) :
    s.hardReq x o = s.discRecord x o true s.now := if_pos h
theorem State.hardReq_of_assigned {s : State} {x : Nat} (o : DiscOrigin) (h : s.isOpen x = false) :
    s.hardReq x o = (s.discRecord x o true s.now).openNow x o (s.iNow x) := if_neg (by simp [h])

/-- A hard request opens a string that is not open. -/
theorem State.hardReq_opens {s : State} {x : Nat} (o : DiscOrigin) (h : s.isOpen x = false) : s.Opens (s.hardReq x o) x s.now := by
  have hrec := State.discRecord_besideRecords s x o true s.now
  have hopens := State.openNow_opens (s.discRecord x o true s.now) x o (s.iNow x)
  rw [State.reads_eq hrec State.now fun _ => rfl] at hopens
  rw [State.hardReq_of_assigned o h]
  exact cast (State.reads_eq hrec (fun u => u.Opens ((s.discRecord x o true s.now).openNow x o (s.iNow x)) x s.now) fun _ => rfl) hopens

theorem State.hardReq_besideOpening (s : State) (x : Nat) (o : DiscOrigin) : (s.hardReq x o).besideOpening = s.besideOpening := by
  have hrec : (s.discRecord x o true s.now).besideOpening = s.besideOpening :=
    State.reads_eq (State.log_besideRecords s _ _) State.besideOpening fun _ => rfl
  by_cases h : s.isOpen x = true
  · rw [State.hardReq_of_open o h, hrec]
  · rw [State.hardReq_of_assigned o (by simpa using h), State.openNow_besideOpening, hrec]

theorem State.hardReq_str_ne (s : State) {x y : Nat} (o : DiscOrigin) (hy : y ≠ x) : (s.hardReq x o).str y = s.str y := by
  by_cases h : s.isOpen x = true
  · rw [State.hardReq_of_open o h]
    exact State.reads_eq (State.log_besideRecords s _ _) (fun t => t.str y) fun _ => rfl
  · obtain ⟨-, -, -, -, -, hother, -⟩ := State.hardReq_opens o (show s.isOpen x = false by simpa using h)
    exact (hother y hy).1

/-- A string that is OPENING stays so. -/
theorem State.hardReq_keeps_opening {s : State} {x y : Nat} (o : DiscOrigin) (h : (s.str y).st = .opening) :
    ((s.hardReq x o).str y).st = .opening := by
  by_cases hy : y = x
  · by_cases ho : s.isOpen x = true
    · rw [State.hardReq_of_open o ho]
      exact (State.reads_eq (State.log_besideRecords s _ _) (fun t => (t.str y).st) fun _ => rfl).trans h
    · exact hy ▸ (State.hardReq_opens o (show s.isOpen x = false by simpa using ho)).2.1
  · rw [State.hardReq_str_ne s o hy, h]

/-- A hard request for one string leaves the contactors of another. -/
theorem State.hardReq_isOpen_ne (s : State) {x y : Nat} (o : DiscOrigin) (hy : y ≠ x) : (s.hardReq x o).isOpen y = s.isOpen y := by
  by_cases h : s.isOpen x = true
  · rw [State.hardReq_of_open o h]
    exact State.reads_eq (State.log_besideRecords s _ _) (fun t => t.isOpen y) fun _ => rfl
  · obtain ⟨-, -, -, -, hcoil, -⟩ := State.hardReq_opens o (show s.isOpen x = false by simpa using h)
    have hchans : (s.hardReq x o).chansOf y = s.chansOf y :=
      State.reads_eq (State.hardReq_besideOpening s x o) (fun t => t.chansOf y) fun _ => rfl
    rw [State.isOpen, State.isOpen, hchans, Bool.eq_iff_iff, List.all_eq_true, List.all_eq_true]
    refine forall₂_congr fun c hc => ?_
    rw [State.closeCmd, State.closeCmd, hcoil c fun hx => hy ((State.chStr_of_mem_chansOf hc).symm.trans (State.chStr_of_mem_chansOf hx))]

/-- Hard requests for the strings of a list open each of them that is not open. -/
theorem foldS_hardReq_opening {l : List Nat} (o : DiscOrigin) (s : State) {y : Nat} (hy : y ∈ l) (h : s.isOpen y = false) :
    ((foldS l (fun t x => t.hardReq x o) s).str y).st = .opening := by
  refine foldS_reaches (Q := fun t => t.isOpen y = false) (P := fun t => (t.str y).st = .opening) hy h (fun t ht x _ => ?_)
    (fun t ht => (State.hardReq_opens o ht).2.1) fun t ht x _ => State.hardReq_keeps_opening o ht
  by_cases hx : y = x
  · exact .inr (hx ▸ (State.hardReq_opens o ht).2.1)
  · exact .inl ((State.hardReq_isOpen_ne t o hx).trans ht)

end Sys2Proof.Machine
end

section
/-! The end of a join in progress (R281): what its requests, the converter's stop and the request of READY leave. -/
namespace Sys2Proof.Machine
set_option Elab.async false

/-- The state without what a stop of the converter and the opening of FEED change. -/
def State.besideConverter (s : State) : State :=
  { s with out := [], coils := [], bfc := {}, join := { s.join with feedOpenAt := none } }

theorem State.openFeed_besideConverter (s : State) : s.openFeed.besideConverter = s.besideConverter := by
  have hopen : ∀ c, ({ s.openChans [c] with join := { s.join with feedOpenAt := some s.now } } : State).besideConverter = s.besideConverter :=
    fun c => (congrArg (fun t : State => ({ t with join := s.join } : State).besideConverter) (State.openChans_besideContactors s [c]) :)
  unfold State.openFeed
  split
  · split
    · exact hopen _
    · rfl
  · rfl

theorem State.convStop_besideConverter (s : State) : s.convStop.besideConverter = s.besideConverter := by
  unfold State.convStop
  split
  · rfl
  · rfl
  · exact State.openFeed_besideConverter _
  · exact State.openFeed_besideConverter _
  · rfl
  · exact State.openFeed_besideConverter _
  · exact State.openFeed_besideConverter _

theorem State.askReady_besideMode (s : State) : s.askReady.besideMode = s.besideMode := by
  unfold State.askReady
  split
  · rfl
  · split <;> rfl

/-- A request of READY changes the transition asked for and nothing else of the mode. -/
theorem State.askReady_mode (s : State) : { s.askReady.mode with trans := s.mode.trans } = s.mode := by
  unfold State.askReady
  split
  · rfl
  · split <;> rfl

/-- The end of a join is noted. -/
def State.abortNoted (s : State) (cause : Nat) : State := (s.logN 0x0612 [48, cause, s.join.sec.code]).raise pJOIN 1
/-- Every closing string has been sent a hard request. -/
def State.closingsOpened (s : State) : State := foldS s.closingList (fun t x => t.hardReq x .joinAbort) s
/-- Every CLOSED string has been sent a soft request. -/
def State.closedAsked (s : State) : State := foldS s.closedList (fun t x => t.softReq x .joinAbort) s
/-- The join is over. -/
def State.joinEnded (s : State) : State := { s with join := { s.join with sec := .idle } }

theorem State.joinAbort_of_joining {s : State} {cause : Nat} (h : s.joining = true) : s.joinAbort cause =
    if cause = 3 ∨ cause = 6 then (s.abortNoted cause).closingsOpened.closedAsked.joinEnded.convStop
    else (s.abortNoted cause).closingsOpened.closedAsked.joinEnded.convStop.askReady := if_pos h

/-- The end of a join keeps what its record and event, its requests, the converter's stop and the request of READY keep. -/
theorem State.joinAbort_keeps {β : Type} (p : State → β) (s : State) (cause : Nat) (hnote : ∀ t, p (State.abortNoted t cause) = p t)
    (hhard : ∀ t x, p (State.hardReq t x .joinAbort) = p t) (hsoft : ∀ t x, p (State.softReq t x .joinAbort) = p t)
    (hend : ∀ t, p (State.joinEnded t) = p t) (hstop : ∀ t, p (State.convStop t) = p t) (hask : ∀ t, p (State.askReady t) = p t) :
    p (s.joinAbort cause) = p s := by
  have hhards : ∀ t, p (State.closingsOpened t) = p t := fun t => foldS_keeps p _ _ t hhard
  have hsofts : ∀ t, p (State.closedAsked t) = p t := fun t => foldS_keeps p _ _ t hsoft
  by_cases h : s.joining = true
  · rw [State.joinAbort_of_joining h, apply_ite p, hask, ite_self, hstop, hend, hsofts, hhards, hnote]
  · rw [State.joinAbort_of_not_joining cause (by simpa using h)]

theorem State.abortNoted_besideRecords (s : State) (cause : Nat) : (s.abortNoted cause).besideRecords = s.besideRecords :=
  State.log_besideRecords s _ _

theorem State.closingsOpened_besideOpening (s : State) : s.closingsOpened.besideOpening = s.besideOpening :=
  foldS_keeps State.besideOpening _ _ s fun t x => State.hardReq_besideOpening t x _

theorem State.closedAsked_besideWaits (s : State) : s.closedAsked.besideWaits = s.besideWaits :=
  foldS_keeps State.besideWaits _ _ s fun t x => State.softReq_besideWaits t x _

theorem State.closingsOpened_raises (s : State) : s.Raises s.closingsOpened :=
  foldS_raises _ _ s fun t x => State.hardReq_raises t x _

theorem State.closedAsked_raises (s : State) : s.Raises s.closedAsked :=
  foldS_raises _ _ s fun t x => State.softReq_raises t x _

theorem State.joinEnded_raises (s : State) : s.Raises s.joinEnded := .of_pages rfl

theorem State.convStop_raises (s : State) : s.Raises s.convStop :=
  .of_pages (State.reads_eq (State.convStop_besideConverter s) State.pages fun _ => rfl)

theorem State.askReady_raises (s : State) : s.Raises s.askReady :=
  .of_pages (State.reads_eq (State.askReady_besideMode s) State.pages fun _ => rfl)

/-- Of a join that ends at the site's request or on its time-out: the section is idle, JOIN_ABORT is set, the pages have no other change
than events, time stands, READY is asked for, and every closing string that is not open is OPENING. -/
theorem State.joinAbort_ends {s : State} {cause : Nat} (h : s.joining = true) (h3 : cause ≠ 3) (h6 : cause ≠ 6) :
    (s.joinAbort cause).join.sec = .idle ∧ (s.joinAbort cause).evtBit pJOIN 1 = true ∧ s.Raises (s.joinAbort cause) ∧
      (s.joinAbort cause).now = s.now ∧
      (s.mode.trans = none → (s.joinAbort cause).mode.trans = some { target := .ready, origin := 0, afterOpenings := true }) ∧
      (∀ y < 48, (s.str y).st.closing = true → s.isOpen y = false → ((s.joinAbort cause).str y).st = .opening) := by
  rw [State.joinAbort_of_joining h, if_neg (by simp [h3, h6])]
  have hnote := State.abortNoted_besideRecords s cause
  have hopened := State.closingsOpened_besideOpening (s.abortNoted cause)
  have hasked := State.closedAsked_besideWaits (s.abortNoted cause).closingsOpened
  have hstop := State.convStop_besideConverter (s.abortNoted cause).closingsOpened.closedAsked.joinEnded
  have hready := State.askReady_besideMode (s.abortNoted cause).closingsOpened.closedAsked.joinEnded.convStop
  have hafter : (s.abortNoted cause).Raises (s.abortNoted cause).closingsOpened.closedAsked.joinEnded.convStop.askReady :=
    (State.closingsOpened_raises _).trans <| (State.closedAsked_raises _).trans <|
      (State.joinEnded_raises _).trans ((State.convStop_raises _).trans (State.askReady_raises _))
  refine ⟨?_, hafter.evtBit (State.raise_evtBit _ _ (by decide)), (State.note_raises s _ _ _ _).trans hafter, ?_, fun ht => ?_,
    fun y hy hc ho => ?_⟩
  · exact (State.reads_eq hready (fun t => t.join.sec) fun _ => rfl).trans (State.reads_eq hstop (fun t => t.join.sec) fun _ => rfl)
  · exact (State.reads_eq hready State.now fun _ => rfl).trans <| (State.reads_eq hstop State.now fun _ => rfl).trans <|
      (State.reads_eq hasked State.now fun _ => rfl).trans <|
        (State.reads_eq hopened State.now fun _ => rfl).trans (State.reads_eq hnote State.now fun _ => rfl)
  · have hnone : (s.abortNoted cause).closingsOpened.closedAsked.joinEnded.convStop.mode.trans = none :=
      (State.reads_eq hstop (fun t => t.mode.trans) fun _ => rfl).trans <| (State.reads_eq hasked (fun t => t.mode.trans) fun _ => rfl).trans <|
        (State.reads_eq hopened (fun t => t.mode.trans) fun _ => rfl).trans <| (State.reads_eq hnote (fun t => t.mode.trans) fun _ => rfl).trans ht
    rw [State.askReady_of_none hnone]
  · have hmem : y ∈ (s.abortNoted cause).closingList := by
      rw [State.reads_eq hnote State.closingList fun _ => rfl]
      exact List.mem_filter.mpr ⟨List.mem_range.mpr hy, hc⟩
    have hopen : (s.abortNoted cause).isOpen y = false := (State.reads_eq hnote (fun t => t.isOpen y) fun _ => rfl).trans ho
    exact (State.reads_eq hready (fun t => (t.str y).st) fun _ => rfl).trans <| (State.reads_eq hstop (fun t => (t.str y).st) fun _ => rfl).trans <|
      (State.reads_eq hasked (fun t => (t.str y).st) fun _ => rfl).trans (foldS_hardReq_opening .joinAbort _ hmem hopen)

end Sys2Proof.Machine
end

section
/-! Arming of strings (R276): what disarming one changes, and what it leaves. -/
namespace Sys2Proof.Machine
set_option Elab.async false

/-- The strings in use are read off the stack ports' pages, which hold no arm bits. -/
theorem State.strUse_setArmWord (s : State) (y : Nat) (w : Word) : (s.setReg pJOIN (armOff y) w).strUse = s.strUse := by
  funext p
  by_cases hp : p < 48
  · have hreg : (s.setReg pJOIN (armOff y) w).reg (pPSEQ + p / 4) 0x008 = s.reg (pPSEQ + p / 4) 0x008 := by
      refine State.setReg_reg_ne s w ?_
      unfold regAddr armOff
      split <;> omega
    simp only [State.strUse, State.portEn, State.dualUpper, State.bit, State.fld, hreg]
  · simp only [State.strUse, State.portEn, hp, decide_false, Bool.false_and]

theorem State.armWord_setReg_same (s : State) (off : Nat) (w : Word) : (s.setReg pJOIN off w).armWord off = w := by
  simp only [State.armWord, State.setReg, slook_sput_same]

theorem State.armWord_setReg_ne (s : State) {x y : Nat} (w : Word) (h : armOff x ≠ armOff y) :
    (s.setReg pJOIN (armOff y) w).armWord (armOff x) = s.armWord (armOff x) := by
  have hlook : slook (s.setReg pJOIN (armOff y) w).regs (regAddr pJOIN (armOff x)) = slook s.regs (regAddr pJOIN (armOff x)) :=
    slook_sput_ne _ _ fun e => h (Nat.add_left_cancel e)
  simp only [State.armWord, hlook, State.strUse_setArmWord]
  rfl

theorem State.setArm_armed_same (s : State) (x : Nat) : (s.setArm x false).armed x = false := by
  have hlt : x % 32 < 32 := Nat.mod_lt _ (by decide)
  simp [State.armed, State.setArm, State.armWord_setReg_same, hlt]

/-- Strings of the section have arm bits of their own. -/
theorem State.setArm_armed_ne (s : State) {x y : Nat} (hx : x < 48) (hy : y < 48) (h : x ≠ y) : (s.setArm y false).armed x = s.armed x := by
  by_cases hoff : armOff x = armOff y
  · have hbit : ((1#32 <<< (y % 32)) : Word).getLsbD (x % 32) = false := by
      have hmod : x % 32 ≠ y % 32 := by
        unfold armOff at hoff
        split at hoff <;> split at hoff <;> omega
      rw [BitVec.getLsbD_shiftLeft]
      by_cases hlt : x % 32 < y % 32
      · simp [hlt]
      · simp [show x % 32 - y % 32 ≠ 0 by omega]
    have hlt : x % 32 < 32 := Nat.mod_lt _ (by decide)
    rw [State.armed, State.armed, State.setArm, hoff, State.armWord_setReg_same, if_neg Bool.false_ne_true, BitVec.getLsbD_and,
      BitVec.getLsbD_not, hbit]
    simp [hlt]
  · rw [State.armed, State.armed, State.setArm, State.armWord_setReg_ne s _ hoff]

/-- The state without the strings' own and the records. -/
def State.besideStrRecords (s : State) : State := { s with pages := [], gal := {}, strs := [] }

theorem State.disarm_besideStrRecords (s : State) (x cause : Nat) :
    (s.disarm x cause).besideStrRecords = (s.setArm x false).besideStrRecords :=
  (congrArg (fun t : State => { t.besideRecords with strs := [] }) (State.log_frame _ _ _) :)

/-- The state without what disarming a string changes. -/
def State.besideDisarming (s : State) : State := { s.besideStrRecords with regs := [] }

theorem State.disarm_besideDisarming (s : State) (x cause : Nat) : (s.disarm x cause).besideDisarming = s.besideDisarming :=
  (State.reads_eq (State.disarm_besideStrRecords s x cause) State.besideDisarming fun _ => rfl).trans rfl

theorem State.disarm_armed_same (s : State) (x cause : Nat) : (s.disarm x cause).armed x = false :=
  (State.reads_eq (State.disarm_besideStrRecords s x cause) (fun t => t.armed x) fun _ => rfl).trans (State.setArm_armed_same s x)

theorem State.disarm_armed_ne (s : State) {x y : Nat} (cause : Nat) (hx : x < 48) (hy : y < 48) (h : x ≠ y) :
    (s.disarm y cause).armed x = s.armed x :=
  (State.reads_eq (State.disarm_besideStrRecords s y cause) (fun t => t.armed x) fun _ => rfl).trans (State.setArm_armed_ne s hx hy h)

/-- A string that is disarmed is no longer ARMED; another state of it stays. -/
def StrSt.disarmed (t : StrSt) : StrSt := { t with st := if t.st = .armed then .opened else t.st }

theorem State.disarm_str (s : State) (x cause y : Nat) :
    (s.disarm x cause).str y = ((s.setArm x false).updStr x StrSt.disarmed).str y :=
  State.reads_eq (State.log_besideRecords ((s.setArm x false).updStr x StrSt.disarmed) 0x0614 ([x, cause].map word)) (fun t => t.str y) fun _ => rfl

theorem State.disarm_str_same (s : State) (x cause : Nat) : (s.disarm x cause).str x = (s.str x).disarmed :=
  (State.disarm_str s x cause x).trans (State.updStr_same _ x _)

theorem State.disarm_str_ne (s : State) {x y : Nat} (cause : Nat) (h : y ≠ x) : (s.disarm x cause).str y = s.str y :=
  (State.disarm_str s x cause y).trans (State.updStr_ne _ _ h)

theorem State.disarm_raises (s : State) (x cause : Nat) : s.Raises (s.disarm x cause) :=
  (State.Raises.of_pages rfl).trans (State.note_raises ((s.setArm x false).updStr x StrSt.disarmed) _ _ _ _)

/-- The contactors of a string are read off the channel map, which holds no arm bits. -/
theorem State.chansOf_of_unarmed {s t : State} (h : ∀ pg off, unarmedReg pg off → t.reg pg off = s.reg pg off) (x : Nat) :
    t.chansOf x = s.chansOf x := by
  have hmap : ∀ c ∈ List.range 128, t.chRole c = s.chRole c ∧ t.chStr c = s.chStr c := by
    intro c hc
    have hc : c < 128 := List.mem_range.mp hc
    have hreg : t.reg pACT (0x800 + 4 * c) = s.reg pACT (0x800 + 4 * c) := by
      refine h _ _ fun y => ?_
      unfold regAddr armOff
      split <;> omega
    exact ⟨congrArg (fun w => field w 31 30) hreg, congrArg (fun w => field w 29 24) hreg⟩
  have hneg : t.negOf x = s.negOf x := List.find?_congr fun c hc => by rw [(hmap c hc).1, (hmap c hc).2]
  have hpos : t.posOf x = s.posOf x := List.find?_congr fun c hc => by rw [(hmap c hc).1, (hmap c hc).2]
  rw [State.chansOf, State.chansOf, hneg, hpos]

end Sys2Proof.Machine
end

section
/-! Site requests (R254, R276): JOIN.OPEN0 and OPEN1 make each string of the mask wait and disarm it. -/
namespace Sys2Proof.Machine
set_option Elab.async false

/-- A soft request of the site with its mark. -/
def State.siteAsked (s : State) (x : Nat) : State :=
  (s.softReq x .site).updStr x (fun t => { t with siteOpen := ((s.softReq x .site).waitOf x).waiting })

theorem State.siteOpen_eq (s : State) (x : Nat) : s.siteOpen x = (s.siteAsked x).disarm x 5 := rfl

/-- The state without what a site request for a string changes beside its arm bit. -/
def State.besideSiteAsked (s : State) : State := { s.besideWaits with strs := [] }

theorem State.siteAsked_besideSiteAsked (s : State) (x : Nat) : (s.siteAsked x).besideSiteAsked = s.besideSiteAsked :=
  (congrArg (fun t : State => { t with strs := [] }) (State.softReq_besideWaits s x .site) :)

/-- The state without what a site request for a string changes. -/
def State.besideSiteOpen (s : State) : State := { s.besideSiteAsked with regs := [] }

theorem State.siteOpen_besideSiteOpen (s : State) (x : Nat) : (s.siteOpen x).besideSiteOpen = s.besideSiteOpen :=
  (State.reads_eq (State.disarm_besideDisarming (s.siteAsked x) x 5) State.besideSiteOpen fun _ => rfl).trans
    (State.reads_eq (State.siteAsked_besideSiteAsked s x) State.besideSiteOpen fun _ => rfl)

theorem State.siteOpen_reg (s : State) (x : Nat) {pg off : Nat} (h : unarmedReg pg off) : (s.siteOpen x).reg pg off = s.reg pg off :=
  (State.disarm_reg _ x 5 h).trans (State.reads_eq (State.siteAsked_besideSiteAsked s x) (fun t => t.reg pg off) fun _ => rfl)

theorem State.siteOpen_isOpen (s : State) (x y : Nat) : (s.siteOpen x).isOpen y = s.isOpen y := by
  have hcmd : (s.siteOpen x).closeCmd = s.closeCmd := State.reads_eq (State.siteOpen_besideSiteOpen s x) State.closeCmd fun _ => rfl
  rw [State.isOpen, State.isOpen, State.chansOf_of_unarmed (fun _ _ h => State.siteOpen_reg s x h), hcmd]

theorem State.siteOpen_tWait (s : State) (x : Nat) : (s.siteOpen x).tWait = s.tWait := by
  have hreg : (s.siteOpen x).reg pPROT 0x020 = s.reg pPROT 0x020 := State.siteOpen_reg s x fun y => by
    unfold regAddr armOff
    split <;> decide
  exact congrArg (fun w => msNs (field w 15 0)) hreg

theorem State.siteOpen_raises (s : State) (x : Nat) : s.Raises (s.siteOpen x) :=
  (State.softReq_raises s x .site).trans ((State.Raises.of_pages rfl).trans (State.disarm_raises (s.siteAsked x) x 5))

theorem State.siteOpen_armed_same (s : State) (x : Nat) : (s.siteOpen x).armed x = false := State.disarm_armed_same _ x 5

theorem State.siteOpen_armed_ne (s : State) {x y : Nat} (hx : x < 48) (hy : y < 48) (h : x ≠ y) : (s.siteOpen y).armed x = s.armed x :=
  (State.disarm_armed_ne _ 5 hx hy h).trans (State.reads_eq (State.siteAsked_besideSiteAsked s y) (fun t => t.armed x) fun _ => rfl)

theorem State.siteOpen_waitOf (s : State) (x y : Nat) : (s.siteOpen x).waitOf y = (s.softReq x .site).waitOf y :=
  State.reads_eq (State.disarm_besideDisarming (s.siteAsked x) x 5) (fun t => t.waitOf y) fun _ => rfl

theorem State.siteOpen_str_ne (s : State) {x y : Nat} (h : y ≠ x) : (s.siteOpen x).str y = s.str y :=
  (State.disarm_str_ne _ 5 h).trans <| (State.updStr_ne _ _ h).trans
    (State.reads_eq (State.softReq_besideWaits s x .site) (fun t => t.str y) fun _ => rfl)

/-- String x has been asked to open by now + T_WAIT at the latest. -/
def State.WaitsBy (t : State) (x deadline : Nat) : Prop := (t.waitOf x).waiting = true ∧ (t.waitOf x).deadline ≤ deadline

theorem State.siteOpen_waits {s : State} {x : Nat} (h : s.isOpen x = false) : (s.siteOpen x).WaitsBy x (s.now + s.tWait) := by
  unfold State.WaitsBy
  rw [State.siteOpen_waitOf]
  exact State.softReq_waits .site h

/-- Site requests to the strings of a list. -/
def State.siteOpens (s : State) (l : List Nat) : State := foldS l (fun t x => t.siteOpen x) s

section
variable (s : State) (l : List Nat)

theorem State.siteOpens_besideSiteOpen : (s.siteOpens l).besideSiteOpen = s.besideSiteOpen :=
  foldS_keeps State.besideSiteOpen l _ s State.siteOpen_besideSiteOpen

theorem State.siteOpens_raises : s.Raises (s.siteOpens l) := foldS_raises l _ s State.siteOpen_raises

variable {l} (hl : ∀ y ∈ l, y < 48) {x : Nat}
include hl

theorem State.siteOpens_disarms (hx : x ∈ l) : (s.siteOpens l).armed x = false := by
  have hturn : ∀ t : State, t.armed x = false → ∀ y ∈ l, (t.siteOpen y).armed x = false := by
    intro t ht y hy
    by_cases e : x = y
    · exact e ▸ State.siteOpen_armed_same t x
    · exact (State.siteOpen_armed_ne t (hl x hx) (hl y hy) e).trans ht
  exact foldS_reaches (Q := fun _ => True) hx trivial (fun _ _ _ _ => .inl trivial) (fun t _ => State.siteOpen_armed_same t x) hturn

theorem State.siteOpens_leaves (hx : x < 48) (hn : x ∉ l) :
    (s.siteOpens l).armed x = s.armed x ∧ (s.siteOpens l).waitOf x = s.waitOf x ∧ (s.siteOpens l).str x = s.str x := by
  refine foldS_keeps_prop (P := fun t => t.armed x = s.armed x ∧ t.waitOf x = s.waitOf x ∧ t.str x = s.str x) ⟨rfl, rfl, rfl⟩ ?_
  intro t ⟨harm, hwait, hstr⟩ y hy
  have hne : x ≠ y := fun e => hn (e ▸ hy)
  refine ⟨(State.siteOpen_armed_ne t hx (hl y hy) hne).trans harm, ?_, (State.siteOpen_str_ne t hne).trans hstr⟩
  rw [State.siteOpen_waitOf, State.softReq_waitOf_ne t .site hne, hwait]

omit hl in
theorem State.siteOpens_waits (hx : x ∈ l) (ho : s.isOpen x = false) : (s.siteOpens l).WaitsBy x (s.now + s.tWait) := by
  have hkeeps : ∀ t : State, (t.isOpen x, t.now, t.tWait) = (s.isOpen x, s.now, s.tWait) → ∀ y,
      ((t.siteOpen y).isOpen x, (t.siteOpen y).now, (t.siteOpen y).tWait) = (s.isOpen x, s.now, s.tWait) := by
    intro t ht y
    rw [State.siteOpen_isOpen, State.siteOpen_tWait, State.reads_eq (State.siteOpen_besideSiteOpen t y) State.now fun _ => rfl, ht]
  have hat : ∀ t : State, (t.isOpen x, t.now, t.tWait) = (s.isOpen x, s.now, s.tWait) → (t.siteOpen x).WaitsBy x (s.now + s.tWait) := by
    intro t ht
    simp only [Prod.mk.injEq] at ht
    obtain ⟨hopen, hnow, hwait⟩ := ht
    exact hnow ▸ hwait ▸ State.siteOpen_waits (hopen.trans ho)
  refine (foldS_reaches (Q := fun t => (t.isOpen x, t.now, t.tWait) = (s.isOpen x, s.now, s.tWait))
    (P := fun t => (t.isOpen x, t.now, t.tWait) = (s.isOpen x, s.now, s.tWait) ∧ t.WaitsBy x (s.now + s.tWait))
    hx rfl (fun t ht y _ => .inl (hkeeps t ht y)) (fun t ht => ⟨hkeeps t ht x, hat t ht⟩) fun t ⟨ht, hw⟩ y _ => ⟨hkeeps t ht y, ?_⟩).2
  by_cases e : x = y
  · exact e ▸ hat t ht
  · unfold State.WaitsBy
    rw [State.siteOpen_waitOf, State.softReq_waitOf_ne t .site e]
    exact hw

end

theorem exec_joinOpen (o : Origin) (high : Bool) (m : Word) (s : State) :
    exec (.joinOpen o high m) s = .next ((s.siteOpens ((maskPorts high m).filter s.strUse)).bumpCfg pJOIN) :=
  congrArg Host.Outcome.next (State.served_ok_of_mailbox s o _ _ (by decide))

theorem State.lt_of_strUse {s : State} {x : Nat} (h : s.strUse x = true) : x < 48 := by
  simp only [State.strUse, State.portEn, Bool.and_eq_true, decide_eq_true_eq] at h
  exact h.1.1

theorem joinOpen_disarmsAndAsks (s : State) (o : Origin) (high : Bool) (m : Word) : ∃ t, exec (.joinOpen o high m) s = .next t ∧
    t.coils = s.coils ∧ t.mode = s.mode ∧ (t.page pJOIN).cfgseq = (s.page pJOIN).cfgseq + 1#32 ∧
    (∀ x ∈ maskPorts high m, s.strUse x = true → t.armed x = false ∧
      (s.isOpen x = false → (t.waitOf x).waiting = true ∧ (t.waitOf x).deadline ≤ Nat.max (s.waitOf x).deadline (s.now + s.tWait))) ∧
    (∀ x < 48, (x ∉ maskPorts high m ∨ s.strUse x = false) →
      t.armed x = s.armed x ∧ t.waitOf x = s.waitOf x ∧ t.str x = s.str x) := by
  have hlt : ∀ y ∈ (maskPorts high m).filter s.strUse, y < 48 := fun y hy => State.lt_of_strUse (List.mem_filter.mp hy).2
  have hview := State.siteOpens_besideSiteOpen s ((maskPorts high m).filter s.strUse)
  refine ⟨_, exec_joinOpen o high m s, State.reads_eq hview State.coils fun _ => rfl, State.reads_eq hview State.mode fun _ => rfl,
    ?_, fun x hx hu => ?_,
    fun x hx hn => ?_⟩
  · rw [State.bumpCfg_cfgseq, (State.siteOpens_raises s _).cfgseq]
  · have hmem : x ∈ (maskPorts high m).filter s.strUse := List.mem_filter.mpr ⟨hx, hu⟩
    refine ⟨State.siteOpens_disarms s hlt hmem, fun ho => ?_⟩
    obtain ⟨hwaiting, hdeadline⟩ := State.siteOpens_waits s hmem ho
    exact ⟨hwaiting, hdeadline.trans (Nat.le_max_right _ _)⟩
  · refine State.siteOpens_leaves s hlt hx fun hmem => ?_
    obtain ⟨hmask, huse⟩ := List.mem_filter.mp hmem
    exact hn.elim (fun h => h hmask) fun h => absurd (huse.symm.trans h) (by decide)

end Sys2Proof.Machine
end

section
/-! JOIN_CTRL_ABORT and WELD_CLR (R273, R281). -/
namespace Sys2Proof.Machine
set_option Elab.async false

theorem exec_joinCtrlAbort_of_joining {s : State} (o : Origin) (h : s.md = .joining) :
    exec (.joinCtrlAbort o) s = .next ((s.joinAbort 1).bumpCfg pJOIN) := by
  have hreq : s.joinAbortReq = .ok (s.joinAbort 1) := if_pos h
  change Host.Outcome.next (s.served o pJOIN 0x008 s.joinAbortReq) = _
  rw [hreq, State.served_ok_of_mailbox s o _ _ (by decide)]

theorem exec_joinCtrlAbort_of_other {s : State} (o : Origin) (h : s.md ≠ .joining) :
    exec (.joinCtrlAbort o) s = .next (s.refuse o pJOIN 0x008 .mode) := by
  have hreq : s.joinAbortReq = .error .mode := if_neg h
  change Host.Outcome.next (s.served o pJOIN 0x008 s.joinAbortReq) = _
  rw [hreq, State.served_error_of_mailbox s o _ _ (by decide)]

theorem State.bumpCfg_evtBit (s : State) (pg k n : Nat) : (s.bumpCfg pg).evtBit k n = s.evtBit k n := by
  by_cases h : k = pg
  · rw [State.evtBit, State.evtBit, h, State.bumpCfg, State.updPage_same]
  · exact State.evtBit_of_page n (State.updPage_ne s _ h)

theorem joinCtrlAbort_endsJoin {s : State} (o : Origin) (hm : s.md = .joining) (hj : s.joining = true) :
    ∃ t, exec (.joinCtrlAbort o) s = .next t ∧ t.join.sec = .idle ∧ (t.page pJOIN).cfgseq = (s.page pJOIN).cfgseq + 1#32 ∧
      t.evtBit pJOIN 1 = true ∧ (∀ y < 48, (s.str y).st.closing = true → s.isOpen y = false → (t.str y).st = .opening) := by
  obtain ⟨hsec, hevt, hraises, -, -, hopening⟩ := State.joinAbort_ends (cause := 1) hj (by decide) (by decide)
  refine ⟨_, exec_joinCtrlAbort_of_joining o hm, hsec, ?_, (State.bumpCfg_evtBit _ _ _ _).trans hevt, hopening⟩
  rw [State.bumpCfg_cfgseq, hraises.cfgseq]

/-! ### WELD_CLR -/

theorem exec_weldClr_of_ok {s t : State} (o : Origin) {sel : BitVec 6} (h : s.weldClear sel.toNat = .ok t) :
    exec (.weldClr o sel) s = .next (t.bumpCfg pACT) := by
  change Host.Outcome.next (s.served o pACT 0x008 (s.weldClear sel.toNat)) = _
  rw [h, State.served_ok_of_mailbox s o _ _ (by decide)]

theorem exec_weldClr_of_error {s : State} (o : Origin) {sel : BitVec 6} {e : Refuse} (h : s.weldClear sel.toNat = .error e) :
    exec (.weldClr o sel) s = .next (s.refuse o pACT 0x008 e) := by
  change Host.Outcome.next (s.served o pACT 0x008 (s.weldClear sel.toNat)) = _
  rw [h, State.served_error_of_mailbox s o _ _ (by decide)]

/-- A string at rest takes the state r; one in another state keeps it. -/
def StrSt.settledTo (t : StrSt) (r : JoinSt) : StrSt :=
  { t with st := match t.st with | .opened => r | .armed => r | .blocked => r | y => y }

theorem State.settle_str_same (s : State) (x : Nat) : (s.settle x).str x = (s.str x).settledTo (s.restState x) := State.updStr_same s x _
theorem State.settle_str_ne (s : State) {x y : Nat} (h : y ≠ x) : (s.settle x).str y = s.str y := State.updStr_ne s _ h

theorem State.settle_armed (s : State) (x y : Nat) : (s.settle x).armed y = s.armed y := rfl
theorem State.settle_coil (s : State) (x k : Nat) : (s.settle x).coil k = s.coil k := rfl
theorem State.bumpCfg_str (s : State) (pg y : Nat) : (s.bumpCfg pg).str y = s.str y := rfl
theorem State.settle_page (s : State) (x pg : Nat) : (s.settle x).page pg = s.page pg := rfl

/-- A string whose weld marks are cleared. -/
def StrSt.unwelded (t : StrSt) : StrSt := { t with weldNeg := false, weldPos := false }

section
variable {s : State} {x : Nat}

theorem State.weldClear_of_string (hx : x < 48) : s.weldClear x = if (s.chansOf x).any (fun c => (s.coil c).aux) then .error .mode
    else .ok ((s.updStr x StrSt.unwelded).settle x) := by
  unfold State.weldClear
  rw [if_neg (show ¬ (48 ≤ x ∧ x ≠ 63) by omega)]
  exact if_neg (by omega)

theorem State.weldClear_of_open (hx : x < 48) (h : ∀ c ∈ s.chansOf x, (s.coil c).aux = false) :
    s.weldClear x = .ok ((s.updStr x StrSt.unwelded).settle x) := by
  rw [State.weldClear_of_string hx, if_neg (by simpa using h)]

theorem State.weldClear_of_aux (hx : x < 48) {c : Nat} (hc : c ∈ s.chansOf x) (h : (s.coil c).aux = true) :
    s.weldClear x = .error .mode := by
  rw [State.weldClear_of_string hx, if_pos (List.any_eq_true.mpr ⟨c, hc, h⟩)]

theorem State.weldClear_of_feed (h : ∀ c, s.feedCh = some c → (s.coil c).aux = false) :
    s.weldClear 63 = .ok { s with join := { s.join with feedWeld := false } } := by
  have hany : (optL s.feedCh).any (fun c => (s.coil c).aux) = false := by
    cases hf : s.feedCh with
    | none => rfl
    | some c => simp [optL, h c hf]
  unfold State.weldClear
  rw [if_neg (by decide)]
  exact (if_pos rfl).trans (if_neg (by rw [hany]; decide))

end

theorem weldClr_clearsMarks {s : State} (o : Origin) {sel : BitVec 6} (hs : sel.toNat < 48)
    (h : ∀ c ∈ s.chansOf sel.toNat, (s.coil c).aux = false) : ∃ t, exec (.weldClr o sel) s = .next t ∧
      (t.str sel.toNat).weldNeg = false ∧ (t.str sel.toNat).weldPos = false ∧ (∀ y, y ≠ sel.toNat → t.str y = s.str y) ∧
      (t.page pACT).cfgseq = (s.page pACT).cfgseq + 1#32 ∧ t.coils = s.coils := by
  have hstr : ((s.updStr sel.toNat StrSt.unwelded).settle sel.toNat).str sel.toNat =
      (s.str sel.toNat).unwelded.settledTo ((s.updStr sel.toNat StrSt.unwelded).restState sel.toNat) := by
    rw [State.settle_str_same, State.updStr_same]
  refine ⟨_, exec_weldClr_of_ok o (State.weldClear_of_open hs h), ?_, ?_, fun y hy => ?_, ?_, ?_⟩
  · rw [State.bumpCfg_str, hstr]
    rfl
  · rw [State.bumpCfg_str, hstr]
    rfl
  · rw [State.bumpCfg_str, State.settle_str_ne _ hy, State.updStr_ne s _ hy]
  · rw [State.bumpCfg_cfgseq, State.settle_page]
    rfl
  · rw [State.bumpCfg_coils]
    rfl

end Sys2Proof.Machine
end

section
/-! The remote reset (R433 to R435, Table 17.4): the causes cleared, the restart of the device, and a refusal. -/
namespace Sys2Proof.Machine
set_option Elab.async false

/-! ### Clearing causes -/

theorem State.latchClear_raises (s : State) (x q cause : Nat) : s.Raises (s.latchClear x q cause) := by
  unfold State.latchClear
  exact (foldS_raises _ _ s fun t k => State.log_raises t _ _).trans ((State.Raises.of_pages rfl).trans (State.raise_raises _ _ _))

/-- The latches of level 5 that stand behind cause PROT are cleared. -/
def State.protUnlatched (s : State) : State :=
  foldS (List.range 49) (fun s x => foldS (List.range 10) (fun s q =>
    if (s.level (16 * x + q)).entered.getLsbD 4 && s.lock5 q then s.latchClear x q 2 else s) s) s

theorem State.protUnlatched_besideLevels (s : State) : s.protUnlatched.besideLevels = s.besideLevels :=
  foldS_keeps State.besideLevels _ _ s fun t x => foldS_keeps State.besideLevels _ _ t fun t q => by
    rw [apply_ite State.besideLevels, State.latchClear_besideLevels, ite_self]

theorem State.protUnlatched_raises (s : State) : s.Raises s.protUnlatched :=
  foldS_raises _ _ s fun t x => foldS_raises _ _ t fun t q => .ite (State.latchClear_raises t x q 2) (.of_pages rfl)

/-- The mode in which the causes `left` remain. -/
def ModeSt.withCauses (m : ModeSt) (left : BitVec 5) : ModeSt :=
  { m with causes := left, first := if left = 0#5 then 0 else m.first, lockoutNow := false }

/-- The causes of m are gone, with their record, and for cause PROT the latches behind it. -/
def State.causesCleared (s : State) (m : BitVec 5) (kind : Nat) : State :=
  let t := State.logN { s with mode := s.mode.withCauses (s.mode.causes &&& ~~~m) } 0x0C04 [m.toNat, kind]
  if m.getLsbD 1 then t.protUnlatched else t

/-- The transition at the end of LOCKOUT: READY, or COMMISSION where only the factory generation is there. -/
def endOfLockout (a : StartSt) : Transition := { target := if a.onlyG0 then .commission else .ready, origin := 0 }
/-- The end of LOCKOUT is asked for. -/
def State.lockoutEnds (s : State) : State :=
  { s with mode := { s.mode with trans := some (endOfLockout s.start) } }.raise pMODE 3

theorem State.clearCauses_of_none {s : State} {m : BitVec 5} (kind : Nat) (h : m &&& s.mode.causes = 0#5) : s.clearCauses m kind = s :=
  if_pos h
theorem State.clearCauses_of_some {s : State} {m : BitVec 5} (kind : Nat) (h : m &&& s.mode.causes ≠ 0#5) : s.clearCauses m kind =
    if s.mode.causes &&& ~~~(m &&& s.mode.causes) = 0#5 then (s.causesCleared (m &&& s.mode.causes) kind).lockoutEnds
    else s.causesCleared (m &&& s.mode.causes) kind := if_neg h

theorem State.causesCleared_besideLevels (s : State) (m : BitVec 5) (kind : Nat) : (s.causesCleared m kind).besideLevels =
    ({ s with mode := s.mode.withCauses (s.mode.causes &&& ~~~m) } : State).besideLevels := by
  unfold State.causesCleared
  dsimp only
  rw [apply_ite State.besideLevels, State.protUnlatched_besideLevels, State.logN, State.log_besideLevels, ite_self]

theorem State.causesCleared_raises (s : State) (m : BitVec 5) (kind : Nat) : s.Raises (s.causesCleared m kind) :=
  have hlog := (State.Raises.of_pages rfl).trans
    (State.log_raises { s with mode := s.mode.withCauses (s.mode.causes &&& ~~~m) } 0x0C04 ([m.toNat, kind].map word))
  .ite (hlog.trans (State.protUnlatched_raises _)) hlog

theorem causesLeft_of_own (a m : BitVec 5) : a &&& ~~~(m &&& a) = a &&& ~~~m := by
  revert a m
  decide

theorem causesLeft_of_none {a m : BitVec 5} (h : m &&& a = 0#5) : a &&& ~~~m = a := by
  rw [← causesLeft_of_own, h, BitVec.not_zero, BitVec.and_allOnes]

/-- The causes of a mask are cleared, and nothing else of the mode but what the end of LOCKOUT asks for (R433). -/
theorem State.clearCauses_clears (s : State) (m : BitVec 5) (kind : Nat) :
    (s.clearCauses m kind).mode.causes = s.mode.causes &&& ~~~m ∧ (s.clearCauses m kind).mode.rrLast = s.mode.rrLast ∧
      s.Raises (s.clearCauses m kind) ∧ (s.clearCauses m kind).coils = s.coils ∧ (s.clearCauses m kind).md = s.md ∧
      (s.mode.causes &&& m ≠ 0#5 → s.mode.causes &&& ~~~m = 0#5 → (s.clearCauses m kind).mode.trans =
        some { target := if s.start.onlyG0 then .commission else .ready, origin := 0 }) := by
  by_cases h : m &&& s.mode.causes = 0#5
  · rw [State.clearCauses_of_none kind h, causesLeft_of_none h, BitVec.and_comm, h]
    exact ⟨rfl, rfl, .of_pages rfl, rfl, rfl, fun hn => absurd rfl hn⟩
  · have hview := State.causesCleared_besideLevels s (m &&& s.mode.causes) kind
    have hmode : (s.causesCleared (m &&& s.mode.causes) kind).mode = s.mode.withCauses (s.mode.causes &&& ~~~(m &&& s.mode.causes)) :=
      State.reads_eq hview State.mode fun _ => rfl
    have hcoils := State.reads_eq hview State.coils fun _ => rfl
    have hstart := State.reads_eq hview State.start fun _ => rfl
    have hraises := State.causesCleared_raises s (m &&& s.mode.causes) kind
    rw [causesLeft_of_own] at hmode
    rw [State.clearCauses_of_some kind h, causesLeft_of_own]
    split
    · refine ⟨(congrArg ModeSt.causes hmode :), (congrArg ModeSt.rrLast hmode :),
        hraises.trans ((State.Raises.of_pages rfl).trans (State.raise_raises _ _ _)), hcoils, (congrArg ModeSt.mode hmode :), fun _ _ => ?_⟩
      exact congrArg (fun a : StartSt => some (endOfLockout a)) hstart
    · next hleft => exact ⟨(congrArg ModeSt.causes hmode :), (congrArg ModeSt.rrLast hmode :), hraises, hcoils,
        (congrArg ModeSt.mode hmode :), fun _ h0 => absurd h0 hleft⟩

/-! ### The request -/

theorem lowCauses_of_noRestart {m : BitVec 5} (h : m &&& 24#5 = 0#5) : m &&& 7#5 = m := by
  revert m
  decide

/-- The state that remembers the epoch of an accepted reset. -/
def State.epochUsed (s : State) : State := { s with mode := { s.mode with rrLast := s.mode.rrEpoch } }

theorem State.remoteReset_of_low {s : State} {m : BitVec 5} (kind : Nat) (h : m &&& 24#5 = 0#5) :
    s.remoteReset m kind = s.epochUsed.clearCauses m kind := by
  have hlow : s.remoteReset m kind = s.epochUsed.clearCauses (m &&& 7#5) kind := if_pos h
  rw [hlow, lowCauses_of_noRestart h]

theorem State.remoteReset_of_high {s : State} {m : BitVec 5} (kind : Nat) (h : m &&& 24#5 ≠ 0#5) :
    s.remoteReset m kind = (s.epochUsed.clearCauses (m &&& 7#5) kind).restartDevice (m &&& 24#5) := if_neg h

/-- The state in which a reset asks for the causes m. -/
def State.resetAsked (s : State) (m : BitVec 5) : State := { s with mode := { s.mode with rrCauses := m } }

theorem State.rrGo_of_pass {s : State} (o : Origin) {m : BitVec 5} (kind : Nat) (h : (s.resetAsked m).rrCheck m = none) :
    s.rrGo o m kind = ((s.resetAsked m).remoteReset m kind).bumpCfg pMODE := by
  have hgo : s.rrGo o m kind = (s.resetAsked m).served o pMODE 0x024 (.ok ((s.resetAsked m).remoteReset m kind)) := by
    unfold State.rrGo
    change (match (s.resetAsked m).rrCheck m with | some _ => _ | none => _) = _
    rw [h]
    rfl
  rw [hgo, State.served_ok_of_mailbox _ o _ _ (by decide)]

theorem State.rrGo_of_fail {s : State} (o : Origin) {m : BitVec 5} (kind : Nat) {r : Nat} (h : (s.resetAsked m).rrCheck m = some r) :
    s.rrGo o m kind = ((s.resetAsked m).rrRefused r).refuse o pMODE 0x024 .auth := by
  unfold State.rrGo
  change (match (s.resetAsked m).rrCheck m with | some _ => _ | none => _) = _
  rw [h]
  rfl

section
variable {s : State} (o : Origin) {m : BitVec 5} (kind : Nat)

/-- Causes 1 to 3 are cleared at once. -/
theorem State.rrGo_clears (h : (s.resetAsked m).rrCheck m = none) (hl : m &&& 24#5 = 0#5) :
    (s.rrGo o m kind).mode.causes = s.mode.causes &&& ~~~m ∧ (s.rrGo o m kind).mode.rrLast = s.mode.rrEpoch ∧
      ((s.rrGo o m kind).page pMODE).cfgseq = (s.page pMODE).cfgseq + 1#32 ∧ (s.rrGo o m kind).coils = s.coils ∧
      (s.rrGo o m kind).md = s.md ∧ (s.mode.causes &&& m ≠ 0#5 → (s.rrGo o m kind).mode.causes = 0#5 →
        (s.rrGo o m kind).mode.trans = some { target := if s.start.onlyG0 then .commission else .ready, origin := 0 }) := by
  rw [State.rrGo_of_pass o kind h, State.remoteReset_of_low kind hl]
  obtain ⟨hcauses, hlast, hraises, hcoils, hmd, htrans⟩ := State.clearCauses_clears (s.resetAsked m).epochUsed m kind
  refine ⟨hcauses, hlast, ?_, hcoils, hmd, fun hn h0 => htrans hn (hcauses.symm.trans h0)⟩
  rw [State.bumpCfg_cfgseq, hraises.cfgseq]
  rfl

/-- Causes 4 and 5 restart the device from step 2, which remembers them. -/
theorem State.rrGo_restarts (h : (s.resetAsked m).rrCheck m = none) (hh : m &&& 24#5 ≠ 0#5) :
    (s.rrGo o m kind).start.step = 2 ∧ (s.rrGo o m kind).start.leaving = m &&& 24#5 ∧ (s.rrGo o m kind).md = .start ∧
      (s.rrGo o m kind).regs = [] := by
  rw [State.rrGo_of_pass o kind h, State.remoteReset_of_high kind hh]
  exact ⟨rfl, rfl, rfl, rfl⟩

/-- A reset that fails a check leaves the causes and the epoch last used. -/
theorem State.rrGo_refuses (h : (s.resetAsked m).rrCheck m ≠ none) :
    (s.rrGo o m kind).mode = (s.resetAsked m).mode ∧ (s.rrGo o m kind).mode.causes = s.mode.causes ∧
      (s.rrGo o m kind).mode.rrLast = s.mode.rrLast ∧ (s.rrGo o m kind).evtBit pMODE 4 = true ∧
      (s.rrGo o m kind).evtBit pMODE 31 = true ∧ (s.rrGo o m kind).levels = s.levels := by
  obtain ⟨r, hr⟩ := Option.ne_none_iff_exists'.mp h
  have hc : pageClass pMODE ≠ .mgmt := by decide
  have hnote := State.log_besideRecords (s.resetAsked m) 0x0C05 [word r, (s.resetAsked m).mode.rrEpoch]
  have hmode : (s.rrGo o m kind).mode = (s.resetAsked m).mode := by
    rw [State.rrGo_of_fail o kind hr, State.refuse_of_mailbox _ o _ _ hc, State.refusedAs, State.raise_mode, State.logN_mode]
    exact State.reads_eq hnote State.mode fun _ => rfl
  refine ⟨hmode, (congrArg ModeSt.causes hmode :), (congrArg ModeSt.rrLast hmode :), ?_⟩
  rw [State.rrGo_of_fail o kind hr, State.refuse_of_mailbox _ o _ _ hc]
  refine ⟨?_, State.refusedAs_evtBit _ o _ _ _ hc, ?_⟩
  · rw [State.evtBit_of_page 4 (State.refusedAs_page _ o _ _ _ hc)]
    exact (State.raise_raises _ _ _).evtBit (State.raise_evtBit _ _ (by decide))
  · rw [State.refusedAs, State.raise_levels, State.logN_levels]
    exact State.reads_eq hnote State.levels fun _ => rfl

end

/-! ### The two forms of the request -/

theorem exec_rrGo (o : Origin) (m : BitVec 5) (s : State) : exec (.rrGo o m) s = .next (s.rrGo o m 1) := rfl

/-- A frame is the reset request of the configured identifier (R435). -/
def State.resetFrame (s : State) (f : CanFrame) : Prop :=
  s.mgmt.restarting = false ∧ f.fdf = true ∧ f.data.length = 16 ∧ (f.id.toNat : Int) = s.item 21 9 % 2 ^ 29 ∧
    (b2n f.xtd : Int) = s.item 21 9 / 2 ^ 29 % 2

/-- The words of a reset frame, as the writes of R434 would store them. -/
def State.resetWords (s : State) (f : CanFrame) : State :=
  { s with mode := { s.mode with rrEpoch := word (leAt f.data 0 4), rrMac0 := word (leAt f.data 8 4), rrMac1 := word (leAt f.data 12 4) } }

theorem exec_canRemoteReset_of_named {s : State} {f : CanFrame} (h : s.resetFrame f) :
    exec (.canRemoteReset f) s = .next ((s.resetWords f).rrGo .mgmt (BitVec.ofNat 5 (leAt f.data 4 1)) 2) := if_pos h
theorem exec_canRemoteReset_of_other {s : State} {f : CanFrame} (h : ¬ s.resetFrame f) : exec (.canRemoteReset f) s = .next s := if_neg h

/-- Settles O49: the commands of the join section one after the other, then both forms of the reset as one request. -/
theorem joinWeldAndRemoteReset : Obligations.JoinWeldAndRemoteReset := by
  refine ⟨fun s o high m sel => ⟨joinCtrlAbort_endsJoin o, exec_joinCtrlAbort_of_other o, joinOpen_disarmsAndAsks s o high m,
    weldClr_clearsMarks o, fun hsel h => ?_, fun c hc hx ha => exec_weldClr_of_error o (State.weldClear_of_aux hx hc ha),
    fun hx hne => ?_⟩, fun s o causes f => ⟨?_, fun h => ?_, exec_canRemoteReset_of_other⟩⟩
  · subst hsel
    exact exec_weldClr_of_ok o (State.weldClear_of_feed h)
  · exact exec_weldClr_of_error o (if_pos ⟨hx, fun e => hne (BitVec.eq_of_toNat_eq e)⟩)
  · exact ⟨fun h hl => ⟨_, exec_rrGo o causes s, State.rrGo_clears o 1 h hl⟩,
      fun h hh => ⟨_, exec_rrGo o causes s, State.rrGo_restarts o 1 h hh⟩, fun h => ⟨_, exec_rrGo o causes s, State.rrGo_refuses o 1 h⟩⟩
  · have hexec := exec_canRemoteReset_of_named h
    exact ⟨fun h hl => ⟨_, hexec, State.rrGo_clears .mgmt 2 h hl⟩, fun h hh => ⟨_, hexec, State.rrGo_restarts .mgmt 2 h hh⟩,
      fun h => ⟨_, hexec, State.rrGo_refuses .mgmt 2 h⟩⟩

end Sys2Proof.Machine
end

section
/-! Closings assigned and abandoned, and strings back at rest (R270, R277, R282). -/
namespace Sys2Proof.Machine
set_option Elab.async false

/-- The state without what assigning a CLOSE changes. -/
def State.besideAssigning (s : State) : State := { s with out := [], pair := {}, coils := [] }

theorem State.sendPair_besideAssigning (s : State) (typ : Nat) (ws : List Word) :
    (s.sendPair typ ws).besideAssigning = s.besideAssigning := by
  unfold State.sendPair
  split <;> rfl

theorem State.closeChan_besideAssigning (s : State) (c : Nat) : (s.closeChan c).besideAssigning = s.besideAssigning := by
  have hassign : ∀ f, (s.updCoil c f).besideAssigning = s.besideAssigning := fun _ => rfl
  simp only [State.closeChan, apply_ite State.besideAssigning, State.sendPair_besideAssigning, hassign, ite_self]

/-- A contactor whose CLOSE is sent from refresh q on. -/
def CoilSt.assigned (k : CoilSt) (q : Nat) : CoilSt := { k with closeSeq := some q, openedAt := none, closedAt := none }

theorem State.closeChan_coil_of_active {s : State} (ha : s.active = true) (c j : Nat) :
    (s.closeChan c).coil j = (s.updCoil c (fun k => k.assigned ((s.acSeq + 4) % 65536))).coil j := by
  unfold State.closeChan
  rw [if_pos ha]
  exact congrArg (fun l => sget ({} : CoilSt) l j) (State.sendPair_coils _ _ _)

/-- The active device assigns a CLOSE from the fourth refresh on. -/
theorem State.closeChan_assigns {s : State} (ha : s.active = true) (c : Nat) :
    ((s.closeChan c).coil c).closeSeq = some ((s.acSeq + 4) % 65536) := by
  rw [State.closeChan_coil_of_active ha, State.updCoil_same]
  rfl

theorem State.closeChan_coil_ne (s : State) {c j : Nat} (h : j ≠ c) : (s.closeChan c).coil j = s.coil j := by
  by_cases ha : s.active = true
  · rw [State.closeChan_coil_of_active ha, State.updCoil_ne _ _ h]
  · rw [State.closeChan, if_neg ha]

/-- A string that starts closing (R277, step 1). -/
def StrSt.startedClosing (t : StrSt) : StrSt := { t with st := .negClosing, probeHot := false, jdeb := 0 }

theorem State.startClose_of_neg {s : State} {x c : Nat} (h : s.negOf x = some c) :
    s.startClose x = (s.closeChan c).updStr x StrSt.startedClosing := by
  unfold State.startClose
  rw [h]
  rfl

theorem State.closeChan_str (s : State) (c y : Nat) : (s.closeChan c).str y = s.str y :=
  State.reads_eq (State.closeChan_besideAssigning s c) (fun t => t.str y) fun _ => rfl

theorem State.closeChan_updStr_str_same (s : State) (c x : Nat) (f : StrSt → StrSt) :
    ((s.closeChan c).updStr x f).str x = f (s.str x) := by
  rw [State.updStr_same, State.closeChan_str]

theorem State.closeChan_updStr_str_ne (s : State) {c x y : Nat} (f : StrSt → StrSt) (h : y ≠ x) :
    ((s.closeChan c).updStr x f).str y = s.str y := by
  rw [State.updStr_ne _ _ h, State.closeChan_str]

theorem State.openChans_str (s : State) (cs : List Nat) (y : Nat) : (s.openChans cs).str y = s.str y :=
  State.reads_eq (State.openChans_besideContactors s cs) (fun t => t.str y) fun _ => rfl

theorem State.abandonClose_str_same (s : State) (x : Nat) (st : JoinSt) : (s.abandonClose x st).str x = { s.str x with st := st } := by
  rw [State.abandonClose, State.updStr_same, State.openChans_str]

theorem State.abandonClose_str_ne (s : State) {x y : Nat} (st : JoinSt) (h : y ≠ x) : (s.abandonClose x st).str y = s.str y := by
  rw [State.abandonClose, State.updStr_ne _ _ h, State.openChans_str]

theorem State.abandonClose_coil (s : State) (x : Nat) (st : JoinSt) (c : Nat) :
    (s.abandonClose x st).coil c = if c ∈ s.chansOf x then (s.coil c).openedOn s.now else s.coil c :=
  State.openChans_coil s (s.chansOf x) c

theorem State.abandonClose_unassigns (s : State) (x : Nat) (st : JoinSt) {c : Nat} (h : c ∈ s.chansOf x) :
    ((s.abandonClose x st).coil c).closeSeq = none := by
  rw [State.abandonClose_coil, if_pos h]
  rfl

/-- What the state at rest of a string is read off: its welds, its arm bit, levels and wire breaks. -/
theorem State.restState_updStr (s : State) (x : Nat) {f : StrSt → StrSt}
    (hn : (f (s.str x)).weldNeg = (s.str x).weldNeg) (hp : (f (s.str x)).weldPos = (s.str x).weldPos) :
    (s.updStr x f).restState x = s.restState x := by
  simp only [State.restState, State.blockedOut, State.weldLatch, State.updStr_same, hn, hp]
  rfl

theorem State.restState_of_weld {s : State} {x : Nat} (h : (s.str x).weldPos = true) : s.restState x = .blocked := by
  unfold State.restState State.blockedOut State.weldLatch
  rw [h, Bool.or_true, Bool.or_true, if_pos rfl]

end Sys2Proof.Machine
end

section
/-! Welds (R273): a weld latched on a string, and the LOCKOUT it asks for (R431). -/
namespace Sys2Proof.Machine
set_option Elab.async false

/-- The state without what a record with a free value changes. -/
def State.besideFreeRecords (s : State) : State := { s.besideRecords with fresh := 0 }

theorem State.weldRecord_besideFreeRecords (s : State) (c pole : Nat) (i : Option Int) (dv : Option Rat) :
    (s.weldRecord c pole i dv).besideFreeRecords = s.besideFreeRecords := by
  have hnote : ∀ (t : State) pl, ((t.log 0x0603 pl).raise pACT 2).besideFreeRecords = t.besideFreeRecords := fun t pl =>
    State.reads_eq (State.log_besideRecords t 0x0603 pl) State.besideFreeRecords fun _ => rfl
  cases dv with
  | none => exact hnote s.freeWord.2 _
  | some d => exact hnote s _

/-- A string with a weld latched on the poles named. -/
def StrSt.welded (t : StrSt) (neg pos : Bool) : StrSt := { t with weldNeg := t.weldNeg || neg, weldPos := t.weldPos || pos }

/-- A weld is latched with its records, then the string is disarmed. -/
theorem State.latchWeld_eq (s : State) (x : Nat) (neg pos : Bool) : ∃ u : State,
    u.besideFreeRecords = (s.updStr x (fun t => t.welded neg pos)).besideFreeRecords ∧ s.latchWeld x neg pos = u.disarm x 2 := by
  have hrecords : ∀ (l : List Nat) (t : State) pole,
      (foldS l (fun s c => s.weldRecord c pole (s.hep x).iMean (s.dvOf x)) t).besideFreeRecords = t.besideFreeRecords := fun l t pole =>
    foldS_keeps State.besideFreeRecords l _ t fun t c => State.weldRecord_besideFreeRecords t c pole _ _
  refine ⟨_, ?_, rfl⟩
  dsimp only
  rw [apply_ite State.besideFreeRecords, hrecords, ite_self, apply_ite State.besideFreeRecords, hrecords, ite_self]
  rfl

theorem State.latchWeld_str_same (s : State) (x : Nat) (neg pos : Bool) :
    (s.latchWeld x neg pos).str x = ((s.str x).welded neg pos).disarmed := by
  obtain ⟨u, hu, e⟩ := State.latchWeld_eq s x neg pos
  rw [e, State.disarm_str_same, State.reads_eq hu (fun t => t.str x) fun _ => rfl, State.updStr_same]

theorem State.latchWeld_armed (s : State) (x : Nat) (neg pos : Bool) : (s.latchWeld x neg pos).armed x = false := by
  obtain ⟨u, -, e⟩ := State.latchWeld_eq s x neg pos
  rw [e, State.disarm_armed_same]

/-- The state without what a latched weld changes. -/
def State.besideWelding (s : State) : State := { s.besideDisarming with fresh := 0 }

theorem State.latchWeld_besideWelding (s : State) (x : Nat) (neg pos : Bool) :
    (s.latchWeld x neg pos).besideWelding = s.besideWelding := by
  obtain ⟨u, hu, e⟩ := State.latchWeld_eq s x neg pos
  rw [e, State.reads_eq (State.disarm_besideDisarming u x 2) State.besideWelding fun _ => rfl, State.reads_eq hu State.besideWelding fun _ => rfl]
  rfl

/-! ### A request of LOCKOUT -/

/-- A request of LOCKOUT is noted and stands. -/
def State.lockoutAsked (s : State) (cause : Nat) : State :=
  let t := (s.logN 0x0C03 [cause, s.md.code]).raise pMODE 2
  { t with mode := { t.mode with reqCauses := t.mode.reqCauses ||| (1#5 <<< (cause - 1)),
                                 reqFirst := if t.mode.reqFirst = 0 then cause else t.mode.reqFirst,
                                 trans := some { target := .lockout, origin := 0, afterOpenings := true } } }

/-- In JOINING and ONLINE the join ends, the converter stops and every CLOSED string is asked to open. -/
def State.lockoutOpens (s : State) : State :=
  if s.md.joinOrOnline then
    let t := (s.joinAbort 6).convStop
    foldS (t.closedList.filter (fun x => !(t.waitOf x).waiting)) (fun t x => t.softReq x .lockout) t
  else s

theorem State.lockout_of_new {s : State} {cause : Nat} (hm : s.md ≠ .lockout) (h : s.mode.reqCauses &&& (1#5 <<< (cause - 1)) = 0#5) :
    s.lockout cause = (s.lockoutAsked cause).lockoutOpens := (if_neg hm).trans (if_pos h)
theorem State.lockout_of_asked {s : State} {cause : Nat} (hm : s.md ≠ .lockout) (h : s.mode.reqCauses &&& (1#5 <<< (cause - 1)) ≠ 0#5) :
    s.lockout cause = s := (if_neg hm).trans (if_neg h)

/-- What records, requests, the end of a join, the converter's stop and the request of READY keep, the openings of LOCKOUT keep. -/
theorem State.lockoutOpens_keeps {β : Type} (p : State → β) (s : State) (hnote : ∀ t, p (State.abortNoted t 6) = p t)
    (hhard : ∀ t x, p (State.hardReq t x .joinAbort) = p t) (hsoft : ∀ t x o, p (State.softReq t x o) = p t)
    (hend : ∀ t, p (State.joinEnded t) = p t) (hstop : ∀ t, p (State.convStop t) = p t) (hask : ∀ t, p (State.askReady t) = p t) :
    p s.lockoutOpens = p s := by
  have habort := State.joinAbort_keeps p s 6 hnote hhard (fun t x => hsoft t x _) hend hstop hask
  unfold State.lockoutOpens
  split
  · exact (foldS_keeps p _ _ _ fun t x => hsoft t x _).trans ((hstop _).trans habort)
  · rfl

/-- The weld marks of a string. -/
def StrSt.welds (t : StrSt) : Bool × Bool := (t.weldNeg, t.weldPos)

theorem StrSt.marks_of_welds {t : StrSt} {neg pos : Bool} (h : t.welds = (neg, pos)) : t.weldNeg = neg ∧ t.weldPos = pos :=
  ⟨congrArg Prod.fst h, congrArg Prod.snd h⟩

theorem State.openNow_welds (s : State) (x : Nat) (o : DiscOrigin) (i : Option Int) (y : Nat) :
    ((s.openNow x o i).str y).welds = (s.str y).welds := by
  by_cases h : y = x
  · subst h
    unfold State.openNow
    dsimp only
    rw [State.updStr_same]
    exact congrArg (fun l => (sget ({} : StrSt) l y).welds) (State.recordedOpening_strs_waits s y o i _ _ _).1
  · rw [State.openNow_str_ne s o i h]

theorem State.hardReq_welds (s : State) (x : Nat) (o : DiscOrigin) (y : Nat) : ((s.hardReq x o).str y).welds = (s.str y).welds := by
  have hrec := State.reads_eq (State.discRecord_besideRecords s x o true s.now) (fun t => (t.str y).welds) fun _ => rfl
  by_cases h : s.isOpen x = true
  · rw [State.hardReq_of_open o h, hrec]
  · rw [State.hardReq_of_assigned o (by simpa using h), State.openNow_welds, hrec]

/-- Opening for LOCKOUT takes no weld mark and no cause back. -/
theorem State.lockoutOpens_facts (s : State) (y : Nat) :
    (s.lockoutOpens.str y).welds = (s.str y).welds ∧ s.lockoutOpens.mode.reqCauses = s.mode.reqCauses := by
  have hboth := State.lockoutOpens_keeps (fun t => ((t.str y).welds, t.mode.reqCauses)) s
    (fun t => State.reads_eq (State.abortNoted_besideRecords t 6) (fun t => ((t.str y).welds, t.mode.reqCauses)) fun _ => rfl)
    (fun t x => Prod.ext (State.hardReq_welds t x _ y) (State.reads_eq (State.hardReq_besideOpening t x _) (fun t => t.mode.reqCauses) fun _ => rfl))
    (fun t x o => State.reads_eq (State.softReq_besideWaits t x o) (fun t => ((t.str y).welds, t.mode.reqCauses)) fun _ => rfl)
    (fun _ => rfl)
    (fun t => State.reads_eq (State.convStop_besideConverter t) (fun t => ((t.str y).welds, t.mode.reqCauses)) fun _ => rfl)
    (fun t => Prod.ext (State.reads_eq (State.askReady_besideMode t) (fun t => (t.str y).welds) fun _ => rfl)
      (congrArg ModeSt.reqCauses (State.askReady_mode t) :))
  exact ⟨congrArg Prod.fst hboth, congrArg Prod.snd hboth⟩

theorem State.lockoutAsked_facts (s : State) (cause y : Nat) : (s.lockoutAsked cause).str y = s.str y ∧
    (s.lockoutAsked cause).mode.reqCauses = s.mode.reqCauses ||| (1#5 <<< (cause - 1)) := by
  have hnote := State.log_besideRecords s 0x0C03 ([cause, s.md.code].map word)
  exact ⟨State.reads_eq hnote (fun t => t.str y) fun _ => rfl,
    congrArg (· ||| _) (State.reads_eq hnote (fun t => t.mode.reqCauses) fun _ => rfl)⟩

theorem causeBit_of_and_ne_zero (a : BitVec 5) (k : Fin 5) : a &&& (1#5 <<< k.val) ≠ 0#5 → a.getLsbD k.val = true := by
  revert a k
  decide

theorem causeBit_of_or (a : BitVec 5) (k : Fin 5) : (a ||| (1#5 <<< k.val)).getLsbD k.val = true := by
  revert a k
  decide

/-- Outside LOCKOUT a request of it sets the cause's bit, and no string's weld marks change. -/
theorem State.lockout_asks {s : State} (k : Fin 5) (hm : s.md ≠ .lockout) (y : Nat) :
    (s.lockout (k.val + 1)).mode.reqCauses.getLsbD k.val = true ∧ ((s.lockout (k.val + 1)).str y).welds = (s.str y).welds := by
  by_cases h : s.mode.reqCauses &&& (1#5 <<< k.val) = 0#5
  · obtain ⟨hwelds, hcauses⟩ := (s.lockoutAsked (k.val + 1)).lockoutOpens_facts y
    obtain ⟨hstr, hreq⟩ := s.lockoutAsked_facts (k.val + 1) y
    rw [State.lockout_of_new hm h, hwelds, hcauses, hreq, hstr]
    exact ⟨causeBit_of_or _ k, rfl⟩
  · rw [State.lockout_of_asked hm h]
    exact ⟨causeBit_of_and_ne_zero _ k h, rfl⟩

end Sys2Proof.Machine
end

section
/-! PROBE_END and RUN_CLOSE (R276 to R278, Table 10.6). -/
namespace Sys2Proof.Machine
set_option Elab.async false

theorem State.firstFail_of_other {s : State} (x finding : Nat) (h : s.join.sec ≠ .first) : s.firstFail x finding = s :=
  if_neg fun hf => h hf.1

theorem State.dvOf_eq_some {s : State} {x : Nat} {d : Rat} (h : s.dvOf x = some d) :
    ∃ a b, s.vStr x = some a ∧ s.join.vBus = some b ∧ d = a - b := by
  unfold State.dvOf at h
  split at h
  · next a b ha hb => exact ⟨a, b, ha, hb, (Option.some.inj h).symm⟩
  · exact absurd h (by simp)

/-- The state in which a probe ends. -/
def State.atProbeEnd (s : State) (k : Nat) : State := s.reach (s.str k).probeEnd
theorem State.reach_probeEnd (s : State) (k : Nat) : s.reach (s.str k).probeEnd = s.atProbeEnd k := rfl

/-- The string whose hot probe has opened it and latched a weld on its POS pole. -/
def State.probeWelded (s : State) (k : Nat) : State := (s.abandonClose k .opened).latchWeld k false true

theorem State.probeWelded_str (s : State) (k : Nat) :
    (s.probeWelded k).str k = { s.str k with st := .opened, weldNeg := (s.str k).weldNeg || false, weldPos := (s.str k).weldPos || true } := by
  rw [State.probeWelded, State.latchWeld_str_same, State.abandonClose_str_same]
  rfl

section
variable {s : State} {x : Str} (hst : (s.str x.val).st = .probe) (hf : s.join.sec ≠ .first)
include hst hf

/-! Outside FIRST a probe is judged on the difference of the latest committed epoch. -/

theorem exec_probeEnd_of_inRange {c : Nat} {d : Rat} (hhot : (s.str x.val).probeHot = false) (hd : s.dvOf x.val = some d)
    (hr : absR d ≤ s.dvJoin) (hc : s.closeForbidden = false) (hp : s.posOf x.val = some c) : exec (.probeEnd x) s =
      .next (((s.atProbeEnd x.val).closeChan c).updStr x.val (fun t => { t with st := .posClosing, posDv := some d })) := by
  obtain ⟨a, b, hv, hb, rfl⟩ := State.dvOf_eq_some hd
  have hhot : ((s.atProbeEnd x.val).str x.val).probeHot = false := hhot
  have hv : (s.atProbeEnd x.val).vStr x.val = some a := hv
  have hb : (s.atProbeEnd x.val).join.vBus = some b := hb
  have hr : absR (a - b) ≤ (s.atProbeEnd x.val).dvJoin := hr
  have hc : (s.atProbeEnd x.val).closeForbidden = false := hc
  have hp : (s.atProbeEnd x.val).posOf x.val = some c := hp
  have hfirst : ¬ ((s.atProbeEnd x.val).join.sec = .first ∧ (s.atProbeEnd x.val).join.first = x.val) := fun h => hf h.1
  change execProbeEnd x s = _
  simp only [execProbeEnd, hst, State.reach_probeEnd, if_true, hhot, hfirst, hv, hb, hr, hc, hp, decide_true, Bool.false_eq_true, if_false]

theorem exec_probeEnd_of_outOfRange {d : Rat} (hhot : (s.str x.val).probeHot = false) (hd : s.dvOf x.val = some d) (hr : s.dvJoin < absR d) :
    exec (.probeEnd x) s = .next ((s.atProbeEnd x.val).abandonClose x.val .armed) := by
  obtain ⟨a, b, hv, hb, rfl⟩ := State.dvOf_eq_some hd
  have hhot : ((s.atProbeEnd x.val).str x.val).probeHot = false := hhot
  have hv : (s.atProbeEnd x.val).vStr x.val = some a := hv
  have hb : (s.atProbeEnd x.val).join.vBus = some b := hb
  have hr : ¬ absR (a - b) ≤ (s.atProbeEnd x.val).dvJoin := not_le.mpr hr
  have hfirst : ¬ ((s.atProbeEnd x.val).join.sec = .first ∧ (s.atProbeEnd x.val).join.first = x.val) := fun h => hf h.1
  have hsec : ((s.atProbeEnd x.val).abandonClose x.val .armed).join.sec ≠ .first :=
    (State.reads_eq (State.abandonClose_besideClosings (s.atProbeEnd x.val) x.val .armed) (fun t => t.join.sec) fun _ => rfl).symm ▸ hf
  change execProbeEnd x s = _
  simp only [execProbeEnd, hst, State.reach_probeEnd, if_true, hhot, hfirst, hv, hb, hr, decide_false, Bool.false_eq_true,
    if_false, State.firstFail_of_other x.val 3 hsec]

theorem exec_probeEnd_of_hot (hhot : (s.str x.val).probeHot = true) :
    exec (.probeEnd x) s = .next (((s.atProbeEnd x.val).probeWelded x.val).settle x.val) := by
  have hsec : ((s.atProbeEnd x.val).probeWelded x.val).join.sec ≠ .first :=
    ((State.reads_eq (State.latchWeld_besideWelding _ x.val false true) (fun t => t.join.sec) fun _ => rfl).trans
      (State.reads_eq (State.abandonClose_besideClosings (s.atProbeEnd x.val) x.val .opened) (fun t => t.join.sec) fun _ => rfl)).symm ▸ hf
  change execProbeEnd x s = _
  unfold execProbeEnd
  rw [if_pos hst]
  exact (if_pos hhot).trans (congrArg (fun t : State => Host.Outcome.next (t.settle x.val)) (State.firstFail_of_other x.val 2 hsec))

theorem probeEnd_assignsPos {c : Nat} {d : Rat} (hhot : (s.str x.val).probeHot = false) (hd : s.dvOf x.val = some d)
    (hr : absR d ≤ s.dvJoin) (hc : s.closeForbidden = false) (hp : s.posOf x.val = some c) (ha : s.active = true) :
    ∃ t, exec (.probeEnd x) s = .next t ∧ t.now = Nat.max s.now (s.str x.val).probeEnd ∧
      t.str x.val = { s.str x.val with st := .posClosing, posDv := some d } ∧ (t.coil c).closeSeq = some ((s.acSeq + 4) % 65536) ∧
      (∀ y, y ≠ x.val → t.str y = s.str y) ∧ (∀ j, j ≠ c → t.coil j = s.coil j) :=
  ⟨_, exec_probeEnd_of_inRange hst hf hhot hd hr hc hp,
    State.reads_eq (State.closeChan_besideAssigning (s.atProbeEnd x.val) c) State.now fun _ => rfl,
    State.closeChan_updStr_str_same _ _ _ _, State.closeChan_assigns (s := s.atProbeEnd x.val) ha c,
    fun _ hy => State.closeChan_updStr_str_ne (s.atProbeEnd x.val) _ hy, fun _ hj => State.closeChan_coil_ne (s.atProbeEnd x.val) hj⟩

theorem probeEnd_abandons {d : Rat} (hhot : (s.str x.val).probeHot = false) (hd : s.dvOf x.val = some d) (hr : s.dvJoin < absR d) :
    ∃ t, exec (.probeEnd x) s = .next t ∧ t.str x.val = { s.str x.val with st := .armed } ∧
      (∀ j ∈ s.chansOf x.val, (t.coil j).closeSeq = none) ∧ (∀ y, y ≠ x.val → t.str y = s.str y) :=
  ⟨_, exec_probeEnd_of_outOfRange hst hf hhot hd hr, State.abandonClose_str_same _ _ _,
    fun _ hj => State.abandonClose_unassigns (s.atProbeEnd x.val) _ _ hj, fun _ hy => State.abandonClose_str_ne (s.atProbeEnd x.val) _ hy⟩

theorem probeEnd_latchesWeld (hhot : (s.str x.val).probeHot = true) : ∃ t, exec (.probeEnd x) s = .next t ∧
    (t.str x.val).st = .blocked ∧ (t.str x.val).weldPos = true ∧ t.armed x.val = false ∧
    (∀ j ∈ s.chansOf x.val, (t.coil j).closeSeq = none) := by
  have hstr := State.probeWelded_str (s.atProbeEnd x.val) x.val
  have hweld : (((s.atProbeEnd x.val).probeWelded x.val).str x.val).weldPos = true := by
    rw [hstr]
    exact Bool.or_true _
  have hsettled := State.settle_str_same ((s.atProbeEnd x.val).probeWelded x.val) x.val
  rw [State.restState_of_weld hweld, hstr] at hsettled
  have harmed : ((s.atProbeEnd x.val).probeWelded x.val).armed x.val = false := State.latchWeld_armed _ x.val false true
  refine ⟨_, exec_probeEnd_of_hot hst hf hhot, ?_, ?_, ?_, fun j hj => ?_⟩
  · rw [hsettled]
    rfl
  · rw [hsettled]
    exact Bool.or_true _
  · rw [State.settle_armed, harmed]
  · have hcoils := State.reads_eq (State.latchWeld_besideWelding ((s.atProbeEnd x.val).abandonClose x.val .opened) x.val false true)
      (fun t => (t.coil j).closeSeq) fun _ => rfl
    rw [State.settle_coil]
    exact hcoils.trans (State.abandonClose_unassigns (s.atProbeEnd x.val) x.val .opened hj)

end

theorem exec_runClose_of_met {s : State} {x : Str} (hr : s.join.sec = .run) (ha : s.active = true) (hm : s.mayClose x.val = true)
    (hd : s.absDv x.val ≤ s.dvJoin) (hj : s.fld pJOIN 0x020 15 8 ≤ (s.str x.val).jdeb)
    (hp : s.closingList.length < s.fld pJOIN 0x020 7 4) : exec (.runClose x) s = .next (s.startClose x.val) :=
  if_pos ⟨hr, ha, hm, hd, hj, hp⟩

theorem State.startClose_starts {s : State} {x c : Nat} (hn : s.negOf x = some c) (ha : s.active = true) :
    (s.startClose x).str x = { s.str x with st := .negClosing, probeHot := false, jdeb := 0 } ∧
      ((s.startClose x).coil c).closeSeq = some ((s.acSeq + 4) % 65536) ∧ (∀ y, y ≠ x → (s.startClose x).str y = s.str y) ∧
      (∀ j, j ≠ c → (s.startClose x).coil j = s.coil j) ∧ (s.startClose x).join = s.join ∧ (s.startClose x).mode = s.mode := by
  have hview := State.closeChan_besideAssigning s c
  rw [State.startClose_of_neg hn]
  exact ⟨State.closeChan_updStr_str_same s c x _, State.closeChan_assigns ha c, fun y hy => State.closeChan_updStr_str_ne s _ hy,
    fun j hj => State.closeChan_coil_ne s hj, State.reads_eq hview State.join fun _ => rfl, State.reads_eq hview State.mode fun _ => rfl⟩

end Sys2Proof.Machine
end

section
/-! WELD_CHECK and JOIN_TMO (R273, R280 to R282, Table 10.4). -/
namespace Sys2Proof.Machine
set_option Elab.async false

theorem State.onlineEmpty_besideMode (s : State) : s.onlineEmpty.besideMode = s.besideMode := by
  rw [State.onlineEmpty, apply_ite State.besideMode, State.askReady_besideMode, ite_self]

theorem State.onlineEmpty_reqCauses (s : State) : s.onlineEmpty.mode.reqCauses = s.mode.reqCauses := by
  rw [State.onlineEmpty, apply_ite (fun t : State => t.mode.reqCauses)]
  exact (congrArg (fun r => if s.md = .online ∧ s.closedList = [] ∧ s.closingList = [] then r else s.mode.reqCauses)
    (congrArg ModeSt.reqCauses s.askReady_mode :)).trans (ite_self _)

/-- A string that leaves OPENING for the state r. -/
def StrSt.leftOpening (t : StrSt) (r : JoinSt) : StrSt := { t with st := if t.st = .opening then r else t.st, openCmdAt := none }

theorem StrSt.leftOpening_of_opening {t : StrSt} (r : JoinSt) (h : t.st = .opening) :
    t.leftOpening r = { t with st := r, openCmdAt := none } := by
  rw [StrSt.leftOpening, if_pos h]

theorem State.leaveOpening_str_same (s : State) (x : Nat) : (s.leaveOpening x).str x = (s.str x).leftOpening (s.restState x) :=
  State.updStr_same s x _
theorem State.leaveOpening_str_ne (s : State) {x y : Nat} (h : y ≠ x) : (s.leaveOpening x).str y = s.str y := State.updStr_ne s _ h

theorem State.leaveOpening_md (s : State) (x : Nat) : (s.leaveOpening x).md = s.md := rfl

theorem exec_weldCheck_of_string {s : State} {x : Str} {at_ : Nat} (h : (s.str x.val).openCmdAt = some at_) :
    exec (.weldCheck (.string x)) s = .next (((s.reach (at_ + 200000000)).weldString x.val).onlineEmpty) := by
  change execWeldCheck (.string x) s = _
  simp only [execWeldCheck, h]
  rfl

/-- A string whose weld check found no current: without a voltage difference its disconnect is not proven. -/
def StrSt.checked (t : StrSt) : StrSt := { t with discUnproven := !t.weldDv }

/-- The auxiliary of a pole is closed. -/
def State.poleAux (s : State) (o : Option Nat) : Bool := match o with | some c => (s.coil c).aux | none => false

theorem State.poleAux_of_open {s : State} {o : Option Nat} (h : ∀ c, o = some c → (s.coil c).aux = false) : s.poleAux o = false := by
  cases o with
  | none => rfl
  | some c => exact h c rfl

theorem State.weldString_of_counted {s : State} {x : Nat} (hh : (s.str x).weldHot < 3) (hr : 3 ≤ (s.str x).weldRun) : s.weldString x =
    if s.poleAux (s.negOf x) || s.poleAux (s.posOf x) then
      ((s.latchWeld x (s.poleAux (s.negOf x)) (s.poleAux (s.posOf x))).leaveOpening x).firstFail x 2
    else (s.updStr x StrSt.checked).leaveOpening x := (if_neg (Nat.not_le.mpr hh)).trans (if_pos hr)

theorem State.weldString_of_quiet {s : State} {x : Nat} (hh : (s.str x).weldHot < 3) (hr : 3 ≤ (s.str x).weldRun)
    (ha : ∀ j ∈ s.chansOf x, (s.coil j).aux = false) : s.weldString x = (s.updStr x StrSt.checked).leaveOpening x := by
  rw [State.weldString_of_counted hh hr, State.poleAux_of_open fun c hc => ha c (State.mem_chansOf.mpr (.inl hc)),
    State.poleAux_of_open fun c hc => ha c (State.mem_chansOf.mpr (.inr hc))]
  rfl

theorem State.weldString_of_hot {s : State} {x : Nat} (hh : 3 ≤ (s.str x).weldHot) :
    s.weldString x = ((s.latchWeld x true true).leaveOpening x).lockout 3 := if_pos hh

theorem weldCheck_endsOpening {s : State} {x : Str} {at_ : Nat} (h : (s.str x.val).openCmdAt = some at_) (hst : (s.str x.val).st = .opening)
    (hh : (s.str x.val).weldHot < 3) (hr : 3 ≤ (s.str x.val).weldRun) (ha : ∀ j ∈ s.chansOf x.val, (s.coil j).aux = false) :
    ∃ t, exec (.weldCheck (.string x)) s = .next t ∧ t.now = Nat.max s.now (at_ + 200000000) ∧
      t.str x.val = { s.str x.val with discUnproven := !(s.str x.val).weldDv, st := s.restState x.val, openCmdAt := none } ∧
      (∀ y, y ≠ x.val → t.str y = s.str y) ∧ t.coils = s.coils := by
  have hcheck := State.weldString_of_quiet (s := s.reach (at_ + 200000000)) hh hr ha
  have hview := State.onlineEmpty_besideMode ((s.reach (at_ + 200000000)).weldString x.val)
  refine ⟨_, exec_weldCheck_of_string h, ?_, ?_, fun y hy => ?_, ?_⟩
  · exact (State.reads_eq hview State.now fun _ => rfl).trans (congrArg State.now hcheck :)
  · rw [State.reads_eq hview (fun t => t.str x.val) fun _ => rfl, hcheck, State.leaveOpening_str_same, State.restState_updStr _ _ rfl rfl,
      State.updStr_same]
    exact StrSt.leftOpening_of_opening (t := (s.str x.val).checked) _ hst
  · rw [State.reads_eq hview (fun t => t.str y) fun _ => rfl, hcheck, State.leaveOpening_str_ne _ hy]
    exact State.updStr_ne (s.reach (at_ + 200000000)) _ hy
  · exact (State.reads_eq hview State.coils fun _ => rfl).trans (congrArg State.coils hcheck :)

theorem weldCheck_asksLockout {s : State} {x : Str} {at_ : Nat} (h : (s.str x.val).openCmdAt = some at_)
    (hh : 3 ≤ (s.str x.val).weldHot) (hm : s.md ≠ .lockout) : ∃ t, exec (.weldCheck (.string x)) s = .next t ∧
      (t.str x.val).weldNeg = true ∧ (t.str x.val).weldPos = true ∧ t.mode.reqCauses.getLsbD 2 = true := by
  have hcheck := State.weldString_of_hot (s := s.reach (at_ + 200000000)) hh
  have hview := State.onlineEmpty_besideMode ((s.reach (at_ + 200000000)).weldString x.val)
  have hmd : (((s.reach (at_ + 200000000)).latchWeld x.val true true).leaveOpening x.val).md ≠ .lockout := by
    rw [State.leaveOpening_md, State.reads_eq (State.latchWeld_besideWelding (s.reach (at_ + 200000000)) x.val true true) State.md fun _ => rfl]
    exact hm
  obtain ⟨hcause, hwelds⟩ := State.lockout_asks (k := 2) hmd x.val
  have hlatched : ((((s.reach (at_ + 200000000)).latchWeld x.val true true).leaveOpening x.val).str x.val).welds = (true, true) := by
    rw [State.leaveOpening_str_same, State.latchWeld_str_same]
    exact Prod.ext (Bool.or_true _) (Bool.or_true _)
  have hboth : ((((s.reach (at_ + 200000000)).weldString x.val).onlineEmpty).str x.val).welds = (true, true) := by
    rw [State.reads_eq hview (fun t => (t.str x.val).welds) fun _ => rfl, hcheck]
    exact hwelds.trans hlatched
  obtain ⟨hneg, hpos⟩ := StrSt.marks_of_welds hboth
  refine ⟨_, exec_weldCheck_of_string h, hneg, hpos, ?_⟩
  rw [State.onlineEmpty_reqCauses, hcheck]
  exact hcause

/-! ### The weld check of FEED -/

/-- The join without the weld check of FEED pending. -/
def State.feedChecked (s : State) (at_ : Nat) : State :=
  let t := s.reach (at_ + 200000000)
  { t with join := { t.join with feedOpenAt := none } }

theorem exec_weldCheck_of_feed {s : State} {at_ c : Nat} (h : s.join.feedOpenAt = some at_) (hf : s.feedCh = some c) :
    exec (.weldCheck .feed) s = .next (if (s.coil c).aux then
        ({ s.feedChecked at_ with join := { (s.feedChecked at_).join with feedWeld := true } } : State).weldRecord c 3 none none
      else ({ s.feedChecked at_ with join := { (s.feedChecked at_).join with feedProven := true } } : State).sweepDone) := by
  rw [apply_ite Host.Outcome.next]
  change execWeldCheck .feed s = _
  simp only [execWeldCheck, h, hf]
  rfl

/-- The end of SWEEP changes the join's section and the transition asked for. -/
theorem State.sweepDone_frame (s : State) :
    { s.sweepDone with join := { s.sweepDone.join with sec := s.join.sec }, mode := s.mode } = s := by
  unfold State.sweepDone
  split <;> rfl

theorem weldCheck_judgesFeed {s : State} {at_ c : Nat} (h : s.join.feedOpenAt = some at_) (hf : s.feedCh = some c) :
    ∃ t, exec (.weldCheck .feed) s = .next t ∧ t.join.feedOpenAt = none ∧
      t.join.feedProven = (s.join.feedProven || !(s.coil c).aux) ∧ t.join.feedWeld = (s.join.feedWeld || (s.coil c).aux) ∧
      t.coils = s.coils := by
  refine ⟨_, exec_weldCheck_of_feed h hf, ?_⟩
  by_cases ha : (s.coil c).aux = true
  · have hview := State.weldRecord_besideFreeRecords { s.feedChecked at_ with join := { (s.feedChecked at_).join with feedWeld := true } }
      c 3 none none
    have hjoin := State.reads_eq hview State.join fun _ => rfl
    rw [if_pos ha, hjoin, ha, Bool.not_true, Bool.or_false, Bool.or_true]
    exact ⟨rfl, rfl, rfl, State.reads_eq hview State.coils fun _ => rfl⟩
  · have hview := State.sweepDone_frame { s.feedChecked at_ with join := { (s.feedChecked at_).join with feedProven := true } }
    rw [Bool.not_eq_true] at ha
    rw [ha, if_neg Bool.false_ne_true, Bool.not_false, Bool.or_true, Bool.or_false]
    exact ⟨(congrArg (fun t : State => t.join.feedOpenAt) hview :), (congrArg (fun t : State => t.join.feedProven) hview :),
      (congrArg (fun t : State => t.join.feedWeld) hview :), (congrArg State.coils hview :)⟩

/-! ### JOIN_TMO -/

theorem exec_joinTmo_of_joining {s : State} (h : s.joining = true) :
    exec .joinTmo s = .next ((s.reach (s.join.startedAt + sNs (s.fld pJOIN 0x024 31 16))).joinAbort 5) := if_pos h

theorem joinTmo_endsJoin {s : State} (h : s.joining = true) (ht : s.mode.trans = none) : ∃ t, exec .joinTmo s = .next t ∧
    t.join.sec = .idle ∧ (t.page pJOIN).evt.getLsbD 1 = true ∧ t.now = Nat.max s.now (s.join.startedAt + sNs (s.fld pJOIN 0x024 31 16)) ∧
    t.mode.trans = some { target := .ready, origin := 0, afterOpenings := true } ∧
    (∀ y < 48, (s.str y).st.closing = true → s.isOpen y = false → (t.str y).st = .opening) := by
  obtain ⟨hsec, hevt, -, hnow, htrans, hopening⟩ :=
    State.joinAbort_ends (s := s.reach (s.join.startedAt + sNs (s.fld pJOIN 0x024 31 16))) (cause := 5) h (by decide) (by decide)
  exact ⟨_, exec_joinTmo_of_joining h, hsec, hevt, hnow, htrans ht, hopening⟩

theorem exec_joinTmo_of_not_joining {s : State} (h : s.joining = false) : exec .joinTmo s = .next s :=
  if_neg (by rw [h]; decide)

/-- Settles O25: the steps of a string one after the other, then the weld check of FEED and the time-out of the join. -/
theorem joinStepsOfAString : Obligations.JoinStepsOfAString := fun _ _ =>
  ⟨fun _ _ hst hhot hf hd hr hc hp ha => probeEnd_assignsPos hst hf hhot hd hr hc hp ha,
    fun _ hst hhot hf hd hr => probeEnd_abandons hst hf hhot hd hr, fun hst hhot hf => probeEnd_latchesWeld hst hf hhot,
    fun _ hn hr ha hm hd hj hp => ⟨_, exec_runClose_of_met hr ha hm hd hj hp, State.startClose_starts hn ha⟩,
    fun _ h hst hh hr ha => weldCheck_endsOpening h hst hh hr ha, fun _ h hh hm => weldCheck_asksLockout h hh hm,
    fun _ _ h hf => weldCheck_judgesFeed h hf, joinTmo_endsJoin, exec_joinTmo_of_not_joining⟩

end Sys2Proof.Machine
end

section
/-! What the debounced state of an auxiliary changes before the join takes it up (R146, R272, R274). -/
namespace Sys2Proof.Machine
set_option Elab.async false

/-- The debounced state of an auxiliary is taken in. -/
def State.auxTaken (s : State) (k : Nat) (closed : Bool) : State := s.updCoil k (fun e => { e with aux := closed, auxRun := 20 })
/-- Of a string's contactor the open instants follow. -/
def State.auxTimed (s : State) (k : Nat) (closed : Bool) : State :=
  if s.chRole k = 1 ∨ s.chRole k = 2 then (s.auxTaken k closed).auxTiming (s.chStr k) closed else s.auxTaken k closed
/-- A closing is counted, with its wear check. -/
def State.closingCounted (s : State) (k : Nat) : State :=
  (s.updCoil k (fun e => { e with ops := e.ops + 1, closedAt := some s.now })).wearCheck k true
/-- The auxiliary of channel k is closed, and its closing counted where CLOSE was assigned. -/
def State.auxClosed (s : State) (k : Nat) : State :=
  if s.closeCmd k = true then (s.auxTimed k true).closingCounted k else s.auxTimed k true

/-- The state without what an auxiliary's state changes. -/
def State.besideAux (s : State) : State := { s with pages := [], gal := {}, chans := [], coils := [] }

/-- An update of a string's channel that changes its open instants alone. -/
def ChanSt.Retimes (f : ChanSt → ChanSt) : Prop := ∀ c, { f c with openedAt := c.openedAt, window := c.window } = c

/-- What writing open instants keeps, an auxiliary's state keeps. -/
theorem State.auxTiming_keeps {β : Type} (p : State → β) (s : State) (x : Nat) (closed : Bool)
    (hw : ∀ f, ChanSt.Retimes f → p (s.updChan x f) = p s) : p (s.auxTiming x closed) = p s := by
  unfold State.auxTiming
  split
  · exact hw _ fun _ => rfl
  · split
    · exact hw _ fun _ => rfl
    · rfl

theorem State.auxTimed_keeps {β : Type} (p : State → β) (s : State) (k : Nat) (closed : Bool) (ht : p (s.auxTaken k closed) = p s)
    (hw : ∀ (t : State) x f, ChanSt.Retimes f → p (t.updChan x f) = p t) : p (s.auxTimed k closed) = p s := by
  rw [State.auxTimed, apply_ite p, State.auxTiming_keeps p _ _ closed (hw _ _), ht, ite_self]

theorem State.auxTimed_besideAux (s : State) (k : Nat) (closed : Bool) : (s.auxTimed k closed).besideAux = s.besideAux :=
  State.auxTimed_keeps State.besideAux s k closed rfl fun _ _ _ _ => rfl

theorem State.auxTimed_coil (s : State) (k : Nat) (closed : Bool) (j : Nat) : (s.auxTimed k closed).coil j = (s.auxTaken k closed).coil j := by
  have hcoils : (s.auxTimed k closed).coils = (s.auxTaken k closed).coils := by
    rw [State.auxTimed, apply_ite State.coils, State.auxTiming_keeps State.coils _ _ closed fun _ _ => rfl, ite_self]
  exact congrArg (fun l => sget ({} : CoilSt) l j) hcoils

theorem State.wearCheck_besideRecords (s : State) (c : Nat) (ops : Bool) : (s.wearCheck c ops).besideRecords = s.besideRecords :=
  s.wearCheck_keeps State.besideRecords (fun t _ _ => State.log_besideRecords t _ _) (fun _ _ _ => rfl) c ops

theorem State.auxClosed_besideAux (s : State) (k : Nat) : (s.auxClosed k).besideAux = s.besideAux := by
  have hcount : ∀ t : State, (t.closingCounted k).besideAux = t.besideAux := fun t =>
    State.reads_eq (State.wearCheck_besideRecords (t.updCoil k _) k true) State.besideAux fun _ => rfl
  rw [State.auxClosed, apply_ite State.besideAux, hcount, ite_self, State.auxTimed_besideAux]

theorem State.auxClosed_coil (s : State) (k j : Nat) : (s.auxClosed k).coil j =
    if s.closeCmd k = true then ((s.auxTimed k true).updCoil k (fun e => { e with ops := e.ops + 1, closedAt := some s.now })).coil j
    else (s.auxTaken k true).coil j := by
  have hnow : (s.auxTimed k true).now = s.now := State.reads_eq (State.auxTimed_besideAux s k true) State.now fun _ => rfl
  rw [State.auxClosed, apply_ite (fun t : State => t.coil j), State.closingCounted, State.wearCheck_coil, State.auxTimed_coil, hnow]

theorem State.auxClosed_coil_ne (s : State) {k j : Nat} (h : j ≠ k) : (s.auxClosed k).coil j = s.coil j := by
  rw [State.auxClosed_coil, State.updCoil_ne _ _ h, State.auxTimed_coil, ite_self]
  exact State.updCoil_ne s _ h

/-- The auxiliary is closed, and the closing counted where CLOSE is assigned. -/
theorem State.auxClosed_coil_same (s : State) (k : Nat) : ((s.auxClosed k).coil k).aux = true ∧
    ((s.auxClosed k).coil k).ops = (s.coil k).ops + b2n (s.coil k).closeSeq.isSome := by
  rw [State.auxClosed_coil, State.updCoil_same, State.auxTimed_coil, State.auxTaken, State.updCoil_same]
  cases h : s.closeCmd k with
  | false => exact ⟨rfl, by rw [show (s.coil k).closeSeq.isSome = false from h]; rfl⟩
  | true => exact ⟨rfl, by rw [show (s.coil k).closeSeq.isSome = true from h]; rfl⟩

/-- Open instants alone differ in the channels. -/
theorem State.updChan_chan_of_retimes (s : State) (x y : Nat) {f : ChanSt → ChanSt} (hf : ChanSt.Retimes f) :
    { (s.updChan x f).chan y with openedAt := (s.chan y).openedAt, window := (s.chan y).window } = s.chan y := by
  by_cases h : y = x
  · rw [h, State.updChan_same, hf]
  · rw [State.updChan_ne s f h]

/-- Whether closing is forbidden is read off no open instant of a string's channel. -/
theorem State.closeForbidden_updChan (s : State) (x : Nat) {f : ChanSt → ChanSt} (hf : ChanSt.Retimes f) :
    (s.updChan x f).closeForbidden = s.closeForbidden := by
  have hhold : ∀ y, ((s.updChan x f).chan y).brkHold = (s.chan y).brkHold := fun y =>
    (congrArg ChanSt.brkHold (State.updChan_chan_of_retimes s x y hf) :)
  simp only [State.closeForbidden, State.anyLevel, State.secLevel, hhold]
  rfl

theorem State.iNow_updChan (s : State) (x y : Nat) {f : ChanSt → ChanSt} (hf : ChanSt.Retimes f) : (s.updChan x f).iNow y = s.iNow y := by
  have hchan := State.updChan_chan_of_retimes s x y hf
  rw [State.iNow, State.iNow, (congrArg ChanSt.lost hchan :), (congrArg ChanSt.iNow hchan :)]

theorem State.auxTimed_iNow (s : State) (k : Nat) (closed : Bool) (y : Nat) : (s.auxTimed k closed).iNow y = s.iNow y :=
  State.auxTimed_keeps (fun t => t.iNow y) s k closed rfl fun t x _ hf => State.iNow_updChan t x y hf

theorem State.auxTimed_closeForbidden (s : State) (k : Nat) (closed : Bool) : (s.auxTimed k closed).closeForbidden = s.closeForbidden :=
  State.auxTimed_keeps State.closeForbidden s k closed rfl fun t x _ hf => State.closeForbidden_updChan t x hf

theorem State.auxClosed_closeForbidden (s : State) (k : Nat) : (s.auxClosed k).closeForbidden = s.closeForbidden := by
  have hcount : ∀ t : State, (t.closingCounted k).closeForbidden = t.closeForbidden := fun t =>
    State.reads_eq (State.wearCheck_besideRecords (t.updCoil k _) k true) State.closeForbidden fun _ => rfl
  rw [State.auxClosed, apply_ite State.closeForbidden, hcount, ite_self, State.auxTimed_closeForbidden]

end Sys2Proof.Machine
end

section
/-! AUX_DEBOUNCED (R272): what a change of an auxiliary does with the join. -/
namespace Sys2Proof.Machine
set_option Elab.async false

/-- The join takes up a closed auxiliary (R277, R278, R280). -/
def State.auxActs (s : State) (k x : Nat) (cmd : Bool) : State :=
  if s.chRole k = 3 then if cmd = true ∧ s.join.sec = .feed then s.enterForming s.join.first else s
  else if s.chRole k = 1 ∧ (s.str x).st = .negClosing then s.toProbe x
  else if s.chRole k = 2 ∧ (s.str x).st = .posClosing then s.strClosed x
  else s

theorem exec_auxDebounced (c : Chan) (closed : Bool) (s : State) : exec (.auxDebounced c closed) s = execAuxDebounced c closed s := rfl

theorem State.auxTaken_closeCmd (s : State) (k : Nat) (closed : Bool) : (s.auxTaken k closed).closeCmd k = s.closeCmd k := by
  rw [State.closeCmd, State.auxTaken, State.updCoil_same]
  rfl

/-- Of an unmapped channel the auxiliary alone changes. -/
theorem exec_auxDebounced_of_unmapped {s : State} {c : Chan} (closed : Bool) (hr : s.chRole c.val = 0) :
    exec (.auxDebounced c closed) s = .next (s.setCoil c.val { s.coil c.val with aux := closed, auxRun := 20 }) := by
  have hr : (s.auxTaken c.val closed).chRole c.val = 0 := hr
  have hplain : ¬ ((s.coil c.val).aux ≠ closed ∧
      ((s.auxTaken c.val closed).chRole c.val = 1 ∨ (s.auxTaken c.val closed).chRole c.val = 2)) := by
    omega
  rw [exec_auxDebounced, execAuxDebounced]
  dsimp only
  rw [← State.auxTaken, if_neg hplain, if_pos (.inl hr)]
  rfl

/-- The open instants follow an auxiliary that has changed. -/
theorem State.auxTimed_of_change {s : State} {k : Nat} {closed : Bool} (h : (s.coil k).aux ≠ closed) :
    (if (s.coil k).aux ≠ closed ∧ ((s.auxTaken k closed).chRole k = 1 ∨ (s.auxTaken k closed).chRole k = 2) then
      (s.auxTaken k closed).auxTiming ((s.auxTaken k closed).chStr k) closed else s.auxTaken k closed) = s.auxTimed k closed :=
  if_congr (and_iff_right h) rfl rfl

section
variable {s : State} {c : Chan} (hr : s.chRole c.val ≠ 0)
include hr

theorem exec_auxDebounced_of_closes (ha : (s.coil c.val).aux = false) :
    exec (.auxDebounced c true) s = .next ((s.auxClosed c.val).auxActs c.val (s.chStr c.val) (s.closeCmd c.val)) := by
  have htimed := State.auxTimed_of_change (s := s) (k := c.val) (closed := true) (by rw [ha]; decide)
  have hrole : (s.auxTimed c.val true).chRole c.val = s.chRole c.val :=
    State.reads_eq (State.auxTimed_besideAux s c.val true) (fun t => t.chRole c.val) fun _ => rfl
  have hchanged : ¬ (s.chRole c.val = 0 ∨ (s.coil c.val).aux = true) := not_or.mpr ⟨hr, by rw [ha]; decide⟩
  rw [exec_auxDebounced, execAuxDebounced]
  dsimp only
  rw [← State.auxTaken, htimed, hrole, if_neg hchanged, if_pos rfl, State.auxTaken_closeCmd, ← State.closingCounted, ← State.auxClosed]
  simp only [State.auxActs, apply_ite Host.Outcome.next]
  rfl

/-- An auxiliary that opens at a current not below the resolution while the coil is energised is suspended, with record and event. -/
theorem exec_auxDebounced_of_suspends {i : Int} (h3 : s.chRole c.val = 1 ∨ s.chRole c.val = 2) (ha : (s.coil c.val).aux = true)
    (hcmd : s.closeCmd c.val = true) (hcoil : (s.coil c.val).coil = true) (hsus : (s.coil c.val).auxSuspended = false)
    (hi : s.iNow (s.chStr c.val) = some i) (hlow : s.iOpenRes ≤ absI i) : exec (.auxDebounced c false) s =
      .next ((((s.auxTimed c.val false).updCoil c.val (fun e => { e with auxSuspended := true })).log 0x0607
        [word c.val, iWord (some i)]).raise pACT 6) := by
  have htimed := State.auxTimed_of_change (s := s) (k := c.val) (closed := false) (by rw [ha]; decide)
  have hview := State.auxTimed_besideAux s c.val false
  have hrole : (s.auxTimed c.val false).chRole c.val = s.chRole c.val := State.reads_eq hview (fun t => t.chRole c.val) fun _ => rfl
  have hres : (s.auxTimed c.val false).iOpenRes = s.iOpenRes := State.reads_eq hview State.iOpenRes fun _ => rfl
  have hown : (s.auxTimed c.val false).coil c.val = { s.coil c.val with aux := false, auxRun := 20 } :=
    (State.auxTimed_coil s c.val false c.val).trans (State.updCoil_same s c.val _)
  have hnow : (s.auxTimed c.val false).iNow ((s.auxTaken c.val false).chStr c.val) = some i := (State.auxTimed_iNow s c.val false _).trans hi
  have hchanged : ¬ (s.chRole c.val = 0 ∨ (s.coil c.val).aux = false) := not_or.mpr ⟨hr, by rw [ha]; decide⟩
  have hfeed : s.chRole c.val ≠ 3 := by omega
  rw [exec_auxDebounced, execAuxDebounced]
  dsimp only
  rw [← State.auxTaken, htimed, hrole, if_neg hchanged, if_neg Bool.false_ne_true, State.auxTaken_closeCmd, hown,
    if_pos ⟨hcmd, hcoil, hsus⟩, if_neg hfeed, hnow, hres]
  exact if_neg (by simpa using hlow)

end

end Sys2Proof.Machine
end

section
/-! A string that reaches CLOSED (R277 step 4, R278): what the join then starts or stops leaves that string and the auxiliaries. -/
namespace Sys2Proof.Machine
set_option Elab.async false

theorem mem_insBy {f : Nat → Rat} {x y : Nat} {l : List Nat} : y ∈ insBy f x l ↔ y = x ∨ y ∈ l := by
  induction l with
  | nil => simp [insBy]
  | cons a l ih =>
    rw [insBy]
    split
    · exact List.mem_cons
    · rw [List.mem_cons, ih, List.mem_cons]
      exact or_left_comm

/-- Sorting adds no string. -/
theorem mem_of_mem_sortBy {f : Nat → Rat} {y : Nat} {l : List Nat} (h : y ∈ sortBy f l) : y ∈ l := by
  have hfold : ∀ (l a : List Nat), y ∈ l.foldl (fun a x => insBy f x a) a → y ∈ a ∨ y ∈ l := by
    intro l
    induction l with
    | nil => exact fun a h => .inl h
    | cons x l ih =>
      intro a h
      rcases ih _ h with h | h
      · exact (mem_insBy.mp h).elim (fun e => .inr (e ▸ List.mem_cons_self)) .inl
      · exact .inr (List.mem_cons_of_mem x h)
  exact (hfold l [] h).resolve_left List.not_mem_nil

/-- Only an ARMED string may start closing (R276). -/
theorem State.armed_of_mayClose {s : State} {x : Nat} (h : s.mayClose x = true) : (s.str x).st = .armed := by
  simp only [State.mayClose, State.meets276, Bool.and_eq_true, beq_iff_eq] at h
  obtain ⟨⟨⟨⟨⟨⟨⟨⟨⟨hst, -⟩, -⟩, -⟩, -⟩, -⟩, -⟩, -⟩, -⟩, -⟩ := h
  exact hst

/-- What is asked of a string that has closed: its auxiliary, its own state, the mode and STR_CLOSED. -/
def State.closedView (s : State) (k x : Nat) : Bool × StrSt × Mode × Bool := ((s.coil k).aux, s.str x, s.mode.mode, s.evtBit pJOIN 0)

theorem State.openFeed_aux (s : State) (k : Nat) : (s.openFeed.coil k).aux = (s.coil k).aux := by
  have hopen : ∀ cs, ((s.openChans cs).coil k).aux = (s.coil k).aux := fun cs => by
    rw [State.openChans_coil]
    split <;> rfl
  unfold State.openFeed
  split
  · split
    · exact hopen _
    · rfl
  · rfl

theorem State.convStop_aux (s : State) (k : Nat) : (s.convStop.coil k).aux = (s.coil k).aux := by
  unfold State.convStop
  split
  · rfl
  · rfl
  · exact State.openFeed_aux _ k
  · exact State.openFeed_aux _ k
  · rfl
  · exact State.openFeed_aux _ k
  · exact State.openFeed_aux _ k

theorem State.convStop_closedView (s : State) (k x : Nat) : s.convStop.closedView k x = s.closedView k x :=
  Prod.ext (State.convStop_aux s k) (State.reads_eq (State.convStop_besideConverter s) (fun t => (t.closedView k x).2) fun _ => rfl)

theorem State.closeChan_aux (s : State) (c k : Nat) : ((s.closeChan c).coil k).aux = (s.coil k).aux := by
  by_cases h : k = c
  · by_cases ha : s.active = true
    · rw [State.closeChan_coil_of_active ha, h, State.updCoil_same]
      rfl
    · rw [State.closeChan, if_neg ha]
  · rw [State.closeChan_coil_ne s h]

theorem State.startClose_closedView (s : State) {x y : Nat} (k : Nat) (h : x ≠ y) : (s.startClose y).closedView k x = s.closedView k x := by
  cases hn : s.negOf y with
  | none =>
    unfold State.startClose
    rw [hn]
  | some c =>
    rw [State.startClose_of_neg hn]
    refine Prod.ext (State.closeChan_aux s c k) (Prod.ext (State.closeChan_updStr_str_ne s _ h) ?_)
    exact State.reads_eq (State.closeChan_besideAssigning s c) (fun t => (t.closedView k x).2.2) fun _ => rfl

/-- A string that is not ARMED is no candidate. -/
theorem State.startCandidates_closedView (s : State) (ok : Nat → Bool) {x : Nat} (k : Nat) (h : (s.str x).st ≠ .armed) :
    (s.startCandidates ok).closedView k x = s.closedView k x := by
  refine foldS_keeps_prop (P := fun t => t.closedView k x = s.closedView k x) rfl fun t ht y hy => ?_
  have hmay := (List.mem_filter.mp (mem_of_mem_sortBy (List.mem_of_mem_take hy))).2
  simp only [Bool.and_eq_true] at hmay
  have hne : x ≠ y := fun e => h (e ▸ State.armed_of_mayClose hmay.1.1)
  rw [State.startClose_closedView t k hne, ht]

theorem State.sweepDone_closedView (s : State) (k x : Nat) : s.sweepDone.closedView k x = s.closedView k x := by
  unfold State.sweepDone
  split <;> rfl

/-- The first string has closed: SWEEP. -/
def State.sweepStarted (s : State) : State := { s with join := { s.join with sec := .sweep } }

/-- The join goes on after string x has closed: SWEEP starts with the first string, and has further candidates close. -/
def State.closingFollowed (s : State) (x : Nat) : State :=
  if s.join.sec = .first ∧ s.join.first = x then
    (s.sweepStarted.convStop.startCandidates (fun _ => true)).sweepDone
  else if s.join.sec = .sweep then (s.startCandidates (fun _ => true)).sweepDone
  else s

theorem State.closingFollowed_closedView (s : State) {x : Nat} (k : Nat) (h : (s.str x).st ≠ .armed) :
    (s.closingFollowed x).closedView k x = s.closedView k x := by
  have hswept : ∀ t : State, (t.str x).st ≠ .armed → ((t.startCandidates (fun _ => true)).sweepDone).closedView k x = t.closedView k x :=
    fun t ht => (State.sweepDone_closedView _ k x).trans (State.startCandidates_closedView t _ k ht)
  have hstop := State.convStop_closedView s.sweepStarted k x
  unfold State.closingFollowed
  split
  · refine (hswept _ ?_).trans hstop
    rw [show s.sweepStarted.convStop.str x = s.str x from congrArg (fun v => v.2.1) hstop]
    exact h
  · split
    · exact hswept s h
    · rfl

/-- A string CLOSED at an instant with its share of the current. -/
def StrSt.joined (t : StrSt) (now : Nat) (share : Rat) : StrSt := { t with st := .closed, closedAt := now, openByProt := false, share := share }

theorem State.wordOr_besideFreeRecords (s : State) (o : Option Word) : (s.wordOr o).2.besideFreeRecords = s.besideFreeRecords := by
  cases o <;> rfl

/-- The share of the current of the strings that are then closed. -/
def State.shareOf (s : State) (x : Nat) : Rat := mkRat 1 (s.updStr x (fun t => t.joined s.now 0)).closedList.length
/-- The closing is recorded. -/
def State.closingNoted (s : State) (x : Nat) : State :=
  let r := s.wordOr ((s.str x).posDv.map (fun d => rw (d * 10)))
  (r.2.freeWord.2.log 0x0611 [word x, r.1, r.2.freeWord.1]).raise pJOIN 0

theorem State.closingNoted_besideFreeRecords (s : State) (x : Nat) : (s.closingNoted x).besideFreeRecords = s.besideFreeRecords := by
  have hlog : ∀ (t : State) pl, ((t.log 0x0611 pl).raise pJOIN 0).besideFreeRecords = t.besideFreeRecords := fun t pl =>
    State.reads_eq (State.log_besideRecords t 0x0611 pl) State.besideFreeRecords fun _ => rfl
  exact (hlog _ _).trans (State.wordOr_besideFreeRecords s _)

/-- The string is CLOSED with its record and event, then the join goes on. -/
theorem State.strClosed_eq (s : State) (x : Nat) :
    s.strClosed x = ((s.updStr x (fun t => t.joined s.now (s.shareOf x))).closingNoted x).closingFollowed x := by
  unfold State.strClosed
  extract_lets closed n shared
  have htwice : shared = s.updStr x (fun t => t.joined s.now (s.shareOf x)) := State.updStr_twice s x _ _
  rw [← htwice, State.closingNoted]
  clear_value shared
  dsimp only
  generalize shared.wordOr ((shared.str x).posDv.map (fun d => rw (d * 10))) = r
  obtain ⟨dv, u⟩ := r
  rfl

/-- The string is CLOSED now, and its closing shows. -/
theorem State.strClosed_closes (s : State) (k x : Nat) : ((s.strClosed x).coil k).aux = (s.coil k).aux ∧ ((s.strClosed x).str x).st = .closed ∧
    ((s.strClosed x).str x).closedAt = s.now ∧ (s.strClosed x).evtBit pJOIN 0 = true ∧ (s.strClosed x).mode.mode = s.mode.mode := by
  have hnoted := State.closingNoted_besideFreeRecords (s.updStr x (fun t => t.joined s.now (s.shareOf x))) x
  have hevent : ((s.updStr x (fun t => t.joined s.now (s.shareOf x))).closingNoted x).evtBit pJOIN 0 = true := State.raise_evtBit _ _ (by decide)
  have e := State.strClosed_eq s x
  generalize (s.updStr x (fun t => t.joined s.now (s.shareOf x))).closingNoted x = u at hnoted hevent e
  have hstr : u.str x = (s.str x).joined s.now (s.shareOf x) :=
    (State.reads_eq hnoted (fun t => t.str x) fun _ => rfl).trans (State.updStr_same s x _)
  have hview := State.closingFollowed_closedView u (x := x) k (by rw [hstr]; exact fun h => JoinSt.noConfusion h)
  have hown : (u.closingFollowed x).str x = (s.str x).joined s.now (s.shareOf x) := (congrArg (fun v => v.2.1) hview).trans hstr
  rw [e]
  refine ⟨(congrArg Prod.fst hview).trans (State.reads_eq hnoted (fun t => (t.coil k).aux) fun _ => rfl), (congrArg StrSt.st hown :),
    (congrArg StrSt.closedAt hown :), (congrArg (fun v => v.2.2.2) hview).trans hevent, ?_⟩
  exact (congrArg (fun v => v.2.2.1) hview).trans (State.reads_eq hnoted (fun t => t.mode.mode) fun _ => rfl)

end Sys2Proof.Machine
end

section
/-! The clauses of AUX_DEBOUNCED: PROBE, CLOSED, FORMING and a suspended auxiliary (R274, R277, R280). -/
namespace Sys2Proof.Machine
set_option Elab.async false

section
variable {s : State} {k : Nat}

theorem State.auxClosed_str (s : State) (k y : Nat) : (s.auxClosed k).str y = s.str y :=
  State.reads_eq (State.auxClosed_besideAux s k) (fun t => t.str y) fun _ => rfl

theorem State.auxClosed_chRole (s : State) (k c : Nat) : (s.auxClosed k).chRole c = s.chRole c :=
  State.reads_eq (State.auxClosed_besideAux s k) (fun t => t.chRole c) fun _ => rfl

theorem State.auxActs_of_neg {x : Nat} (cmd : Bool) (hr : s.chRole k = 1) (hst : (s.str x).st = .negClosing) :
    s.auxActs k x cmd = s.toProbe x := (if_neg (by rw [hr]; decide)).trans (if_pos ⟨hr, hst⟩)
theorem State.auxActs_of_pos {x : Nat} (cmd : Bool) (hr : s.chRole k = 2) (hst : (s.str x).st = .posClosing) :
    s.auxActs k x cmd = s.strClosed x :=
  (if_neg (by rw [hr]; decide)).trans ((if_neg (by rw [hr]; exact fun h => absurd h.1 (by decide))).trans (if_pos ⟨hr, hst⟩))
theorem State.auxActs_of_feed {x : Nat} {cmd : Bool} (hr : s.chRole k = 3) (hc : cmd = true) (hf : s.join.sec = .feed) :
    s.auxActs k x cmd = s.enterForming s.join.first := (if_pos hr).trans (if_pos ⟨hc, hf⟩)

end

/-- The target that follows the first string is the only change (R293). -/
theorem State.effFollow_frame (s : State) : { s.effFollow with bvl := s.bvl } = s := by
  unfold State.effFollow
  split
  · split <;> rfl
  · rfl

/-- FORMING starts the converter, and leaves strings and contactors. -/
theorem State.enterForming_forms (s : State) (x : Nat) : (s.enterForming x).join = { s.join with sec := .forming, first := x } ∧
    (s.enterForming x).bfc.st = .starting ∧ (s.enterForming x).strs = s.strs ∧ (s.enterForming x).coils = s.coils := by
  have hframe := State.effFollow_frame { s with join := { s.join with sec := .forming, first := x } }
  have hjoin := (congrArg State.join hframe :)
  have hstrs := (congrArg State.strs hframe :)
  have hcoils := (congrArg State.coils hframe :)
  unfold State.enterForming
  dsimp only at hjoin hstrs hcoils ⊢
  split
  · exact ⟨hjoin, rfl, hstrs, hcoils⟩
  · exact ⟨hjoin, rfl, hstrs, hcoils⟩

section
variable {s : State} {c : Chan} (ha : (s.coil c.val).aux = false)
include ha

/-- A closed NEG auxiliary leads to PROBE or, where closing is forbidden now, back. -/
theorem exec_auxDebounced_of_neg (hr : s.chRole c.val = 1) (hst : (s.str (s.chStr c.val)).st = .negClosing) :
    exec (.auxDebounced c true) s = .next ((s.auxClosed c.val).toProbe (s.chStr c.val)) := by
  rw [exec_auxDebounced_of_closes (by rw [hr]; decide) ha, State.auxActs_of_neg _ ((State.auxClosed_chRole s _ _).trans hr)
    ((congrArg StrSt.st (State.auxClosed_str s _ _)).trans hst)]

theorem auxDebounced_probes (hr : s.chRole c.val = 1) (hst : (s.str (s.chStr c.val)).st = .negClosing) (hf : s.closeForbidden = false) :
    ∃ t, exec (.auxDebounced c true) s = .next t ∧ (t.coil c.val).aux = true ∧
      t.str (s.chStr c.val) = { s.str (s.chStr c.val) with st := .probe, probeEnd := s.now + msNs (s.fld pJOIN 0x024 7 0) } ∧
      (∀ y, y ≠ s.chStr c.val → t.str y = s.str y) ∧ (∀ j, j ≠ c.val → t.coil j = s.coil j) ∧
      (t.coil c.val).ops = (s.coil c.val).ops + b2n (s.coil c.val).closeSeq.isSome ∧ t.join = s.join := by
  have hview := State.auxClosed_besideAux s c.val
  have htime : ((s.auxClosed c.val).now + msNs ((s.auxClosed c.val).fld pJOIN 0x024 7 0)) = s.now + msNs (s.fld pJOIN 0x024 7 0) :=
    State.reads_eq hview (fun t => t.now + msNs (t.fld pJOIN 0x024 7 0)) fun _ => rfl
  obtain ⟨haux, hops⟩ := State.auxClosed_coil_same s c.val
  rw [exec_auxDebounced_of_neg ha hr hst, State.toProbe, State.auxClosed_closeForbidden, hf, if_neg Bool.false_ne_true, htime]
  refine ⟨_, rfl, haux, ?_, fun y hy => ?_, fun j hj => State.auxClosed_coil_ne s hj, hops, State.reads_eq hview State.join fun _ => rfl⟩
  · rw [State.updStr_same, State.auxClosed_str]
  · rw [State.updStr_ne _ _ hy, State.auxClosed_str]

theorem auxDebounced_abandons (hr : s.chRole c.val = 1) (hst : (s.str (s.chStr c.val)).st = .negClosing) (hf : s.closeForbidden = true) :
    ∃ t, exec (.auxDebounced c true) s = .next t ∧ (t.coil c.val).aux = true ∧ (t.str (s.chStr c.val)).st = .armed ∧
      (∀ j ∈ s.chansOf (s.chStr c.val), (t.coil j).closeSeq = none) := by
  have hchans : (s.auxClosed c.val).chansOf (s.chStr c.val) = s.chansOf (s.chStr c.val) :=
    State.reads_eq (State.auxClosed_besideAux s c.val) (fun t => t.chansOf (s.chStr c.val)) fun _ => rfl
  rw [exec_auxDebounced_of_neg ha hr hst, State.toProbe, State.auxClosed_closeForbidden, if_pos hf]
  refine ⟨_, rfl, ?_, ?_, fun j hj => State.abandonClose_unassigns _ _ _ (hchans ▸ hj)⟩
  · rw [State.abandonClose_coil]
    split <;> exact (State.auxClosed_coil_same s c.val).1
  · rw [State.abandonClose_str_same]

/-- A closed POS auxiliary makes the string CLOSED. -/
theorem auxDebounced_closesString (hr : s.chRole c.val = 2) (hst : (s.str (s.chStr c.val)).st = .posClosing) :
    ∃ t, exec (.auxDebounced c true) s = .next t ∧ (t.coil c.val).aux = true ∧ (t.str (s.chStr c.val)).st = .closed ∧
      (t.str (s.chStr c.val)).closedAt = s.now ∧ (t.page pJOIN).evt.getLsbD 0 = true ∧ t.mode.mode = s.mode.mode := by
  have hview := State.auxClosed_besideAux s c.val
  obtain ⟨haux, hclosed, hat, hevent, hmode⟩ := State.strClosed_closes (s.auxClosed c.val) c.val (s.chStr c.val)
  rw [exec_auxDebounced_of_closes (by rw [hr]; decide) ha, State.auxActs_of_pos _ ((State.auxClosed_chRole s _ _).trans hr)
    ((congrArg StrSt.st (State.auxClosed_str s _ _)).trans hst)]
  exact ⟨_, rfl, haux.trans (State.auxClosed_coil_same s c.val).1, hclosed, hat.trans (State.reads_eq hview State.now fun _ => rfl), hevent,
    hmode.trans (State.reads_eq hview (fun t => t.mode.mode) fun _ => rfl)⟩

/-- A closed FEED auxiliary starts FORMING. -/
theorem auxDebounced_forms (hr : s.chRole c.val = 3) (hc : (s.coil c.val).closeSeq.isSome = true) (hf : s.join.sec = .feed) :
    ∃ t, exec (.auxDebounced c true) s = .next t ∧ (t.coil c.val).aux = true ∧ t.join = { s.join with sec := .forming } ∧
      t.bfc.st = .starting ∧ t.strs = s.strs := by
  have hview := State.auxClosed_besideAux s c.val
  have hjoin : (s.auxClosed c.val).join = s.join := State.reads_eq hview State.join fun _ => rfl
  obtain ⟨hforming, hstarting, hstrs, hcoils⟩ := State.enterForming_forms (s.auxClosed c.val) (s.auxClosed c.val).join.first
  rw [exec_auxDebounced_of_closes (by rw [hr]; decide) ha,
    State.auxActs_of_feed ((State.auxClosed_chRole s _ _).trans hr) (show s.closeCmd c.val = true from hc)
      ((congrArg JoinState.sec hjoin).trans hf)]
  refine ⟨_, rfl, ?_, ?_, hstarting, hstrs.trans (State.reads_eq hview State.strs fun _ => rfl)⟩
  · exact (congrArg (fun l => (sget ({} : CoilSt) l c.val).aux) hcoils).trans (State.auxClosed_coil_same s c.val).1
  · rw [hforming, hjoin]

end

/-- An auxiliary that opens under current is suspended, with record and event, and opens nothing. -/
theorem auxDebounced_suspends {s : State} {c : Chan} {i : Int} (hr : s.chRole c.val = 1 ∨ s.chRole c.val = 2) (ha : (s.coil c.val).aux = true)
    (hcmd : (s.coil c.val).closeSeq.isSome = true) (hcoil : (s.coil c.val).coil = true) (hsus : (s.coil c.val).auxSuspended = false)
    (hi : s.iNow (s.chStr c.val) = some i) (hlow : s.iOpenRes ≤ absI i) : ∃ t, exec (.auxDebounced c false) s = .next t ∧
      (t.coil c.val).aux = false ∧ (t.coil c.val).auxSuspended = true ∧ (t.coil c.val).closeSeq = (s.coil c.val).closeSeq ∧
      t.strs = s.strs ∧ (∀ j, j ≠ c.val → t.coil j = s.coil j) ∧ (t.page pACT).evt.getLsbD 6 = true := by
  refine ⟨_, exec_auxDebounced_of_suspends (by omega) hr ha hcmd hcoil hsus hi hlow, ?_⟩
  have hnoted := State.log_besideRecords ((s.auxTimed c.val false).updCoil c.val (fun e => { e with auxSuspended := true })) 0x0607
    [word c.val, iWord (some i)]
  have hcoils : ∀ j, (((s.auxTimed c.val false).updCoil c.val (fun e => { e with auxSuspended := true })).log 0x0607
      [word c.val, iWord (some i)]).coil j = ((s.auxTaken c.val false).updCoil c.val (fun e => { e with auxSuspended := true })).coil j := by
    intro j
    rw [State.reads_eq hnoted (fun t => t.coil j) fun _ => rfl]
    by_cases h : j = c.val
    · rw [h, State.updCoil_same, State.updCoil_same, State.auxTimed_coil]
    · rw [State.updCoil_ne _ _ h, State.updCoil_ne _ _ h, State.auxTimed_coil]
  have hown := (hcoils c.val).trans ((State.updCoil_same _ _ _).trans (congrArg (fun e : CoilSt => { e with auxSuspended := true })
    (State.updCoil_same s c.val _)))
  refine ⟨(congrArg CoilSt.aux hown :), (congrArg CoilSt.auxSuspended hown :), (congrArg CoilSt.closeSeq hown :), ?_, fun j hj => ?_,
    State.raise_evtBit _ _ (by decide)⟩
  · exact (State.reads_eq hnoted State.strs fun _ => rfl).trans (State.reads_eq (State.auxTimed_besideAux s c.val false) State.strs fun _ => rfl)
  · exact (hcoils j).trans ((State.updCoil_ne _ _ hj).trans (State.updCoil_ne s _ hj))

end Sys2Proof.Machine
end

section
/-! CLOSE_FAIL (Table 10.3): the event, then the string opens by a hard request and is disarmed, or FEED opens. -/
namespace Sys2Proof.Machine
set_option Elab.async false

/-- The failed closing is recorded. -/
def State.closeFailNoted (s : State) (k : Nat) : State :=
  (s.logN 0x0601 [k, b2n (s.coil k).aux, b2n (s.coil k).coil, (s.coil k).icoil]).raise pACT 0

theorem State.closeFailNoted_besideRecords (s : State) (k : Nat) : (s.closeFailNoted k).besideRecords = s.besideRecords :=
  State.log_besideRecords s _ _

theorem State.closeFailNoted_evtBit (s : State) (k : Nat) : (s.closeFailNoted k).evtBit pACT 0 = true := State.raise_evtBit _ _ (by decide)

theorem State.finding_of_string {s : State} {c : Nat} (hr : s.chRole c ≠ 3) (hf : s.join.sec ≠ .first) :
    s.finding c true = (s.hardReq (s.chStr c) .contactor).disarm (s.chStr c) 1 := (if_neg hr).trans (if_neg fun h => hf h.2.1)

/-- FEED with its OPEN commanded, at an instant noted. -/
def State.feedOpened (s : State) (c : Nat) : State := { s.openChans [c] with join := { s.join with feedOpenAt := some s.now } }

theorem State.openFeed_of_assigned {s : State} {c : Nat} (hf : s.feedCh = some c) (hc : s.closeCmd c = true) :
    s.openFeed = s.feedOpened c := by
  unfold State.openFeed
  rw [hf]
  exact if_pos hc

/-- Outside a join FEED alone opens. -/
theorem State.finding_of_feed {s : State} {c : Nat} (hf : s.feedCh = some c) (hc : s.closeCmd c = true)
    (hj : s.join.sec = .idle ∨ s.join.sec = .run) : s.finding c true = s.feedOpened c := by
  have hout : ¬ ((s.feedOpened c).join.sec = .feed ∨ (s.feedOpened c).join.sec = .forming ∨ (s.feedOpened c).join.sec = .first) := by
    change ¬ (s.join.sec = .feed ∨ s.join.sec = .forming ∨ s.join.sec = .first)
    rcases hj with h | h <;> rw [h] <;> decide
  unfold State.finding
  rw [if_pos (State.role_of_feedCh hf), State.openFeed_of_assigned hf hc]
  exact if_neg hout

theorem exec_closeFail (c : Chan) (s : State) : exec (.closeFail c) s = execCloseFail c s := rfl

section
variable {s : State} {c : Chan} (hc : (s.coil c.val).closeSeq.isSome = true) (ha : (s.coil c.val).aux = false)
include hc ha

/-- Outside FIRST the finding is all that follows. -/
theorem exec_closeFail_of_found (hr : s.chRole c.val ≠ 0) (hf : ((s.closeFailNoted c.val).finding c.val true).join.sec ≠ .first) :
    exec (.closeFail c) s = .next ((s.closeFailNoted c.val).finding c.val true) := by
  rw [exec_closeFail, execCloseFail]
  dsimp only
  rw [if_pos ⟨hc, ha, hr⟩, ← State.closeFailNoted, State.firstFail_of_other _ _ hf, ite_self]

theorem closeFail_opensString (hj : s.join.sec = .idle ∨ s.join.sec = .run) {x : Nat}
    (hx : s.negOf x = some c.val ∨ s.posOf x = some c.val) : ∃ t, exec (.closeFail c) s = .next t ∧ (t.page pACT).evt.getLsbD 0 = true ∧
      (t.str x).st = .opening ∧ t.armed x = false ∧ (∀ k ∈ s.chansOf x, (t.coil k).closeSeq = none) ∧
      (∀ k, k ∉ s.chansOf x → t.coil k = s.coil k) ∧ (∀ y, y ≠ x → t.str y = s.str y) ∧ t.mode = s.mode ∧ t.join = s.join := by
  have hmem : c.val ∈ s.chansOf x := State.mem_chansOf.mpr hx
  have hrole : s.chRole c.val = 1 ∨ s.chRole c.val = 2 := hx.imp (fun h => (State.role_of_negOf h).1) fun h => (State.role_of_posOf h).1
  have hfirst : s.join.sec ≠ .first := by rcases hj with h | h <;> rw [h] <;> decide
  have hnoted := State.closeFailNoted_besideRecords s c.val
  have hstring : (s.closeFailNoted c.val).chStr c.val = x :=
    (State.reads_eq hnoted (fun t => t.chStr c.val) fun _ => rfl).trans (State.chStr_of_mem_chansOf hmem)
  have hnotFeed : (s.closeFailNoted c.val).chRole c.val ≠ 3 := by
    rw [State.reads_eq hnoted (fun t => t.chRole c.val) fun _ => rfl]
    omega
  have hsec : (s.closeFailNoted c.val).join = s.join := State.reads_eq hnoted State.join fun _ => rfl
  have hfound := State.finding_of_string hnotFeed (by rw [hsec]; exact hfirst)
  rw [hstring] at hfound
  have hrequest := State.hardReq_besideOpening (s.closeFailNoted c.val) x .contactor
  have hraised := State.hardReq_raises (s.closeFailNoted c.val) x .contactor
  have hopen : (s.closeFailNoted c.val).isOpen x = false :=
    (State.reads_eq hnoted (fun t => t.isOpen x) fun _ => rfl).trans (State.isOpen_of_assigned hmem hc)
  have hopens : s.Opens ((s.closeFailNoted c.val).hardReq x .contactor) x (s.closeFailNoted c.val).now :=
    cast (State.reads_eq hnoted (fun u => u.Opens ((s.closeFailNoted c.val).hardReq x .contactor) x (s.closeFailNoted c.val).now) fun _ => rfl)
      (State.hardReq_opens .contactor hopen)
  generalize (s.closeFailNoted c.val).hardReq x .contactor = u at hfound hrequest hraised hopens
  obtain ⟨-, hst, -, hown, hother, hstr, hmode, -, -⟩ := hopens
  have hdisarm := State.disarm_besideDisarming u x 1
  have hjoin : (u.disarm x 1).join = s.join :=
    (State.reads_eq hdisarm State.join fun _ => rfl).trans ((State.reads_eq hrequest State.join fun _ => rfl).trans hsec)
  have hcoil : ∀ k, (u.disarm x 1).coil k = u.coil k := fun k => State.reads_eq hdisarm (fun t => t.coil k) fun _ => rfl
  have hexec := exec_closeFail_of_found hc ha (by omega) (by rw [hfound, hjoin]; exact hfirst)
  rw [hfound] at hexec
  refine ⟨_, hexec, (hraised.trans (State.disarm_raises u x 1)).evtBit (State.closeFailNoted_evtBit s c.val), ?_,
    State.disarm_armed_same u x 1, fun k hk => ?_, fun k hk => ?_, fun y hy => ?_,
    (State.reads_eq hdisarm State.mode fun _ => rfl).trans hmode, hjoin⟩
  · rw [State.disarm_str_same, StrSt.disarmed, hst]
    rfl
  · rw [hcoil, (hown k hk).1]
  · rw [hcoil, hother k hk]
  · rw [State.disarm_str_ne _ _ hy, (hstr y hy).1]

theorem closeFail_opensFeed (hj : s.join.sec = .idle ∨ s.join.sec = .run) (hf : s.feedCh = some c.val) :
    ∃ t, exec (.closeFail c) s = .next t ∧ (t.page pACT).evt.getLsbD 0 = true ∧ (t.coil c.val).closeSeq = none ∧ t.strs = s.strs ∧
      t.mode = s.mode ∧ t.join = { s.join with feedOpenAt := some s.now } := by
  have hnoted := State.closeFailNoted_besideRecords s c.val
  have hjoin : (s.closeFailNoted c.val).join = s.join := State.reads_eq hnoted State.join fun _ => rfl
  have hfound := State.finding_of_feed (s := s.closeFailNoted c.val) (c := c.val)
    ((State.reads_eq hnoted State.feedCh fun _ => rfl).trans hf) ((State.reads_eq hnoted (fun t => t.closeCmd c.val) fun _ => rfl).trans hc)
    (by rw [hjoin]; exact hj)
  have hfirst : ((s.closeFailNoted c.val).feedOpened c.val).join.sec ≠ .first := by
    change (s.closeFailNoted c.val).join.sec ≠ .first
    rw [hjoin]
    rcases hj with h | h <;> rw [h] <;> decide
  have hexec := exec_closeFail_of_found hc ha (by rw [State.role_of_feedCh hf]; decide) (by rw [hfound]; exact hfirst)
  rw [hfound] at hexec
  have hopened := State.openChans_besideContactors (s.closeFailNoted c.val) [c.val]
  have hraised := State.openChans_raises (s.closeFailNoted c.val) [c.val]
  refine ⟨_, hexec, hraised.evtBit (State.closeFailNoted_evtBit s c.val), ?_,
    (State.reads_eq hopened State.strs fun _ => rfl).trans (State.reads_eq hnoted State.strs fun _ => rfl),
    (State.reads_eq hopened State.mode fun _ => rfl).trans (State.reads_eq hnoted State.mode fun _ => rfl),
    State.reads_eq hnoted (fun t => { t.join with feedOpenAt := some t.now }) fun _ => rfl⟩
  have hcoil := State.openChans_coil (s.closeFailNoted c.val) [c.val] c.val
  rw [if_pos List.mem_cons_self] at hcoil
  exact (congrArg CoilSt.closeSeq hcoil :)

end

/-- Settles O24: a change of an auxiliary by the role of its channel, then a closing that failed, of a string and of FEED. -/
theorem auxiliariesAndCloseFailures : Obligations.AuxiliariesAndCloseFailures := by
  refine ⟨fun s c closed => ⟨exec_auxDebounced_of_unmapped closed, ?_, ?_, ?_, ?_, ?_⟩, fun s c hc ha hj =>
    ⟨fun x _ hx => closeFail_opensString hc ha hj hx, closeFail_opensFeed hc ha hj⟩⟩
  · rintro ha rfl
    exact auxDebounced_probes ha
  · rintro ha rfl
    exact auxDebounced_abandons ha
  · rintro ha rfl
    exact auxDebounced_closesString ha
  · rintro ha rfl
    exact auxDebounced_forms ha
  · rintro i ha rfl hr
    exact auxDebounced_suspends hr ha

end Sys2Proof.Machine
end
